-- ==== Sys2Proof/Word.lean ====
section
/-!
DEFINITION. The word of configuration space and the byte of frames and memories (R9, R494), with their plainest
arithmetic: little-endian byte lists and two's complement.
-/

namespace Sys2Proof

/-- A 32-bit word of configuration space (R494). -/
abbrev Word := BitVec 32

/-- A byte of a frame, a transfer or a memory. -/
abbrev Byte := BitVec 8

/-- `n` as a byte, modulo 256. -/
def byte (n : Nat) : Byte := BitVec.ofNat 8 n

/-- The `k` low bytes of `n`, little-endian (R9). -/
def leBytes : Nat → Nat → List Byte
  | 0, _ => []
  | k + 1, n => byte n :: leBytes k (n / 256)

/-- The number that a little-endian byte list spells (R9). -/
def leNat : List Byte → Nat
  | [] => 0
  | b :: bs => b.toNat + 256 * leNat bs

/-- The two's complement reading of the `w` low bits of `n`. -/
def signed (w n : Nat) : Int :=
  let m := n % 2 ^ w
  if 2 * m < 2 ^ w then (m : Int) else (m : Int) - (2 ^ w : Nat)

/-- The `w` low bits of an integer, in two's complement. -/
def unsigned (w : Nat) (i : Int) : Nat := (i % ((2 ^ w : Nat) : Int)).toNat

/-- Bit `i` of `n`. -/
def bit (n i : Nat) : Bool := (n / 2 ^ i) % 2 == 1

/-- 1 for true, 0 for false. -/
def b01 (b : Bool) : Nat := if b then 1 else 0

end Sys2Proof
end

