-- ==== Sys2Proof/Syntax.lean ====
section
/-!
DEFINITION. The commands of the SX6108: one constructor of `Instr` per row of spec/opcode_table.json, and the types of
their operands. A host command carries where it came from (`Meta`) and its parameters (R374 to R382). An event row carries
what the world outside the model supplies at that moment: edges, received bytes, measured values, outcomes.
-/

namespace Sys2Proof

/-- Where a host command came from: the command source (R360: 0 SPI, 1 TWB, 2 HEAD_UP, 3 HEAD_DN), whether it was
broadcast, its HSEQ, and the chain port it arrived on (0 down, 1 up), which is where its reply leaves (R330). -/
structure Meta where
  src   : Nat
  bcast : Bool
  hseq  : Nat
  port  : Nat
deriving DecidableEq, Repr

/-- The schedule prefix of R375: `SC_SPAN` (0 = immediate), the grain, and `SC_REQ_TQ`. -/
structure Target where
  span  : Nat
  grain : Nat
  reqTq : Bool
deriving DecidableEq, Repr

/-- A timestamp (R52): span, grain, time-qualified, first span after a jump, and `TSTATE`
(0 LOCKED, 1 ACQUIRING, 2 HOLDOVER, 3 FREE). -/
structure Stamp where
  span   : Nat
  grain  : Nat
  tq     : Bool
  jumped : Bool
  tstate : Nat
deriving DecidableEq, Repr

/-- What a converter reads over a stretch of grains, oldest first, as runs of equal readings (grains, reading): µV for a cell converter
(R74), units of 20 nV for the shunt (R148). A row that brings readings of a tier gives one wave for each converter: the local cells 0 to
17, the spares 18 and 19, and on tier 0 the shunt, 20. -/
abbrev Wave := List (Nat × Int)

/-- What the check of a modulator needs (R106): grains since its last transition, grains since a clamp of its cell last conducted, and the
readings of the tier up to now. -/
structure StuckConv where
  conv  : Nat
  ago   : Nat
  clampAgo : Nat
  waves : List Wave
deriving DecidableEq, Repr

/-- How a frame on the chain ended (R329, R336): 0 EOF, 1 EOFA, 2 a code violation inside it, 3 SOF inside it; and the frames that stand in the
management queue then (R334). -/
structure FrameEnd where
  how     : Nat
  waiting : Nat
deriving DecidableEq, Repr

/-- What a secondary conversion brings (R117): its samples in LSB (die sensors: 1/8 °C), and the readings of the tier up to its end. -/
structure SecRead where
  codes : List Int
  waves : List Wave
deriving DecidableEq, Repr

/-- What a loop interval brings (R255): the readings of the tier up to its end, and for each channel the currents it carried. -/
structure LoopRead where
  waves : List Wave
  chans : List (Int × Int × Int)
deriving DecidableEq, Repr

/-- What a periodic write of the history store brings: the days of AON time since the last HEALTH record (R481), and the sectors whose erase or
program fails its verify (R483). -/
structure TunWrite where
  days  : Nat
  fails : List Nat
deriving DecidableEq, Repr

/-- The phase errors at a span mark, in 1/16 grain: that of the source's edge (R42), and that of each tier's own mark (R50). -/
structure MarkPhase where
  base  : Int
  tiers : List Int
deriving DecidableEq, Repr

/-- What the tier's monitors give for a span: the three references as measured, in 10 µV (R137), and the cycles of the two oscillators in it
(R140), both before temperature compensation; in tier 0 whether the shunt modulator made regular transitions and the common mode stayed
within ±1.0 V (R154). -/
structure TierCheck where
  refA  : Int
  refB  : Int
  refC  : Int
  cyc0  : Nat
  cyc1  : Nat
  regular : Bool
  cmIn  : Bool
deriving DecidableEq, Repr

/-- A cubit that fails its logic test in a self-test (R475, R476): the failing rows that the march test finds, each as bank, row
and first failing bit, and whether the cubit passes its logic test after a repair. -/
structure CubitTest where
  cubit  : Nat
  rows   : List (Nat × Nat × Nat)
  retest : Bool
deriving DecidableEq, Repr

/-- The commands: the rows of spec/opcode_table.json. -/
inductive Instr where
  /-- PING (R376): Command that returns the present timestamp and echoes its parameter bytes. -/
  | ping (m : Meta) (echo : List Byte)
  /-- IDENT (R376): Command that returns the identity, firmware, life-cycle, mode, global status and positions of the module. -/
  | ident (m : Meta)
  /-- SEQSTATE (R364): Command that reports the sequence state and then sets its source's counter of its kind to its own HSEQ. -/
  | seqstate (m : Meta)
  /-- REPLAY (R371): Command that replies and then starts resending the held report frames of a DSEQ range to its source. -/
  | replay (m : Meta) (first count : Nat)
  /-- REPLAY_FRAME_SEND (R371): A replayed report frame is sent at REPORT priority once a queue place is free. -/
  | replayFrameSend (src : Nat)
  /-- CFG_READ (R377): Command that reads consecutive configuration words, from the shadow set if asked, under the read-snapshot rule in the result window. -/
  | cfgRead (m : Meta) (addr count : Nat) (shadow : Bool)
  /-- CFG_WRITE (R377): Command that writes words without staged fields at once, and serves every register that has no row of its own. -/
  | cfgWrite (m : Meta) (addr : Nat) (words : List Nat)
  /-- CFG_STAGE (R377): Command that writes staged words into the shadow set and may take ownership of it. -/
  | cfgStage (m : Meta) (addr : Nat) (words : List Nat)
  /-- CFG_COMMIT (R384): Command that checks the shadow set and schedules its commit at a span. -/
  | cfgCommit (m : Meta) (at_ : Target) (checkExp : Bool) (expected : Nat)
  /-- CFG_DISCARD (R383): CFG_COMMIT action DISCARD that returns the shadow set to the committed set and ends ownership. -/
  | cfgDiscard (m : Meta) (at_ : Target)
  /-- SNAP (R378): Command that schedules a capture of a named span's results into the snapshot blocks. -/
  | snap (m : Meta) (at_ : Target)
  /-- READ_CELLS (R379): Fast-path command that returns primary, legacy or sub-window cell words from the completed bank or the snapshot. -/
  | readCells (m : Meta) (rdSrc kind sub first count : Nat)
  /-- READ_CURRENT (R379): Fast-path command that returns the span current word, flags and accumulators. -/
  | readCurrent (m : Meta) (rdSrc : Nat)
  /-- READ_TEMPS (R379): Fast-path command that returns temperature words by index. -/
  | readTemps (m : Meta) (rdSrc first count : Nat)
  /-- READ_ANALYSIS (R379): Fast-path command that returns the latest output record of a built-in slot and cell. -/
  | readAnalysis (m : Meta) (slot cell : Nat)
  /-- LEASE (R426): Command that grants or renews a lease of one actuation class, setting its end span E. -/
  | lease (m : Meta) (cls duration : Nat)
  /-- LEASE_REVOKE (R426): LEASE with duration 0, which ends the lease of its class at acceptance. -/
  | leaseRevoke (m : Meta) (cls : Nat)
  /-- BAL_SET_RUN (R280): BAL_SET action RUN that stores a target and starts or retargets the named channels. -/
  | balSetRun (m : Meta) (mask target : Nat)
  /-- BAL_SET_STOP (R280): BAL_SET action STOP that ramps running channels down and returns faulted or tripped channels to IDLE. -/
  | balSetStop (m : Meta) (mask : Nat)
  /-- BAL_SET_RESUME (R273): BAL_SET action RESUME that returns tripped channels to RUN at their stored target. -/
  | balSetResume (m : Meta) (mask : Nat)
  /-- EXCITE_START (R215): EXCITE action START that checks and schedules an excitation sweep. -/
  | exciteStart (m : Meta) (at_ : Target) (cells klo khi amp reps : Nat)
  /-- EXCITE_STOP (R215): EXCITE action STOP that ends a running sweep with cause STOPPED. -/
  | exciteStop (m : Meta)
  /-- THERM_SET_SET (R310): THERM_SET action SET that starts the thermal output or changes its demand source. -/
  | thermSetSet (m : Meta) (src demand : Nat)
  /-- THERM_SET_STOP (R311): THERM_SET action STOP that ramps the thermal output to IDLE. -/
  | thermSetStop (m : Meta)
  /-- THERM_SET_RETRY (R307): THERM_SET action RETRY that leaves NO_ROTATION and opens a new spin-up window. -/
  | thermSetRetry (m : Meta)
  /-- EVT_READ (R382): Command that returns the latch, mask, counter and last span of a range of event sources. -/
  | evtRead (m : Meta) (first count : Nat)
  /-- EVT_ACK (R400): Command that clears latches of a range, closes their windows, clears tier latch entries and may release WAKE#. -/
  | evtAck (m : Meta) (first count : Nat)
  /-- EVT_MASK (R399): Command that sets the mask bits of a range of event sources. -/
  | evtMask (m : Meta) (first count : Nat) (mask : List Byte)
  /-- MODE (R421): Command that checks and schedules a mode change. -/
  | mode (m : Meta) (at_ : Target) (mode : Nat)
  /-- SHUTDOWN (R473): Command that is answered and then makes the base die stop, save, optionally self-test and wait. -/
  | shutdown (m : Meta) (selftest : Bool)
  /-- JOB_LOAD_BEGIN (R381): JOB_LOAD transfer BEGIN that opens a transfer of a job image to a host slot. -/
  | jobLoadBegin (m : Meta) (target length crc : Nat)
  /-- JOB_LOAD_DATA (R381): JOB_LOAD transfer DATA that appends bytes at the expected offset. -/
  | jobLoadData (m : Meta) (offset : Nat) (data : List Byte)
  /-- JOB_LOAD_END (R190): JOB_LOAD transfer END that checks the image and places it in its slot as LOADED. -/
  | jobLoadEnd (m : Meta)
  /-- JOB_LOAD_ABORT (R381): JOB_LOAD transfer ABORT that abandons the open transfer. -/
  | jobLoadAbort (m : Meta)
  /-- JOB_RESULT (R382): Command that returns the latest complete output buffer of a host job slot. -/
  | jobResult (m : Meta) (slot : Nat)
  /-- NV_READ (R484): Command that returns bytes of a history-store record by number or latest of a kind. -/
  | nvRead (m : Meta) (record offset length : Nat)
  /-- NV_APPEND_BEGIN (R484): NV_APPEND transfer BEGIN that opens a history-store append of a host kind. -/
  | nvAppendBegin (m : Meta) (target length crc : Nat)
  /-- NV_APPEND_DATA (R381): NV_APPEND transfer DATA that appends bytes at the expected offset. -/
  | nvAppendData (m : Meta) (offset : Nat) (data : List Byte)
  /-- NV_APPEND_END (R234): NV_APPEND transfer END that checks the record by kind and makes it valid. -/
  | nvAppendEnd (m : Meta)
  /-- NV_APPEND_ABORT (R381): NV_APPEND transfer ABORT that abandons the open append. -/
  | nvAppendAbort (m : Meta)
  /-- FW_STAGE_BEGIN (R471): FW_STAGE transfer BEGIN that invalidates and starts erasing the inactive bank. -/
  | fwStageBegin (m : Meta) (target length crc : Nat)
  /-- FW_STAGE_DATA (R471): FW_STAGE transfer DATA that writes bytes into the inactive bank, or BUSY if the sector is not yet erased. -/
  | fwStageData (m : Meta) (offset : Nat) (data : List Byte)
  /-- FW_STAGE_END (R471): FW_STAGE transfer END that checks the firmware image and makes the inactive bank VALID. -/
  | fwStageEnd (m : Meta)
  /-- FW_STAGE_ABORT (R381): FW_STAGE transfer ABORT that abandons the open transfer. -/
  | fwStageAbort (m : Meta)
  /-- FW_SWAP (R472): Command that checks the inactive bank and schedules a firmware swap. -/
  | fwSwap (m : Meta) (at_ : Target) (version : Nat)
  /-- LIFECYCLE (R488): Command that carries one confirmed step of a life-cycle transition. -/
  | lifecycle (m : Meta) (target step code : Nat)
  /-- TEST_LOGIC (R489): TEST function that runs the logic test on named cubits. -/
  | testLogic (m : Meta) (mask : Nat)
  /-- TEST_MARCH (R489): TEST function that runs the march test and repair on named cubits. -/
  | testMarch (m : Meta) (mask : Nat)
  /-- TEST_READMIT (R489): TEST function that retests an UNUSABLE cubit and readmits it on a pass. -/
  | testReadmit (m : Meta) (cubit : Nat)
  /-- TEST_CONV_CLEAR (R489): TEST function that arms clearing of converter fault bits at the next commit. -/
  | testConvClear (m : Meta) (tier mask : Nat)
  /-- TEST_RECAL (R489): TEST function that makes a tier run its self-calibration. -/
  | testRecal (m : Meta) (tier : Nat)
  /-- TEST_RESTART (R489): TEST function that restarts the base die with cause TEST after the reply. -/
  | testRestart (m : Meta)
  /-- TEST_SCAN (R489): TEST function that gives the test engine scan access and stops the fabric. -/
  | testScan (m : Meta) (enable : Nat)
  /-- SCHED_COMMIT_EXEC (R385): A scheduled commit executes at grain 0 of its span, applying the delivered words everywhere. -/
  | schedCommitExec
  /-- COMMIT_DELIVERY_DEADLINE (R385): At grain 3,840 of the span before a commit, a commit not acknowledged by every tier is cancelled with TIMEOUT. -/
  | commitDeliveryDeadline
  /-- SCHED_MODE_EXEC (R422): A scheduled mode change executes at grain 0 of its span. -/
  | schedModeExec
  /-- SCHED_EXCITE_EXEC (R216): A scheduled excitation start executes at its grain and begins the sweep. -/
  | schedExciteExec
  /-- SCHED_SNAP_EXEC (R378): A scheduled snapshot executes at grain 0 of its span and arms the capture. -/
  | schedSnapExec
  /-- SCHED_FW_SWAP_EXEC (R472): A scheduled firmware swap executes last at grain 0 and restarts the base die on the other bank. -/
  | schedFwSwapExec
  /-- PEND_TIMEOUT (R67): A pending time-qualified action lapses after PEND_TIMEOUT spans and is cancelled with TIMEOUT. -/
  | pendTimeout
  /-- PENDING_ACTION_RUN (R67): A pending action runs at the first span or permitted grain at which the module is time-qualified. -/
  | pendingActionRun
  /-- SEC_URGENT_WRITE (R127): Write of SEC_URGENT that queues a host urgent secondary request. -/
  | secUrgentWrite (m : Meta) (tier value : Nat)
  /-- DISC_HW_CLR_WRITE (R133): Write of DISC_HW_CLR that clears the discrepancy high-water fields of named cells. -/
  | discHwClrWrite (m : Meta) (tier value : Nat)
  /-- ENUM_GO (R351): Write of ENUM_GO that makes a head enumerate the chain. -/
  | enumGo (m : Meta)
  /-- CNT_CLR (R351): Write of CNT_CLR that clears every counter of both chain ports. -/
  | cntClr (m : Meta)
  /-- EVT_CLR (R401): Write of EVT_CLR that clears counters and CNT_SAT of a range of sources. -/
  | evtClr (m : Meta) (first count : Nat)
  /-- BCN_ACK (R403): Write of BCN_ACK that releases the beacon term of HFAULT#. -/
  | bcnAck (m : Meta)
  /-- TWC_GO (R451): Write of TWC_CTRL with TWC_GO that starts a two-wire pass-through transfer. -/
  | twcGo (m : Meta) (addr : Nat) (pec : Bool) (wlen rlen : Nat)
  /-- TB_NOW_CAPTURE (R68): Read of TB_NOW_LO that captures the full timestamp for its source. -/
  | tbNowCapture (m : Meta)
  /-- CHG_NET_CAPTURE (R176): Read of CHG_NET_LO that captures the three accumulators for its source. -/
  | chgNetCapture (m : Meta)
  /-- BLOCK_CLOSE_TIMEOUT (R512): An open result-window block closes 32 grains after opening. -/
  | blockCloseTimeout (src : Nat)
  /-- SPI_TRANSACTION (R353): One HCS# assertion that exchanges the status byte and a queued frame and may accept one command frame. -/
  | spiTransaction (mosi : List Byte)
  /-- HOST_FRAME_FORWARD (R356): A head moves a host frame from an input buffer to a chain port once that port's queue has room. -/
  | hostFrameForward
  /-- TWB_READ_STATUS (R446): Two-wire Read Byte 0x01 that returns the status byte of the two-wire host queue. -/
  | twbReadStatus
  /-- TWB_BLOCK_WRITE (R447): Two-wire Block Write 0x02 that delivers one command frame. -/
  | twbBlockWrite (count : Nat) (data : List Byte) (pec : Option Nat)
  /-- TWB_BLOCK_READ (R448): Two-wire Block Read 0x03 that delivers the oldest frame of the two-wire host queue. -/
  | twbBlockRead (complete : Bool)
  /-- ATTENTION_REQUEST (R452): The module pulls SDA low for 50 µs on an idle bus to call its host. -/
  | attentionRequest (sclFell : Bool)
  /-- TW_TRANSFER_START (R449): The two-wire controller starts its highest-ordered due transfer once the bus is idle. -/
  | twTransferStart
  /-- TW_TRANSFER_DONE (R449): A two-wire controller transfer ends with its outcome recorded for its owner. -/
  | twTransferDone (result count : Nat) (data : List Byte)
  /-- IDENTITY_READ (R450): At READY or an ID_CFG commit, the controller reads the pack identity memory into PACK_ID. -/
  | identityRead
  /-- IDENTITY_RETRY (R450): A failed identity read is retried 10 ms later, up to twice, then ID_FAIL is set. -/
  | identityRetry
  /-- TW_ARB_LOST (R454): The controller loses arbitration, releases the lines and keeps its transfer pending. -/
  | twArbLost
  /-- TW_ARB_ERROR (R455): Arbitration is lost during a STOP or repeated START, raising the arbitration error event. -/
  | twArbError (restart : Bool)
  /-- TW_SCL_TIMEOUT (R456): SCL stays low beyond SCL_TO; lines are released and the SCL timeout event is raised. -/
  | twSclTimeout (asTarget : Bool) (lowMs : Nat) (partial_ : Bool)
  /-- TW_SCL_RELEASED (R456): SCL has been high for 1 ms after a timeout, and the event is raised with the end bit. -/
  | twSclReleased (asTarget : Bool) (lowMs : Nat)
  /-- TW_SDA_TIMEOUT (R457): SDA stays low beyond SDA_TO; lines are released, the event raised and recovery clocks given. -/
  | twSdaTimeout (asTarget : Bool) (lowMs clocks : Nat) (released : Bool)
  /-- TW_SDA_RECOVERY_RETRY (R457): With SDA still stuck, recovery is tried again every 1 s. -/
  | twSdaRecoveryRetry (clocks : Nat) (released : Bool)
  /-- VCORE_ADAPT_TICK (R435): Every 16 ms the base die reads path slack and adjusts the VCORE set-point. -/
  | vcoreAdaptTick (slack : Nat)
  /-- VR_STATUS_POLL (R435): Every 1 s the base die reads STATUS_WORD of the regulator and clears faults found. -/
  | vrStatusPoll (acked : Bool) (status : Nat)
  /-- VR_WRITE_CONFIRM (R436): A set-point write is confirmed or failed by READ_VOUT and the housekeeping measurement within 2 ms. -/
  | vrWriteConfirm (acked : Bool) (readMv hkMv : Nat)
  /-- VR_RETRY_TICK (R436): After regulator control has failed, the base die retries every 1 s. -/
  | vrRetryTick
  /-- VCORE_RANGE_ALARM (R436): VCORE measured outside 0.70–1.02 V for 100 µs raises RANGE. -/
  | vcoreRangeAlarm (mv : Nat)
  /-- CHAIN_FRAME_RECEIVED (R329): A frame arrives on a chain port and is discarded, consumed, copied or forwarded. -/
  | chainFrameReceived (port : Nat) (data : List Byte) (fin : FrameEnd)
  /-- CHAIN_FRAME_TRANSMIT (R332): A local frame starts on a port when it is free, no forwarded frame waits and a credit is held. -/
  | chainFrameTransmit (port : Nat)
  /-- CREDIT_RECEIVED (R334): A CREDIT set arrives and updates the sender's credit count. -/
  | creditReceived (port data : Nat)
  /-- CREDIT_RELEASE (R334): A receive buffer is released once its frame has left, and a CREDIT set is sent. -/
  | creditRelease (port : Nat)
  /-- CREDIT_REFRESH (R334): A CREDIT set is sent at least once per refresh interval. -/
  | creditRefresh (port : Nat)
  /-- CREDIT_TIMEOUT (R335): A port without credit for CREDIT_TO while a frame waits raises the credit timeout event. -/
  | creditTimeout (port : Nat)
  /-- CREDIT_RETRAIN (R335): A port without credit for four times CREDIT_TO retrains its link. -/
  | creditRetrain (port : Nat)
  /-- TRAIN_SET_RECEIVED (R318): A TRAIN set arrives and advances link training or shows a miswiring. -/
  | trainSetReceived (port data : Nat) (fallback : Bool) (count : Nat)
  /-- LINK_TRAIN_TIMEOUT (R318): The down port tries the other rate after 2 ms without 64 valid TRAIN sets. -/
  | linkTrainTimeout
  /-- MISWIRED_RETRY (R318): A MISWIRED port tries training again every 1 s. -/
  | miswiredRetry (port : Nat)
  /-- RATE_FALLBACK (R319): A link with ERR_FALLBACK frame errors in one second retrains at fallback rate. -/
  | rateFallback (port errs : Nat)
  /-- RATE_RETRY_EXPIRY (R319): After the back-off at fallback rate, the down port retrains at full rate. -/
  | rateRetryExpiry
  /-- PORT_CAL_START (R320): A port's transmit PLL calibration starts after a CAL set. -/
  | portCalStart (port : Nat)
  /-- PORT_CAL_DONE (R320): A calibration ends and held frames and ordered sets are sent. -/
  | portCalDone (port : Nat)
  /-- CAL_HOLD_EXPIRY (R320): The far receiver's 250 µs hold without symbol lock expires and the link goes DOWN. -/
  | calHoldExpiry (port : Nat)
  /-- SYMBOL_LOCK_LOSS (R336): Loss of symbol lock beyond 1 µs takes the link DOWN for training. -/
  | symbolLockLoss (port : Nat)
  /-- CODE_ERROR_BURST (R336): More than 64 code errors within 1 ms take the link DOWN. -/
  | codeErrorBurst (port errs : Nat)
  /-- BEACON_RECEIVED (R343): A BEACON set arrives and is forwarded, or recorded at a head. -/
  | beaconReceived (port data : Nat) (codeError : Bool)
  /-- BEACON_SET_SEND (R343): One of the four BEACON sets of an order is sent, 2 µs after the previous. -/
  | beaconSetSend
  /-- MARK_RECEIVED (R56): A span-mark ordered set arrives and a follower times its own mark from it. -/
  | markReceived (port data : Nat) (phase : Int)
  /-- PROBE_SEND (R57): The time master probes one follower position per span. -/
  | probeSend (port : Nat)
  /-- PROBE_RECEIVED (R57): A PROBE arrives and is forwarded or answered by the addressed module. -/
  | probeReceived (port data : Nat)
  /-- ECHO_SEND (R57): The addressed module sends ECHO 800 ns after the probe. -/
  | echoSend
  /-- ECHO_RECEIVED (R57): The master takes a delay sample from an ECHO and sends DELAY_SET after 16 probes. -/
  | echoReceived (port data roundNs : Nat)
  /-- ENUM_START (R338): A head increments ENUM_GEN and sends ENUM out of each UP port. -/
  | enumStart
  /-- ENUM_RECEIVED (R338): A module takes its position from ENUM and forwards it or answers ENUM_END. -/
  | enumReceived (port : Nat) (data : List Byte)
  /-- ENUM_END_RECEIVED (R338): A head records a port's end and broadcasts TOPO when all ends are in. -/
  | enumEndReceived (port : Nat) (data : List Byte)
  /-- ENUM_TIMEOUT (R338): Five ms after ENUM the head broadcasts TOPO and raises ENUM_TIMEOUT. -/
  | enumTimeout
  /-- TOPO_RECEIVED (R340): A module takes topology and break information from TOPO and routes by it. -/
  | topoReceived (data : List Byte)
  /-- BREAK_RECEIVED (R340): A head records a break, raises the ring break event and broadcasts TOPO. -/
  | breakReceived (data : List Byte)
  /-- LINK_UP_RECEIVED (R341): A head clears a break on matching LINK_UP frames or enumerates again. -/
  | linkUpReceived (data : List Byte)
  /-- DELAY_SET_RECEIVED (R57): A follower loads MASTER_DELAY and sets DELAY_VALID. -/
  | delaySetReceived (data : List Byte)
  /-- SPAN_REPORT_RECEIVED (R62): The master schedules a forward jump to the reported count plus 8. -/
  | spanReportReceived (data : List Byte)
  /-- TIME_FRAME_SEND (R56): The time master sends a time frame each span and after each frequency step. -/
  | timeFrameSend
  /-- TIME_FRAME_RECEIVED (R62): A follower takes span length and steps from a time frame and compares TF_SPAN. -/
  | timeFrameReceived (port : Nat) (data : List Byte)
  /-- CURRENT_BROADCAST_SEND (R171): A SOURCE sends a sub-window or summary current frame once its words are complete. -/
  | currentBroadcastSend
  /-- CURRENT_BROADCAST_RECEIVED (R172): A SINK pairs received current words with its cell results when the conditions hold. -/
  | currentBroadcastReceived (origin : Nat) (data : List Byte)
  /-- BCAST_LOST (R173): A SINK without a summary for CB_LOST spans raises BCAST_LOST. -/
  | bcastLost
  /-- SPAN_IN_EDGE (R37): An accepted SPAN_IN edge advances the prescaler and may complete a prescaled period. -/
  | spanInEdge (rising : Bool) (t : Nat) (phase : Int)
  /-- FREQUENCY_STEP (R42): At the chosen grain, the span rate steps to the measured rate in every tier and follower. -/
  | frequencyStep
  /-- SPAN_MARK (R43): A span ends, the span number increments and the mark goes to every tier with period and state. -/
  | spanMark (phase : MarkPhase) (vcore vio aux : Nat) (temps : List Int)
  /-- EDGE_MISSING_TIMEOUT (R44): No source edge within 256 grains of prediction declares loss; HOLDOVER begins at the next mark. -/
  | edgeMissingTimeout
  /-- HOLDOVER_LIMIT (R45): HOLDOVER_COUNT reaches HOLDOVER_SPANS and the time base falls back to FREE. -/
  | holdoverLimit
  /-- SPAN_JUMP (R48): The span number jumps forward, cancelling skipped actions and raising SPAN_JUMP. -/
  | spanJump
  /-- TIER_MARK_TIMEOUT (R54): A tier without a mark 256 grains after prediction enters HOLDOVER or FREE. -/
  | tierMarkTimeout (k : Nat)
  /-- SUBWINDOW_END (R75): A tier sub-window completes and its results and block go upstream. -/
  | subwindowEnd (k i : Nat) (cells : List Wave) (cur : Wave)
  /-- TIER_SPAN_END (R26): A tier completes a span result and writes its span record. -/
  | tierSpanEnd (k : Nat) (cells spares : List Wave) (cur : Wave) (chk : TierCheck)
  /-- NOTCH_FILLED (R83): The notch line holds N_n grains again and the notch resumes. -/
  | notchFilled (k : Nat)
  /-- TAP_TEST_START (R100): At grain 2,048 of a test span the tier sinks 200 µA across the next cell. -/
  | tapTestStart (k : Nat)
  /-- TAP_TEST_END (R101): After 1 ms the tier measures the shift and may find a tap open. -/
  | tapTestEnd (k : Nat) (waves : List Wave)
  /-- AUDIT_DWELL_END (R104): A spare's audit dwell ends and the mean difference is judged. -/
  | auditDwellEnd (k : Nat)
  /-- CROSSBAR_MOVE (R103): In grains 4,080–4,095 a spare is connected to, moved between or released from cells. -/
  | crossbarMove (k : Nat)
  /-- MODULATOR_STUCK (R106): A modulator with no transition for 4,096 clocks is declared faulty. -/
  | modulatorStuck (k : Nat) (st : StuckConv)
  /-- SEQ_ENTRY_START (R120): After its delay, a sequence entry switches, settles and begins sampling. -/
  | seqEntryStart (k : Nat)
  /-- SEQ_ENTRY_DONE (R121): A secondary result completes, goes upstream and is compared with the primary path. -/
  | seqEntryDone (k : Nat) (r : SecRead)
  /-- URGENT_REQUEST_START (R126): The sequencer pre-empts its entry to serve queued urgent requests. -/
  | urgentRequestStart (k : Nat)
  /-- OSC_STOP (R140): The active oscillator shows no edge for 250 ns and the tier switches to the spare. -/
  | oscStop (k : Nat)
  /-- SHUNT_STUCK (R154): The shunt modulator is stuck and the shunt fault is set. -/
  | shuntStuck
  /-- SHUNT_CM_FAULT (R154): Shunt common mode beyond ±1.2 V for 64 grains sets the shunt fault. -/
  | shuntCmFault
  /-- SHUNT_FAULT_CLEAR (R154): After 64 good spans the shunt fault clears. -/
  | shuntFaultClear
  /-- DRAW_MATCH (R112): Every 64 spans the base die sets the tier ballasts to equalise draw. -/
  | drawMatch (ua : List Nat)
  /-- TIER_LANE_FAIL (R16): A failing active tier-link lane gives way to the spare within 2 µs. -/
  | tierLaneFail (k lane : Nat)
  /-- TIER_LINK_DOWN (R414): Both lanes of a tier link fail and the tier link event is raised. -/
  | tierLinkDown (k : Nat)
  /-- TIER_LINK_UP (R30): A tier link comes up and the tier starts draining its buffer. -/
  | tierLinkUp (k lanes : Nat)
  /-- TIER_DRAIN_DONE (R30): A tier finishes its drain and reports LOST_SPANS. -/
  | tierDrainDone (k : Nat)
  /-- TIER_RESULT_RECEIVED (R18): Tier results arrive at the base die and are filed into the filling bank. -/
  | tierResultReceived (k : Nat)
  /-- SETPOINT_RECEIVED (R256): A tier receives a set-point word for each channel. -/
  | setpointReceived (k : Nat)
  /-- SETPOINT_APPLY (R255): At grain 256j + 32 the tier applies the new channel commands. -/
  | setpointApply (k : Nat)
  /-- SETPOINT_REFRESH_TIMEOUT (R22): Two missed set-points make a tier ramp its drivers to zero. -/
  | setpointRefreshTimeout (k : Nat)
  /-- TIER_WAKE (R35): A tier raises its wake channel and the always-on domain asserts WAKE#. -/
  | tierWake (k : Nat)
  /-- TIER_SELF_CAL (R466): At tier power-up the tier loads its calibration and starts its self-calibration. -/
  | tierSelfCal (k : Nat) (osc0ok : Bool)
  /-- TIER_SELF_CAL_DONE (R466): A tier ends self-calibration and begins writing span records. -/
  | tierSelfCalDone (k : Nat)
  /-- TIER_SUPPLY_LOSS (R25): A tier's supply falls below its minimum and the tier stops. -/
  | tierSupplyLoss (k : Nat)
  /-- STORE_RECORD (R111): On a STORE interval signal, each tier integrates one internal span and writes a record. -/
  | storeRecord (k : Nat) (cells : List Wave) (cur : Wave) (chk : TierCheck)
  /-- SPAN_HISTORY_WRITE (R187): The base die writes the span-history record after filing the span. -/
  | spanHistoryWrite
  /-- JOB_RELEASE (R191): A running job is released at grain 0 of a multiple of its period. -/
  | jobRelease (slot : Nat)
  /-- INSTANCE_COMPLETE (R205): A job instance finishes and its output is filed into the filling bank. -/
  | instanceComplete (slot flags : Nat)
  /-- INSTANCE_ABORT (R192): An instance still running two periods after release is aborted. -/
  | instanceAbort (slot : Nat)
  /-- PLAN_TAKE_EFFECT (R198): The new plan takes effect once the old instances have ended. -/
  | planTakeEffect
  /-- CUBIT_FAULT (R201): A cubit faults at run time and is replaced by a spare. -/
  | cubitFault (cubit cause bank row slot : Nat)
  /-- SCRUB_LINE (R200): A cubit scrubs one line per bank and corrects single-bit errors. -/
  | scrubLine (cubit corrected : Nat)
  /-- CONFLICT_WINDOW_END (R185): A cubit's conflict window ends and the share is shown and judged. -/
  | conflictWindowEnd (cubit stalls busy : Nat)
  /-- CHECKPOINT_TUN_WRITE (R202): Every 2^20 spans the checkpoint area is written to Tun. -/
  | checkpointTunWrite (w : TunWrite)
  /-- SPAN_COUNT_TUN_WRITE (R49): Every 2^20 spans the span number is written to Tun. -/
  | spanCountTunWrite
  /-- ACC_TUN_WRITE (R167): Every 2^16 spans the accumulators are written to Tun. -/
  | accTunWrite
  /-- EXC_PERIOD_START (R216): An excitation period, band or cell change begins at grain 0 of a span. -/
  | excPeriodStart (k : Nat)
  /-- EXC_PERIOD_RECORD (R220): The tier sends the tone sums of a finished excitation period. -/
  | excPeriodRecord (k : Nat) (volt cur : Wave)
  /-- EXC_RESUME (R222): A renewal lifts E − s above the guard and paused channels resume. -/
  | excResume
  /-- EXC_LEASE_END (R222): The lease ends while paused and the sweep ends with LEASE_END. -/
  | excLeaseEnd
  /-- LOOP_INTERVAL_END (R255): A tier sends its loop record at the end of a loop interval. -/
  | loopIntervalEnd (k : Nat) (r : LoopRead)
  /-- LOOP_SAMPLE (R262): At each 256-grain boundary the loop engine computes every channel's command. -/
  | loopSample
  /-- LOOP_TEMP_LOST (R261): A TEMP source without a valid value for 64 spans drives TEMP to 0. -/
  | loopTempLost (ch : Nat)
  /-- PWM_PERIOD_START (R252): A PASSIVE PWM period begins and its pulse starts. -/
  | pwmPeriodStart (k : Nat) (ioff : List Int)
  /-- PULSE_END (R252): A PASSIVE pulse ends at its computed grain and the carry is updated. -/
  | pulseEnd (ch : Nat) (meas : Int)
  /-- UNDIAGNOSED (R275): A channel 64 spans without a diagnosed pulse reports UNDIAGNOSED. -/
  | undiagnosed (ch : Nat)
  /-- PEAK_CURRENT_TRIP (R253): Sensed inductor current beyond I_TRIP ends the active switch phase at once. -/
  | peakCurrentTrip (ch : Nat) (meas : Int)
  /-- STOP_RAMP_DONE (R276): A stop ramp reaches zero and the channel enters its state after. -/
  | stopRampDone (ch : Nat)
  /-- THERMAL_SAMPLE (R305): At grains 0, 1,024, 2,048 and 3,072 the thermal loop computes THO duty. -/
  | thermalSample (auxUv : Nat)
  /-- TACH_EDGE (R304): An accepted TACH edge is counted for speed. -/
  | tachEdge (t : Nat)
  /-- THD_IN_EDGE (R305): A THD_IN edge refreshes the demand duty. -/
  | thdInEdge (rising : Bool) (t : Nat)
  /-- DEMAND_LOST (R305): An external demand is lost and held for TD_HOLD samples. -/
  | demandLost
  /-- DEMAND_HOLD_EXPIRY (R305): A lost demand beyond TD_HOLD stops the thermal output. -/
  | demandHoldExpiry
  /-- SPIN_WINDOW_END (R307): A spin-up window ends without two edges and NO_ROTATION is declared. -/
  | spinWindowEnd
  /-- TACH_TIMEOUT (R308): No tach edge for TACH_TO declares TACH_LOST. -/
  | tachTimeout
  /-- THERMAL_TEMP_LOST (R309): TO_T_SRC without a valid value for 64 spans holds the speed demand. -/
  | thermalTempLost
  /-- THERMAL_RAMP_DONE (R311): The thermal stop ramp reaches zero and the output is IDLE. -/
  | thermalRampDone
  /-- STRING_CYCLE_START (R297): A string port starts a cycle with the strong pull-up conversion phase. -/
  | stringCycleStart (k j : Nat)
  /-- CONVERSION_PHASE_END (R297): The conversion phase ends and the data phase begins. -/
  | conversionPhaseEnd (k j : Nat)
  /-- SATELLITE_FRAME (R301): A satellite frame ends and is accepted or discarded. -/
  | satelliteFrame (k j gap : Nat) (pulses : List (Nat × Nat))
  /-- DATA_PHASE_SILENCE (R297): A data phase ends after 4 ms without a pulse or at the period end. -/
  | dataPhaseSilence (k j : Nat)
  /-- STRING_SHORT (R302): Line current at its limit removes the supply for 1 s. -/
  | stringShort (k j : Nat)
  /-- SHORT_BACKOFF_END (R302): After 1 s the port restarts the string from enumeration. -/
  | shortBackoffEnd (k j : Nat)
  /-- COUNT_LOW_CHECK (R302): Two STR_COUNT + 2 periods after enable, too few positions raise COUNT_LOW. -/
  | countLowCheck (k j : Nat)
  /-- EVENT_RAISE (R397): The base die processes a raise: count, latch, handling and record. -/
  | eventRaise (src value span grain : Nat) (late summary : Bool)
  /-- EVENT_WINDOW_EXPIRY (R407): A handling window closes HWIN spans after it opened. -/
  | eventWindowExpiry
  /-- LATCH_AUTO_CLEAR (R398): A non-latching source without end raises clears its latch at the next span. -/
  | latchAutoClear
  /-- EVENT_RECORD_ISSUE (R416): A queued event record takes its DSEQ once every destination has room. -/
  | eventRecordIssue
  /-- RAIL_LOSS (R438): A rail leaves its range and the base die is held in reset. -/
  | railLoss (vcoreLow vioLow : Bool)
  /-- HANDOVER_COMPLETE (R438): One ms after detection the hand-over state is written to the retention store. -/
  | handoverComplete
  /-- RAIL_DEBOUNCE_END (R439): The rails stay good for 10 ms and the start sequence begins. -/
  | railDebounceEnd
  /-- RESET_PIN (R462): RESET# held low for at least 10 µs and released starts the base die. -/
  | resetPin
  /-- STORE_WRITES_DONE (R423): STORE entry writes finish and the tiers are sent their STORE entry. -/
  | storeWritesDone (days : Nat)
  /-- STORE_INTERVAL (R424): The STORE interval expires and all tiers are signalled to take a record. -/
  | storeInterval (charges : List Nat)
  /-- STORE_BLEED_DECISION (R432): Every 1 ms in STORE each tier decides whether its bleed is on. -/
  | storeBleedDecision (ms : Nat) (charges : List Nat)
  /-- STORE_EXIT (R424): Rails return, RESET# or a wake ends STORE and powers the base die. -/
  | storeExit (why : Nat)
  /-- LEASE_EXPIRY (R428): At grain 0 of E a lease ends and its actuation stops. -/
  | leaseExpiry (cls : Nat)
  /-- LEASE_WARN (R429): E − s reaches LEASE_WARN and WARN is raised. -/
  | leaseWarn (cls : Nat)
  /-- START_SEQUENCE (R463): The base die boots, zeroes memory, trains links and restores state. -/
  | startSequence (addr badBanks : Nat) (badRecs : List Nat)
  /-- TIER_CAL_WAIT_TIMEOUT (R463): After 100 ms the start sequence stops waiting for calibrating tiers. -/
  | tierCalWaitTimeout
  /-- READY (R464): The base die becomes READY and issues RESTART, pending events and drains. -/
  | ready (absence : Nat)
  /-- TRIAL_TIMEOUT (R468): A trial bank without READY in 1 s restarts on the previous bank. -/
  | trialTimeout
  /-- WATCHDOG_RESET (R462): Firmware misses its watchdog for 100 ms and the base die restarts. -/
  | watchdogReset
  /-- LOCKSTEP_MISMATCH (R415): A core mismatch restarts the base die with cause LOCKSTEP. -/
  | lockstepMismatch
  /-- MEMORY_ERROR (R415): An uncorrectable memory error restarts or raises source 510. -/
  | memoryError (memory addr : Nat)
  /-- SHUTDOWN_EXEC (R473): At the next span the base die stops, saves and starts self-test. -/
  | shutdownExec (days : Nat)
  /-- SELFTEST_DONE (R477): The self-test ends, its records are appended and the wait begins. -/
  | selftestDone (tSpan tGrain : Nat) (fails : List CubitTest)
  /-- SHUTDOWN_WAIT_END (R474): Rails, RESET# or SD_HOLD end the shutdown wait. -/
  | shutdownWaitEnd (why : Nat)
  /-- STAGE_OWNER_TIMEOUT (R383): STAGE_TO spans without a CFG_STAGE discard the shadow set. -/
  | stageOwnerTimeout
  /-- TRANSFER_TIMEOUT (R381): A transfer with no DATA for STAGE_TO spans is abandoned. -/
  | transferTimeout
  /-- LIFECYCLE_STEP_TIMEOUT (R488): A missing step within 256 spans abandons the life-cycle sequence. -/
  | lifecycleStepTimeout
  /-- CV_PASS_START (R389): A check-value pass starts at a multiple of CV_PERIOD. -/
  | cvPassStart (u : Nat)
  /-- CV_PASS_DONE (R389): A check-value pass completes and its result is compared. -/
  | cvPassDone (u : Nat)
  /-- BANK_SWAP (R505): The result banks swap, possibly deferred, and the carried blocks are copied. -/
  | bankSwap (given : Nat)
  /-- SPAN_MARK_SET_SEND (R56): The time master sends the span-mark ordered set out of both ports MARK_LEAD before its own span mark. -/
  | spanMarkSetSend
  /-- RAILS_GOOD (R439): Both low-voltage rails return within their good ranges, starting or restarting the 10 ms debounce, or setting REPLUG during a hand-over. -/
  | railsGood
  /-- TEST_DONE (R489): A TEST function that runs longer than its 1 ms reply ends and reports its end through the self-test event with cause TEST_DONE. -/
  | testDone (fails : List CubitTest)
  /-- FW_BANK_ERASE_DONE (R471): The background erase of a sector of the inactive firmware bank completes, so DATA reaching it is no longer answered BUSY. -/
  | fwBankEraseDone
  /-- TW_SDA_RELEASED (R457): SDA returns high after an SDA timeout, ending the stuck condition and re-arming the SDA timeout event. -/
  | twSdaReleased (asTarget : Bool) (lowMs : Nat)
  /-- RATE_BACKOFF_RESET (R319): One second at full rate with fewer than ERR_FALLBACK frame errors resets the fallback back-off b to 0. -/
  | rateBackoffReset
deriving DecidableEq, Repr

end Sys2Proof
end

