-- ==== Sys2Proof/Decode.lean ====
section
/-!
DEFINITION. The commands that a word of spec/opcode_table.json spells. No row of the table has bits: a command reaches the block as the
frame of a port (R357, R374), as a word of configuration space, or as an event of the world outside.
-/

namespace Sys2Proof

/-- The command that a word spells by the table's bits: none, since no row gives any. DESIGN CHOICE (log entry 87). -/
def decodeTableWord (_nbits _w : Nat) : Option Instr := none

end Sys2Proof
end

