-- ==== Sys2Proof/Config.lean ====
section
/-!
DEFINITION. The values that the spec leaves open (log entry 1): constants without a body, so that nothing can be proved of
the value they take. `freeValue` gives a fresh value for each value of the model's counter `State.free`; the other constants
are functions of what the open value depends on.
-/

namespace Sys2Proof.Config

/-- A fresh word that the spec does not state, drawn with the counter of the state. -/
opaque freeValue : Nat → BitVec 32

/-- Whether an inexact quotient is rounded up: open (log entry 2). -/
opaque roundUp : Int → Nat → Bool

/-- The quotient of a conversion whose spec gives real arithmetic and no rounding (log entry 2): exact where the division is;
otherwise the integer below or the one above, which of them is open. -/
def roundQ (a : Int) (b : Nat) : Int :=
  if a % (b : Int) = 0 then a / (b : Int) else a / (b : Int) + (if roundUp a b then 1 else 0)

/-- A real-valued function that the spec names and does not spell out to the bit: which function, and its arguments. -/
opaque realFn : Nat → List Int → Int

/-- The place in the table of instruction classes of the operation that an operation code names (R180, R181): the codes are not stated. -/
opaque cubitOpcode : Nat → Nat

/-- The built-in image of a slot from its byte 8 on (R189, R190): it comes with the firmware, and is not stated. DESIGN CHOICE (log entry 47). -/
opaque builtinImage : Nat → List (BitVec 8)

/-- The factory correction ε of a part at a calibration point, in parts per 10⁹ (R291, R292): die (tiers 0 to 5, 6 = base die), part (0 to 2:
references A, B, C; 3, 4: oscillators 0, 1; the base oscillator is part 3) and point (0: −40 °C, 1: +25 °C, 2: +105 °C). -/
opaque calPoint : Nat → Nat → Nat → Int

end Sys2Proof.Config
end

