-- ==== Sys2Proof/Machine/Bits.lean ====
section
/-!
DEFINITION. Bit fields of words, saturating and sticky arithmetic (R10), rounding, and the check-value polynomials of
R387: CRC-8, CRC-16, CRC-32 and CRC-32C.
-/

namespace Sys2Proof.Machine

/-- The `w` bits of `x` from bit `lo` up. -/
def bitsOf (x lo w : Nat) : Nat := (x / 2 ^ lo) % 2 ^ w

/-- `x` with its `w` bits from `lo` up replaced by the low bits of `v`. -/
def putBits (x lo w v : Nat) : Nat :=
  x % 2 ^ lo + (v % 2 ^ w) * 2 ^ lo + x / 2 ^ (lo + w) * 2 ^ (lo + w)

/-- `n + k`, held at the limit of a `w`-bit counter (a saturating counter, R10). -/
def satAdd (w n k : Nat) : Nat := min (n + k) (2 ^ w - 1)

/-- `i` held within `lo` and `hi`. -/
def clampI (lo hi i : Int) : Int := if i < lo then lo else if i > hi then hi else i

/-- The quotient rounded to the nearest integer, halves away from zero. -/
def divRound (a : Int) (b : Int) : Int :=
  if b = 0 then 0
  else
    let q := (2 * a.natAbs + b.natAbs) / (2 * b.natAbs)
    if decide (a < 0) == decide (b < 0) then (q : Int) else -(q : Int)

/-- The quotient rounded up. -/
def ceilDiv (a b : Nat) : Nat := if b = 0 then 0 else (a + b - 1) / b

/-- The integer square root, by `fuel` steps of bisection over bits. -/
def isqrtFrom : Nat → Nat → Nat → Nat
  | 0, _, r => r
  | fuel + 1, n, r =>
    let c := r + 2 ^ fuel
    isqrtFrom fuel n (if c * c ≤ n then c else r)

/-- The integer square root of a number below 2^128. -/
def isqrt (n : Nat) : Nat := isqrtFrom 64 n 0

/-- The low `w` bits of `n` in reverse order. -/
def revBits : Nat → Nat → Nat
  | 0, _ => 0
  | w + 1, n => (n % 2) * 2 ^ w + revBits w (n / 2)

/-- `k` shift steps of a CRC register of width `w`, most significant bit first. -/
def crcShift (w poly : Nat) : Nat → Nat → Nat
  | 0, r => r
  | k + 1, r =>
    let r2 := (2 * r) % 2 ^ w
    crcShift w poly k (if bit r (w - 1) then r2 ^^^ poly else r2)

/-- A CRC register of width `w` run over bytes, unreflected. -/
def crcMsb (w poly : Nat) : Nat → List Byte → Nat
  | r, [] => r
  | r, b :: bs => crcMsb w poly (crcShift w poly 8 (r ^^^ (b.toNat * 2 ^ (w - 8)))) bs

/-- `k` shift steps of a reflected CRC register, least significant bit first; `poly` is the reversed polynomial. -/
def crcShiftR (poly : Nat) : Nat → Nat → Nat
  | 0, r => r
  | k + 1, r => crcShiftR poly k (if r % 2 = 1 then (r / 2) ^^^ poly else r / 2)

/-- A reflected CRC register run over bytes. -/
def crcLsb (poly : Nat) : Nat → List Byte → Nat
  | r, [] => r
  | r, b :: bs => crcLsb poly (crcShiftR poly 8 (r ^^^ b.toNat)) bs

/-- CRC-8 of R387: polynomial 0x1D, initial 0xFF. -/
def crc8 (bs : List Byte) : Nat := crcMsb 8 0x1D 0xFF bs

/-- CRC-16/CCITT of R387: polynomial 0x1021, initial 0xFFFF. -/
def crc16 (bs : List Byte) : Nat := crcMsb 16 0x1021 0xFFFF bs

/-- CRC-32 of R387: polynomial 0x04C1_1DB7, reflected, final XOR of all ones. -/
def crc32 (bs : List Byte) : Nat := crcLsb 0xEDB88320 0xFFFFFFFF bs ^^^ 0xFFFFFFFF

/-- CRC-32C of R387: polynomial 0x1EDC_6F41, reflected, final XOR of all ones. -/
def crc32c (bs : List Byte) : Nat := crcLsb 0x82F63B78 0xFFFFFFFF bs ^^^ 0xFFFFFFFF

/-- The check value by the polynomial that `CV_POLY` selects (R387). -/
def crcBy (poly : Nat) (bs : List Byte) : Nat :=
  match poly with
  | 0 => crc8 bs
  | 1 => crc16 bs
  | 2 => crc32 bs
  | _ => crc32c bs

end Sys2Proof.Machine
end

