-- ==== Sys2Proof/Machine/Reals.lean ====
section
/-!
DEFINITION. The real functions that the spec names (sine and cosine, exponential, logarithm, powers of ten, angles) as series over integers
in units of 2⁻⁶⁴, to the nearest 2⁻⁵² of the value or of 1. How a result is rounded is open and stays so: `Config.roundQ` (log entry 107).
-/

namespace Sys2Proof.Machine

/-- One, in the units of this file. -/
def fxOne : Int := 2 ^ 64

/-- π, ln 2 and ln 10 in the units of this file. -/
def fxPi : Int := 57952155664616982739

def fxLn2 : Int := 12786308645202655660

def fxLn10 : Int := 42475197918399869020

/-- The product and the quotient of two numbers. -/
def fxMul (a b : Int) : Int := a * b / fxOne

def fxDiv (a b : Int) : Int := if b = 0 then 0 else a * fxOne / b

/-- A quotient that is open where its denominator is 0. -/
def realQuot (open_ num den : Int) : Int :=
  if den = 0 then open_ else if den < 0 then Config.roundQ (-num) den.natAbs else Config.roundQ num den.natAbs

/-- To the nearest 2⁻⁵², which takes the error of a series away where its value is a short number. -/
def fxNear (x : Int) : Int := (x + 2048) / 4096 * 4096

/-- The sum of a power series from the term `t` on, whose next term is `t · x / (c n)`: `fuel` terms. -/
def fxSeries (x : Int) (c : Nat → Int) : Nat → Nat → Int → Int
  | 0, _, _ => 0
  | fuel + 1, n, t => t + fxSeries x c fuel (n + 1) (fxMul t x / c n)

/-- The cosine and the sine of `num`/`den` of a full turn. -/
def fxTurn (num : Int) (den : Nat) : Int × Int :=
  let d : Int := (max 1 den : Nat)
  let r := num % d
  let x := 2 * fxPi * (if d < 2 * r then r - d else r) / d
  let sq := -(fxMul x x)
  (fxNear (fxSeries sq (fun n => (2 * n + 1) * (2 * n + 2)) 24 0 fxOne), fxNear (fxSeries sq (fun n => (2 * n + 2) * (2 * n + 3)) 24 0 x))

/-- The exponential. -/
def fxExp (x : Int) : Int :=
  let k := x / fxLn2
  let m := fxNear (fxSeries (x - k * fxLn2) (fun n => (n : Int) + 1) 28 0 fxOne)
  if 0 ≤ k then m * 2 ^ k.toNat else m / 2 ^ (-k).toNat

/-- The sum of p / (2n + 1), the power p rising by the square `sq` from term to term: `fuel` terms. -/
def fxOdd (sq : Int) : Nat → Nat → Int → Int
  | 0, _, _ => 0
  | fuel + 1, n, p => p / (2 * n + 1) + fxOdd sq fuel (n + 1) (fxMul p sq)

/-- The natural logarithm of `num`/`den`, both positive. -/
def fxLn (num den : Nat) : Int :=
  if num = 0 || den = 0 then 0
  else
    let e : Int := (Nat.log2 num : Int) - Nat.log2 den
    let m : Int := if 0 ≤ e then (num : Int) * fxOne / ((den * 2 ^ e.toNat : Nat) : Int) else ((num * 2 ^ (-e).toNat : Nat) : Int) * fxOne / den
    let z := fxDiv (m - fxOne) (m + fxOne)
    fxNear (e * fxLn2 + 2 * fxOdd (fxMul z z) 24 0 z)

end Sys2Proof.Machine
end

