-- ==== Sys2Proof/Machine/Binary32.lean ====
section
/-!
DEFINITION. The arithmetic of the lanes (R182): IEEE 754 binary32, round to nearest with ties to even, subnormal inputs and results flushed
to zero with their sign, and the default quiet NaN. An answer is the word and the sticky flags it raises: 1 invalid, 2 overflow, 4 divide
by zero.
-/

namespace Sys2Proof.Machine.F32

/-- A binary32 word taken apart: `m` · 2^`e`, where `m` is 0 for a zero and for a flushed subnormal. -/
inductive Val where
  | nan (signalling : Bool)
  | inf (neg : Bool)
  | fin (neg : Bool) (m : Nat) (e : Int)
deriving DecidableEq, Repr

/-- A word as its value. -/
def toVal (w : Nat) : Val :=
  let neg := w / 2 ^ 31 % 2 == 1
  let e : Nat := w / 2 ^ 23 % 256
  let f : Nat := w % 2 ^ 23
  if e = 255 then (if f = 0 then .inf neg else .nan (f < 2 ^ 22))
  else if e = 0 then .fin neg 0 0
  else .fin neg (2 ^ 23 + f) ((e : Int) - 150)

/-- The sign bit. -/
def signBit (neg : Bool) : Nat := if neg then 2 ^ 31 else 0

def zero (neg : Bool) : Nat := signBit neg

def infinity (neg : Bool) : Nat := signBit neg + 0x7F800000

/-- The default quiet NaN. -/
def quietNaN : Nat := 0x7FC00000

/-- `n` · 2^`e` over `d` as a quotient of naturals. -/
def scaled (n d : Nat) (e : Int) : Nat × Nat := if 0 ≤ e then (n * 2 ^ e.toNat, d) else (n, d * 2 ^ (-e).toNat)

/-- A significand of 24 bits with its exponent as a word: too large overflows to infinity, too small is flushed. -/
def pack (neg : Bool) (q : Nat) (e : Int) : Nat × Nat :=
  let (q1, e1) := if q = 2 ^ 24 then (2 ^ 23, e + 1) else (q, e)
  let b := e1 + 150
  if 255 ≤ b then (infinity neg, 2)
  else if b ≤ 0 then (zero neg, 0)
  else (signBit neg + 2 ^ 23 * b.toNat + (q1 - 2 ^ 23), 0)

/-- The value `n`/`d` · 2^`e` rounded to a word, `d` positive. -/
def round (neg : Bool) (n d : Nat) (e : Int) : Nat × Nat :=
  if n = 0 then (zero neg, 0)
  else
    let t0 : Int := (Nat.log2 n : Int) - Nat.log2 d - 23
    let (n0, d0) := scaled n d (-t0)
    let t := if n0 < 2 ^ 23 * d0 then t0 - 1 else t0
    let (n1, d1) := scaled n d (-t)
    let q := n1 / d1
    let r := n1 % d1
    let up := d1 < 2 * r || (d1 == 2 * r && q % 2 == 1)
    pack neg (if up then q + 1 else q) (t + e)

/-- The answer of an operation with a NaN among its inputs: a signalling one is an invalid operation. DESIGN CHOICE (log entry 99). -/
def nanOf (vs : List Val) : Option (Nat × Nat) :=
  if vs.contains (.nan true) then some (quietNaN, 1) else if vs.contains (.nan false) then some (quietNaN, 0) else none

/-- The exact sum of two finite values, rounded: a sum of zero is +0 unless both are −0. -/
def addFin (na : Bool) (ma : Nat) (ea : Int) (nb : Bool) (mb : Nat) (eb : Int) : Nat × Nat :=
  let e := min ea eb
  let x : Int := (ma * 2 ^ (ea - e).toNat : Nat)
  let y : Int := (mb * 2 ^ (eb - e).toNat : Nat)
  let z := (if na then -x else x) + (if nb then -y else y)
  if z = 0 then (zero (na && nb), 0) else round (decide (z < 0)) z.natAbs 1 e

/-- The product of two values, not rounded: none is an invalid operation. -/
def mulVal : Val → Val → Option Val
  | .fin na ma ea, .fin nb mb eb => some (.fin (na != nb) (ma * mb) (ea + eb))
  | .inf na, .fin nb mb _ => if mb = 0 then none else some (.inf (na != nb))
  | .fin na ma _, .inf nb => if ma = 0 then none else some (.inf (na != nb))
  | .inf na, .inf nb => some (.inf (na != nb))
  | _, _ => none

/-- The sum of two values. -/
def addVal : Val → Val → Nat × Nat
  | .fin na ma ea, .fin nb mb eb => addFin na ma ea nb mb eb
  | .inf na, .inf nb => if na == nb then (infinity na, 0) else (quietNaN, 1)
  | .inf na, _ => (infinity na, 0)
  | _, .inf nb => (infinity nb, 0)
  | _, _ => (quietNaN, 0)

def negVal : Val → Val
  | .fin n m e => .fin (!n) m e
  | .inf n => .inf (!n)
  | v => v

/-- ±A·B + C, rounded once. -/
def fma (neg : Bool) (a b c : Nat) : Nat × Nat :=
  let (x, y, z) := (toVal a, toVal b, toVal c)
  match nanOf [x, y, z], mulVal x y with
  | some r, _ => r
  | none, none => (quietNaN, 1)
  | none, some p => addVal (if neg then negVal p else p) z

def add (a b : Nat) : Nat × Nat :=
  let (x, y) := (toVal a, toVal b)
  (nanOf [x, y]).getD (addVal x y)

def sub (a b : Nat) : Nat × Nat :=
  let (x, y) := (toVal a, toVal b)
  (nanOf [x, y]).getD (addVal x (negVal y))

/-- ±A·B. -/
def mul (neg : Bool) (a b : Nat) : Nat × Nat :=
  let (x, y) := (toVal a, toVal b)
  match nanOf [x, y], mulVal x y with
  | some r, _ => r
  | none, some (.fin n m e) => round (n != neg) m 1 e
  | none, some (.inf n) => (infinity (n != neg), 0)
  | none, _ => (quietNaN, 1)

def div (a b : Nat) : Nat × Nat :=
  let (x, y) := (toVal a, toVal b)
  match nanOf [x, y], x, y with
  | some r, _, _ => r
  | none, .fin na ma ea, .fin nb mb eb =>
    if mb = 0 then (if ma = 0 then (quietNaN, 1) else (infinity (na != nb), 4)) else round (na != nb) ma mb (ea - eb)
  | none, .fin na _ _, .inf nb => (zero (na != nb), 0)
  | none, .inf na, .fin nb _ _ => (infinity (na != nb), 0)
  | none, _, _ => (quietNaN, 1)

/-- The order of two values that are not NaN: A < B. -/
def less : Val → Val → Bool
  | .inf na, .inf nb => na && !nb
  | .inf na, .fin _ _ _ => na
  | .fin _ _ _, .inf nb => !nb
  | .fin na ma ea, .fin nb mb eb =>
    let e := min ea eb
    let x : Int := (ma * 2 ^ (ea - e).toNat : Nat)
    let y : Int := (mb * 2 ^ (eb - e).toNat : Nat)
    decide ((if na then -x else x) < (if nb then -y else y))
  | _, _ => false

/-- A subnormal flushed to zero with its sign. -/
def flush (a : Nat) : Nat := if a / 2 ^ 23 % 256 = 0 then signBit (a / 2 ^ 31 % 2 == 1) else a % 2 ^ 32

/-- MIN and MAX; with a quiet NaN, and of two zeros of unlike sign, the answer is open. -/
def pick (max_ : Bool) (a0 b0 : Nat) : Nat × Nat :=
  let (a, b) := (flush a0, flush b0)
  let (x, y) := (toVal a, toVal b)
  match nanOf [x, y] with
  | some r => if r.2 = 1 then r else ((Config.realFn 182 [if max_ then 1 else 0, a, b]).toNat % 2 ^ 32, 0)
  | none =>
    if less x y then (if max_ then b else a, 0)
    else if less y x then (if max_ then a else b, 0)
    else if a = b then (a, 0) else ((Config.realFn 182 [if max_ then 1 else 0, a, b]).toNat % 2 ^ 32, 0)

def abs (a : Nat) : Nat × Nat := (flush a % 2 ^ 31, 0)

/-- C ≥ 0; a NaN is not. -/
def nonneg (c : Nat) : Bool :=
  match toVal c with
  | .nan _ => false
  | .inf n => !n
  | .fin n m _ => !n || m == 0

/-- SEL: A if C ≥ 0, else B. -/
def sel (a b c : Nat) : Nat × Nat := (flush (if nonneg c then a else b), 0)

/-- A result within 2 units in the last place of `n`/`d` · 2^`e`, `d` positive (R182): which one is open. Beyond the range it overflows or is
flushed. -/
def within2 (which a : Nat) (neg : Bool) (n d : Nat) (e : Int) : Nat × Nat :=
  if n = 0 then (zero neg, 0)
  else
    let t0 : Int := (Nat.log2 n : Int) - Nat.log2 d - 23
    let (n0, d0) := scaled n d (-t0)
    let t := if n0 < 2 ^ 23 * d0 then t0 - 1 else t0
    let (n1, d1) := scaled n d (-t)
    let pick := Config.realFn 1821 [which, a]
    let off : Int := if n1 % d1 = 0 then pick % 5 - 2 else pick % 4 - 1
    let x : Int := 2 ^ 23 * (t + e + 149) + (n1 / d1 : Nat) + off
    if 255 * 2 ^ 23 ≤ x then (infinity neg, 2) else if x < 2 ^ 23 then (zero neg, 0) else (signBit neg + x.toNat, 0)

/-- RECIP, RSQRT, EXP2 and LOG2 (`which` 0 to 3) of `m` · 2^`e`, not zero (R182). -/
def specialFin (which a : Nat) (neg : Bool) (m : Nat) (e : Int) : Nat × Nat :=
  match which with
  | 0 => within2 0 a neg 1 m (-e)
  | 1 =>
    let m2 := if e % 2 = 0 then m else 2 * m
    within2 1 a false (isqrtFrom 128 (2 ^ 160 / m2) 0) (2 ^ 80) (-(e / 2))
  | 2 =>
    let (n, d) := scaled m 1 e
    let x : Int := if neg then -(n : Int) else n
    let k := x / d
    if 256 < n / d then (if neg then (zero false, 0) else (infinity false, 2))
    else within2 2 a false (fxExp (fxLn2 * (x - k * d) / d)).toNat (2 ^ 64) k
  | _ =>
    let x := fxLn m (2 ^ 23) + (e + 23) * fxLn2
    within2 3 a (decide (x < 0)) x.natAbs fxLn2.toNat 0

/-- RECIP, RSQRT, EXP2 and LOG2: their poles and invalid operands are those of IEEE 754. -/
def special (which a : Nat) : Nat × Nat :=
  match nanOf [toVal a], toVal a with
  | some r, _ => r
  | none, .inf n =>
    match which with
    | 0 => (zero n, 0)
    | 2 => (if n then zero false else infinity false, 0)
    | _ => if n then (quietNaN, 1) else (if which = 1 then zero false else infinity false, 0)
  | none, .fin n m e =>
    if m = 0 then
      match which with
      | 2 => (0x3F800000, 0)
      | 3 => (infinity true, 4)
      | _ => (infinity n, 4)
    else if n && which % 2 = 1 then (quietNaN, 1)
    else specialFin which a n m e
  | none, _ => (quietNaN, 0)

/-- A signed 32-bit integer as a word. -/
def fromInt (a : Nat) : Nat × Nat :=
  let neg := 2 ^ 31 ≤ a % 2 ^ 32
  round neg (if neg then 2 ^ 32 - a % 2 ^ 32 else a % 2 ^ 32) 1 0

/-- A word as a signed 32-bit integer, to nearest even; outside the range it is an invalid operation whose result is open. -/
def toInt (a : Nat) : Nat × Nat :=
  let open_ := ((Config.realFn 1822 [a]).toNat % 2 ^ 32, 1)
  match toVal a with
  | .fin n m e =>
    let (x, d) := scaled m 1 e
    let q := x / d
    let r := x % d
    let v := if d < 2 * r || (d == 2 * r && q % 2 == 1) then q + 1 else q
    if v < 2 ^ 31 || (n && v = 2 ^ 31) then ((if n then (2 ^ 32 - v) % 2 ^ 32 else v), 0) else open_
  | _ => open_

end Sys2Proof.Machine.F32
end

