-- ==== Sys2Proof/Machine/Cmd.lean ====
section
/-!
DEFINITION. A host command apart from where it came from: the opcode with its parameters (R374 to R382). The rows of the
table and the command frames of the SPI port, the two-wire target and the chain all lead to one of these.
-/

namespace Sys2Proof.Machine

/-- The three transfers of R381. -/
inductive Xfer where
  | jobLoad
  | nvAppend
  | fwStage
deriving DecidableEq, Repr

/-- A host command with its parameters. `bad op` is a frame of a known opcode whose parameters break its layout (R359),
`unknown op` one whose opcode is not in R374. -/
inductive Cmd where
  | ping (echo : List Byte)
  | ident
  | seqstate
  | replay (first count : Nat)
  | cfgRead (addr count : Nat) (shadow : Bool)
  | cfgWrite (addr : Nat) (words : List Nat)
  | cfgStage (addr : Nat) (words : List Nat)
  | cfgCommit (at_ : Target) (checkExp : Bool) (expected : Nat)
  | cfgDiscard (at_ : Target)
  | snap (at_ : Target)
  | readCells (rdSrc kind sub first count : Nat)
  | readCurrent (rdSrc : Nat)
  | readTemps (rdSrc first count : Nat)
  | readAnalysis (slot cell : Nat)
  | lease (cls duration : Nat)
  | balRun (mask target : Nat)
  | balStop (mask : Nat)
  | balResume (mask : Nat)
  | exciteStart (at_ : Target) (cells klo khi amp reps : Nat)
  | exciteStop
  | thermSet (src demand : Nat)
  | thermStop
  | thermRetry
  | evtRead (first count : Nat)
  | evtAck (first count : Nat)
  | evtMask (first count : Nat) (mask : List Byte)
  | mode (at_ : Target) (mode : Nat)
  | shutdown (selftest : Bool)
  | txBegin (x : Xfer) (target length crc : Nat)
  | txData (x : Xfer) (offset : Nat) (data : List Byte)
  | txEnd (x : Xfer)
  | txAbort (x : Xfer)
  | jobResult (slot : Nat)
  | nvRead (record offset length : Nat)
  | fwSwap (at_ : Target) (version : Nat)
  | lifecycle (target step code : Nat)
  | test (fn : Nat) (args : List Byte)
  | bad (op : Nat)
  | unknown (op : Nat)
deriving DecidableEq, Repr

/-- The opcode of a transfer (R374). -/
def Xfer.op : Xfer → Nat
  | .jobLoad => 0x60
  | .nvAppend => 0x71
  | .fwStage => 0x78

/-- The opcode of a command (R374). -/
def Cmd.op : Cmd → Nat
  | .ping _ => 0x01
  | .ident => 0x02
  | .seqstate => 0x03
  | .replay _ _ => 0x04
  | .cfgRead _ _ _ => 0x10
  | .cfgWrite _ _ => 0x11
  | .cfgStage _ _ => 0x12
  | .cfgCommit _ _ _ => 0x13
  | .cfgDiscard _ => 0x13
  | .snap _ => 0x20
  | .readCells _ _ _ _ _ => 0x21
  | .readCurrent _ => 0x22
  | .readTemps _ _ _ => 0x23
  | .readAnalysis _ _ => 0x24
  | .lease _ _ => 0x30
  | .balRun _ _ => 0x31
  | .balStop _ => 0x31
  | .balResume _ => 0x31
  | .exciteStart _ _ _ _ _ _ => 0x32
  | .exciteStop => 0x32
  | .thermSet _ _ => 0x33
  | .thermStop => 0x33
  | .thermRetry => 0x33
  | .evtRead _ _ => 0x40
  | .evtAck _ _ => 0x41
  | .evtMask _ _ _ => 0x42
  | .mode _ _ => 0x50
  | .shutdown _ => 0x51
  | .txBegin x _ _ _ => x.op
  | .txData x _ _ => x.op
  | .txEnd x => x.op
  | .txAbort x => x.op
  | .jobResult _ => 0x61
  | .nvRead _ _ _ => 0x70
  | .fwSwap _ _ => 0x79
  | .lifecycle _ _ _ => 0x7E
  | .test _ _ => 0x7F
  | .bad op => op
  | .unknown op => op

/-- The fast path of R374: SNAP and the reads that hardware answers. -/
def Cmd.fast : Cmd → Bool
  | .snap _ => true
  | .readCells _ _ _ _ _ => true
  | .readCurrent _ => true
  | .readTemps _ _ _ => true
  | .readAnalysis _ _ => true
  | .bad op => 0x20 ≤ op && op ≤ 0x24
  | _ => false

/-- The read opcodes of R363, which a REPEAT executes again. -/
def Cmd.isRead (c : Cmd) : Bool :=
  [0x01, 0x02, 0x04, 0x10, 0x21, 0x22, 0x23, 0x24, 0x40, 0x61, 0x70].contains c.op

/-! ### Command frames to commands (R357, R359, R374 to R382) -/

/-- The little-endian number in bytes `i` to `i + k - 1` of the parameters. -/
def par (ps : List Byte) (i k : Nat) : Nat := leNat ((ps.drop i).take k)

/-- The schedule prefix in the first 8 parameter bytes (R375). -/
def parTarget (ps : List Byte) : Target :=
  ⟨par ps 0 6, par ps 6 2 % 4096, bit (par ps 6 2) 12⟩

/-- The reserved bits of the schedule prefix are 0; `SC_REQ_TQ` belongs to SNAP only. -/
def prefixOk (ps : List Byte) (snap : Bool) : Bool :=
  par ps 6 2 / 8192 == 0 && (snap || !bit (par ps 6 2) 12)

/-- The words that follow the 8 leading parameter bytes of CFG_WRITE and CFG_STAGE (R377). -/
def parWords : Nat → List Byte → List Nat
  | 0, _ => []
  | n + 1, bs => leNat (bs.take 4) :: parWords n (bs.drop 4)

/-- The command of a transfer opcode (R381). -/
def parseXfer (x : Xfer) (ps : List Byte) : Cmd :=
  match par ps 0 1 with
  | 0 => if ps.length = 10 then .txBegin x (par ps 1 1) (par ps 2 4) (par ps 6 4) else .bad x.op
  | 1 => if 6 ≤ ps.length then .txData x (par ps 1 4) (ps.drop 5) else .bad x.op
  | 2 => if ps.length = 1 then .txEnd x else .bad x.op
  | 3 => if ps.length = 1 then .txAbort x else .bad x.op
  | _ => .bad x.op

/-- The command that an opcode and its parameter bytes spell. A length or a reserved bit that breaks the layout gives
`bad` (R359). -/
def parseCmd (op : Nat) (ps : List Byte) : Cmd :=
  let n := ps.length
  match op with
  | 0x01 => if n ≤ 43 then .ping ps else .bad op
  | 0x02 => if n = 0 then .ident else .bad op
  | 0x03 => if n = 0 then .seqstate else .bad op
  | 0x04 => if n = 4 then .replay (par ps 0 2) (par ps 2 2) else .bad op
  | 0x10 => if n = 8 && par ps 6 1 < 2 && par ps 7 1 = 0 then .cfgRead (par ps 0 4) (par ps 4 2) (par ps 6 1 = 1) else .bad op
  | 0x11 => if 8 ≤ n && par ps 5 3 = 0 && n = 8 + 4 * par ps 4 1 then .cfgWrite (par ps 0 4) (parWords (par ps 4 1) (ps.drop 8)) else .bad op
  | 0x12 => if 8 ≤ n && par ps 5 3 = 0 && n = 8 + 4 * par ps 4 1 then .cfgStage (par ps 0 4) (parWords (par ps 4 1) (ps.drop 8)) else .bad op
  | 0x13 =>
    if n = 12 && prefixOk ps false && par ps 9 1 < 2 then
      match par ps 8 1 with
      | 0 => .cfgCommit (parTarget ps) (par ps 9 1 = 1) (par ps 10 2)
      | 1 => .cfgDiscard (parTarget ps)
      | _ => .bad op
    else .bad op
  | 0x20 => if n = 8 && prefixOk ps true then .snap (parTarget ps) else .bad op
  | 0x21 => if n = 5 then .readCells (par ps 0 1) (par ps 1 1) (par ps 2 1) (par ps 3 1) (par ps 4 1) else .bad op
  | 0x22 => if n = 1 then .readCurrent (par ps 0 1) else .bad op
  | 0x23 => if n = 3 then .readTemps (par ps 0 1) (par ps 1 1) (par ps 2 1) else .bad op
  | 0x24 => if n = 2 then .readAnalysis (par ps 0 1) (par ps 1 1) else .bad op
  | 0x30 => if n = 4 && par ps 1 1 = 0 then .lease (par ps 0 1) (par ps 2 2) else .bad op
  | 0x31 =>
    if n = 17 then
      match par ps 0 1 with
      | 0 => .balRun (par ps 1 14) (par ps 15 2)
      | 1 => .balStop (par ps 1 14)
      | 2 => .balResume (par ps 1 14)
      | _ => .bad op
    else .bad op
  | 0x32 =>
    if n = 28 && prefixOk ps false then
      match par ps 8 1 with
      | 0 => .exciteStart (parTarget ps) (par ps 9 14) (par ps 23 1) (par ps 24 1) (par ps 25 2) (par ps 27 1)
      | 1 => .exciteStop
      | _ => .bad op
    else .bad op
  | 0x33 =>
    if n = 4 then
      match par ps 0 1 with
      | 0 => .thermSet (par ps 1 1) (par ps 2 2)
      | 1 => .thermStop
      | 2 => .thermRetry
      | _ => .bad op
    else .bad op
  | 0x40 => if n = 3 then .evtRead (par ps 0 2) (par ps 2 1) else .bad op
  | 0x41 => if n = 4 then .evtAck (par ps 0 2) (par ps 2 2) else .bad op
  | 0x42 => if 4 ≤ n && par ps 3 1 = 0 && n = 4 + (par ps 2 1 + 7) / 8 then .evtMask (par ps 0 2) (par ps 2 1) (ps.drop 4) else .bad op
  | 0x50 => if n = 9 && prefixOk ps false then .mode (parTarget ps) (par ps 8 1) else .bad op
  | 0x51 => if n = 1 && par ps 0 1 < 2 then .shutdown (par ps 0 1 = 1) else .bad op
  | 0x60 => parseXfer .jobLoad ps
  | 0x61 => if n = 1 then .jobResult (par ps 0 1) else .bad op
  | 0x70 => if n = 10 then .nvRead (par ps 0 4) (par ps 4 4) (par ps 8 2) else .bad op
  | 0x71 => parseXfer .nvAppend ps
  | 0x78 => parseXfer .fwStage ps
  | 0x79 => if n = 12 && prefixOk ps false then .fwSwap (parTarget ps) (par ps 8 4) else .bad op
  | 0x7E => if n = 6 then .lifecycle (par ps 0 1) (par ps 1 1) (par ps 2 4) else .bad op
  | 0x7F => if 1 ≤ n && n ≤ 52 then .test (par ps 0 1) (ps.drop 1) else .bad op
  | _ => .unknown op

end Sys2Proof.Machine
end

