-- ==== Sys2Proof/Machine/Fields.lean ====
section
/-!
DEFINITION. The fields of configuration space, one definition per field of the register tables of spec/02 to spec/16,
each a word address, a lowest bit and a width. `Wd.X` is the address of word X; `Reg.F` is field F. The parameters are
the tier, channel, port, unit or slot number `k`, the index `i` in an array of words, and the base address `b` of a
loop block (R257).
-/

namespace Sys2Proof.Machine

/-- A field of a configuration word: the word's address, its lowest bit and its width. -/
structure Field where
  a  : Nat
  lo : Nat
  w  : Nat
deriving DecidableEq, Repr


/-! ### Words and fields of spec/02_span_and_grain.md -/

def Wd.TB_CTRL : Nat := 0x1000
def Reg.SOURCE : Field := ⟨Wd.TB_CTRL, 0, 1⟩
def Reg.ROLE : Field := ⟨Wd.TB_CTRL, 1, 2⟩
def Reg.EDGE : Field := ⟨Wd.TB_CTRL, 3, 1⟩
def Reg.SPAN_OUT_EN : Field := ⟨Wd.TB_CTRL, 4, 1⟩
def Wd.TB_PRESCALE : Nat := 0x1004
def Reg.PRESCALE_M1 : Field := ⟨Wd.TB_PRESCALE, 0, 12⟩
def Wd.TB_FREE_SPAN : Nat := 0x1008
def Reg.FREE_RATE : Field := ⟨Wd.TB_FREE_SPAN, 0, 13⟩
def Wd.TB_HOLD : Nat := 0x100c
def Reg.HOLDOVER_SPANS : Field := ⟨Wd.TB_HOLD, 0, 9⟩
def Reg.PEND_TIMEOUT : Field := ⟨Wd.TB_HOLD, 16, 16⟩
def Wd.TB_MARK : Nat := 0x1010
def Reg.MARK_LEAD : Field := ⟨Wd.TB_MARK, 0, 8⟩
def Wd.TB_STATUS : Nat := 0x1014
def Reg.STATE : Field := ⟨Wd.TB_STATUS, 0, 2⟩
def Reg.TQ : Field := ⟨Wd.TB_STATUS, 2, 1⟩
def Reg.INPUT_VALID : Field := ⟨Wd.TB_STATUS, 3, 1⟩
def Reg.MARK_DIR : Field := ⟨Wd.TB_STATUS, 4, 1⟩
def Reg.DELAY_VALID : Field := ⟨Wd.TB_STATUS, 5, 1⟩
def Reg.M_LOG2 : Field := ⟨Wd.TB_STATUS, 8, 4⟩
def Reg.HOLDOVER_COUNT : Field := ⟨Wd.TB_STATUS, 12, 9⟩
def Wd.TB_NOW_LO : Nat := 0x1018
def Reg.NOW_SPAN_LO : Field := ⟨Wd.TB_NOW_LO, 0, 32⟩
def Wd.TB_NOW_HI : Nat := 0x101c
def Reg.NOW_SPAN_HI : Field := ⟨Wd.TB_NOW_HI, 0, 16⟩
def Reg.NOW_GRAIN : Field := ⟨Wd.TB_NOW_HI, 16, 12⟩
def Reg.NOW_TSTATE : Field := ⟨Wd.TB_NOW_HI, 28, 2⟩
def Wd.TB_PERIOD : Nat := 0x1020
def Reg.IN_PERIOD : Field := ⟨Wd.TB_PERIOD, 0, 32⟩
def Wd.TB_RING : Nat := 0x1024
def Reg.MASTER_DELAY : Field := ⟨Wd.TB_RING, 0, 18⟩
def Reg.HOPS_TO_MASTER : Field := ⟨Wd.TB_RING, 18, 6⟩
def Reg.MASTER_TAG : Field := ⟨Wd.TB_RING, 24, 8⟩
def Wd.TB_COUNTS : Nat := 0x1028
def Reg.JUMP_COUNT : Field := ⟨Wd.TB_COUNTS, 0, 16⟩
def Reg.LOSS_COUNT : Field := ⟨Wd.TB_COUNTS, 16, 16⟩
def Wd.TB_SCHED : Nat := 0x102c
def Reg.SCHED_USED : Field := ⟨Wd.TB_SCHED, 0, 6⟩
def Reg.SCHED_PENDING : Field := ⟨Wd.TB_SCHED, 8, 6⟩

/-! ### Words and fields of spec/03_primary_cell_measurement.md -/

def Wd.PRI_CTRL (k : Nat) : Nat := 0x10000 + 0x2000 * k
def Reg.SUBWIN (k : Nat) : Field := ⟨Wd.PRI_CTRL k, 0, 3⟩
def Reg.SINC_ORDER (k : Nat) : Field := ⟨Wd.PRI_CTRL k, 4, 2⟩
def Reg.POST_CORNER (k : Nat) : Field := ⟨Wd.PRI_CTRL k, 8, 2⟩
def Reg.POST_ORDER (k : Nat) : Field := ⟨Wd.PRI_CTRL k, 10, 1⟩
def Reg.NOTCH_EN (k : Nat) : Field := ⟨Wd.PRI_CTRL k, 12, 1⟩
def Wd.PRI_NOTCH (k : Nat) : Nat := 0x10004 + 0x2000 * k
def Reg.NOTCH_FREQ (k : Nat) : Field := ⟨Wd.PRI_NOTCH k, 0, 16⟩
def Wd.PRI_CELL_EN (k : Nat) : Nat := 0x10008 + 0x2000 * k
def Reg.CELL_EN (k : Nat) : Field := ⟨Wd.PRI_CELL_EN k, 0, 18⟩
def Wd.THR_OV (k : Nat) : Nat := 0x10010 + 0x2000 * k
def Reg.OV_TH (k : Nat) : Field := ⟨Wd.THR_OV k, 0, 16⟩
def Wd.THR_UV (k : Nat) : Nat := 0x10014 + 0x2000 * k
def Reg.UV_TH (k : Nat) : Field := ⟨Wd.THR_UV k, 0, 16⟩
def Wd.THR_CFG (k : Nat) : Nat := 0x10018 + 0x2000 * k
def Reg.THR_HYST (k : Nat) : Field := ⟨Wd.THR_CFG k, 0, 8⟩
def Reg.THR_DEB (k : Nat) : Field := ⟨Wd.THR_CFG k, 8, 4⟩
def Reg.THR_SRC (k : Nat) : Field := ⟨Wd.THR_CFG k, 12, 1⟩
def Wd.TAP_TEST (k : Nat) : Nat := 0x10020 + 0x2000 * k
def Reg.TAP_INT (k : Nat) : Field := ⟨Wd.TAP_TEST k, 0, 8⟩
def Reg.TAP_TH (k : Nat) : Field := ⟨Wd.TAP_TEST k, 16, 8⟩
def Wd.SPARE_CTRL (k : Nat) : Nat := 0x10024 + 0x2000 * k
def Reg.AUDIT_EN (k : Nat) : Field := ⟨Wd.SPARE_CTRL k, 0, 1⟩
def Reg.AUTO_SPARE (k : Nat) : Field := ⟨Wd.SPARE_CTRL k, 1, 1⟩
def Reg.AUDIT_DWELL (k : Nat) : Field := ⟨Wd.SPARE_CTRL k, 4, 8⟩
def Reg.AUDIT_TH (k : Nat) : Field := ⟨Wd.SPARE_CTRL k, 16, 8⟩
def Wd.SPARE_FORCE (k : Nat) : Nat := 0x10028 + 0x2000 * k
def Reg.FORCE_CELL (k : Nat) : Field := ⟨Wd.SPARE_FORCE k, 0, 5⟩
def Reg.FORCE_EN (k : Nat) : Field := ⟨Wd.SPARE_FORCE k, 5, 1⟩
def Reg.RELEASE (k : Nat) : Field := ⟨Wd.SPARE_FORCE k, 6, 1⟩
def Wd.DRAW_CTRL (k : Nat) : Nat := 0x1002c + 0x2000 * k
def Reg.BALLAST_EN (k : Nat) : Field := ⟨Wd.DRAW_CTRL k, 0, 1⟩
def Wd.PRI_STATUS (k : Nat) : Nat := 0x10040 + 0x2000 * k
def Reg.EFF_SUBWIN (k : Nat) : Field := ⟨Wd.PRI_STATUS k, 0, 3⟩
def Reg.NOTCH_ACTIVE (k : Nat) : Field := ⟨Wd.PRI_STATUS k, 8, 1⟩
def Reg.NOTCH_LIMIT (k : Nat) : Field := ⟨Wd.PRI_STATUS k, 9, 1⟩
def Reg.NOTCH_FILLING (k : Nat) : Field := ⟨Wd.PRI_STATUS k, 10, 1⟩
def Reg.NOTCH_LEN (k : Nat) : Field := ⟨Wd.PRI_STATUS k, 16, 16⟩
def Wd.SPARE_STATUS (k : Nat) : Nat := 0x10044 + 0x2000 * k
def Reg.S18_CELL (k : Nat) : Field := ⟨Wd.SPARE_STATUS k, 0, 5⟩
def Reg.S18_USE (k : Nat) : Field := ⟨Wd.SPARE_STATUS k, 5, 2⟩
def Reg.S19_CELL (k : Nat) : Field := ⟨Wd.SPARE_STATUS k, 8, 5⟩
def Reg.S19_USE (k : Nat) : Field := ⟨Wd.SPARE_STATUS k, 13, 2⟩
def Wd.CONV_FAULT (k : Nat) : Nat := 0x10048 + 0x2000 * k
def Reg.FAULTED (k : Nat) : Field := ⟨Wd.CONV_FAULT k, 0, 20⟩
def Wd.TIER_DRAW (k : Nat) : Nat := 0x1004c + 0x2000 * k
def Reg.SUPPLY_UA (k : Nat) : Field := ⟨Wd.TIER_DRAW k, 0, 16⟩
def Reg.BALLAST_UA (k : Nat) : Field := ⟨Wd.TIER_DRAW k, 16, 10⟩
def Reg.BALLAST_SAT (k : Nat) : Field := ⟨Wd.TIER_DRAW k, 31, 1⟩

/-! ### Words and fields of spec/04_secondary_path_and_sequencer.md -/

def Wd.SEQ_ENTRY (k i : Nat) : Nat := 0x10100 + 0x2000 * k + 0x4 * i
def Reg.CH (k i : Nat) : Field := ⟨Wd.SEQ_ENTRY k i, 0, 7⟩
def Reg.PLACE (k i : Nat) : Field := ⟨Wd.SEQ_ENTRY k i, 7, 1⟩
def Reg.REP_M1 (k i : Nat) : Field := ⟨Wd.SEQ_ENTRY k i, 8, 8⟩
def Reg.DELAY (k i : Nat) : Field := ⟨Wd.SEQ_ENTRY k i, 16, 12⟩
def Wd.SEQ_CTRL (k : Nat) : Nat := 0x10200 + 0x2000 * k
def Reg.SEQ_LAST (k : Nat) : Field := ⟨Wd.SEQ_CTRL k, 0, 6⟩
def Reg.SEQ_EN (k : Nat) : Field := ⟨Wd.SEQ_CTRL k, 8, 1⟩
def Reg.RECHECK_EN (k : Nat) : Field := ⟨Wd.SEQ_CTRL k, 9, 1⟩
def Reg.CYCLE_LIMIT (k : Nat) : Field := ⟨Wd.SEQ_CTRL k, 16, 8⟩
def Wd.DISC_CFG (k : Nat) : Nat := 0x10204 + 0x2000 * k
def Reg.TH_DISC (k : Nat) : Field := ⟨Wd.DISC_CFG k, 0, 10⟩
def Reg.D_DISC (k : Nat) : Field := ⟨Wd.DISC_CFG k, 16, 6⟩
def Wd.REF_CFG (k : Nat) : Nat := 0x10208 + 0x2000 * k
def Reg.REF_TOL (k : Nat) : Field := ⟨Wd.REF_CFG k, 0, 8⟩
def Reg.REF_PERSIST (k : Nat) : Field := ⟨Wd.REF_CFG k, 8, 4⟩
def Reg.REF_READMIT (k : Nat) : Field := ⟨Wd.REF_CFG k, 16, 8⟩
def Wd.OSC_CFG (k : Nat) : Nat := 0x1020c + 0x2000 * k
def Reg.OSC_TOL (k : Nat) : Field := ⟨Wd.OSC_CFG k, 0, 8⟩
def Wd.SEC_URGENT (k : Nat) : Nat := 0x10210 + 0x2000 * k
def Reg.URG_CH (k : Nat) : Field := ⟨Wd.SEC_URGENT k, 0, 7⟩
def Reg.URG_REP_M1 (k : Nat) : Field := ⟨Wd.SEC_URGENT k, 8, 8⟩
def Reg.URG_GO (k : Nat) : Field := ⟨Wd.SEC_URGENT k, 31, 1⟩
def Wd.SEC_URG_RESULT (k : Nat) : Nat := 0x10220 + 0x2000 * k
def Reg.URG_WORD (k : Nat) : Field := ⟨Wd.SEC_URG_RESULT k, 0, 16⟩
def Reg.URG_GRAIN (k : Nat) : Field := ⟨Wd.SEC_URG_RESULT k, 16, 12⟩
def Reg.URG_TOGGLE (k : Nat) : Field := ⟨Wd.SEC_URG_RESULT k, 31, 1⟩
def Wd.SEC_URG_SPAN (k : Nat) : Nat := 0x10224 + 0x2000 * k
def Reg.URG_SPAN (k : Nat) : Field := ⟨Wd.SEC_URG_SPAN k, 0, 32⟩
def Wd.SEQ_STATUS (k : Nat) : Nat := 0x10240 + 0x2000 * k
def Reg.SEQ_NOW (k : Nat) : Field := ⟨Wd.SEQ_STATUS k, 0, 6⟩
def Reg.URG_ACTIVE (k : Nat) : Field := ⟨Wd.SEQ_STATUS k, 6, 1⟩
def Reg.HOST_Q (k : Nat) : Field := ⟨Wd.SEQ_STATUS k, 8, 3⟩
def Reg.RECHK_Q (k : Nat) : Field := ⟨Wd.SEQ_STATUS k, 11, 5⟩
def Reg.CYCLE_GRAINS (k : Nat) : Field := ⟨Wd.SEQ_STATUS k, 16, 16⟩
def Wd.SEQ_COUNTS (k : Nat) : Nat := 0x10244 + 0x2000 * k
def Reg.OVERRUN_COUNT (k : Nat) : Field := ⟨Wd.SEQ_COUNTS k, 0, 16⟩
def Reg.PREEMPT_COUNT (k : Nat) : Field := ⟨Wd.SEQ_COUNTS k, 16, 16⟩
def Wd.REF_STATUS (k : Nat) : Nat := 0x10248 + 0x2000 * k
def Reg.VOTE (k : Nat) : Field := ⟨Wd.REF_STATUS k, 0, 2⟩
def Reg.REF_OUT (k : Nat) : Field := ⟨Wd.REF_STATUS k, 2, 2⟩
def Reg.OSC_ACTIVE (k : Nat) : Field := ⟨Wd.REF_STATUS k, 4, 1⟩
def Reg.OSC_SPARE_FAILED (k : Nat) : Field := ⟨Wd.REF_STATUS k, 5, 1⟩
def Reg.REF_OUT_SPANS (k : Nat) : Field := ⟨Wd.REF_STATUS k, 8, 8⟩
def Wd.DISC_STATE (k i : Nat) : Nat := 0x10280 + 0x2000 * k + 0x4 * i
def Reg.DISC_ACTIVE (k i : Nat) : Field := ⟨Wd.DISC_STATE k i, 0, 1⟩
def Reg.RUN (k i : Nat) : Field := ⟨Wd.DISC_STATE k i, 1, 1⟩
def Reg.RUN_COUNT (k i : Nat) : Field := ⟨Wd.DISC_STATE k i, 2, 8⟩
def Reg.RUN_GRAINS (k i : Nat) : Field := ⟨Wd.DISC_STATE k i, 10, 22⟩
def Wd.DISC_HW (k i : Nat) : Nat := 0x10300 + 0x2000 * k + 0x4 * i
def Reg.HW_GRAINS (k i : Nat) : Field := ⟨Wd.DISC_HW k i, 0, 22⟩
def Reg.HW_COUNT (k i : Nat) : Field := ⟨Wd.DISC_HW k i, 22, 8⟩
def Wd.DISC_HW_SPAN (k i : Nat) : Nat := 0x10380 + 0x2000 * k + 0x4 * i
def Reg.HW_SPAN (k i : Nat) : Field := ⟨Wd.DISC_HW_SPAN k i, 0, 32⟩
def Wd.DISC_HW_CLR (k : Nat) : Nat := 0x10400 + 0x2000 * k
def Reg.HW_CLR (k : Nat) : Field := ⟨Wd.DISC_HW_CLR k, 0, 18⟩

/-! ### Words and fields of spec/05_current_and_charge.md -/

def Wd.CUR_CTRL : Nat := 0x10800
def Reg.I_SRC : Field := ⟨Wd.CUR_CTRL, 0, 2⟩
def Reg.SHUNT_POL : Field := ⟨Wd.CUR_CTRL, 2, 1⟩
def Reg.SHUNT_T_SRC : Field := ⟨Wd.CUR_CTRL, 4, 3⟩
def Wd.SHUNT_GAIN : Nat := 0x10804
def Reg.SHUNT_G : Field := ⟨Wd.SHUNT_GAIN, 0, 32⟩
def Wd.SHUNT_CAL : Nat := 0x10808
def Reg.SHUNT_OFS : Field := ⟨Wd.SHUNT_CAL, 0, 16⟩
def Reg.SHUNT_TC : Field := ⟨Wd.SHUNT_CAL, 16, 16⟩
def Wd.HALL_CAL : Nat := 0x1080c
def Reg.HALL_ZERO : Field := ⟨Wd.HALL_CAL, 0, 16⟩
def Wd.HALL_GAIN_W : Nat := 0x10810
def Reg.HALL_GAIN : Field := ⟨Wd.HALL_GAIN_W, 0, 32⟩
def Wd.DIR_CFG : Nat := 0x10814
def Reg.REST_TH : Field := ⟨Wd.DIR_CFG, 0, 10⟩
def Reg.REST_SPANS : Field := ⟨Wd.DIR_CFG, 16, 8⟩
def Wd.ACC_CFG : Nat := 0x10818
def Reg.ACC_DEADBAND : Field := ⟨Wd.ACC_CFG, 0, 10⟩
def Reg.ACC_LOAD : Field := ⟨Wd.ACC_CFG, 16, 1⟩
def Reg.THRU_CLR : Field := ⟨Wd.ACC_CFG, 17, 1⟩
def Wd.ACC_PRESET_LO : Nat := 0x1081c
def Reg.PRESET_LO : Field := ⟨Wd.ACC_PRESET_LO, 0, 32⟩
def Wd.ACC_PRESET_HI : Nat := 0x10820
def Reg.PRESET_HI : Field := ⟨Wd.ACC_PRESET_HI, 0, 32⟩
def Wd.IDISC_CFG : Nat := 0x10824
def Reg.SH_DISC_TH : Field := ⟨Wd.IDISC_CFG, 0, 8⟩
def Reg.HALL_DISC_TH : Field := ⟨Wd.IDISC_CFG, 8, 8⟩
def Reg.HALL_DISC_PCT : Field := ⟨Wd.IDISC_CFG, 16, 4⟩
def Reg.I_DISC_D : Field := ⟨Wd.IDISC_CFG, 24, 6⟩
def Wd.CB_CTRL : Nat := 0x10840
def Reg.CB_ROLE : Field := ⟨Wd.CB_CTRL, 0, 2⟩
def Reg.CB_LOST : Field := ⟨Wd.CB_CTRL, 8, 8⟩
def Wd.CUR_STATUS : Nat := 0x10880
def Reg.DIR : Field := ⟨Wd.CUR_STATUS, 0, 2⟩
def Reg.SRC_USED : Field := ⟨Wd.CUR_STATUS, 2, 2⟩
def Reg.SHUNT_FAULT : Field := ⟨Wd.CUR_STATUS, 4, 1⟩
def Reg.FAULT_KIND : Field := ⟨Wd.CUR_STATUS, 5, 2⟩
def Reg.TC_HELD : Field := ⟨Wd.CUR_STATUS, 7, 1⟩
def Reg.SAT_NET : Field := ⟨Wd.CUR_STATUS, 8, 1⟩
def Reg.SAT_IN : Field := ⟨Wd.CUR_STATUS, 9, 1⟩
def Reg.SAT_OUT : Field := ⟨Wd.CUR_STATUS, 10, 1⟩
def Reg.ACC_EST : Field := ⟨Wd.CUR_STATUS, 11, 1⟩
def Reg.ACC_COLD : Field := ⟨Wd.CUR_STATUS, 12, 1⟩
def Reg.ACC_RESTORED : Field := ⟨Wd.CUR_STATUS, 13, 1⟩
def Reg.SH_DISC_ACTIVE : Field := ⟨Wd.CUR_STATUS, 14, 1⟩
def Reg.HALL_DISC_ACTIVE : Field := ⟨Wd.CUR_STATUS, 15, 1⟩
def Reg.CB_MISMATCH : Field := ⟨Wd.CUR_STATUS, 16, 6⟩
def Reg.CB_PAIRING : Field := ⟨Wd.CUR_STATUS, 22, 1⟩
def Wd.CHG_NET_LO : Nat := 0x10890
def Reg.NET_LO : Field := ⟨Wd.CHG_NET_LO, 0, 32⟩
def Wd.CHG_NET_HI : Nat := 0x10894
def Reg.NET_HI : Field := ⟨Wd.CHG_NET_HI, 0, 32⟩
def Wd.CHG_IN_LO : Nat := 0x10898
def Reg.IN_LO : Field := ⟨Wd.CHG_IN_LO, 0, 32⟩
def Wd.CHG_IN_HI : Nat := 0x1089c
def Reg.IN_HI : Field := ⟨Wd.CHG_IN_HI, 0, 32⟩
def Wd.CHG_OUT_LO : Nat := 0x108a0
def Reg.OUT_LO : Field := ⟨Wd.CHG_OUT_LO, 0, 32⟩
def Wd.CHG_OUT_HI : Nat := 0x108a4
def Reg.OUT_HI : Field := ⟨Wd.CHG_OUT_HI, 0, 32⟩
def Wd.REV_COUNT : Nat := 0x108a8
def Reg.REVERSALS : Field := ⟨Wd.REV_COUNT, 0, 32⟩
def Wd.GAP_COUNT : Nat := 0x108ac
def Reg.ACC_GAP : Field := ⟨Wd.GAP_COUNT, 0, 32⟩
def Wd.CB_UNPAIRED_W : Nat := 0x108b0
def Reg.CB_UNPAIRED : Field := ⟨Wd.CB_UNPAIRED_W, 0, 32⟩
def Wd.CB_LAST : Nat := 0x108b4
def Reg.CB_LAST_SPAN : Field := ⟨Wd.CB_LAST, 0, 32⟩

/-! ### Words and fields of spec/06_analysis_fabric.md -/

def Wd.FAB_CTRL : Nat := 0x20000
def Reg.IMP_SHARE : Field := ⟨Wd.FAB_CTRL, 0, 8⟩
def Reg.LAG_ADAPT : Field := ⟨Wd.FAB_CTRL, 8, 1⟩
def Reg.SCRUB_EN : Field := ⟨Wd.FAB_CTRL, 9, 1⟩
def Wd.ENS_CFG : Nat := 0x20004
def Reg.ENS_M_MIN_64 : Field := ⟨Wd.ENS_CFG, 0, 5⟩
def Reg.ENS_M_MAX_64 : Field := ⟨Wd.ENS_CFG, 8, 5⟩
def Reg.ENS_PMIN_LOG2 : Field := ⟨Wd.ENS_CFG, 16, 3⟩
def Reg.ENS_PMAX_LOG2 : Field := ⟨Wd.ENS_CFG, 20, 3⟩
def Wd.CONF_CFG : Nat := 0x20008
def Reg.CONF_SHARE : Field := ⟨Wd.CONF_CFG, 0, 8⟩
def Reg.CONF_WIN_LOG2 : Field := ⟨Wd.CONF_CFG, 8, 5⟩
def Wd.FAB_STATUS : Nat := 0x20040
def Reg.USABLE : Field := ⟨Wd.FAB_STATUS, 0, 6⟩
def Reg.SCHED_SET : Field := ⟨Wd.FAB_STATUS, 8, 5⟩
def Reg.IN_PLAN : Field := ⟨Wd.FAB_STATUS, 16, 5⟩
def Reg.SPARES : Field := ⟨Wd.FAB_STATUS, 21, 3⟩
def Reg.LAG_ANY : Field := ⟨Wd.FAB_STATUS, 24, 1⟩
def Reg.SPARES_OUT : Field := ⟨Wd.FAB_STATUS, 25, 1⟩
def Wd.PLAN_STATUS : Nat := 0x20044
def Reg.ENS_M : Field := ⟨Wd.PLAN_STATUS, 0, 11⟩
def Reg.ENS_P_LOG2 : Field := ⟨Wd.PLAN_STATUS, 11, 3⟩
def Reg.ENS_FORM : Field := ⟨Wd.PLAN_STATUS, 14, 2⟩
def Reg.N_A : Field := ⟨Wd.PLAN_STATUS, 16, 3⟩
def Reg.N_ENS : Field := ⟨Wd.PLAN_STATUS, 19, 5⟩
def Reg.N_SVC : Field := ⟨Wd.PLAN_STATUS, 24, 5⟩
def Wd.PLAN_STATUS2 : Nat := 0x20048
def Reg.N_HOST : Field := ⟨Wd.PLAN_STATUS2, 0, 5⟩
def Reg.CELLS_PER_CUBIT : Field := ⟨Wd.PLAN_STATUS2, 8, 7⟩
def Reg.PLAN_GEN : Field := ⟨Wd.PLAN_STATUS2, 16, 16⟩
def Wd.FAB_COUNTS : Nat := 0x20050
def Reg.INPUT_LOST : Field := ⟨Wd.FAB_COUNTS, 0, 16⟩
def Reg.ABORTS : Field := ⟨Wd.FAB_COUNTS, 16, 16⟩
def Wd.CUBIT_STATE (i : Nat) : Nat := 0x20100 + 0x4 * i
def Reg.CSTATE (i : Nat) : Field := ⟨Wd.CUBIT_STATE i, 0, 2⟩
def Reg.OUT_CAUSE (i : Nat) : Field := ⟨Wd.CUBIT_STATE i, 2, 2⟩
def Reg.CJOB (i : Nat) : Field := ⟨Wd.CUBIT_STATE i, 4, 5⟩
def Reg.CONF_NOW (i : Nat) : Field := ⟨Wd.CUBIT_STATE i, 16, 8⟩
def Reg.ECC_CORR (i : Nat) : Field := ⟨Wd.CUBIT_STATE i, 24, 8⟩
def Wd.JOB_CTRL (k : Nat) : Nat := 0x20200 + 0x10 * k
def Reg.JOB_ACT (k : Nat) : Field := ⟨Wd.JOB_CTRL k, 0, 1⟩
def Wd.JOB_STATUS (k : Nat) : Nat := 0x20204 + 0x10 * k
def Reg.JSTATE (k : Nat) : Field := ⟨Wd.JOB_STATUS k, 0, 3⟩
def Reg.LAG (k : Nat) : Field := ⟨Wd.JOB_STATUS k, 3, 1⟩
def Reg.PERSISTED (k : Nat) : Field := ⟨Wd.JOB_STATUS k, 4, 1⟩
def Reg.ABORT_RUN (k : Nat) : Field := ⟨Wd.JOB_STATUS k, 8, 8⟩
def Reg.SKIPPED (k : Nat) : Field := ⟨Wd.JOB_STATUS k, 16, 16⟩
def Wd.JOB_INFO (k : Nat) : Nat := 0x20208 + 0x10 * k
def Reg.JOB_ID (k : Nat) : Field := ⟨Wd.JOB_INFO k, 0, 16⟩
def Reg.JOB_CUBITS (k : Nat) : Field := ⟨Wd.JOB_INFO k, 16, 8⟩
def Reg.JOB_PERIOD_M1 (k : Nat) : Field := ⟨Wd.JOB_INFO k, 24, 8⟩
def Wd.JOB_LAST (k : Nat) : Nat := 0x2020c + 0x10 * k
def Reg.JOB_LAST_LAST_SPAN (k : Nat) : Field := ⟨Wd.JOB_LAST k, 0, 32⟩

/-! ### Words and fields of spec/07_impedance_and_cell_models.md -/

def Wd.Z_CTRL : Nat := 0x20400
def Reg.ZL_EN : Field := ⟨Wd.Z_CTRL, 0, 1⟩
def Reg.COH_TH : Field := ⟨Wd.Z_CTRL, 8, 8⟩
def Reg.Z_SETTLE : Field := ⟨Wd.Z_CTRL, 16, 8⟩
def Wd.ZL_CFG : Nat := 0x20404
def Reg.ZL_CYC : Field := ⟨Wd.ZL_CFG, 0, 5⟩
def Reg.ZL_AVG : Field := ⟨Wd.ZL_CFG, 8, 5⟩
def Reg.ZL_IMIN : Field := ⟨Wd.ZL_CFG, 16, 16⟩
def Wd.Z_REP : Nat := 0x20408
def Reg.Z_MAXAGE : Field := ⟨Wd.Z_REP, 0, 16⟩
def Reg.Z_ROT : Field := ⟨Wd.Z_REP, 16, 7⟩
def Wd.EXC_CFG : Nat := 0x2040c
def Reg.EXC_GUARD : Field := ⟨Wd.EXC_CFG, 0, 8⟩
def Wd.Z_TAU_SH : Nat := 0x20410
def Reg.TAU_SHUNT : Field := ⟨Wd.Z_TAU_SH, 0, 16⟩
def Wd.Z_TAU_TAP (i : Nat) : Nat := 0x20414 + 0x4 * i
def Reg.TAU_TAP (i : Nat) : Field := ⟨Wd.Z_TAU_TAP i, 0, 16⟩
def Wd.EXC_STATUS : Nat := 0x20440
def Reg.EXC_STATE : Field := ⟨Wd.EXC_STATUS, 0, 2⟩
def Reg.EXC_COMPLETE : Field := ⟨Wd.EXC_STATUS, 8, 7⟩
def Reg.EXC_PARTIAL : Field := ⟨Wd.EXC_STATUS, 16, 7⟩
def Reg.EXC_CUT : Field := ⟨Wd.EXC_STATUS, 24, 7⟩
def Wd.EXC_TIER (i : Nat) : Nat := 0x20444 + 0x4 * i
def Reg.EXC_CELL (i : Nat) : Field := ⟨Wd.EXC_TIER i, 0, 7⟩
def Reg.EXC_BAND (i : Nat) : Field := ⟨Wd.EXC_TIER i, 7, 3⟩
def Reg.EXC_J (i : Nat) : Field := ⟨Wd.EXC_TIER i, 10, 5⟩
def Reg.EXC_SETTLING (i : Nat) : Field := ⟨Wd.EXC_TIER i, 15, 1⟩
def Reg.EXC_REP (i : Nat) : Field := ⟨Wd.EXC_TIER i, 16, 7⟩
def Reg.EXC_TONES (i : Nat) : Field := ⟨Wd.EXC_TIER i, 24, 5⟩
def Wd.ENS_OBS : Nat := 0x20500
def Reg.ENS_Z_OBS : Field := ⟨Wd.ENS_OBS, 0, 1⟩
def Reg.RESAMP_TH : Field := ⟨Wd.ENS_OBS, 8, 8⟩
def Reg.GAP_IBOUND : Field := ⟨Wd.ENS_OBS, 16, 16⟩
def Wd.CELL_MODEL (i : Nat) : Nat := 0x20520 + 0x4 * i
def Reg.CELL_MODEL_ALL (i : Nat) : Field := ⟨Wd.CELL_MODEL i, 0, 32⟩
def Wd.MODEL_STATUS (k : Nat) : Nat := 0x20540 + 0x8 * k
def Reg.MP_STATE (k : Nat) : Field := ⟨Wd.MODEL_STATUS k, 0, 2⟩
def Reg.MP_VER (k : Nat) : Field := ⟨Wd.MODEL_STATUS k, 8, 8⟩
def Reg.MP_CELLS (k : Nat) : Field := ⟨Wd.MODEL_STATUS k, 16, 7⟩
def Wd.MODEL_ID (k : Nat) : Nat := 0x20544 + 0x8 * k
def Reg.MP_ID_NOW (k : Nat) : Field := ⟨Wd.MODEL_ID k, 0, 32⟩
def Wd.SENS_MAP (i : Nat) : Nat := 0x20600 + 0x4 * i
def Reg.MAP_POS (i : Nat) : Field := ⟨Wd.SENS_MAP i, 0, 9⟩
def Reg.MAP_GROUP (i : Nat) : Field := ⟨Wd.SENS_MAP i, 9, 3⟩
def Reg.MAP_EN (i : Nat) : Field := ⟨Wd.SENS_MAP i, 12, 1⟩
def Wd.PL_CFG : Nat := 0x20960
def Reg.PL_TH : Field := ⟨Wd.PL_CFG, 0, 8⟩
def Reg.NB_AGREE : Field := ⟨Wd.PL_CFG, 8, 8⟩
def Reg.PL_COUNT : Field := ⟨Wd.PL_CFG, 16, 4⟩
def Reg.NB_RANGE : Field := ⟨Wd.PL_CFG, 20, 8⟩
def Wd.PL_STATUS (i : Nat) : Nat := 0x20980 + 0x4 * i
def Reg.PL_STATUS_ALL (i : Nat) : Field := ⟨Wd.PL_STATUS i, 0, 32⟩

/-! ### Words and fields of spec/08_balancing_and_loops.md -/

def Wd.CH_CFG (k : Nat) : Nat := 0x30000 + 0x200 * k
def Reg.CH_CLAMP (k : Nat) : Field := ⟨Wd.CH_CFG k, 0, 13⟩
def Reg.SLEW (k : Nat) : Field := ⟨Wd.CH_CFG k, 16, 8⟩
def Reg.T_SRC (k : Nat) : Field := ⟨Wd.CH_CFG k, 24, 8⟩
def Wd.CH_CFG2 (k : Nat) : Nat := 0x30004 + 0x200 * k
def Reg.SUP_MODE (k : Nat) : Field := ⟨Wd.CH_CFG2 k, 0, 2⟩
def Reg.IL_EN (k : Nat) : Field := ⟨Wd.CH_CFG2 k, 2, 1⟩
def Reg.FF_CLAMP (k : Nat) : Field := ⟨Wd.CH_CFG2 k, 16, 12⟩
def Wd.CH_LIVE (k : Nat) : Nat := 0x30008 + 0x200 * k
def Reg.FF_EN (k : Nat) : Field := ⟨Wd.CH_LIVE k, 0, 1⟩
def Wd.CH_FF_STATIC (k : Nat) : Nat := 0x3000c + 0x200 * k
def Reg.FF_DEAD (k : Nat) : Field := ⟨Wd.CH_FF_STATIC k, 0, 12⟩
def Reg.FF_MIN (k : Nat) : Field := ⟨Wd.CH_FF_STATIC k, 16, 12⟩
def Wd.CH_IRCOMP (k : Nat) : Nat := 0x30010 + 0x200 * k
def Reg.IR_COMP (k : Nat) : Field := ⟨Wd.CH_IRCOMP k, 0, 16⟩
def Wd.FF_POS (k i : Nat) : Nat := 0x30140 + 0x200 * k + 0x4 * i
def Reg.FF_E_LO (k i : Nat) : Field := ⟨Wd.FF_POS k i, 0, 16⟩
def Reg.FF_E_HI (k i : Nat) : Field := ⟨Wd.FF_POS k i, 16, 16⟩
def Wd.CH_STATUS (k : Nat) : Nat := 0x301c0 + 0x200 * k
def Reg.CH_STATE (k : Nat) : Field := ⟨Wd.CH_STATUS k, 0, 3⟩
def Reg.WIN_LOOP (k : Nat) : Field := ⟨Wd.CH_STATUS k, 3, 2⟩
def Reg.SUP_OSC (k : Nat) : Field := ⟨Wd.CH_STATUS k, 5, 1⟩
def Reg.UNDIAGNOSED (k : Nat) : Field := ⟨Wd.CH_STATUS k, 6, 1⟩
def Reg.LAST_FINDING (k : Nat) : Field := ⟨Wd.CH_STATUS k, 7, 4⟩
def Reg.DIAG_AGE (k : Nat) : Field := ⟨Wd.CH_STATUS k, 16, 16⟩
def Wd.CH_OUT (k : Nat) : Nat := 0x301c4 + 0x200 * k
def Reg.CMD_NOW (k : Nat) : Field := ⟨Wd.CH_OUT k, 0, 16⟩
def Reg.I_NOW (k : Nat) : Field := ⟨Wd.CH_OUT k, 16, 16⟩
def Wd.CH_TARGET (k : Nat) : Nat := 0x301c8 + 0x200 * k
def Reg.TARGET (k : Nat) : Field := ⟨Wd.CH_TARGET k, 0, 16⟩
def Reg.VLOOP (k : Nat) : Field := ⟨Wd.CH_TARGET k, 16, 16⟩
def Wd.CH_SUP (k : Nat) : Nat := 0x301cc + 0x200 * k
def Reg.SUP_FAILS (k : Nat) : Field := ⟨Wd.CH_SUP k, 0, 4⟩
def Reg.OSC_COUNT (k : Nat) : Field := ⟨Wd.CH_SUP k, 4, 8⟩
def Reg.R_SUP (k : Nat) : Field := ⟨Wd.CH_SUP k, 16, 16⟩
def Wd.CH_COUNTS (k : Nat) : Nat := 0x301d0 + 0x200 * k
def Reg.TRIPS (k : Nat) : Field := ⟨Wd.CH_COUNTS k, 0, 16⟩
def Reg.DIAG_PULSES (k : Nat) : Field := ⟨Wd.CH_COUNTS k, 16, 16⟩
def Wd.LOOP_CTRL (b : Nat) : Nat := b + 0
def Reg.FREEZE (b : Nat) : Field := ⟨Wd.LOOP_CTRL b, 0, 1⟩
def Reg.LAW (b : Nat) : Field := ⟨Wd.LOOP_CTRL b, 1, 1⟩
def Reg.FORM (b : Nat) : Field := ⟨Wd.LOOP_CTRL b, 2, 1⟩
def Wd.LOOP_HYST (b : Nat) : Nat := b + 4
def Reg.H_LO (b : Nat) : Field := ⟨Wd.LOOP_HYST b, 0, 16⟩
def Reg.H_HI (b : Nat) : Field := ⟨Wd.LOOP_HYST b, 16, 16⟩
def Wd.LOOP_HLEV (b : Nat) : Nat := b + 8
def Reg.H_ON (b : Nat) : Field := ⟨Wd.LOOP_HLEV b, 0, 16⟩
def Reg.H_OFF (b : Nat) : Field := ⟨Wd.LOOP_HLEV b, 16, 16⟩
def Wd.LOOP_LIM (b : Nat) : Nat := b + 12
def Reg.LIM (b : Nat) : Field := ⟨Wd.LOOP_LIM b, 0, 16⟩
def Wd.LUT (b : Nat) (i : Nat) : Nat := b + 16 + 4 * i
def Reg.E_BP (b : Nat) (i : Nat) : Field := ⟨Wd.LUT b i, 0, 16⟩
def Reg.G (b : Nat) (i : Nat) : Field := ⟨Wd.LUT b i, 16, 16⟩
def Wd.BT_CTRL (k : Nat) : Nat := 0x3e000 + 0x100 * k
def Reg.BAL_MODE (k : Nat) : Field := ⟨Wd.BT_CTRL k, 0, 2⟩
def Reg.PASSIVE_PERIOD (k : Nat) : Field := ⟨Wd.BT_CTRL k, 2, 3⟩
def Reg.DIAG_EN (k : Nat) : Field := ⟨Wd.BT_CTRL k, 5, 1⟩
def Reg.ETA (k : Nat) : Field := ⟨Wd.BT_CTRL k, 16, 8⟩
def Wd.BT_STAGE (k : Nat) : Nat := 0x3e004 + 0x100 * k
def Reg.R_S (k : Nat) : Field := ⟨Wd.BT_STAGE k, 0, 16⟩
def Reg.R_BLEED (k : Nat) : Field := ⟨Wd.BT_STAGE k, 16, 16⟩
def Wd.BT_TRIP (k : Nat) : Nat := 0x3e008 + 0x100 * k
def Reg.I_TRIP (k : Nat) : Field := ⟨Wd.BT_TRIP k, 0, 14⟩
def Wd.BT_STATUS (k : Nat) : Nat := 0x3e080 + 0x100 * k
def Reg.P_TIER (k : Nat) : Field := ⟨Wd.BT_STATUS k, 0, 16⟩
def Reg.U_BUD (k : Nat) : Field := ⟨Wd.BT_STATUS k, 16, 16⟩
def Wd.BAL_STATUS : Nat := 0x3f000
def Reg.N_RUN : Field := ⟨Wd.BAL_STATUS, 0, 7⟩
def Reg.N_TRIPPED : Field := ⟨Wd.BAL_STATUS, 8, 7⟩
def Reg.N_FAULT : Field := ⟨Wd.BAL_STATUS, 16, 7⟩
def Reg.LEASE_LIVE : Field := ⟨Wd.BAL_STATUS, 23, 1⟩
def Wd.SUP_CFG : Nat := 0x3f010
def Reg.SUP_STEP : Field := ⟨Wd.SUP_CFG, 0, 8⟩
def Reg.SUP_QUIET : Field := ⟨Wd.SUP_CFG, 8, 8⟩
def Reg.SUP_RLO : Field := ⟨Wd.SUP_CFG, 16, 8⟩
def Reg.SUP_RHI : Field := ⟨Wd.SUP_CFG, 24, 8⟩
def Wd.SUP_CFG2 : Nat := 0x3f014
def Reg.SUP_TRIP : Field := ⟨Wd.SUP_CFG2, 0, 4⟩
def Reg.SUP_BIN_SPAN : Field := ⟨Wd.SUP_CFG2, 4, 4⟩
def Reg.SUP_AGE : Field := ⟨Wd.SUP_CFG2, 16, 16⟩
def Wd.BAL_OSC_CFG : Nat := 0x3f018
def Reg.OSC_WIN : Field := ⟨Wd.BAL_OSC_CFG, 0, 8⟩
def Reg.OSC_MAX : Field := ⟨Wd.BAL_OSC_CFG, 8, 8⟩
def Reg.OSC_BAND : Field := ⟨Wd.BAL_OSC_CFG, 16, 8⟩

/-! ### Words and fields of spec/09_thermal_and_sensor_strings.md -/

def Wd.TH_CFG (k i : Nat) : Nat := 0x10c00 + 0x2000 * k + 0x4 * i
def Reg.TH_TYPE (k i : Nat) : Field := ⟨Wd.TH_CFG k i, 0, 2⟩
def Reg.TH_BETA (k i : Nat) : Field := ⟨Wd.TH_CFG k i, 16, 16⟩
def Wd.TH_R25 (k i : Nat) : Nat := 0x10c10 + 0x2000 * k + 0x4 * i
def Reg.R25 (k i : Nat) : Field := ⟨Wd.TH_R25 k i, 0, 24⟩
def Wd.TH_SH (k i : Nat) : Nat := 0x10c20 + 0x2000 * k + 0x4 * i
def Reg.SH_COEF (k i : Nat) : Field := ⟨Wd.TH_SH k i, 0, 32⟩
def Wd.TH_PU (k : Nat) : Nat := 0x10c50 + 0x2000 * k
/-- DESIGN CHOICE (log entry 8). -/
def Reg.TH_PU_MOHM (k : Nat) : Field := ⟨Wd.TH_PU k, 0, 24⟩
def Wd.STR_CFG (k i : Nat) : Nat := 0x10c60 + 0x2000 * k + 0x4 * i
def Reg.STR_COUNT (k i : Nat) : Field := ⟨Wd.STR_CFG k i, 0, 5⟩
def Reg.STR_EN (k i : Nat) : Field := ⟨Wd.STR_CFG k i, 5, 1⟩
def Reg.STR_PERIOD (k i : Nat) : Field := ⟨Wd.STR_CFG k i, 6, 10⟩
def Reg.STR_MISS (k i : Nat) : Field := ⟨Wd.STR_CFG k i, 16, 4⟩
def Wd.DIE_CFG (k : Nat) : Nat := 0x10c70 + 0x2000 * k
def Reg.DIE_OT (k : Nat) : Field := ⟨Wd.DIE_CFG k, 0, 8⟩
def Reg.DIE_HYST (k : Nat) : Field := ⟨Wd.DIE_CFG k, 8, 8⟩
def Wd.TMP_STATUS (k : Nat) : Nat := 0x10c80 + 0x2000 * k
def Reg.TH_OPEN (k : Nat) : Field := ⟨Wd.TMP_STATUS k, 0, 4⟩
def Reg.TH_SHORT (k : Nat) : Field := ⟨Wd.TMP_STATUS k, 4, 4⟩
def Reg.DIE_EXCL (k : Nat) : Field := ⟨Wd.TMP_STATUS k, 8, 3⟩
def Reg.COMP_HELD (k : Nat) : Field := ⟨Wd.TMP_STATUS k, 11, 1⟩
def Reg.DIE_OT_ACTIVE (k : Nat) : Field := ⟨Wd.TMP_STATUS k, 12, 1⟩
def Reg.T_DIE (k : Nat) : Field := ⟨Wd.TMP_STATUS k, 16, 16⟩
def Wd.STR_STATUS (k i : Nat) : Nat := 0x10c84 + 0x2000 * k + 0x4 * i
def Reg.STR_FOUND (k i : Nat) : Field := ⟨Wd.STR_STATUS k i, 0, 5⟩
def Reg.STR_STATE (k i : Nat) : Field := ⟨Wd.STR_STATUS k i, 5, 2⟩
def Reg.STR_PRESENT (k i : Nat) : Field := ⟨Wd.STR_STATUS k i, 16, 16⟩
def Wd.STR_ERR (k i : Nat) : Nat := 0x10c8c + 0x2000 * k + 0x4 * i
def Reg.ERR_PULSE (k i : Nat) : Field := ⟨Wd.STR_ERR k i, 0, 8⟩
def Reg.ERR_SLOT (k i : Nat) : Field := ⟨Wd.STR_ERR k i, 8, 8⟩
def Reg.ERR_CRC (k i : Nat) : Field := ⟨Wd.STR_ERR k i, 16, 8⟩
def Reg.ERR_POS (k i : Nat) : Field := ⟨Wd.STR_ERR k i, 24, 8⟩
def Wd.STR_FLT (k i : Nat) : Nat := 0x10c94 + 0x2000 * k + 0x4 * i
def Reg.SAT_FLT (k i : Nat) : Field := ⟨Wd.STR_FLT k i, 0, 16⟩
def Wd.TEMP_WORD (i : Nat) : Nat := 0x40000 + 0x4 * i
def Reg.TEMP_WORD (i : Nat) : Field := ⟨Wd.TEMP_WORD i, 0, 32⟩
def Wd.TIER_DIE_WORD (i : Nat) : Nat := 0x40400 + 0x4 * i
def Reg.TIER_DIE_WORD (i : Nat) : Field := ⟨Wd.TIER_DIE_WORD i, 0, 32⟩
def Wd.BASE_DIE_WORD (i : Nat) : Nat := 0x40480 + 0x4 * i
def Reg.BASE_DIE_WORD (i : Nat) : Field := ⟨Wd.BASE_DIE_WORD i, 0, 32⟩
def Wd.TO_CTRL : Nat := 0x40800
def Reg.TO_MODE : Field := ⟨Wd.TO_CTRL, 0, 2⟩
def Reg.TO_SENSE : Field := ⟨Wd.TO_CTRL, 2, 1⟩
def Reg.THO_FREQ : Field := ⟨Wd.TO_CTRL, 3, 1⟩
def Reg.TACH_EN : Field := ⟨Wd.TO_CTRL, 4, 1⟩
def Reg.TACH_PPR : Field := ⟨Wd.TO_CTRL, 5, 2⟩
def Reg.TO_T_SRC : Field := ⟨Wd.TO_CTRL, 8, 8⟩
def Reg.TD_HOLD : Field := ⟨Wd.TO_CTRL, 16, 8⟩
def Reg.BASE_OT : Field := ⟨Wd.TO_CTRL, 24, 8⟩
def Wd.TO_DUTY : Nat := 0x40804
def Reg.DUTY_MIN : Field := ⟨Wd.TO_DUTY, 0, 11⟩
def Reg.DUTY_MAX : Field := ⟨Wd.TO_DUTY, 16, 11⟩
def Wd.TO_SLEW : Nat := 0x40808
def Reg.DUTY_SLEW : Field := ⟨Wd.TO_SLEW, 0, 11⟩
def Reg.NR_DUTY : Field := ⟨Wd.TO_SLEW, 16, 11⟩
def Wd.TO_TACH : Nat := 0x4080c
def Reg.SPIN_WIN : Field := ⟨Wd.TO_TACH, 0, 16⟩
def Reg.TACH_TO : Field := ⟨Wd.TO_TACH, 16, 16⟩
def Wd.TO_TACH2 : Nat := 0x40810
def Reg.TACH_MIN_DUTY : Field := ⟨Wd.TO_TACH2, 0, 11⟩
def Reg.RPM_MAX : Field := ⟨Wd.TO_TACH2, 16, 16⟩
def Wd.TO_OUTER : Nat := 0x40814
def Reg.KP_T : Field := ⟨Wd.TO_OUTER, 0, 16⟩
def Reg.KI_T : Field := ⟨Wd.TO_OUTER, 16, 16⟩
def Wd.TO_INNER : Nat := 0x40818
def Reg.KP_S : Field := ⟨Wd.TO_INNER, 0, 16⟩
def Reg.KI_S : Field := ⟨Wd.TO_INNER, 16, 16⟩
def Wd.TO_FF : Nat := 0x4081c
def Reg.FF_D0 : Field := ⟨Wd.TO_FF, 0, 11⟩
def Reg.FF_D1 : Field := ⟨Wd.TO_FF, 16, 11⟩
def Wd.TO_TSP : Nat := 0x40820
def Reg.TSP_0 : Field := ⟨Wd.TO_TSP, 0, 16⟩
def Reg.TSP_1024 : Field := ⟨Wd.TO_TSP, 16, 16⟩
def Wd.TO_STATUS : Nat := 0x40828
def Reg.TO_STATE : Field := ⟨Wd.TO_STATUS, 0, 3⟩
def Reg.TO_LEASE : Field := ⟨Wd.TO_STATUS, 3, 1⟩
def Reg.DEMAND_OK : Field := ⟨Wd.TO_STATUS, 4, 1⟩
def Reg.TEMP_OK : Field := ⟨Wd.TO_STATUS, 5, 1⟩
def Reg.SRC_NOW : Field := ⟨Wd.TO_STATUS, 6, 2⟩
def Reg.DEMAND_NOW : Field := ⟨Wd.TO_STATUS, 16, 16⟩
def Wd.TO_OUT : Nat := 0x4082c
def Reg.DUTY_NOW : Field := ⟨Wd.TO_OUT, 0, 11⟩
def Reg.RPM_NOW : Field := ⟨Wd.TO_OUT, 16, 16⟩
def Wd.TO_SPEED : Nat := 0x40830
def Reg.S_NOW : Field := ⟨Wd.TO_SPEED, 0, 16⟩
def Reg.FF_BIAS : Field := ⟨Wd.TO_SPEED, 16, 16⟩

/-! ### Words and fields of spec/10_rinsa_chain.md -/

def Wd.CHN_CTRL : Nat := 0x50000
def Reg.HEAD_EN : Field := ⟨Wd.CHN_CTRL, 0, 1⟩
def Reg.DN_EN : Field := ⟨Wd.CHN_CTRL, 1, 1⟩
def Reg.UP_EN : Field := ⟨Wd.CHN_CTRL, 2, 1⟩
def Reg.AUTO_ROUTE : Field := ⟨Wd.CHN_CTRL, 3, 1⟩
def Reg.RPT_DIR : Field := ⟨Wd.CHN_CTRL, 4, 2⟩
def Reg.RATE_MODE : Field := ⟨Wd.CHN_CTRL, 6, 2⟩
def Wd.CHN_CFG : Nat := 0x50004
def Reg.ERR_FALLBACK : Field := ⟨Wd.CHN_CFG, 0, 8⟩
def Reg.RATE_RETRY : Field := ⟨Wd.CHN_CFG, 8, 8⟩
def Reg.CREDIT_TO : Field := ⟨Wd.CHN_CFG, 16, 16⟩
def Wd.CHN_CMD : Nat := 0x50008
def Reg.ENUM_GO : Field := ⟨Wd.CHN_CMD, 0, 1⟩
def Reg.CNT_CLR : Field := ⟨Wd.CHN_CMD, 1, 1⟩
def Wd.CHN_STATUS : Nat := 0x50040
def Reg.POS_UPH : Field := ⟨Wd.CHN_STATUS, 0, 6⟩
def Reg.POS_DNH : Field := ⟨Wd.CHN_STATUS, 6, 6⟩
def Reg.TOPOLOGY : Field := ⟨Wd.CHN_STATUS, 12, 2⟩
def Reg.RING_N : Field := ⟨Wd.CHN_STATUS, 14, 6⟩
def Reg.ENUMERATED : Field := ⟨Wd.CHN_STATUS, 20, 1⟩
def Reg.BREAK_KNOWN : Field := ⟨Wd.CHN_STATUS, 21, 1⟩
def Reg.BREAK_POS : Field := ⟨Wd.CHN_STATUS, 22, 6⟩
def Reg.HEAD_NOW : Field := ⟨Wd.CHN_STATUS, 28, 1⟩
def Wd.CHN_STATUS2 : Nat := 0x50044
def Reg.ENUM_GEN : Field := ⟨Wd.CHN_STATUS2, 0, 8⟩
def Wd.PORT_STATUS (i : Nat) : Nat := 0x50048 + 0x4 * i
def Reg.PSTATE (i : Nat) : Field := ⟨Wd.PORT_STATUS i, 0, 3⟩
def Reg.FALLBACK (i : Nat) : Field := ⟨Wd.PORT_STATUS i, 3, 1⟩
def Reg.CREDITS (i : Nat) : Field := ⟨Wd.PORT_STATUS i, 4, 4⟩
def Reg.TXQ (i : Nat) : Field := ⟨Wd.PORT_STATUS i, 8, 6⟩
def Reg.RXBUF (i : Nat) : Field := ⟨Wd.PORT_STATUS i, 14, 4⟩
def Reg.RATE_BACKOFF (i : Nat) : Field := ⟨Wd.PORT_STATUS i, 24, 3⟩
def Wd.PC_RX (k : Nat) : Nat := 0x50060 + 0x10 * k
def Reg.HDR_ERR (k : Nat) : Field := ⟨Wd.PC_RX k, 0, 16⟩
def Reg.CRC_ERR (k : Nat) : Field := ⟨Wd.PC_RX k, 16, 16⟩
def Wd.PC_LINE (k : Nat) : Nat := 0x50064 + 0x10 * k
def Reg.CODE_ERR (k : Nat) : Field := ⟨Wd.PC_LINE k, 0, 16⟩
def Reg.ABORT_RX (k : Nat) : Field := ⟨Wd.PC_LINE k, 16, 16⟩
def Wd.PC_DROP (k : Nat) : Nat := 0x50068 + 0x10 * k
def Reg.FWD_DROP (k : Nat) : Field := ⟨Wd.PC_DROP k, 0, 16⟩
def Reg.TXQ_DROP (k : Nat) : Field := ⟨Wd.PC_DROP k, 16, 16⟩
def Wd.PC_DEST (k : Nat) : Nat := 0x5006c + 0x10 * k
def Reg.NO_DEST (k : Nat) : Field := ⟨Wd.PC_DEST k, 0, 16⟩
def Reg.RX_DROP (k : Nat) : Field := ⟨Wd.PC_DEST k, 16, 16⟩
def Wd.BEACON_LAST : Nat := 0x50080
def Reg.BCN_ORIGIN : Field := ⟨Wd.BEACON_LAST, 0, 6⟩
def Reg.BCN_AWAY : Field := ⟨Wd.BEACON_LAST, 6, 1⟩
def Reg.BCN_PORT : Field := ⟨Wd.BEACON_LAST, 7, 1⟩
def Reg.BCN_GRAIN : Field := ⟨Wd.BEACON_LAST, 8, 12⟩
def Reg.BCN_SPAN : Field := ⟨Wd.BEACON_LAST, 20, 12⟩
def Wd.BEACON_COUNT : Nat := 0x50084
def Reg.BCN_COUNT : Field := ⟨Wd.BEACON_COUNT, 0, 16⟩

/-! ### Words and fields of spec/11_commands_and_integrity.md -/

def Wd.HP_CTRL : Nat := 0x60000
def Reg.HOST_RPT : Field := ⟨Wd.HP_CTRL, 0, 1⟩
def Reg.PEND_ALERT : Field := ⟨Wd.HP_CTRL, 1, 1⟩
def Reg.STAGE_TO : Field := ⟨Wd.HP_CTRL, 16, 16⟩
def Wd.RPT_CFG : Nat := 0x60004
def Reg.RPT_EVENT : Field := ⟨Wd.RPT_CFG, 0, 1⟩
def Reg.RPT_CELLS : Field := ⟨Wd.RPT_CFG, 1, 1⟩
def Reg.RPT_CUR : Field := ⟨Wd.RPT_CFG, 2, 1⟩
def Reg.RPT_TEMPS : Field := ⟨Wd.RPT_CFG, 3, 1⟩
def Reg.RPT_ANALYSIS : Field := ⟨Wd.RPT_CFG, 4, 1⟩
def Reg.CELL_FMT : Field := ⟨Wd.RPT_CFG, 5, 1⟩
def Reg.RPT_DIV : Field := ⟨Wd.RPT_CFG, 8, 8⟩
def Reg.TEMPS_DIV : Field := ⟨Wd.RPT_CFG, 16, 8⟩
def Wd.HP_STATUS : Nat := 0x60040
def Reg.HQ_DEPTH : Field := ⟨Wd.HP_STATUS, 0, 7⟩
def Reg.IN_DEPTH : Field := ⟨Wd.HP_STATUS, 7, 3⟩
def Reg.STAGE_HELD : Field := ⟨Wd.HP_STATUS, 10, 1⟩
def Reg.STAGE_OWNER : Field := ⟨Wd.HP_STATUS, 11, 2⟩
def Reg.XFER_OPEN : Field := ⟨Wd.HP_STATUS, 13, 1⟩
def Reg.XFER_OWNER : Field := ⟨Wd.HP_STATUS, 14, 2⟩
def Reg.COMMIT_SCHED : Field := ⟨Wd.HP_STATUS, 16, 1⟩
def Reg.FWQ_DEPTH : Field := ⟨Wd.HP_STATUS, 17, 5⟩
def Wd.SEQ_HSEQ (i : Nat) : Nat := 0x60048 + 0x4 * i
def Reg.LAST_HSEQ (i : Nat) : Field := ⟨Wd.SEQ_HSEQ i, 0, 16⟩
def Reg.LAST_BHSEQ (i : Nat) : Field := ⟨Wd.SEQ_HSEQ i, 16, 16⟩
def Wd.SEQ_DSEQ : Nat := 0x60058
/-- DEDUCED (log entry 7). -/
def Reg.LAST_DSEQ : Field := ⟨Wd.SEQ_DSEQ, 0, 16⟩
def Reg.OLDEST_DSEQ : Field := ⟨Wd.SEQ_DSEQ, 16, 16⟩
def Wd.SEQ_INFO : Nat := 0x6005c
def Reg.HELD : Field := ⟨Wd.SEQ_INFO, 0, 13⟩
def Reg.BOOT_COUNT : Field := ⟨Wd.SEQ_INFO, 16, 16⟩
def Wd.HP_COUNTS : Nat := 0x60060
def Reg.SPI_DROP : Field := ⟨Wd.HP_COUNTS, 0, 16⟩
def Reg.SPI_ERR : Field := ⟨Wd.HP_COUNTS, 16, 16⟩
def Wd.HP_COUNTS2 : Nat := 0x60064
def Reg.HQ_DROP : Field := ⟨Wd.HP_COUNTS2, 0, 16⟩
def Reg.GAP_COUNT : Field := ⟨Wd.HP_COUNTS2, 16, 16⟩
def Wd.CV_CTRL (k : Nat) : Nat := 0xb0000 + 0x20 * k
def Reg.CV_EN (k : Nat) : Field := ⟨Wd.CV_CTRL k, 0, 1⟩
def Reg.CV_POLY (k : Nat) : Field := ⟨Wd.CV_CTRL k, 1, 2⟩
def Reg.CV_SPACE (k : Nat) : Field := ⟨Wd.CV_CTRL k, 3, 1⟩
def Reg.CV_CAPTURE (k : Nat) : Field := ⟨Wd.CV_CTRL k, 4, 1⟩
def Reg.CV_PERIOD (k : Nat) : Field := ⟨Wd.CV_CTRL k, 16, 16⟩
def Wd.CV_BASE (k : Nat) : Nat := 0xb0004 + 0x20 * k
def Reg.CV_BASE (k : Nat) : Field := ⟨Wd.CV_BASE k, 0, 32⟩
def Wd.CV_LEN (k : Nat) : Nat := 0xb0008 + 0x20 * k
def Reg.CV_LEN (k : Nat) : Field := ⟨Wd.CV_LEN k, 0, 23⟩
def Wd.CV_EXPECT (k : Nat) : Nat := 0xb000c + 0x20 * k
def Reg.CV_EXPECT (k : Nat) : Field := ⟨Wd.CV_EXPECT k, 0, 32⟩
def Wd.CV_RESULT (k : Nat) : Nat := 0xb0010 + 0x20 * k
def Reg.CV_RESULT (k : Nat) : Field := ⟨Wd.CV_RESULT k, 0, 32⟩
def Wd.CV_REF (k : Nat) : Nat := 0xb0014 + 0x20 * k
def Reg.CV_REF (k : Nat) : Field := ⟨Wd.CV_REF k, 0, 32⟩
def Wd.CV_STATUS (k : Nat) : Nat := 0xb0018 + 0x20 * k
def Reg.CV_MISMATCH (k : Nat) : Field := ⟨Wd.CV_STATUS k, 0, 1⟩
def Reg.REF_VALID (k : Nat) : Field := ⟨Wd.CV_STATUS k, 1, 1⟩
def Reg.MISMATCH_COUNT (k : Nat) : Field := ⟨Wd.CV_STATUS k, 16, 16⟩
def Wd.PART_CRC (i : Nat) : Nat := 0xb0080 + 0x4 * i
def Reg.PART_EXPECT (i : Nat) : Field := ⟨Wd.PART_CRC i, 0, 16⟩
def Reg.PART_NOW (i : Nat) : Field := ⟨Wd.PART_CRC i, 16, 16⟩

/-! ### Words and fields of spec/12_events_and_alarms.md -/

def Wd.EVT_CFG (i : Nat) : Nat := 0x70000 + 0x4 * i
def Reg.SEV (i : Nat) : Field := ⟨Wd.EVT_CFG i, 0, 2⟩
def Reg.LATCH_EN (i : Nat) : Field := ⟨Wd.EVT_CFG i, 2, 1⟩
def Reg.HF_EN (i : Nat) : Field := ⟨Wd.EVT_CFG i, 3, 1⟩
def Reg.BCN_EN (i : Nat) : Field := ⟨Wd.EVT_CFG i, 4, 1⟩
def Reg.WAKE_EN (i : Nat) : Field := ⟨Wd.EVT_CFG i, 5, 1⟩
def Reg.CLASS (i : Nat) : Field := ⟨Wd.EVT_CFG i, 8, 4⟩
def Wd.EVT_STATE (i : Nat) : Nat := 0x71000 + 0x4 * i
def Reg.LATCHED (i : Nat) : Field := ⟨Wd.EVT_STATE i, 0, 1⟩
def Reg.MASKED (i : Nat) : Field := ⟨Wd.EVT_STATE i, 1, 1⟩
def Reg.CNT_SAT (i : Nat) : Field := ⟨Wd.EVT_STATE i, 2, 1⟩
def Reg.ACTIVE (i : Nat) : Field := ⟨Wd.EVT_STATE i, 3, 1⟩
def Reg.COUNT (i : Nat) : Field := ⟨Wd.EVT_STATE i, 16, 16⟩
def Wd.EVT_LAST (i : Nat) : Nat := 0x72000 + 0x4 * i
def Reg.EVT_LAST_LAST_SPAN (i : Nat) : Field := ⟨Wd.EVT_LAST i, 0, 32⟩
def Wd.EVT_MASKW (i : Nat) : Nat := 0x73000 + 0x4 * i
def Reg.MASK (i : Nat) : Field := ⟨Wd.EVT_MASKW i, 0, 32⟩
def Wd.EVT_CTRL : Nat := 0x73100
def Reg.ESC_EN : Field := ⟨Wd.EVT_CTRL, 0, 1⟩
def Reg.BCN_HF : Field := ⟨Wd.EVT_CTRL, 1, 1⟩
def Reg.RPT_SEV : Field := ⟨Wd.EVT_CTRL, 2, 2⟩
def Reg.HWIN : Field := ⟨Wd.EVT_CTRL, 8, 8⟩
def Wd.EVT_CLR : Nat := 0x73104
def Reg.CLR_FIRST : Field := ⟨Wd.EVT_CLR, 0, 10⟩
def Reg.CLR_COUNT : Field := ⟨Wd.EVT_CLR, 10, 10⟩
def Reg.CLR_GO : Field := ⟨Wd.EVT_CLR, 31, 1⟩
def Wd.BCN_ACK : Nat := 0x73108
def Reg.BCN_ACK_GO : Field := ⟨Wd.BCN_ACK, 0, 1⟩
def Wd.EVT_STATUS : Nat := 0x73180
def Reg.HALERT_NOW : Field := ⟨Wd.EVT_STATUS, 0, 1⟩
def Reg.HFAULT_NOW : Field := ⟨Wd.EVT_STATUS, 1, 1⟩
def Reg.WAKE_NOW : Field := ⟨Wd.EVT_STATUS, 2, 1⟩
def Reg.ESCALATED : Field := ⟨Wd.EVT_STATUS, 3, 1⟩
def Reg.EQ_DEPTH : Field := ⟨Wd.EVT_STATUS, 8, 9⟩
def Reg.ESC_COUNT : Field := ⟨Wd.EVT_STATUS, 17, 15⟩
def Wd.EVT_WIN : Nat := 0x73184
def Reg.WIN_OPEN : Field := ⟨Wd.EVT_WIN, 0, 16⟩
def Reg.WIN_FATAL : Field := ⟨Wd.EVT_WIN, 16, 16⟩
def Wd.CLASS_CNT (i : Nat) : Nat := 0x73140 + 0x4 * i
def Reg.CLASS_COUNT (i : Nat) : Field := ⟨Wd.CLASS_CNT i, 0, 16⟩
def Reg.CLASS_SAT (i : Nat) : Field := ⟨Wd.CLASS_CNT i, 16, 1⟩

/-! ### Words and fields of spec/13_modes_and_power.md -/

def Wd.MODE_CFG : Nat := 0x80000
def Reg.STORE_INT : Field := ⟨Wd.MODE_CFG, 0, 12⟩
def Reg.STORE_WAKE_EXIT : Field := ⟨Wd.MODE_CFG, 12, 1⟩
def Reg.STORE_IQ : Field := ⟨Wd.MODE_CFG, 16, 8⟩
def Wd.LEASE_CFG : Nat := 0x80004
def Reg.LEASE_WARN : Field := ⟨Wd.LEASE_CFG, 0, 16⟩
def Wd.VR_CFG : Nat := 0x80008
def Reg.VR_ADDR : Field := ⟨Wd.VR_CFG, 0, 7⟩
def Reg.VR_PEC : Field := ⟨Wd.VR_CFG, 7, 1⟩
def Reg.VC_ADAPT : Field := ⟨Wd.VR_CFG, 8, 1⟩
def Reg.VC_FIXED : Field := ⟨Wd.VR_CFG, 16, 10⟩
def Wd.MODE_STATUS : Nat := 0x80040
def Reg.MODE_NOW : Field := ⟨Wd.MODE_STATUS, 0, 3⟩
def Reg.MODE_PREV : Field := ⟨Wd.MODE_STATUS, 3, 3⟩
def Reg.MODE_CAUSE : Field := ⟨Wd.MODE_STATUS, 6, 2⟩
def Reg.HOLD_FABRIC : Field := ⟨Wd.MODE_STATUS, 8, 3⟩
def Wd.LEASE_ST (k : Nat) : Nat := 0x80050 + 0x8 * k
def Reg.LIVE (k : Nat) : Field := ⟨Wd.LEASE_ST k, 0, 1⟩
def Reg.HOLDER (k : Nat) : Field := ⟨Wd.LEASE_ST k, 1, 2⟩
def Reg.RUNNING (k : Nat) : Field := ⟨Wd.LEASE_ST k, 3, 1⟩
def Reg.E_HI (k : Nat) : Field := ⟨Wd.LEASE_ST k, 16, 16⟩
def Wd.LEASE_EL (k : Nat) : Nat := 0x80054 + 0x8 * k
def Reg.E_LO (k : Nat) : Field := ⟨Wd.LEASE_EL k, 0, 32⟩
def Wd.VC_STATUS : Nat := 0x80080
def Reg.VC_SET : Field := ⟨Wd.VC_STATUS, 0, 10⟩
def Reg.VR_CTRL : Field := ⟨Wd.VC_STATUS, 10, 1⟩
def Reg.VC_CONFIRMED : Field := ⟨Wd.VC_STATUS, 11, 1⟩
def Reg.FAB_CAPPED : Field := ⟨Wd.VC_STATUS, 12, 1⟩
def Reg.VC_READ : Field := ⟨Wd.VC_STATUS, 16, 10⟩
def Wd.RAIL_MEAS : Nat := 0x80084
def Reg.VCORE_MV : Field := ⟨Wd.RAIL_MEAS, 0, 11⟩
def Reg.VIO_MV : Field := ⟨Wd.RAIL_MEAS, 16, 11⟩
def Wd.AUX_MEAS : Nat := 0x80088
def Reg.AUX_MV : Field := ⟨Wd.AUX_MEAS, 0, 11⟩
def Wd.SLACK : Nat := 0x8008c
def Reg.SLACK_MIN : Field := ⟨Wd.SLACK, 0, 8⟩
def Wd.HO_STATUS : Nat := 0x80090
def Reg.HO_COUNT : Field := ⟨Wd.HO_STATUS, 0, 16⟩
def Reg.BOUNCE_COUNT : Field := ⟨Wd.HO_STATUS, 16, 16⟩
def Wd.HO_LAST : Nat := 0x80094
def Reg.HO_ABSENCE : Field := ⟨Wd.HO_LAST, 0, 32⟩
def Wd.STORE_LAST : Nat := 0x80098
def Reg.STORE_IQ_USED : Field := ⟨Wd.STORE_LAST, 0, 8⟩
def Reg.STORE_SAT_MASK : Field := ⟨Wd.STORE_LAST, 8, 6⟩
def Reg.STORE_RECORDS : Field := ⟨Wd.STORE_LAST, 16, 16⟩
def Wd.STORE_DRAW (k : Nat) : Nat := 0x10e00 + 0x2000 * k
def Reg.NAT_DRAW (k : Nat) : Field := ⟨Wd.STORE_DRAW k, 0, 12⟩
def Reg.STORE_SAT (k : Nat) : Field := ⟨Wd.STORE_DRAW k, 12, 1⟩
def Reg.BLEED_PCT (k : Nat) : Field := ⟨Wd.STORE_DRAW k, 16, 8⟩

/-! ### Words and fields of spec/14_two_wire_bus.md -/

def Wd.TW_CTRL : Nat := 0x90000
def Reg.TW_SPEED : Field := ⟨Wd.TW_CTRL, 0, 2⟩
def Reg.TW_PEC : Field := ⟨Wd.TW_CTRL, 2, 1⟩
def Reg.TW_ATTN : Field := ⟨Wd.TW_CTRL, 3, 1⟩
def Reg.TW_RPT : Field := ⟨Wd.TW_CTRL, 4, 1⟩
def Reg.TW_RECOVER : Field := ⟨Wd.TW_CTRL, 5, 1⟩
def Reg.ARB_MAX : Field := ⟨Wd.TW_CTRL, 8, 8⟩
def Wd.TW_TIME : Nat := 0x90004
def Reg.SCL_TO : Field := ⟨Wd.TW_TIME, 0, 8⟩
def Reg.SDA_TO : Field := ⟨Wd.TW_TIME, 8, 8⟩
def Reg.ATTN_GAP : Field := ⟨Wd.TW_TIME, 16, 8⟩
def Wd.ID_CFG : Nat := 0x90008
def Reg.ID_ADDR : Field := ⟨Wd.ID_CFG, 0, 7⟩
def Reg.ID_CRC : Field := ⟨Wd.ID_CFG, 7, 1⟩
def Reg.ID_LEN : Field := ⟨Wd.ID_CFG, 8, 7⟩
def Reg.ID_OFS : Field := ⟨Wd.ID_CFG, 16, 16⟩
def Wd.TW_STATUS : Nat := 0x90040
def Reg.TW_ADDR : Field := ⟨Wd.TW_STATUS, 0, 7⟩
def Reg.ID_VALID : Field := ⟨Wd.TW_STATUS, 7, 1⟩
def Reg.ID_FAIL : Field := ⟨Wd.TW_STATUS, 8, 1⟩
def Reg.SCL_STUCK : Field := ⟨Wd.TW_STATUS, 9, 1⟩
def Reg.SDA_STUCK : Field := ⟨Wd.TW_STATUS, 10, 1⟩
def Reg.BUS_IDLE : Field := ⟨Wd.TW_STATUS, 11, 1⟩
def Reg.TWQ_DEPTH : Field := ⟨Wd.TW_STATUS, 12, 5⟩
def Reg.TW_IN : Field := ⟨Wd.TW_STATUS, 17, 2⟩
def Wd.TW_COUNTS : Nat := 0x90044
def Reg.ARB_LOSS : Field := ⟨Wd.TW_COUNTS, 0, 16⟩
def Reg.TW_ERR : Field := ⟨Wd.TW_COUNTS, 16, 16⟩
def Wd.TW_COUNTS2 : Nat := 0x90048
def Reg.SCL_TO_COUNT : Field := ⟨Wd.TW_COUNTS2, 0, 8⟩
def Reg.SDA_TO_COUNT : Field := ⟨Wd.TW_COUNTS2, 8, 8⟩
def Reg.TW_DROP : Field := ⟨Wd.TW_COUNTS2, 16, 16⟩
def Wd.PACK_ID (i : Nat) : Nat := 0x90080 + 0x4 * i
def Reg.ID_BYTES (i : Nat) : Field := ⟨Wd.PACK_ID i, 0, 32⟩
def Wd.TWC_CTRL : Nat := 0x900c0
def Reg.TWC_TADDR : Field := ⟨Wd.TWC_CTRL, 0, 7⟩
def Reg.TWC_PEC : Field := ⟨Wd.TWC_CTRL, 7, 1⟩
def Reg.TWC_WLEN : Field := ⟨Wd.TWC_CTRL, 8, 5⟩
def Reg.TWC_RLEN : Field := ⟨Wd.TWC_CTRL, 13, 5⟩
def Reg.TWC_GO : Field := ⟨Wd.TWC_CTRL, 31, 1⟩
def Wd.TWC_BUF (i : Nat) : Nat := 0x900c4 + 0x4 * i
def Reg.TWC_DATA (i : Nat) : Field := ⟨Wd.TWC_BUF i, 0, 32⟩
def Wd.TWC_STATUS : Nat := 0x900d4
def Reg.TWC_BUSY : Field := ⟨Wd.TWC_STATUS, 0, 1⟩
def Reg.TWC_DONE : Field := ⟨Wd.TWC_STATUS, 1, 1⟩
def Reg.TWC_RESULT : Field := ⟨Wd.TWC_STATUS, 2, 3⟩
def Reg.TWC_COUNT : Field := ⟨Wd.TWC_STATUS, 5, 8⟩

/-! ### Words and fields of spec/15_startup_selftest_lifecycle.md -/

def Wd.LC_STATUS : Nat := 0xa0000
def Reg.LC_STATE : Field := ⟨Wd.LC_STATUS, 0, 3⟩
def Reg.LC_TARGET : Field := ⟨Wd.LC_STATUS, 3, 3⟩
def Reg.LC_STEPS_LEFT : Field := ⟨Wd.LC_STATUS, 6, 2⟩
def Reg.RESET_CAUSE : Field := ⟨Wd.LC_STATUS, 8, 8⟩
def Reg.ACTIVE_BANK : Field := ⟨Wd.LC_STATUS, 16, 1⟩
def Reg.BANK_A_VALID : Field := ⟨Wd.LC_STATUS, 17, 1⟩
def Reg.BANK_B_VALID : Field := ⟨Wd.LC_STATUS, 18, 1⟩
def Reg.TRIAL : Field := ⟨Wd.LC_STATUS, 19, 1⟩
def Reg.RESCUE : Field := ⟨Wd.LC_STATUS, 20, 1⟩
def Wd.FW_VERSION (i : Nat) : Nat := 0xa0004 + 0x4 * i
def Reg.FW_VER (i : Nat) : Field := ⟨Wd.FW_VERSION i, 0, 32⟩
def Wd.SD_CFG : Nat := 0xa0010
def Reg.SD_HOLD : Field := ⟨Wd.SD_CFG, 0, 16⟩
def Reg.HEALTH_DAYS : Field := ⟨Wd.SD_CFG, 16, 8⟩
def Wd.ST_SUMMARY : Nat := 0xa0040
def Reg.ST_TESTED : Field := ⟨Wd.ST_SUMMARY, 0, 6⟩
def Reg.ST_REPAIRED : Field := ⟨Wd.ST_SUMMARY, 6, 6⟩
def Reg.ST_UNUSABLE : Field := ⟨Wd.ST_SUMMARY, 12, 6⟩
def Reg.ST_ABORTED : Field := ⟨Wd.ST_SUMMARY, 18, 1⟩
def Reg.ST_USABLE : Field := ⟨Wd.ST_SUMMARY, 19, 6⟩
def Wd.ST_LAST_SPAN : Nat := 0xa0044
def Reg.ST_SPAN : Field := ⟨Wd.ST_LAST_SPAN, 0, 32⟩
def Wd.ST_CUBIT (i : Nat) : Nat := 0xa0100 + 0x4 * i
def Reg.CUBIT_ST (i : Nat) : Field := ⟨Wd.ST_CUBIT i, 0, 2⟩
def Reg.ROWS_MAX (i : Nat) : Field := ⟨Wd.ST_CUBIT i, 2, 5⟩
def Reg.ROWS_MAX_BANK (i : Nat) : Field := ⟨Wd.ST_CUBIT i, 7, 4⟩
def Reg.ROWS_TOTAL (i : Nat) : Field := ⟨Wd.ST_CUBIT i, 11, 9⟩
def Wd.TUN_STATUS : Nat := 0xa0080
def Reg.SPARE_SECT : Field := ⟨Wd.TUN_STATUS, 0, 9⟩
def Reg.TUN_FULL : Field := ⟨Wd.TUN_STATUS, 9, 1⟩
def Reg.TUN_LOW : Field := ⟨Wd.TUN_STATUS, 10, 1⟩
def Reg.BAD_RECORDS : Field := ⟨Wd.TUN_STATUS, 16, 16⟩
def Wd.TUN_WEAR : Nat := 0xa0084
def Reg.ERASE_MEAN : Field := ⟨Wd.TUN_WEAR, 0, 16⟩
def Reg.ERASE_MAX : Field := ⟨Wd.TUN_WEAR, 16, 16⟩
def Wd.TUN_FIRST : Nat := 0xa0088
def Reg.REC_FIRST : Field := ⟨Wd.TUN_FIRST, 0, 32⟩
def Wd.TUN_NEXT : Nat := 0xa008c
def Reg.REC_NEXT : Field := ⟨Wd.TUN_NEXT, 0, 32⟩
def Wd.TUN_FREE : Nat := 0xa0090
def Reg.FREE_KB : Field := ⟨Wd.TUN_FREE, 0, 13⟩
def Wd.TUN_LAST (i : Nat) : Nat := 0xa0200 + 0x4 * i
def Reg.REC_LAST (i : Nat) : Field := ⟨Wd.TUN_LAST i, 0, 32⟩

/-! ### Words and fields of spec/16_configuration_space.md -/

def Wd.ID_UID_LO : Nat := 0x0
def Reg.UID_LO : Field := ⟨Wd.ID_UID_LO, 0, 32⟩
def Wd.ID_UID_HI : Nat := 0x4
def Reg.UID_HI : Field := ⟨Wd.ID_UID_HI, 0, 32⟩
def Wd.ID_PART : Nat := 0x8
def Reg.PART_CODE : Field := ⟨Wd.ID_PART, 0, 16⟩
def Reg.SI_REV : Field := ⟨Wd.ID_PART, 16, 8⟩
def Reg.MAP_VER : Field := ⟨Wd.ID_PART, 24, 8⟩
def Wd.GLOBAL_STATUS : Nat := 0x10
def Reg.G_READY : Field := ⟨Wd.GLOBAL_STATUS, 0, 1⟩
def Reg.G_MODE : Field := ⟨Wd.GLOBAL_STATUS, 1, 3⟩
def Reg.G_LC : Field := ⟨Wd.GLOBAL_STATUS, 4, 3⟩
def Reg.G_RESCUE : Field := ⟨Wd.GLOBAL_STATUS, 7, 1⟩
def Reg.G_TB_STATE : Field := ⟨Wd.GLOBAL_STATUS, 8, 2⟩
def Reg.G_TQ : Field := ⟨Wd.GLOBAL_STATUS, 10, 1⟩
def Reg.G_LINKS : Field := ⟨Wd.GLOBAL_STATUS, 11, 6⟩
def Reg.G_HALERT : Field := ⟨Wd.GLOBAL_STATUS, 17, 1⟩
def Reg.G_HFAULT : Field := ⟨Wd.GLOBAL_STATUS, 18, 1⟩
def Reg.G_WAKE : Field := ⟨Wd.GLOBAL_STATUS, 19, 1⟩
def Reg.G_LAG : Field := ⟨Wd.GLOBAL_STATUS, 20, 1⟩
def Reg.G_SPARES_OUT : Field := ⟨Wd.GLOBAL_STATUS, 21, 1⟩
def Reg.G_CV : Field := ⟨Wd.GLOBAL_STATUS, 22, 1⟩
def Reg.G_HEAD : Field := ⟨Wd.GLOBAL_STATUS, 23, 1⟩
def Reg.G_ENUM : Field := ⟨Wd.GLOBAL_STATUS, 24, 1⟩
def Reg.G_COMMIT : Field := ⟨Wd.GLOBAL_STATUS, 25, 1⟩
def Reg.G_LEASES : Field := ⟨Wd.GLOBAL_STATUS, 26, 3⟩
def Reg.G_SNAP : Field := ⟨Wd.GLOBAL_STATUS, 29, 1⟩
def Reg.G_ESCALATED : Field := ⟨Wd.GLOBAL_STATUS, 30, 1⟩
def Wd.GLOBAL_STATUS2 : Nat := 0x14
def Reg.G_USABLE : Field := ⟨Wd.GLOBAL_STATUS2, 0, 6⟩
def Reg.G_CAUSE : Field := ⟨Wd.GLOBAL_STATUS2, 8, 8⟩
def Reg.G_BOOT : Field := ⟨Wd.GLOBAL_STATUS2, 16, 16⟩
def Wd.HOST_SCRATCH (i : Nat) : Nat := 0x20 + 0x4 * i
def Reg.SCRATCH (i : Nat) : Field := ⟨Wd.HOST_SCRATCH i, 0, 32⟩
def Wd.WIN_STATUS : Nat := 0x180000
def Reg.WIN_VALID : Field := ⟨Wd.WIN_STATUS, 0, 1⟩
def Reg.WIN_N : Field := ⟨Wd.WIN_STATUS, 1, 3⟩
def Reg.WIN_TIERS : Field := ⟨Wd.WIN_STATUS, 4, 6⟩
def Reg.WIN_SNAP : Field := ⟨Wd.WIN_STATUS, 10, 1⟩
def Reg.WIN_GEN : Field := ⟨Wd.WIN_STATUS, 16, 16⟩
def Wd.WIN_COUNTS : Nat := 0x180004
def Reg.TORN_COUNT : Field := ⟨Wd.WIN_COUNTS, 0, 16⟩
def Reg.DEFER_COUNT : Field := ⟨Wd.WIN_COUNTS, 16, 16⟩
def Wd.WIN_HIST : Nat := 0x180008
def Reg.HIST_SPAN : Field := ⟨Wd.WIN_HIST, 0, 32⟩
def Wd.WIN_HIST2 : Nat := 0x18000c
def Reg.HIST_OFS : Field := ⟨Wd.WIN_HIST2, 0, 21⟩
def Wd.WIN_HIST3 : Nat := 0x180010
def Reg.HIST_DEPTH : Field := ⟨Wd.WIN_HIST3, 0, 12⟩
def Reg.HIST_SIZE : Field := ⟨Wd.WIN_HIST3, 12, 17⟩

end Sys2Proof.Machine
end

