-- ==== Sys2Proof/Machine/RegTable.lean ====
section
/-!
DEFINITION. The register tables of spec/02 to spec/16 as one list of rows: which words are mapped (R496), which bits of a
word are staged, live, write-one-to-clear, write-only, read-only or reserved (R11, R497), and the word's Reset value.
The Reset values that depend on the index are laid over the table in `Sys2Proof.Machine.resetWord` (Machine/Regs.lean).
-/

namespace Sys2Proof.Machine

/-- A row of a register table: a word, or an array of words in one or two dimensions
(address = base + outer stride · i + inner stride · j), with the bits of each access code (R11). -/
structure WordRow where
  base   : Nat
  stride1 : Nat
  count1 : Nat
  stride2 : Nat
  count2 : Nat
  staged : Nat
  live   : Nat
  w1c    : Nat
  wo     : Nat
  ro     : Nat
  rsv    : Nat
  reset  : Nat
deriving DecidableEq, Repr

/-- Rows of the region at 0x0. -/
def wordRows_0_0 : List WordRow := [
  /- TB_CTRL -/ ⟨0x1000, 0x0, 1, 0x0, 1, 0x1f, 0x0, 0x0, 0x0, 0x0, 0xffffffe0, 0x2⟩,
  /- TB_PRESCALE -/ ⟨0x1004, 0x0, 1, 0x0, 1, 0xfff, 0x0, 0x0, 0x0, 0x0, 0xfffff000, 0x0⟩,
  /- TB_FREE_SPAN -/ ⟨0x1008, 0x0, 1, 0x0, 1, 0x1fff, 0x0, 0x0, 0x0, 0x0, 0xffffe000, 0x320⟩,
  /- TB_HOLD -/ ⟨0x100c, 0x0, 1, 0x0, 1, 0xffff01ff, 0x0, 0x0, 0x0, 0x0, 0xfe00, 0x400100⟩,
  /- TB_MARK -/ ⟨0x1010, 0x0, 1, 0x0, 1, 0xff, 0x0, 0x0, 0x0, 0x0, 0xffffff00, 0x20⟩,
  /- TB_STATUS -/ ⟨0x1014, 0x0, 1, 0x0, 1, 0x0, 0x0, 0x0, 0x0, 0x1fff3f, 0xffe000c0, 0x500⟩,
  /- TB_NOW_LO -/ ⟨0x1018, 0x0, 1, 0x0, 1, 0x0, 0x0, 0x0, 0x0, 0xffffffff, 0x0, 0x0⟩,
  /- TB_NOW_HI -/ ⟨0x101c, 0x0, 1, 0x0, 1, 0x0, 0x0, 0x0, 0x0, 0x3fffffff, 0xc0000000, 0x30000000⟩,
  /- TB_PERIOD -/ ⟨0x1020, 0x0, 1, 0x0, 1, 0x0, 0x0, 0x0, 0x0, 0xffffffff, 0x0, 0x0⟩,
  /- TB_RING -/ ⟨0x1024, 0x0, 1, 0x0, 1, 0x0, 0x0, 0x0, 0x0, 0xffffffff, 0x0, 0x0⟩,
  /- TB_COUNTS -/ ⟨0x1028, 0x0, 1, 0x0, 1, 0x0, 0x0, 0x0, 0x0, 0xffffffff, 0x0, 0x0⟩,
  /- TB_SCHED -/ ⟨0x102c, 0x0, 1, 0x0, 1, 0x0, 0x0, 0x0, 0x0, 0x3f3f, 0xffffc0c0, 0x0⟩,
  /- ID_UID_LO -/ ⟨0x0, 0x0, 1, 0x0, 1, 0x0, 0x0, 0x0, 0x0, 0xffffffff, 0x0, 0x0⟩,
  /- ID_UID_HI -/ ⟨0x4, 0x0, 1, 0x0, 1, 0x0, 0x0, 0x0, 0x0, 0xffffffff, 0x0, 0x0⟩,
  /- ID_PART -/ ⟨0x8, 0x0, 1, 0x0, 1, 0x0, 0x0, 0x0, 0x0, 0xffffffff, 0x0, 0x1006108⟩,
  /- GLOBAL_STATUS -/ ⟨0x10, 0x0, 1, 0x0, 1, 0x0, 0x0, 0x0, 0x0, 0x7fffffff, 0x80000000, 0x2⟩,
  /- GLOBAL_STATUS2 -/ ⟨0x14, 0x0, 1, 0x0, 1, 0x0, 0x0, 0x0, 0x0, 0xffffff3f, 0xc0, 0x0⟩,
  /- HOST_SCRATCH -/ ⟨0x20, 0x0, 1, 0x4, 4, 0x0, 0xffffffff, 0x0, 0x0, 0x0, 0x0, 0x0⟩]

/-- Rows of the region at 0x10000. -/
def wordRows_1_0 : List WordRow := [
  /- PRI_CTRL -/ ⟨0x10000, 0x0, 1, 0x2000, 6, 0x1737, 0x0, 0x0, 0x0, 0x0, 0xffffe8c8, 0x22⟩,
  /- PRI_NOTCH -/ ⟨0x10004, 0x0, 1, 0x2000, 6, 0xffff, 0x0, 0x0, 0x0, 0x0, 0xffff0000, 0x320⟩,
  /- PRI_CELL_EN -/ ⟨0x10008, 0x0, 1, 0x2000, 6, 0x3ffff, 0x0, 0x0, 0x0, 0x0, 0xfffc0000, 0x3ffff⟩,
  /- THR_OV -/ ⟨0x10010, 0x0, 1, 0x2000, 6, 0xffff, 0x0, 0x0, 0x0, 0x0, 0xffff0000, 0xa604⟩,
  /- THR_UV -/ ⟨0x10014, 0x0, 1, 0x2000, 6, 0xffff, 0x0, 0x0, 0x0, 0x0, 0xffff0000, 0x61a8⟩,
  /- THR_CFG -/ ⟨0x10018, 0x0, 1, 0x2000, 6, 0x1fff, 0x0, 0x0, 0x0, 0x0, 0xffffe000, 0x314⟩,
  /- TAP_TEST -/ ⟨0x10020, 0x0, 1, 0x2000, 6, 0xff00ff, 0x0, 0x0, 0x0, 0x0, 0xff00ff00, 0x7d0010⟩,
  /- SPARE_CTRL -/ ⟨0x10024, 0x0, 1, 0x2000, 6, 0xff0ff3, 0x0, 0x0, 0x0, 0x0, 0xff00f00c, 0x960043⟩,
  /- SPARE_FORCE -/ ⟨0x10028, 0x0, 1, 0x2000, 6, 0x7f, 0x0, 0x0, 0x0, 0x0, 0xffffff80, 0x0⟩,
  /- DRAW_CTRL -/ ⟨0x1002c, 0x0, 1, 0x2000, 6, 0x1, 0x0, 0x0, 0x0, 0x0, 0xfffffffe, 0x1⟩,
  /- PRI_STATUS -/ ⟨0x10040, 0x0, 1, 0x2000, 6, 0x0, 0x0, 0x0, 0x0, 0xffff0707, 0xf8f8, 0x0⟩,
  /- SPARE_STATUS -/ ⟨0x10044, 0x0, 1, 0x2000, 6, 0x0, 0x0, 0x0, 0x0, 0x7f7f, 0xffff8080, 0x0⟩,
  /- CONV_FAULT -/ ⟨0x10048, 0x0, 1, 0x2000, 6, 0x0, 0x0, 0x0, 0x0, 0xfffff, 0xfff00000, 0x0⟩,
  /- TIER_DRAW -/ ⟨0x1004c, 0x0, 1, 0x2000, 6, 0x0, 0x0, 0x0, 0x0, 0x83ffffff, 0x7c000000, 0x0⟩,
  /- SEQ_ENTRY -/ ⟨0x10100, 0x2000, 6, 0x4, 64, 0xfffffff, 0x0, 0x0, 0x0, 0x0, 0xf0000000, 0x0⟩,
  /- SEQ_CTRL -/ ⟨0x10200, 0x0, 1, 0x2000, 6, 0xff033f, 0x0, 0x0, 0x0, 0x0, 0xff00fcc0, 0x4031d⟩,
  /- DISC_CFG -/ ⟨0x10204, 0x0, 1, 0x2000, 6, 0x3f03ff, 0x0, 0x0, 0x0, 0x0, 0xffc0fc00, 0x30032⟩,
  /- REF_CFG -/ ⟨0x10208, 0x0, 1, 0x2000, 6, 0xff0fff, 0x0, 0x0, 0x0, 0x0, 0xff00f000, 0x400314⟩,
  /- OSC_CFG -/ ⟨0x1020c, 0x0, 1, 0x2000, 6, 0xff, 0x0, 0x0, 0x0, 0x0, 0xffffff00, 0x14⟩,
  /- SEC_URGENT -/ ⟨0x10210, 0x0, 1, 0x2000, 6, 0x0, 0x0, 0x0, 0x8000ff7f, 0x0, 0x7fff0080, 0x0⟩,
  /- SEC_URG_RESULT -/ ⟨0x10220, 0x0, 1, 0x2000, 6, 0x0, 0x0, 0x0, 0x0, 0x8fffffff, 0x70000000, 0x0⟩,
  /- SEC_URG_SPAN -/ ⟨0x10224, 0x0, 1, 0x2000, 6, 0x0, 0x0, 0x0, 0x0, 0xffffffff, 0x0, 0x0⟩,
  /- SEQ_STATUS -/ ⟨0x10240, 0x0, 1, 0x2000, 6, 0x0, 0x0, 0x0, 0x0, 0xffffff7f, 0x80, 0x0⟩,
  /- SEQ_COUNTS -/ ⟨0x10244, 0x0, 1, 0x2000, 6, 0x0, 0x0, 0x0, 0x0, 0xffffffff, 0x0, 0x0⟩]

/-- Rows of the region at 0x10000. -/
def wordRows_1_1 : List WordRow := [
  /- REF_STATUS -/ ⟨0x10248, 0x0, 1, 0x2000, 6, 0x0, 0x0, 0x0, 0x0, 0xff3f, 0xffff00c0, 0xc⟩,
  /- DISC_STATE -/ ⟨0x10280, 0x2000, 6, 0x4, 18, 0x0, 0x0, 0x0, 0x0, 0xffffffff, 0x0, 0x0⟩,
  /- DISC_HW -/ ⟨0x10300, 0x2000, 6, 0x4, 18, 0x0, 0x0, 0x0, 0x0, 0x3fffffff, 0xc0000000, 0x0⟩,
  /- DISC_HW_SPAN -/ ⟨0x10380, 0x2000, 6, 0x4, 18, 0x0, 0x0, 0x0, 0x0, 0xffffffff, 0x0, 0x0⟩,
  /- DISC_HW_CLR -/ ⟨0x10400, 0x0, 1, 0x2000, 6, 0x0, 0x0, 0x0, 0x3ffff, 0x0, 0xfffc0000, 0x0⟩,
  /- CUR_CTRL -/ ⟨0x10800, 0x0, 1, 0x0, 1, 0x77, 0x0, 0x0, 0x0, 0x0, 0xffffff88, 0x0⟩,
  /- SHUNT_GAIN -/ ⟨0x10804, 0x0, 1, 0x0, 1, 0xffffffff, 0x0, 0x0, 0x0, 0x0, 0x0, 0x271000⟩,
  /- SHUNT_CAL -/ ⟨0x10808, 0x0, 1, 0x0, 1, 0xffffffff, 0x0, 0x0, 0x0, 0x0, 0x0, 0x0⟩,
  /- HALL_CAL -/ ⟨0x1080c, 0x0, 1, 0x0, 1, 0xffff, 0x0, 0x0, 0x0, 0x0, 0xffff0000, 0x61a8⟩,
  /- HALL_GAIN_W -/ ⟨0x10810, 0x0, 1, 0x0, 1, 0xffffffff, 0x0, 0x0, 0x0, 0x0, 0x0, 0x0⟩,
  /- DIR_CFG -/ ⟨0x10814, 0x0, 1, 0x0, 1, 0xff03ff, 0x0, 0x0, 0x0, 0x0, 0xff00fc00, 0x320064⟩,
  /- ACC_CFG -/ ⟨0x10818, 0x0, 1, 0x0, 1, 0x303ff, 0x0, 0x0, 0x0, 0x0, 0xfffcfc00, 0x0⟩,
  /- ACC_PRESET_LO -/ ⟨0x1081c, 0x0, 1, 0x0, 1, 0xffffffff, 0x0, 0x0, 0x0, 0x0, 0x0, 0x0⟩,
  /- ACC_PRESET_HI -/ ⟨0x10820, 0x0, 1, 0x0, 1, 0xffffffff, 0x0, 0x0, 0x0, 0x0, 0x0, 0x0⟩,
  /- IDISC_CFG -/ ⟨0x10824, 0x0, 1, 0x0, 1, 0x3f0fffff, 0x0, 0x0, 0x0, 0x0, 0xc0f00000, 0x303141e⟩,
  /- CB_CTRL -/ ⟨0x10840, 0x0, 1, 0x0, 1, 0xff03, 0x0, 0x0, 0x0, 0x0, 0xffff00fc, 0x400⟩,
  /- CUR_STATUS -/ ⟨0x10880, 0x0, 1, 0x0, 1, 0x0, 0x0, 0x2800, 0x0, 0x7fd7ff, 0xff800000, 0x1003⟩,
  /- CHG_NET_LO -/ ⟨0x10890, 0x0, 1, 0x0, 1, 0x0, 0x0, 0x0, 0x0, 0xffffffff, 0x0, 0x0⟩,
  /- CHG_NET_HI -/ ⟨0x10894, 0x0, 1, 0x0, 1, 0x0, 0x0, 0x0, 0x0, 0xffffffff, 0x0, 0x0⟩,
  /- CHG_IN_LO -/ ⟨0x10898, 0x0, 1, 0x0, 1, 0x0, 0x0, 0x0, 0x0, 0xffffffff, 0x0, 0x0⟩,
  /- CHG_IN_HI -/ ⟨0x1089c, 0x0, 1, 0x0, 1, 0x0, 0x0, 0x0, 0x0, 0xffffffff, 0x0, 0x0⟩,
  /- CHG_OUT_LO -/ ⟨0x108a0, 0x0, 1, 0x0, 1, 0x0, 0x0, 0x0, 0x0, 0xffffffff, 0x0, 0x0⟩,
  /- CHG_OUT_HI -/ ⟨0x108a4, 0x0, 1, 0x0, 1, 0x0, 0x0, 0x0, 0x0, 0xffffffff, 0x0, 0x0⟩,
  /- REV_COUNT -/ ⟨0x108a8, 0x0, 1, 0x0, 1, 0x0, 0x0, 0x0, 0x0, 0xffffffff, 0x0, 0x0⟩]

/-- Rows of the region at 0x10000. -/
def wordRows_1_2 : List WordRow := [
  /- GAP_COUNT -/ ⟨0x108ac, 0x0, 1, 0x0, 1, 0x0, 0x0, 0x0, 0x0, 0xffffffff, 0x0, 0x0⟩,
  /- CB_UNPAIRED_W -/ ⟨0x108b0, 0x0, 1, 0x0, 1, 0x0, 0x0, 0x0, 0x0, 0xffffffff, 0x0, 0x0⟩,
  /- CB_LAST -/ ⟨0x108b4, 0x0, 1, 0x0, 1, 0x0, 0x0, 0x0, 0x0, 0xffffffff, 0x0, 0x0⟩,
  /- TH_CFG -/ ⟨0x10c00, 0x2000, 6, 0x4, 4, 0xffff0003, 0x0, 0x0, 0x0, 0x0, 0xfffc, 0xd6b0001⟩,
  /- TH_R25 -/ ⟨0x10c10, 0x2000, 6, 0x4, 4, 0xffffff, 0x0, 0x0, 0x0, 0x0, 0xff000000, 0x186a0⟩,
  /- TH_SH -/ ⟨0x10c20, 0x2000, 6, 0x4, 12, 0xffffffff, 0x0, 0x0, 0x0, 0x0, 0x0, 0x0⟩,
  /- TH_PU -/ ⟨0x10c50, 0x0, 1, 0x2000, 6, 0x0, 0x0, 0x0, 0x0, 0xffffff, 0xff000000, 0x0⟩,
  /- STR_CFG -/ ⟨0x10c60, 0x2000, 6, 0x4, 2, 0xfffff, 0x0, 0x0, 0x0, 0x0, 0xfff00000, 0x31900⟩,
  /- DIE_CFG -/ ⟨0x10c70, 0x0, 1, 0x2000, 6, 0xffff, 0x0, 0x0, 0x0, 0x0, 0xffff0000, 0x578⟩,
  /- TMP_STATUS -/ ⟨0x10c80, 0x0, 1, 0x2000, 6, 0x0, 0x0, 0x0, 0x0, 0xffff1fff, 0xe000, 0x80000000⟩,
  /- STR_STATUS -/ ⟨0x10c84, 0x2000, 6, 0x4, 2, 0x0, 0x0, 0x0, 0x0, 0xffff007f, 0xff80, 0x0⟩,
  /- STR_ERR -/ ⟨0x10c8c, 0x2000, 6, 0x4, 2, 0x0, 0x0, 0x0, 0x0, 0xffffffff, 0x0, 0x0⟩,
  /- STR_FLT -/ ⟨0x10c94, 0x2000, 6, 0x4, 2, 0x0, 0x0, 0x0, 0x0, 0xffff, 0xffff0000, 0x0⟩,
  /- STORE_DRAW -/ ⟨0x10e00, 0x0, 1, 0x2000, 6, 0x0, 0x0, 0x0, 0x0, 0xff1fff, 0xff00e000, 0x0⟩]

/-- Rows of the region at 0x20000. -/
def wordRows_2_0 : List WordRow := [
  /- FAB_CTRL -/ ⟨0x20000, 0x0, 1, 0x0, 1, 0x3ff, 0x0, 0x0, 0x0, 0x0, 0xfffffc00, 0x340⟩,
  /- ENS_CFG -/ ⟨0x20004, 0x0, 1, 0x0, 1, 0x771f1f, 0x0, 0x0, 0x0, 0x0, 0xff88e0e0, 0x401004⟩,
  /- CONF_CFG -/ ⟨0x20008, 0x0, 1, 0x0, 1, 0x1fff, 0x0, 0x0, 0x0, 0x0, 0xffffe000, 0x1440⟩,
  /- FAB_STATUS -/ ⟨0x20040, 0x0, 1, 0x0, 1, 0x0, 0x0, 0x0, 0x0, 0x3ff1f3f, 0xfc00e0c0, 0x0⟩,
  /- PLAN_STATUS -/ ⟨0x20044, 0x0, 1, 0x0, 1, 0x0, 0x0, 0x0, 0x0, 0x1fffffff, 0xe0000000, 0x0⟩,
  /- PLAN_STATUS2 -/ ⟨0x20048, 0x0, 1, 0x0, 1, 0x0, 0x0, 0x0, 0x0, 0xffff7f1f, 0x80e0, 0x0⟩,
  /- FAB_COUNTS -/ ⟨0x20050, 0x0, 1, 0x0, 1, 0x0, 0x0, 0x0, 0x0, 0xffffffff, 0x0, 0x0⟩,
  /- CUBIT_STATE -/ ⟨0x20100, 0x0, 1, 0x4, 32, 0x0, 0x0, 0x0, 0x0, 0xffff01ff, 0xfe00, 0x1f3⟩,
  /- JOB_CTRL -/ ⟨0x20200, 0x0, 1, 0x10, 16, 0x1, 0x0, 0x0, 0x0, 0x0, 0xfffffffe, 0x0⟩,
  /- JOB_STATUS -/ ⟨0x20204, 0x0, 1, 0x10, 16, 0x0, 0x0, 0x0, 0x0, 0xffffff1f, 0xe0, 0x0⟩,
  /- JOB_INFO -/ ⟨0x20208, 0x0, 1, 0x10, 16, 0x0, 0x0, 0x0, 0x0, 0xffffffff, 0x0, 0x0⟩,
  /- JOB_LAST -/ ⟨0x2020c, 0x0, 1, 0x10, 16, 0x0, 0x0, 0x0, 0x0, 0xffffffff, 0x0, 0x0⟩,
  /- Z_CTRL -/ ⟨0x20400, 0x0, 1, 0x0, 1, 0xffff01, 0x0, 0x0, 0x0, 0x0, 0xff0000fe, 0x19e101⟩,
  /- ZL_CFG -/ ⟨0x20404, 0x0, 1, 0x0, 1, 0xffff1f1f, 0x0, 0x0, 0x0, 0x0, 0xe0e0, 0x641008⟩,
  /- Z_REP -/ ⟨0x20408, 0x0, 1, 0x0, 1, 0x7fffff, 0x0, 0x0, 0x0, 0x0, 0xff800000, 0x100bb8⟩,
  /- EXC_CFG -/ ⟨0x2040c, 0x0, 1, 0x0, 1, 0xff, 0x0, 0x0, 0x0, 0x0, 0xffffff00, 0x8⟩,
  /- Z_TAU_SH -/ ⟨0x20410, 0x0, 1, 0x0, 1, 0xffff, 0x0, 0x0, 0x0, 0x0, 0xffff0000, 0x0⟩,
  /- Z_TAU_TAP -/ ⟨0x20414, 0x0, 1, 0x4, 6, 0xffff, 0x0, 0x0, 0x0, 0x0, 0xffff0000, 0x0⟩,
  /- EXC_STATUS -/ ⟨0x20440, 0x0, 1, 0x0, 1, 0x0, 0x0, 0x0, 0x0, 0x7f7f7f03, 0x808080fc, 0x0⟩,
  /- EXC_TIER -/ ⟨0x20444, 0x0, 1, 0x4, 6, 0x0, 0x0, 0x0, 0x0, 0x1f7fffff, 0xe0800000, 0x7f⟩,
  /- ENS_OBS -/ ⟨0x20500, 0x0, 1, 0x0, 1, 0xffffff01, 0x0, 0x0, 0x0, 0x0, 0xfe, 0x3e88001⟩,
  /- CELL_MODEL -/ ⟨0x20520, 0x0, 1, 0x4, 7, 0xffffffff, 0x0, 0x0, 0x0, 0x0, 0x0, 0x0⟩,
  /- MODEL_STATUS -/ ⟨0x20540, 0x0, 1, 0x8, 4, 0x0, 0x0, 0x0, 0x0, 0x7fff03, 0xff8000fc, 0x0⟩,
  /- MODEL_ID -/ ⟨0x20544, 0x0, 1, 0x8, 4, 0x0, 0x0, 0x0, 0x0, 0xffffffff, 0x0, 0x0⟩]

/-- Rows of the region at 0x20000. -/
def wordRows_2_1 : List WordRow := [
  /- SENS_MAP -/ ⟨0x20600, 0x0, 1, 0x4, 216, 0x1fff, 0x0, 0x0, 0x0, 0x0, 0xffffe000, 0x0⟩,
  /- PL_CFG -/ ⟨0x20960, 0x0, 1, 0x0, 1, 0xfffffff, 0x0, 0x0, 0x0, 0x0, 0xf0000000, 0x3021828⟩,
  /- PL_STATUS -/ ⟨0x20980, 0x0, 1, 0x4, 13, 0x0, 0x0, 0x0, 0x0, 0xffffffff, 0x0, 0xaaaaaaaa⟩,
  /- PL_STATUS of sensors 208 to 215 -/ ⟨0x209b4, 0x0, 1, 0x0, 1, 0x0, 0x0, 0x0, 0x0, 0xffff, 0xffff0000, 0xaaaa⟩]

/-- Rows of the region at 0x30000. -/
def wordRows_3_0 : List WordRow := [
  /- CH_CFG -/ ⟨0x30000, 0x0, 1, 0x200, 108, 0xffff1fff, 0x0, 0x0, 0x0, 0x0, 0xe000, 0xff320000⟩,
  /- CH_CFG2 -/ ⟨0x30004, 0x0, 1, 0x200, 108, 0xfff0007, 0x0, 0x0, 0x0, 0x0, 0xf000fff8, 0x4⟩,
  /- CH_LIVE -/ ⟨0x30008, 0x0, 1, 0x200, 108, 0x0, 0x1, 0x0, 0x0, 0x0, 0xfffffffe, 0x0⟩,
  /- CH_FF_STATIC -/ ⟨0x3000c, 0x0, 1, 0x200, 108, 0x0, 0xfff0fff, 0x0, 0x0, 0x0, 0xf000f000, 0x0⟩,
  /- CH_IRCOMP -/ ⟨0x30010, 0x0, 1, 0x200, 108, 0x0, 0xffff, 0x0, 0x0, 0x0, 0xffff0000, 0x0⟩,
  /- FF_POS -/ ⟨0x30140, 0x200, 108, 0x4, 32, 0x0, 0xffffffff, 0x0, 0x0, 0x0, 0x0, 0x0⟩,
  /- CH_STATUS -/ ⟨0x301c0, 0x0, 1, 0x200, 108, 0x0, 0x0, 0x0, 0x0, 0xffff07ff, 0xf800, 0x0⟩,
  /- CH_OUT -/ ⟨0x301c4, 0x0, 1, 0x200, 108, 0x0, 0x0, 0x0, 0x0, 0xffffffff, 0x0, 0x0⟩,
  /- CH_TARGET -/ ⟨0x301c8, 0x0, 1, 0x200, 108, 0x0, 0x0, 0x0, 0x0, 0xffffffff, 0x0, 0x0⟩,
  /- CH_SUP -/ ⟨0x301cc, 0x0, 1, 0x200, 108, 0x0, 0x0, 0x0, 0x0, 0xffff0fff, 0xf000, 0xffff0000⟩,
  /- CH_COUNTS -/ ⟨0x301d0, 0x0, 1, 0x200, 108, 0x0, 0x0, 0x0, 0x0, 0xffffffff, 0x0, 0x0⟩,
  /- LOOP_CTRL@VT -/ ⟨0x30040, 0x0, 1, 0x200, 108, 0x0, 0x7, 0x0, 0x0, 0x0, 0xfffffff8, 0x0⟩,
  /- LOOP_CTRL@IL -/ ⟨0x30090, 0x0, 1, 0x200, 108, 0x0, 0x7, 0x0, 0x0, 0x0, 0xfffffff8, 0x4⟩,
  /- LOOP_CTRL@TEMP -/ ⟨0x300e0, 0x0, 1, 0x200, 108, 0x0, 0x7, 0x0, 0x0, 0x0, 0xfffffff8, 0x4⟩,
  /- LOOP_CTRL@BUD -/ ⟨0x3e010, 0x0, 1, 0x100, 6, 0x0, 0x7, 0x0, 0x0, 0x0, 0xfffffff8, 0x4⟩,
  /- LOOP_HYST@VT -/ ⟨0x30044, 0x0, 1, 0x200, 108, 0x0, 0xffffffff, 0x0, 0x0, 0x0, 0x0, 0x0⟩,
  /- LOOP_HYST@IL -/ ⟨0x30094, 0x0, 1, 0x200, 108, 0x0, 0xffffffff, 0x0, 0x0, 0x0, 0x0, 0x0⟩,
  /- LOOP_HYST@TEMP -/ ⟨0x300e4, 0x0, 1, 0x200, 108, 0x0, 0xffffffff, 0x0, 0x0, 0x0, 0x0, 0x0⟩,
  /- LOOP_HYST@BUD -/ ⟨0x3e014, 0x0, 1, 0x100, 6, 0x0, 0xffffffff, 0x0, 0x0, 0x0, 0x0, 0x0⟩,
  /- LOOP_HLEV@VT -/ ⟨0x30048, 0x0, 1, 0x200, 108, 0x0, 0xffffffff, 0x0, 0x0, 0x0, 0x0, 0x0⟩,
  /- LOOP_HLEV@IL -/ ⟨0x30098, 0x0, 1, 0x200, 108, 0x0, 0xffffffff, 0x0, 0x0, 0x0, 0x0, 0x0⟩,
  /- LOOP_HLEV@TEMP -/ ⟨0x300e8, 0x0, 1, 0x200, 108, 0x0, 0xffffffff, 0x0, 0x0, 0x0, 0x0, 0x0⟩,
  /- LOOP_HLEV@BUD -/ ⟨0x3e018, 0x0, 1, 0x100, 6, 0x0, 0xffffffff, 0x0, 0x0, 0x0, 0x0, 0x0⟩,
  /- LOOP_LIM@VT -/ ⟨0x3004c, 0x0, 1, 0x200, 108, 0x0, 0x0, 0x0, 0x0, 0x0, 0xffffffff, 0x0⟩]

/-- Rows of the region at 0x30000. -/
def wordRows_3_1 : List WordRow := [
  /- LOOP_LIM@IL -/ ⟨0x3009c, 0x0, 1, 0x200, 108, 0xffff, 0x0, 0x0, 0x0, 0x0, 0xffff0000, 0x1388⟩,
  /- LOOP_LIM@TEMP -/ ⟨0x300ec, 0x0, 1, 0x200, 108, 0xffff, 0x0, 0x0, 0x0, 0x0, 0xffff0000, 0xf00⟩,
  /- LOOP_LIM@BUD -/ ⟨0x3e01c, 0x0, 1, 0x100, 6, 0xffff, 0x0, 0x0, 0x0, 0x0, 0xffff0000, 0x2710⟩,
  /- LUT@VT -/ ⟨0x30050, 0x200, 108, 0x4, 16, 0x0, 0xffffffff, 0x0, 0x0, 0x0, 0x0, 0x0⟩,
  /- LUT@IL -/ ⟨0x300a0, 0x200, 108, 0x4, 16, 0x0, 0xffffffff, 0x0, 0x0, 0x0, 0x0, 0x0⟩,
  /- LUT@TEMP -/ ⟨0x300f0, 0x200, 108, 0x4, 16, 0x0, 0xffffffff, 0x0, 0x0, 0x0, 0x0, 0x0⟩,
  /- LUT@BUD -/ ⟨0x3e020, 0x100, 6, 0x4, 16, 0x0, 0xffffffff, 0x0, 0x0, 0x0, 0x0, 0x0⟩,
  /- BT_CTRL -/ ⟨0x3e000, 0x0, 1, 0x100, 6, 0xff003f, 0x0, 0x0, 0x0, 0x0, 0xff00ffc0, 0xe60010⟩,
  /- BT_STAGE -/ ⟨0x3e004, 0x0, 1, 0x100, 6, 0xffffffff, 0x0, 0x0, 0x0, 0x0, 0x0, 0x0⟩,
  /- BT_TRIP -/ ⟨0x3e008, 0x0, 1, 0x100, 6, 0x3fff, 0x0, 0x0, 0x0, 0x0, 0xffffc000, 0x2ee0⟩,
  /- BT_STATUS -/ ⟨0x3e080, 0x0, 1, 0x100, 6, 0x0, 0x0, 0x0, 0x0, 0xffffffff, 0x0, 0x0⟩,
  /- BAL_STATUS -/ ⟨0x3f000, 0x0, 1, 0x0, 1, 0x0, 0x0, 0x0, 0x0, 0xff7f7f, 0xff008080, 0x0⟩,
  /- SUP_CFG -/ ⟨0x3f010, 0x0, 1, 0x0, 1, 0xffffffff, 0x0, 0x0, 0x0, 0x0, 0x0, 0x80201432⟩,
  /- SUP_CFG2 -/ ⟨0x3f014, 0x0, 1, 0x0, 1, 0xffff00ff, 0x0, 0x0, 0x0, 0x0, 0xff00, 0xbb80084⟩,
  /- BAL_OSC_CFG -/ ⟨0x3f018, 0x0, 1, 0x0, 1, 0xffffff, 0x0, 0x0, 0x0, 0x0, 0xff000000, 0xa1040⟩]

/-- Rows of the region at 0x40000. -/
def wordRows_4_0 : List WordRow := [
  /- TEMP_WORD -/ ⟨0x40000, 0x0, 1, 0x4, 216, 0x0, 0x0, 0x0, 0x0, 0xffffffff, 0x0, 0x48000⟩,
  /- TIER_DIE_WORD -/ ⟨0x40400, 0x0, 1, 0x4, 18, 0x0, 0x0, 0x0, 0x0, 0xffffffff, 0x0, 0x48000⟩,
  /- BASE_DIE_WORD -/ ⟨0x40480, 0x0, 1, 0x4, 8, 0x0, 0x0, 0x0, 0x0, 0xffffffff, 0x0, 0x48000⟩,
  /- TO_CTRL -/ ⟨0x40800, 0x0, 1, 0x0, 1, 0xffffff7f, 0x0, 0x0, 0x0, 0x0, 0x80, 0x7314fe30⟩,
  /- TO_DUTY -/ ⟨0x40804, 0x0, 1, 0x0, 1, 0x7ff07ff, 0x0, 0x0, 0x0, 0x0, 0xf800f800, 0x4000000⟩,
  /- TO_SLEW -/ ⟨0x40808, 0x0, 1, 0x0, 1, 0x7ff07ff, 0x0, 0x0, 0x0, 0x0, 0xf800f800, 0x20⟩,
  /- TO_TACH -/ ⟨0x4080c, 0x0, 1, 0x0, 1, 0xffffffff, 0x0, 0x0, 0x0, 0x0, 0x0, 0x1f407d0⟩,
  /- TO_TACH2 -/ ⟨0x40810, 0x0, 1, 0x0, 1, 0xffff07ff, 0x0, 0x0, 0x0, 0x0, 0xf800, 0xfa00066⟩,
  /- TO_OUTER -/ ⟨0x40814, 0x0, 1, 0x0, 1, 0xffffffff, 0x0, 0x0, 0x0, 0x0, 0x0, 0x0⟩,
  /- TO_INNER -/ ⟨0x40818, 0x0, 1, 0x0, 1, 0xffffffff, 0x0, 0x0, 0x0, 0x0, 0x0, 0x0⟩,
  /- TO_FF -/ ⟨0x4081c, 0x0, 1, 0x0, 1, 0x7ff07ff, 0x0, 0x0, 0x0, 0x0, 0xf800f800, 0x4000000⟩,
  /- TO_TSP -/ ⟨0x40820, 0x0, 1, 0x0, 1, 0xffffffff, 0x0, 0x0, 0x0, 0x0, 0x0, 0x7800a00⟩,
  /- TO_STATUS -/ ⟨0x40828, 0x0, 1, 0x0, 1, 0x0, 0x0, 0x0, 0x0, 0xffff00ff, 0xff00, 0x0⟩,
  /- TO_OUT -/ ⟨0x4082c, 0x0, 1, 0x0, 1, 0x0, 0x0, 0x0, 0x0, 0xffff07ff, 0xf800, 0x0⟩,
  /- TO_SPEED -/ ⟨0x40830, 0x0, 1, 0x0, 1, 0x0, 0x0, 0x0, 0x0, 0xffffffff, 0x0, 0x0⟩]

/-- Rows of the region at 0x50000. -/
def wordRows_5_0 : List WordRow := [
  /- CHN_CTRL -/ ⟨0x50000, 0x0, 1, 0x0, 1, 0xff, 0x0, 0x0, 0x0, 0x0, 0xffffff00, 0xe⟩,
  /- CHN_CFG -/ ⟨0x50004, 0x0, 1, 0x0, 1, 0xffffffff, 0x0, 0x0, 0x0, 0x0, 0x0, 0x3e83c10⟩,
  /- CHN_CMD -/ ⟨0x50008, 0x0, 1, 0x0, 1, 0x0, 0x0, 0x0, 0x3, 0x0, 0xfffffffc, 0x0⟩,
  /- CHN_STATUS -/ ⟨0x50040, 0x0, 1, 0x0, 1, 0x0, 0x0, 0x0, 0x0, 0x1fffffff, 0xe0000000, 0xfff⟩,
  /- CHN_STATUS2 -/ ⟨0x50044, 0x0, 1, 0x0, 1, 0x0, 0x0, 0x0, 0x0, 0xff, 0xffffff00, 0x0⟩,
  /- PORT_STATUS -/ ⟨0x50048, 0x0, 1, 0x4, 2, 0x0, 0x0, 0x0, 0x0, 0x703ffff, 0xf8fc0000, 0x0⟩,
  /- PC_RX -/ ⟨0x50060, 0x0, 1, 0x10, 2, 0x0, 0x0, 0x0, 0x0, 0xffffffff, 0x0, 0x0⟩,
  /- PC_LINE -/ ⟨0x50064, 0x0, 1, 0x10, 2, 0x0, 0x0, 0x0, 0x0, 0xffffffff, 0x0, 0x0⟩,
  /- PC_DROP -/ ⟨0x50068, 0x0, 1, 0x10, 2, 0x0, 0x0, 0x0, 0x0, 0xffffffff, 0x0, 0x0⟩,
  /- PC_DEST -/ ⟨0x5006c, 0x0, 1, 0x10, 2, 0x0, 0x0, 0x0, 0x0, 0xffffffff, 0x0, 0x0⟩,
  /- BEACON_LAST -/ ⟨0x50080, 0x0, 1, 0x0, 1, 0x0, 0x0, 0x0, 0x0, 0xffffffff, 0x0, 0x0⟩,
  /- BEACON_COUNT -/ ⟨0x50084, 0x0, 1, 0x0, 1, 0x0, 0x0, 0x0, 0x0, 0xffff, 0xffff0000, 0x0⟩]

/-- Rows of the region at 0x60000. -/
def wordRows_6_0 : List WordRow := [
  /- HP_CTRL -/ ⟨0x60000, 0x0, 1, 0x0, 1, 0xffff0003, 0x0, 0x0, 0x0, 0x0, 0xfffc, 0xbb80001⟩,
  /- RPT_CFG -/ ⟨0x60004, 0x0, 1, 0x0, 1, 0xffff3f, 0x0, 0x0, 0x0, 0x0, 0xff0000c0, 0x320101⟩,
  /- HP_STATUS -/ ⟨0x60040, 0x0, 1, 0x0, 1, 0x0, 0x0, 0x0, 0x0, 0x3fffff, 0xffc00000, 0x0⟩,
  /- SEQ_HSEQ -/ ⟨0x60048, 0x0, 1, 0x4, 4, 0x0, 0x0, 0x0, 0x0, 0xffffffff, 0x0, 0x0⟩,
  /- SEQ_DSEQ -/ ⟨0x60058, 0x0, 1, 0x0, 1, 0x0, 0x0, 0x0, 0x0, 0xffffffff, 0x0, 0xffff⟩,
  /- SEQ_INFO -/ ⟨0x6005c, 0x0, 1, 0x0, 1, 0x0, 0x0, 0x0, 0x0, 0xffff1fff, 0xe000, 0x0⟩,
  /- HP_COUNTS -/ ⟨0x60060, 0x0, 1, 0x0, 1, 0x0, 0x0, 0x0, 0x0, 0xffffffff, 0x0, 0x0⟩,
  /- HP_COUNTS2 -/ ⟨0x60064, 0x0, 1, 0x0, 1, 0x0, 0x0, 0x0, 0x0, 0xffffffff, 0x0, 0x0⟩]

/-- Rows of the region at 0x70000. -/
def wordRows_7_0 : List WordRow := [
  /- EVT_CFG -/ ⟨0x70000, 0x0, 1, 0x4, 544, 0x3f, 0x0, 0x0, 0x0, 0xf00, 0xfffff0c0, 0x0⟩,
  /- EVT_STATE -/ ⟨0x71000, 0x0, 1, 0x4, 544, 0x0, 0x0, 0x0, 0x0, 0xffff000f, 0xfff0, 0x0⟩,
  /- EVT_LAST -/ ⟨0x72000, 0x0, 1, 0x4, 544, 0x0, 0x0, 0x0, 0x0, 0xffffffff, 0x0, 0x0⟩,
  /- EVT_MASKW -/ ⟨0x73000, 0x0, 1, 0x4, 17, 0x0, 0x0, 0x0, 0x0, 0xffffffff, 0x0, 0x0⟩,
  /- EVT_CTRL -/ ⟨0x73100, 0x0, 1, 0x0, 1, 0xff0f, 0x0, 0x0, 0x0, 0x0, 0xffff00f0, 0x3203⟩,
  /- EVT_CLR -/ ⟨0x73104, 0x0, 1, 0x0, 1, 0x0, 0x0, 0x0, 0x800fffff, 0x0, 0x7ff00000, 0x0⟩,
  /- BCN_ACK -/ ⟨0x73108, 0x0, 1, 0x0, 1, 0x0, 0x0, 0x0, 0x1, 0x0, 0xfffffffe, 0x0⟩,
  /- EVT_STATUS -/ ⟨0x73180, 0x0, 1, 0x0, 1, 0x0, 0x0, 0x8, 0x0, 0xffffff07, 0xf0, 0x0⟩,
  /- EVT_WIN -/ ⟨0x73184, 0x0, 1, 0x0, 1, 0x0, 0x0, 0x0, 0x0, 0xffffffff, 0x0, 0x0⟩,
  /- CLASS_CNT -/ ⟨0x73140, 0x0, 1, 0x4, 16, 0x0, 0x0, 0x0, 0x0, 0x1ffff, 0xfffe0000, 0x0⟩]

/-- Rows of the region at 0x80000. -/
def wordRows_8_0 : List WordRow := [
  /- MODE_CFG -/ ⟨0x80000, 0x0, 1, 0x0, 1, 0xff1fff, 0x0, 0x0, 0x0, 0x0, 0xff00e000, 0x3c⟩,
  /- LEASE_CFG -/ ⟨0x80004, 0x0, 1, 0x0, 1, 0xffff, 0x0, 0x0, 0x0, 0x0, 0xffff0000, 0x0⟩,
  /- VR_CFG -/ ⟨0x80008, 0x0, 1, 0x0, 1, 0x3ff01ff, 0x0, 0x0, 0x0, 0x0, 0xfc00fe00, 0x38401a0⟩,
  /- MODE_STATUS -/ ⟨0x80040, 0x0, 1, 0x0, 1, 0x0, 0x0, 0x0, 0x0, 0x7ff, 0xfffff800, 0x189⟩,
  /- LEASE_ST -/ ⟨0x80050, 0x0, 1, 0x8, 3, 0x0, 0x0, 0x0, 0x0, 0xffff000f, 0xfff0, 0x0⟩,
  /- LEASE_EL -/ ⟨0x80054, 0x0, 1, 0x8, 3, 0x0, 0x0, 0x0, 0x0, 0xffffffff, 0x0, 0x0⟩,
  /- VC_STATUS -/ ⟨0x80080, 0x0, 1, 0x0, 1, 0x0, 0x0, 0x0, 0x0, 0x3ff1fff, 0xfc00e000, 0x384⟩,
  /- RAIL_MEAS -/ ⟨0x80084, 0x0, 1, 0x0, 1, 0x0, 0x0, 0x0, 0x0, 0x7ff07ff, 0xf800f800, 0x0⟩,
  /- AUX_MEAS -/ ⟨0x80088, 0x0, 1, 0x0, 1, 0x0, 0x0, 0x0, 0x0, 0x7ff, 0xfffff800, 0x0⟩,
  /- SLACK -/ ⟨0x8008c, 0x0, 1, 0x0, 1, 0x0, 0x0, 0x0, 0x0, 0xff, 0xffffff00, 0x0⟩,
  /- HO_STATUS -/ ⟨0x80090, 0x0, 1, 0x0, 1, 0x0, 0x0, 0x0, 0x0, 0xffffffff, 0x0, 0x0⟩,
  /- HO_LAST -/ ⟨0x80094, 0x0, 1, 0x0, 1, 0x0, 0x0, 0x0, 0x0, 0xffffffff, 0x0, 0x0⟩,
  /- STORE_LAST -/ ⟨0x80098, 0x0, 1, 0x0, 1, 0x0, 0x0, 0x0, 0x0, 0xffff3fff, 0xc000, 0x0⟩]

/-- Rows of the region at 0x90000. -/
def wordRows_9_0 : List WordRow := [
  /- TW_CTRL -/ ⟨0x90000, 0x0, 1, 0x0, 1, 0xff3f, 0x0, 0x0, 0x0, 0x0, 0xffff00c0, 0x825⟩,
  /- TW_TIME -/ ⟨0x90004, 0x0, 1, 0x0, 1, 0xffffff, 0x0, 0x0, 0x0, 0x0, 0xff000000, 0xa1919⟩,
  /- ID_CFG -/ ⟨0x90008, 0x0, 1, 0x0, 1, 0xffff7fff, 0x0, 0x0, 0x0, 0x0, 0x8000, 0x4050⟩,
  /- TW_STATUS -/ ⟨0x90040, 0x0, 1, 0x0, 1, 0x0, 0x0, 0x0, 0x0, 0x7ffff, 0xfff80000, 0x28⟩,
  /- TW_COUNTS -/ ⟨0x90044, 0x0, 1, 0x0, 1, 0x0, 0x0, 0x0, 0x0, 0xffffffff, 0x0, 0x0⟩,
  /- TW_COUNTS2 -/ ⟨0x90048, 0x0, 1, 0x0, 1, 0x0, 0x0, 0x0, 0x0, 0xffffffff, 0x0, 0x0⟩,
  /- PACK_ID -/ ⟨0x90080, 0x0, 1, 0x4, 16, 0x0, 0x0, 0x0, 0x0, 0xffffffff, 0x0, 0x0⟩,
  /- TWC_CTRL -/ ⟨0x900c0, 0x0, 1, 0x0, 1, 0x0, 0x0, 0x0, 0x8003ffff, 0x0, 0x7ffc0000, 0x0⟩,
  /- TWC_BUF -/ ⟨0x900c4, 0x0, 1, 0x4, 4, 0x0, 0xffffffff, 0x0, 0x0, 0x0, 0x0, 0x0⟩,
  /- TWC_STATUS -/ ⟨0x900d4, 0x0, 1, 0x0, 1, 0x0, 0x0, 0x0, 0x0, 0x1fff, 0xffffe000, 0x0⟩]

/-- Rows of the region at 0xa0000. -/
def wordRows_a_0 : List WordRow := [
  /- LC_STATUS -/ ⟨0xa0000, 0x0, 1, 0x0, 1, 0x0, 0x0, 0x0, 0x0, 0x1fffff, 0xffe00000, 0x20139⟩,
  /- FW_VERSION -/ ⟨0xa0004, 0x0, 1, 0x4, 2, 0x0, 0x0, 0x0, 0x0, 0xffffffff, 0x0, 0x0⟩,
  /- SD_CFG -/ ⟨0xa0010, 0x0, 1, 0x0, 1, 0xffffff, 0x0, 0x0, 0x0, 0x0, 0xff000000, 0x70000⟩,
  /- ST_SUMMARY -/ ⟨0xa0040, 0x0, 1, 0x0, 1, 0x0, 0x0, 0x0, 0x0, 0x1ffffff, 0xfe000000, 0x1000000⟩,
  /- ST_LAST_SPAN -/ ⟨0xa0044, 0x0, 1, 0x0, 1, 0x0, 0x0, 0x0, 0x0, 0xffffffff, 0x0, 0x0⟩,
  /- ST_CUBIT -/ ⟨0xa0100, 0x0, 1, 0x4, 32, 0x0, 0x0, 0x0, 0x0, 0xfffff, 0xfff00000, 0x0⟩,
  /- TUN_STATUS -/ ⟨0xa0080, 0x0, 1, 0x0, 1, 0x0, 0x0, 0x0, 0x0, 0xffff07ff, 0xf800, 0x100⟩,
  /- TUN_WEAR -/ ⟨0xa0084, 0x0, 1, 0x0, 1, 0x0, 0x0, 0x0, 0x0, 0xffffffff, 0x0, 0x0⟩,
  /- TUN_FIRST -/ ⟨0xa0088, 0x0, 1, 0x0, 1, 0x0, 0x0, 0x0, 0x0, 0xffffffff, 0x0, 0x1⟩,
  /- TUN_NEXT -/ ⟨0xa008c, 0x0, 1, 0x0, 1, 0x0, 0x0, 0x0, 0x0, 0xffffffff, 0x0, 0x1⟩,
  /- TUN_FREE -/ ⟨0xa0090, 0x0, 1, 0x0, 1, 0x0, 0x0, 0x0, 0x0, 0x1fff, 0xffffe000, 0x1c00⟩,
  /- TUN_LAST -/ ⟨0xa0200, 0x0, 1, 0x4, 32, 0x0, 0x0, 0x0, 0x0, 0xffffffff, 0x0, 0x0⟩]

/-- Rows of the region at 0xb0000. -/
def wordRows_b_0 : List WordRow := [
  /- CV_CTRL -/ ⟨0xb0000, 0x0, 1, 0x20, 4, 0xffff001f, 0x0, 0x0, 0x0, 0x0, 0xffe0, 0x10000⟩,
  /- CV_BASE -/ ⟨0xb0004, 0x0, 1, 0x20, 4, 0xffffffff, 0x0, 0x0, 0x0, 0x0, 0x0, 0x0⟩,
  /- CV_LEN -/ ⟨0xb0008, 0x0, 1, 0x20, 4, 0x7fffff, 0x0, 0x0, 0x0, 0x0, 0xff800000, 0x4⟩,
  /- CV_EXPECT -/ ⟨0xb000c, 0x0, 1, 0x20, 4, 0xffffffff, 0x0, 0x0, 0x0, 0x0, 0x0, 0x0⟩,
  /- CV_RESULT -/ ⟨0xb0010, 0x0, 1, 0x20, 4, 0x0, 0x0, 0x0, 0x0, 0xffffffff, 0x0, 0x0⟩,
  /- CV_REF -/ ⟨0xb0014, 0x0, 1, 0x20, 4, 0x0, 0x0, 0x0, 0x0, 0xffffffff, 0x0, 0x0⟩,
  /- CV_STATUS -/ ⟨0xb0018, 0x0, 1, 0x20, 4, 0x0, 0x0, 0x1, 0x0, 0xffff0002, 0xfffc, 0x0⟩,
  /- PART_CRC -/ ⟨0xb0080, 0x0, 1, 0x4, 7, 0x0, 0x0, 0x0, 0x0, 0xffffffff, 0x0, 0x0⟩]

/-- Rows of the region at 0x180000. -/
def wordRows_18_0 : List WordRow := [
  /- WIN_STATUS -/ ⟨0x180000, 0x0, 1, 0x0, 1, 0x0, 0x0, 0x0, 0x0, 0xffff07ff, 0xf800, 0x0⟩,
  /- WIN_COUNTS -/ ⟨0x180004, 0x0, 1, 0x0, 1, 0x0, 0x0, 0x0, 0x0, 0xffffffff, 0x0, 0x0⟩,
  /- WIN_HIST -/ ⟨0x180008, 0x0, 1, 0x0, 1, 0x0, 0x0, 0x0, 0x0, 0xffffffff, 0x0, 0x0⟩,
  /- WIN_HIST2 -/ ⟨0x18000c, 0x0, 1, 0x0, 1, 0x0, 0x0, 0x0, 0x0, 0x1fffff, 0xffe00000, 0x0⟩,
  /- WIN_HIST3 -/ ⟨0x180010, 0x0, 1, 0x0, 1, 0x0, 0x0, 0x0, 0x0, 0x1fffffff, 0xe0000000, 0x0⟩]

/-- The rows of the region that holds an address. -/
def wordRowsAt (a : Nat) : List WordRow :=
  match a / 0x10000 with
  | 0x0 => wordRows_0_0
  | 0x1 => wordRows_1_0 ++ wordRows_1_1 ++ wordRows_1_2
  | 0x2 => wordRows_2_0 ++ wordRows_2_1
  | 0x3 => wordRows_3_0 ++ wordRows_3_1
  | 0x4 => wordRows_4_0
  | 0x5 => wordRows_5_0
  | 0x6 => wordRows_6_0
  | 0x7 => wordRows_7_0
  | 0x8 => wordRows_8_0
  | 0x9 => wordRows_9_0
  | 0xa => wordRows_a_0
  | 0xb => wordRows_b_0
  | 0x18 => wordRows_18_0
  | _ => []

end Sys2Proof.Machine
end

