-- ==== Sys2Proof/Machine/Sparse.lean ====
section
/-!
DEFINITION. Sparse maps from numbers to values in one canonical form: keys strictly rising, and no entry equal to what an
unlisted key reads as. What an unlisted key reads as is given by the function `d` at each use.
-/

namespace Sys2Proof.Machine

/-- A sparse map: the listed keys with their values. -/
abbrev KV (α : Type) := List (Nat × α)

/-- The value at key `k`; `d k` where no entry lists it. DESIGN CHOICE (log entry 20). -/
def kvGet {α : Type} (d : Nat → α) : KV α → Nat → α
  | [], k => d k
  | (a, v) :: m, k => if a = k then v else kvGet d m k

/-- The map with key `k` listed with value `v`, in key order. -/
def kvIns {α : Type} (k : Nat) (v : α) : KV α → KV α
  | [] => [(k, v)]
  | (a, w) :: m =>
    if k < a then (k, v) :: (a, w) :: m
    else if a = k then (k, v) :: m
    else (a, w) :: kvIns k v m

/-- The map with key `k` unlisted. -/
def kvDel {α : Type} (k : Nat) : KV α → KV α
  | [] => []
  | (a, w) :: m => if a = k then kvDel k m else (a, w) :: kvDel k m

/-- The map with the value `v` at key `k`: unlisted when `v` is what an unlisted key reads as. -/
def kvSet {α : Type} [DecidableEq α] (d : Nat → α) (m : KV α) (k : Nat) (v : α) : KV α :=
  if v = d k then kvDel k m else kvIns k v m

/-- Every key of the map is above `lo`, the keys rise strictly, and no entry holds the unlisted value. -/
def kvWfFrom {α : Type} [DecidableEq α] (d : Nat → α) : Nat → KV α → Bool
  | _, [] => true
  | lo, (a, v) :: m => decide (lo ≤ a) && !decide (v = d a) && kvWfFrom d (a + 1) m

/-- The canonical form of a sparse map. -/
def kvWf {α : Type} [DecidableEq α] (d : Nat → α) (m : KV α) : Bool := kvWfFrom d 0 m

/-- The map without the keys that `p` names. -/
def kvDrop {α : Type} (p : Nat → Bool) : KV α → KV α
  | [] => []
  | (a, v) :: m => if p a then kvDrop p m else (a, v) :: kvDrop p m

end Sys2Proof.Machine
end

