-- ==== Sys2Proof/Machine/Regs.lean ====
section
/-!
DEFINITION. What each word of configuration space is: its row in the register tables, with the parts of the tables that
depend on the index (default sequence table of R119, event defaults of R394 and R395, job slots, check-value unit 0), and
its value before anything has written it (R500).
-/

namespace Sys2Proof.Machine

/-- The class of an event source (R395). -/
def evtClass (s : Nat) : Nat :=
  if s < 432 then
    match s % 4 with
    | 0 => 0
    | 1 => 0
    | 2 => 1
    | _ => 2
  else if s < 480 then
    match s % 8 with
    | 0 => 3
    | 1 => 3
    | 2 => 4
    | 3 => 5
    | 4 => 5
    | 5 => 6
    | 6 => 6
    | _ => 7
  else if s = 480 then 8
  else if s ≤ 485 then 9
  else if s = 486 then 11
  else if s ≤ 489 then 10
  else if s ≤ 491 then 13
  else if s ≤ 496 then 12
  else if s ≤ 499 then 11
  else if s = 500 then 12
  else if s = 501 then 14
  else if s ≤ 503 then 11
  else if s = 504 then 14
  else if s ≤ 510 then 13
  else if s ≤ 515 then 15
  else 0

/-- The default severity of an event source (R394): 0 info, 1 warning, 2 alarm, 3 fatal. -/
def evtDefaultSev (s : Nat) : Nat :=
  if s < 432 then (if s % 4 = 0 then 3 else 2)
  else if s < 480 then
    match s % 8 with
    | 0 => 2
    | 1 => 1
    | 2 => 2
    | 3 => 1
    | 4 => 1
    | 5 => 2
    | 6 => 1
    | _ => 2
  else
    match s with
    | 480 => 1
    | 481 => 1
    | 482 => 2
    | 483 => 1
    | 484 => 1
    | 485 => 0
    | 486 => 1
    | 487 => 1
    | 488 => 0
    | 489 => 2
    | 490 => 1
    | 491 => 1
    | 492 => 2
    | 493 => 2
    | 494 => 1
    | 495 => 1
    | 496 => 1
    | 497 => 2
    | 498 => 1
    | 499 => 1
    | 500 => 2
    | 501 => 1
    | 502 => 2
    | 503 => 2
    | 504 => 2
    | 505 => 2
    | 506 => 2
    | 507 => 2
    | 508 => 2
    | 509 => 3
    | 510 => 2
    | 511 => 1
    | 512 => 2
    | _ => 0

/-- Reset value of `EVT_CFG[s]` (R394, R395, R418); sources 516 to 543 are reserved and read 0. -/
def evtCfgReset (s : Nat) : Nat :=
  if s < 516 then
    let sev := evtDefaultSev s
    sev + (if 2 ≤ sev then 4 else 0) + (if sev = 3 then 8 + 16 + 32 else 0) + 256 * evtClass s
  else 0

/-- Reset value of `SEQ_ENTRY[e]` of tier `k`: the default sequence table. -/
def seqEntryReset (k e : Nat) : Nat :=
  let ent (ch place rep : Nat) : Nat := ch + 128 * place + 256 * (rep - 1)
  if e < 18 then ent e 1 16
  else if e < 22 then ent (0x20 + (e - 18)) 0 16
  else if e < 25 then ent (0x30 + (e - 22)) 0 16
  else if e = 25 then ent 0x38 0 16
  else if e < 29 then ent (0x3C + (e - 26)) 0 4
  else if e = 29 then ent 0x3F 0 16
  else if e < 32 && k == 0 then ent (0x28 + (e - 30)) 0 16
  else 0x7F

/-- The row of `rows` that holds address `a`. -/
def findRow (a : Nat) : List WordRow → Option WordRow
  | [] => none
  | r :: rs =>
    let d := a - r.base
    let i := if r.stride1 = 0 then 0 else d / r.stride1
    let e := if r.stride1 = 0 then d else d % r.stride1
    let j := if r.stride2 = 0 then 0 else e / r.stride2
    let f := if r.stride2 = 0 then e else e % r.stride2
    if r.base ≤ a && f = 0 && i < r.count1 && j < r.count2 then some r else findRow a rs

/-- The row of address `a`, with the fields of check-value unit 0 (R393) and of the reserved event sources (R394) read-only,
and the reserved bits of the last `CELL_MODEL` word. -/
def wordRow (a : Nat) : Option WordRow :=
  match findRow a (wordRowsAt a) with
  | none => none
  | some r =>
    if 0xB0000 ≤ a && a < 0xB0020 then some { r with staged := 0, ro := r.ro ||| r.staged }
    else if 0x70000 + 4 * 516 ≤ a && a < 0x70880 then some { r with staged := 0, ro := r.ro ||| r.staged }
    else if a = Wd.CELL_MODEL 6 then some { r with staged := 0xFFFFFF, rsv := 0xFF000000 }
    else some r

/-- A word is mapped when a register table lists it (R496). -/
def mapped (a : Nat) : Bool := (wordRow a).isSome

/-- The Reset value of the word at `a` (R500); 0 for a word that is not mapped. DESIGN CHOICE (log entry 6). DESIGN CHOICE (log entry 20). -/
def resetWord (a : Nat) : Word :=
  let base := match findRow a (wordRowsAt a) with
    | some r => r.reset
    | none => 0
  let k := (a - 0x10000) / 0x2000
  let off := (a - 0x10000) % 0x2000
  BitVec.ofNat 32 <|
    if 0x70000 ≤ a && a < 0x70880 then evtCfgReset ((a - 0x70000) / 4)
    else if 0x10000 ≤ a && a < 0x1C000 then
      if 0x100 ≤ off && off < 0x200 then seqEntryReset k ((off - 0x100) / 4)
      else if a = Wd.SEQ_CTRL 0 then base + 2
      else base
    else if 0x20200 ≤ a && a < 0x20250 && a % 16 = 0 then 1
    else if a = Wd.CV_CTRL 0 then base + 3
    else base

/-- The configuration words: those that differ from their Reset values. -/
abbrev WordMap := KV Word

/-- The word at `a` as a number. -/
def wordAt (m : WordMap) (a : Nat) : Nat := (kvGet resetWord m a).toNat

/-- The map with the word at `a` set to `v` modulo 2^32. -/
def putWord (m : WordMap) (a v : Nat) : WordMap := kvSet resetWord m a (BitVec.ofNat 32 v)

/-- The value of a field. -/
def fieldAt (m : WordMap) (f : Field) : Nat := bitsOf (wordAt m f.a) f.lo f.w

/-- The map with a field set. -/
def putField (m : WordMap) (f : Field) (v : Nat) : WordMap := putWord m f.a (putBits (wordAt m f.a) f.lo f.w v)

end Sys2Proof.Machine
end

