-- ==== Sys2Proof/Machine/State.lean ====
section
/-!
DEFINITION. The state of the SX6108, plain data: every register of configuration space as one sparse word map, and beside
it, chapter by chapter, what the spec gives the machine that no register shows. `State.reset` is the module right after
the always-on domain has started with its retention store lost and RESET# released (R462 code 0x01): the base die
has not begun its start sequence, and no tier link is up.
-/

namespace Sys2Proof.Machine

/-- Why a step stops for good. No rule of the spec makes the block stop: the type is empty. -/
inductive Fault where
deriving DecidableEq, Repr

/-- Why a command has no meaning. -/
inductive Refusal where
  /-- Raised by an arm of `exec` for a row that the model does not give a meaning yet; safe, since nothing can be proved of a step that is not taken. -/
  | notModelled (mnemonic : String)
deriving DecidableEq, Repr

/-! ### Frames (R323 to R327, R357) -/

/-- A frame: its header fields and its payload. The two check fields are computed when the frame is sent. -/
structure Frame where
  ftype   : Nat
  ver     : Nat
  hops    : Nat
  up      : Bool
  bcast   : Bool
  seq     : Nat
  op      : Nat
  origin  : Nat
  away    : Bool
  ohead   : Bool
  payload : List Byte
deriving DecidableEq, Repr

/-! ### Events (R394 to R416) -/

/-- An open handling window (R407): its opener, its severity, the span in which it opened or was upgraded, and the order
in which it took fatal severity. -/
structure Window where
  opener : Nat
  sev    : Nat
  opened : Nat
  order  : Nat
deriving DecidableEq, Repr

/-- An event record waiting in the event queue (R412, R416), apart from its DSEQ. -/
structure EvtRec where
  src    : Nat
  sev    : Nat
  late   : Bool
  summary : Bool
  inWindow : Bool
  cntSat : Bool
  stamp  : Stamp
  pos    : Nat
  value  : Nat
deriving DecidableEq, Repr

/-- An entry of a tier event latch (R29): first and last occurrence and a saturating count; `unreported` counts the raises
that no span record and no live delivery carries (R413). The stamp of the last occurrence keeps the tier's own state (R52). -/
structure LatchEntry where
  firstSpan  : Nat
  firstGrain : Nat
  last       : Stamp
  count      : Nat
  unreported : Nat
deriving DecidableEq, Repr

/-- A raise made in a tier (R27, R413): its source and value, the stamp that the tier gave it (R52), and a mark: 0 delivered
live, 1 late, 2 live but not delivered. -/
structure TierEvt where
  src   : Nat
  value : Nat
  stamp : Stamp
  mark  : Nat
deriving DecidableEq, Repr

structure Events where
  windows   : KV (Option Window)     -- by class
  fatals    : Nat                    -- order number of the next window that takes fatal severity
  beaconHf  : Bool                   -- R403, second term
  queue     : List EvtRec            -- oldest first, at most 256
  overflow  : Nat                    -- records discarded since the last raise of source 511
  wake      : Bool                   -- WAKE# asserted
  wakeSrcs  : List Nat               -- sources that caused a wake since the last release
  latch     : KV LatchEntry          -- tier event latches, by source
  loadSpan  : Option Nat             -- span of the READY that loaded the counters (R401)
deriving DecidableEq, Repr

/-! ### Host ports, sequence numbers, staging, transfers, schedule (R352 to R392, R64 to R67) -/

/-- A cached reply (R363). -/
structure Cached where
  hseq   : Nat
  status : Nat
  data   : List Byte
deriving DecidableEq, Repr

/-- The sequence counter of one source and kind, beside `LAST_HSEQ` or `LAST_BHSEQ` (R361, R363). -/
structure SeqState where
  valid : Bool
  cache : List Cached
deriving DecidableEq, Repr

/-- A command that waits in the firmware-path queue (R366). -/
structure Waiting where
  who   : Meta
  cmd   : Cmd
  again : Bool    -- a repeated read, which is executed again and not recorded again (R363)
deriving DecidableEq, Repr

/-- A scheduled action (R65). -/
inductive Action where
  | commit
  | mode (code : Nat)
  | snap (reqTq : Bool)
  | excite (cells klo khi amp reps : Nat)
  | fwSwap (version : Nat)
deriving DecidableEq, Repr

/-- A schedule entry (R64, R67): a pending entry waits for time qualification since the span `since`; of an entry with a named
target span, `since` is that span. -/
structure Entry where
  act     : Action
  span    : Nat
  grain   : Nat
  pending : Bool
  named   : Bool
  since   : Nat
  who     : Meta
deriving DecidableEq, Repr

/-- The open transfer (R381). -/
structure Transfer where
  owner  : Nat
  kind   : Xfer
  target : Nat
  length : Nat
  crc    : Nat
  data   : List Byte
  last   : Nat          -- span of BEGIN or of the last DATA
deriving DecidableEq, Repr

/-- A replay in progress to one source (R371). -/
structure Replay where
  next : Nat
  left : Nat
  port : Nat
deriving DecidableEq, Repr

/-- What the two-wire controller's host sees as the target (R446 to R448) is kept in `Host` beside the SPI port. -/
structure HostPort where
  hq       : List Frame                 -- SPI host queue, oldest first, at most 64
  inBuf    : List Frame                 -- SPI input buffers waiting for a chain port, at most 4
  miso     : List Byte                  -- bytes driven on HMISO in the last transaction
  twq      : List Frame                 -- two-wire host queue, at most 16
  twIn     : List Frame                 -- two-wire input buffers, at most 2
  twOut    : List Byte                  -- bytes given in the last target read
  twCalled : Nat                        -- frames of the two-wire queue already called for (R452)
  fwq      : List Waiting               -- firmware-path queue, at most 16
  seqs     : KV SeqState                -- by 2 · source + (1 for the broadcast counter)
  replayBuf : List Frame                -- the last 4,096 report frames, oldest first
  replays  : KV (Option Replay)         -- by source
  sched    : List Entry                 -- at most 32
  shadow   : KV (Option Word)           -- words staged since the set last equalled the committed set: their staged fields
  owner    : Option Nat                 -- owner of the shadow set
  ownerSpan : Nat                       -- span of the last CFG_STAGE of the owner
  acked    : List Nat                   -- tiers that have acknowledged the scheduled commit (R385)
  xfer     : Option Transfer
  tbCap    : KV (Option Stamp)          -- capture of TB_NOW_LO, by source (R498)
  chgCap   : KV (Option (Nat × Nat × Nat)) -- capture of CHG_NET_LO, by source
  convClear : KV Nat                    -- converter fault bits to clear at the next commit, by tier (R489)
  lcSeq    : Option (Nat × Nat × Nat × Nat) -- life-cycle sequence: source, target, next step, span of the last step (R488)
  cvRun    : KV Nat                     -- by check-value unit: span at which the pass in progress began, + 1 (R389)
  cvEvt    : KV Nat                     -- span of the last mismatch event while passes keep failing, + 1
deriving DecidableEq, Repr

/-! ### Results from the tiers (R17, R18) -/

/-- Where a tier result is filed in a bank of the result window memory (R506): sub-window `i` of cell or current `c`, a word,
or half a word at an offset. -/
inductive WinSlot where
  | sub (c i : Nat)
  | word (off : Nat)
  | half (off : Nat)
deriving DecidableEq, Repr

/-- Results on their way from a tier to the base die (R17, R18): window words, temperatures (index, code, fault, instant),
whether they are those of a span record, and the header of a sub-window block (R89). -/
structure UpItem where
  span  : Nat
  words : List (WinSlot × Nat)
  temps : List (Nat × Nat × Bool × Nat)
  isRec : Bool
  hdr   : List Nat
deriving DecidableEq, Repr

/-! ### Result windows and the shared store (R504 to R517) -/

/-- A bank of the result window memory: the words that differ from the preset (R505), the preset's `SPAN4`, and whether it
has been preset at all (a bank just zeroed has not). -/
structure Bank where
  words  : KV Word          -- by offset
  preset : Bool
  span4  : Nat
  n      : Nat
  tiers  : Nat              -- tiers whose results are present
  span   : Nat
deriving DecidableEq, Repr

/-- A source's open and held block (R512). -/
structure BlockHold where
  block  : Nat              -- first offset of the held block
  bytes  : Nat
  gen    : Nat              -- `WH_GEN` at the opening
  opened : Nat              -- span · 4096 + grain of the opening
  isOpen : Bool
deriving DecidableEq, Repr

structure Windows where
  filling   : Bank
  completed : Bank
  swapped   : Bool                      -- a swap has taken effect since READY
  gen       : Nat                       -- swaps since READY
  holds     : KV (Option BlockHold)     -- by source; 4 + source for the fast path
  snapArm   : List (Stamp × Meta)       -- executed SNAPs whose copy is due: time of execution and command
  store     : KV Word                   -- the shared store, by word offset
  early     : List (Nat × UpItem)       -- results of a later span that wait for the swap, with their tier
deriving DecidableEq, Repr

/-! ### Time base (R37 to R69) -/

/-- The numbered ways into ACQUIRING (R41). -/
inductive AcqFrom where
  | free
  | holdover
  | commit
deriving DecidableEq, Repr

/-- The spans and grains of the module. -/
structure Clock where
  span  : Nat
  grain : Nat
deriving DecidableEq, Repr

structure TimeBase where
  period    : Nat                       -- period of the span in progress, units of 2.5 ns
  nextPeriod : Nat                      -- period of the next span as a time frame announces it (R56)
  tfPeriod  : Nat                       -- follower: last `TF_PERIOD`, 0 = none
  jumped    : Bool
  edges     : Nat                       -- accepted edges since the last prescaled edge
  lastEdge  : Option Nat                -- time of the last edge of either polarity, 2.5 ns units
  lastPre   : Option Nat                -- time of the last prescaled edge
  lastPeriod : Nat                      -- last prescaled period of SPAN_IN, 0 = none
  mean      : Nat                       -- mean of the two latest prescaled periods
  valids    : Nat                       -- consecutive valid prescaled periods of SPAN_IN
  preAt     : Nat                       -- instant of the last prescaled edge, in grains of the module's count
  sincePre  : Nat                       -- spans since the last prescaled edge
  marks     : Nat                       -- follower: span-mark sets taken in a row
  acqFrom   : AcqFrom
  qualified : Bool                      -- in ACQUIRING: the source has qualified (R42 step 1)
  sinceEdge : Nat                       -- spans since the first valid edge
  loss      : Nat                       -- loss condition declared, HOLDOVER at the next mark; 0 = none
  step      : Option (Nat × Nat)        -- frequency step chosen: grain, new period
  stepQuiet : Bool                      -- that step is an internal step of the master, which raises no STEP (R544)
  takeover  : Bool                      -- a STANDBY_MASTER acting as master (R61)
  reverted  : Bool                      -- a MASTER head that reverted under R55
  takeovers : Nat
  jumpTo    : Option (Nat × Nat)        -- forward jump: new number, earliest span mark at which it is made
  frames    : Nat                       -- time frames and marks seen by a follower since FREE
  ahead     : Bool                      -- TF_SPAN below the own count
  heardMaster : Bool                    -- a time frame of another MASTER has been received (R55)
  otherDir  : Bool                      -- marks of the direction not in use are present (R59)
  dirDue    : Bool                      -- the direction changes at the next mark (R59)
  dirFailed : Option Nat                -- the port whose marks have failed and have not been good since (R59)
  dirDelay  : KV Nat                    -- follower, by port: delay from the master in that direction, ns + 1
  reportAt  : Nat                       -- span of the last SPAN_REPORT, + 1 (R62)
  probes    : KV (Nat × Nat × Nat)      -- by 64 · port + hop count: probes averaged, sum of delays, pending
  probeNext : Nat                       -- position to probe in the present span
  probeAt   : Nat                       -- span in which that position was first probed, + 1
  probeOut  : Option (Nat × Nat)        -- port and hop count whose echo is due
  echoDue   : Option (Nat × Nat)        -- echo to send: port, own hop count
  delays    : KV Nat                    -- last delay given, by 64 · port + hop count, ns
  markNow   : Stamp                     -- stamp of grain 0 of the span in progress
  markPrev  : Stamp                     -- that of the span before
  stepNow   : Option Nat                -- grain of a frequency step made in the span in progress
  stepPrev  : Bool                      -- one fell in the span before
  frameAt   : Nat                       -- master: span of the last time frame, + 1 (R56)
  stepTold  : Bool                      -- the step of the span in progress has been announced (R56)
  freeCycles : Nat                      -- cycles of the 400 MHz clock in the internal span, corrected once per span (R292)
deriving DecidableEq, Repr

/-! ### The Rinsa chain (R316 to R351) -/

/-- An ordered set sent (R321). -/
inductive OSet where
  | train (data : Nat)
  | cal (data : Nat)
  | credit (data : Nat)
  | beacon (data : Nat)
  | mark (data : Nat)
  | probe (data : Nat)
  | echo (data : Nat)
deriving DecidableEq, Repr

/-- A frame in a receive buffer: `fwd` when it is to leave by the other port. -/
structure RxSlot where
  frame : Frame
  fwd   : Bool
  abort : Bool
deriving DecidableEq, Repr

structure Port where
  txq      : List Frame          -- local frames, at most 32
  rxbuf    : List RxSlot         -- receive buffers in use, at most 8; a slot with `fwd` false holds a frame that has left
  sent     : Nat                 -- frames sent since link up, mod 16
  released : Nat                 -- far end's cumulative count from CREDIT, mod 16
  freed    : Nat                 -- own cumulative released count, mod 16
  trainRx  : Nat                 -- consecutive valid TRAIN sets received
  trialFull : Bool               -- rate on trial
  rateChange : Bool              -- trains after a change of rate (R337)
  firstSec : Bool                -- in the first second at full rate after a return (R319)
  askFall  : Bool                -- the up port asks for fallback
  fallErrs : Option Nat          -- the errors of the second in which it began to ask (R350)
  calHold  : Bool                -- the far end calibrates: no symbol lock is held (R320)
  creditRaised : Bool            -- credit timeout event raised for the present wait
  checkErrs : Nat                -- errors since the last frame check event
  checkSpan : Option Nat         -- span of the last frame check event
  held     : List OSet           -- sets that fell due during a calibration
  lastTx   : Option (Frame × Bool) -- last frame that left the port, and whether it ended in EOFA
  lastSet  : Option OSet         -- last ordered set that left the port
  markAt   : Option Nat          -- instant at which the port last sent or forwarded a MARK set
  calDue   : Bool                -- a calibration is due: port enable or change of rate (R320)
  calTemp  : Option Int          -- mean base-die temperature at the last calibration, 1/64 °C
deriving DecidableEq, Repr

structure Chain where
  ports   : KV Port                       -- 0 down, 1 up
  beacons : List (Nat × Nat)              -- orders in progress: port, sets left
  bcnAt   : KV (Option (Nat × Nat))       -- by origin (64 · away + position): time of the last beacon counted (span, grain)
  enumGen : KV (Option (Nat × Nat))       -- by port of arrival: generation and head identity of the last ENUM
  enumPos : KV Nat                        -- by port of arrival: the count of that ENUM, in use with its TOPO (R338)
  enumEnds : Option (List (Nat × Nat × Nat)) -- enumeration in progress: ends heard (port, kind, count)
  retopo  : Bool                          -- TOPO_CHANGE is raised once TOPO is sent (R341)
  linkUps : List (Nat × Nat × Nat × Nat)  -- LINK_UP frames awaiting their pair: POS_UPH, POS_DNH, port, identity
  modules : KV Nat                        -- identities of the last enumeration, by position
  otherHead : Option Nat                  -- identity of the other head (R55)
  txSeq   : KV Nat                        -- FH_SEQ counters by frame type (R327)
deriving DecidableEq, Repr

/-! ### Modes and power (R419 to R441), two-wire controller (R449 to R458), starts (R462 to R489) -/

/-- What the base die is doing. -/
inductive Phase where
  | starting        -- released from reset, start sequence not complete
  | ready
  | shutting        -- a SHUTDOWN executes: saving and self-test
  | shutWait        -- the wait after a completed SHUTDOWN
  | storeEntry      -- STORE executed, writes under way
  | store           -- STORE: unpowered
  | handover        -- a hand-over in progress
  | absent          -- hand-over complete, rails not good
  | debounce        -- rails good, 10 ms not over
deriving DecidableEq, Repr

/-- A set-point write under confirmation (R436). -/
structure VrWrite where
  mv    : Nat
  tries : Nat
deriving DecidableEq, Repr

structure Power where
  phase    : Phase
  railsOk  : Bool
  rising   : Nat                -- debounce restarts in this hand-over
  replug   : Bool               -- rails returned during the hand-over; in STORE and the shutdown wait, after an absence
  vcLow    : Bool
  vioLow   : Bool
  vrLinear : Bool
  write    : Option VrWrite
  vrFailed : Bool               -- a third failure stopped the writes until the next retry (R436)
  ctlTries : KV Nat             -- by PMBus command: failed tries in a row of a transfer other than a set-point (R436, R449)
  target   : Nat                -- set-point wanted, mV
  confirmed : Nat               -- last confirmed set-point, mV
  slackRun : Nat                -- consecutive reads at 12.0 % or more
  storeIt  : Nat                -- I_t of the present STORE interval, 0.1 µA
  drawAt   : Nat                -- span of the last matching of the tiers' draws (R112)
  bleedOn  : KV Bool
  bleedMs  : KV Nat
  wakeCh   : KV Bool            -- wake channels, by tier
deriving DecidableEq, Repr

/-- The retention store (R34), beside the words it keeps in configuration space. -/
structure Retention where
  ok        : Bool              -- CRC-16 good
  bank      : Nat
  trial     : Bool
  cause     : Nat               -- reset cause
  mode      : Nat
  holdFab   : Nat
  lcMirror  : Nat
  pend492   : Option Nat        -- value of source 492 to raise at READY
  pend509   : Bool
  pend510   : Option Nat        -- word address of a tightly coupled memory error
  swapped   : Bool              -- the restart is the one a FW_SWAP causes
deriving DecidableEq, Repr

/-- A checkpoint of a cell (R202, R240): span, `CHG_NET` then, mean and covariance. -/
structure Ckpt where
  span : Nat
  net  : Int
  mean : List Int
  cov  : List Int
deriving DecidableEq, Repr

/-- A record of the history store (R480). -/
structure Record where
  number : Nat
  kind   : Nat
  span   : Nat
  body   : List Byte
  len    : Nat                  -- body bytes; those beyond `body` are the checkpoint area, which the spec does not lay out
  ckpt   : KV (Option Ckpt) -- CHECKPOINT: the checkpoints that it holds
  place  : Nat                  -- where it begins in the log, in bytes since the log began
deriving DecidableEq, Repr

/-- The log of the history store over its sectors (R479, R483): it goes round over `sectors` data sectors of 4,096 bytes, from `tail` to `head`. -/
structure TunLog where
  head    : Nat                 -- bytes since the log began, at the next append
  tail    : Nat                 -- those at the oldest sector in use
  sectors : Nat                 -- data sectors in the log
  slots   : KV Nat              -- place in the round ↦ sector
  erases  : KV Nat              -- sector ↦ erase count
  spare   : Nat                 -- the next spare sector
  once    : KV Bool             -- wear causes 2 to 5 that have been raised
deriving DecidableEq, Repr

/-- A firmware bank beside `BANK_x_VALID` and `FW_VER`. -/
structure FwBank where
  image   : List Byte
  erased  : Nat                 -- bytes erased from the start
  minRev  : Nat
deriving DecidableEq, Repr

/-- The transfers of the two-wire controller (R449). -/
inductive TwJob where
  | regulator (cmd : Nat) (value : Nat)
  | identity
  | passThrough (addr : Nat) (pec : Bool) (wlen rlen : Nat)
deriving DecidableEq, Repr

structure TwoWire where
  due     : List (TwJob × Nat)  -- waiting transfers, each with its arbitration losses so far
  active  : Option (TwJob × Nat)
  idDue   : Bool                -- an identity read is due (R450)
  idTries : Nat                 -- failed identity reads
  idWait  : Bool                -- a failed identity read waits for its retry
  clocks  : Nat                 -- recovery clocks of the last attempt (R457)
  freed   : Bool                -- SDA released by the last recovery
  attn    : Nat                 -- attention pulses given
  attnAt  : Option Nat          -- instant of the last of them (R452)
  vrExp   : Int                 -- VOUT_MODE exponent
deriving DecidableEq, Repr

structure Startup where
  tun       : List Record       -- oldest first
  log       : TunLog
  banks     : KV FwBank
  shutdown  : Option (Nat × Bool) -- accepted SHUTDOWN: span, SELFTEST
  reported  : Nat               -- number of the last SELFTEST record reported
  aborted   : Bool              -- a self-test was cut off
  testing   : Option (Nat × Nat) -- TEST function running: function, argument
  scan      : Bool
  bankEvt   : List (Nat × Nat × Nat)    -- firmware bank events to raise at READY: cause, bit 5, version
  recBad    : List Nat          -- kinds whose latest record failed at the start
  repair    : KV Nat            -- rows replaced: (cubit · 16 + bank) · 16 + spare row ↦ row + 1
  calWait   : Bool              -- waiting for calibrating tiers (R463 step 5)
  lost      : Bool              -- retention store lost at this start
  changed   : Bool              -- the start runs a firmware bank other than the last one
  readySpan : Nat               -- span of the last READY
  booted    : Bool              -- the start sequence has run as far as READY
deriving DecidableEq, Repr

/-! ### Tiers: the link and the result buffer (R15 to R30) -/

/-- A tier span record (R27): the raises of the span carry their value beside source and grain (R413). -/
structure SpanRec where
  span   : Nat
  stamp  : Stamp                    -- the tier's stamp of its grain 0
  flags  : Nat
  status : Nat
  cells  : List Nat
  seq    : List Nat
  therm  : List Nat
  sat    : List Nat
  die    : List Nat
  thr    : List Nat
  cur    : List Nat                 -- shunt word, Hall word, increments of charge in and out, flags
  evts   : List TierEvt             -- the first eight raises
deriving DecidableEq, Repr

/-- A span of a tier that its mark has closed and whose record is not yet written: its number, the tier's stamp of its grain 0,
 its raises, its period and, where a frequency step fell in it, the grain of the step and the period before. -/
structure Closed where
  span   : Nat
  stamp  : Stamp
  flags  : Nat
  evts   : List TierEvt
  period : Nat
  stepG  : Nat
  before : Nat
deriving DecidableEq, Repr

structure TierLink where
  lane0    : Bool
  lane1    : Bool
  active   : Nat
  supplied : Bool
  supplyLow : Bool                  -- the last status showed the supply below the tier minimum
  calibrating : Bool
  cold     : Bool                   -- the span count started from 0 and has not been set (UNSYNC)
  draining : Bool
  buf      : List SpanRec           -- oldest first, at most 256
  lost     : Nat
  span     : Nat                    -- the tier's own span count
  period   : Nat                    -- period of the tier's span in progress, 2.5 ns units
  jumped   : Bool                   -- the tier's span in progress is the first after a forward jump
  marks    : Nat                    -- marks received in a row since the tier last held or ran free
  closed   : Option Closed          -- the span that the last mark closed
  tstate   : Nat                    -- the tier's own state, coded as `STATE`
  tcount   : Nat                    -- the tier's own HOLDOVER_COUNT
  mstate   : Nat                    -- `STATE` in the last mark
  mcount   : Nat                    -- HOLDOVER_COUNT in the last mark
  mtq      : Bool                   -- the base die was time-qualified at the last mark
  upUnsync : Bool                   -- `UNSYNC` in the status sent when the link came up (R49)
  evts     : List TierEvt           -- raises of the span in progress
  up       : List UpItem            -- results on the link, oldest first
  overrun  : Nat                    -- overrun causes already reported in this span, one bit per cause
  dropped  : Nat                    -- secondary records dropped in this span
  held     : KV (Option Word)       -- committed words that the tier has lost, until they are delivered again (R388)
  partDiff : Bool                   -- part mismatch reported, delivery under way
  lowSpan  : Bool                   -- a lane did not work at some time in the span (LANE_SPARE)
  store    : Bool                   -- the tier is in STORE (R423)
  last     : Option WordMap         -- the tier's words in the last status before the loss of its link (R499)
deriving DecidableEq, Repr

/-! ### The primary path (R70 to R114) -/

/-- The post-filter of a cell (R79 to R81), in 2⁻²⁴ of the code: its two states, and the end of the last span that entered it. -/
structure PostState where
  y1   : Int
  y2   : Int
  upTo : Nat
deriving DecidableEq, Repr

/-- The audit of a converter (R104, R105). Stage 0: first dwell; 1: the other spare repeats it; 2: repeated against the
secondary results. The sums run over the compared spans, in 1/`auditUnit` µV. -/
structure Audit where
  cell   : Nat
  spare  : Nat
  stage  : Nat
  from_  : Option Nat               -- first span compared; none until the spare has moved to the cell
  n      : Nat
  sum    : Int                      -- spare minus converter
  wide   : Bool                     -- a compared span lay outside 2.0 to 4.5 V
  convSec : Int                     -- converter minus secondary
  spareSec : Int                    -- spare minus secondary
  first  : Option (Nat × Int × Nat) -- the first spare, its sum and its spans
  next   : Option (Nat × Nat)       -- where the spare has gone on with the last compared span: cell, first span compared there
deriving DecidableEq, Repr

/-- A crossbar move that is due (R103, R107): the spare, its cell (none: the spare becomes idle), its use there, and the span at whose
end it is made. -/
structure Move where
  spare : Nat
  cell  : Option Nat
  use   : Nat
  span  : Nat
deriving DecidableEq, Repr

/-- What measures a cell (R107, R108): up to the instant `down`, or where it is none up to the span `from_`, the converter `old`; from
then on nothing, until the span `from_` from which the converter `now` is in charge. A converter is a spare, or the cell's own (none). -/
structure Serve where
  old   : Option Nat
  down  : Option Nat
  now   : Option Nat
  from_ : Option Nat
deriving DecidableEq, Repr

/-- The primary path of a tier beside its registers. Instants are span · 4096 + grain in the tier's count. -/
structure TierPrim where
  raw        : KV Wave              -- readings of the converters, newest first: 0 to 17 cells, 18 and 19 spares, 20 shunt
  rawTo      : Nat                  -- end of those readings
  subDone    : Nat                  -- end of the last sub-window completed
  sincFrom   : Nat                  -- start of the sinc history of the tier
  notchFrom  : Nat                  -- start of the notch history of the tier
  postFrom   : Nat                  -- restart of the post-filters of the tier
  restarted  : Bool                 -- no block has left since a tier restart
  cellFrom   : KV Nat               -- start of the sinc and notch history of a cell, where later
  cellPost   : KV Nat               -- restart of the post-filter of a cell, where later
  post       : KV PostState         -- by local cell; 18: the shunt
  hdr        : List Nat             -- header of the last sub-window block (R89)
  lastWord   : KV Nat               -- last primary span word by local cell
  lastGood   : KV (Option Int)      -- code of the last span word without EST
  orLast     : Nat                  -- cells with OR in the span before
  ovOn       : Nat                  -- over-voltage active, by cell
  uvOn       : Nat
  ovCnt      : KV Nat               -- debounce counts (R97)
  uvCnt      : KV Nat
  taps       : List (Nat × Nat)     -- the last tap tests, latest first: cell, start
  tapOn      : Bool                 -- the latest one is running
  audit      : Option Audit
  auditNext  : Nat
  moves      : List Move
  serve      : KV Serve             -- by local cell
  exhausted  : Nat                  -- cells for which SPARE_EXHAUSTED has been raised
  stepG      : Nat                  -- grain of a frequency step in the span in progress, 0 = none
  before     : Nat                  -- period before that step
  mLog       : Nat                  -- log₂ M in force (R39, R40)
  mAt        : Nat                  -- instant from which it is in force, and log₂ M before (R106)
  mBefore    : Nat
  recal      : Bool                 -- recalibrating under TEST RECAL
  mode       : Nat                  -- the mode that the tier measures for, as the base die last gave it (R111)
  drawAt     : Nat                  -- span of the last average of the supply draw (R112)
deriving DecidableEq, Repr

/-! ### The secondary path (R115 to R142) -/

/-- The run and the in-threshold series of a comparison (R130, R131). -/
structure DiscRun where
  active : Bool
  count  : Nat
  first  : Nat
  last   : Nat                      -- latest exceeding result
  fromActive : Bool                 -- the run began while the discrepancy was active
  sCount : Nat
  sFirst : Nat
  lastT  : Option Nat               -- latest compared result
  cmpd   : Bool                     -- compared in the span in progress
  lastX  : Bool                     -- the latest compared result exceeded
deriving DecidableEq, Repr

/-- A stretch of samples of a conversion (R120, R126): the instant of its first sample, the samples, their distance as a quotient, and the
period they were placed with, since samples keep their grain positions through a step.
Instants of the sequencer are a grain (span · 4096 + grain) and a fraction of it, in 1/period of the tier. -/
structure Stretch where
  at_   : Nat × Nat
  num   : Nat
  den   : Nat
  count : Nat
  period : Nat
deriving DecidableEq, Repr

/-- A conversion that has switched its channel (R120): an entry of the table, or an urgent request. -/
structure Conv where
  ch      : Nat
  reps    : Nat
  spread  : Bool
  recheck : Bool
  parts   : List Stretch            -- in order; pre-emption divides them
deriving DecidableEq, Repr

structure TierSec where
  next    : Nat                     -- entry that runs or runs next
  run     : Option Conv             -- that entry, once its delay is over
  preempted : Bool
  endAt   : Nat × Nat               -- end of the last sample of the entry before: the delay counts from there
  freeAt  : Nat × Nat               -- end of the last sample of any conversion
  cycleFrom : Option (Nat × Nat)    -- start of the cycle in progress
  longRaised : Bool                 -- CYCLE_LONG counted in this cycle
  storeIdle : Bool                  -- in STORE: the cycle of the present record is complete (R136)
  hostQ   : List (Nat × Nat)        -- channel, repeat count
  recheck : List Nat                -- local cells
  serving : Option Conv             -- the urgent request being served
  words   : KV Nat                  -- `SEQ` words of the span record
  cellRes : KV (Option (Nat × Nat)) -- latest result of a cell: value, span
  runs    : KV DiscRun              -- by local cell; 18 shunt, 19 Hall
  outCnt  : List Nat                -- spans for which A, B, C have been out
  agreeCnt : Nat                    -- spans for which the outvoted reference has agreed with both others
  noMaj   : Nat
  maj     : Nat
  refSel  : Nat                     -- references that the primary converters use: one bit each (R137)
  refNext : Nat                     -- those that they use from the span `refAt` on (R138)
  refAt   : Nat
  refMid  : Nat                     -- the median of the three references at the latest vote (R137)
  cyc     : Nat                     -- cycles of the active oscillator in the last whole span, 0 = none counted, and the period of that span (R77, R291)
  cycOf   : Nat
  oscBad  : Nat                     -- consecutive spans with the active oscillator outside tolerance
  undecAt : Option Nat              -- span of the last UNDECIDED while its condition lasts
  bothAt  : Option Nat              -- span of the last BOTH_BAD while its condition lasts
  storeT  : Nat                     -- in STORE: the instant at its entry, and 4,096 for every record since (R136)
  lastRec : List Byte               -- the latest secondary result record (R121)
deriving DecidableEq, Repr

/-! ### Temperatures and strings (R286 to R303) -/

structure TierTherm where
  th      : KV (Nat × Nat)          -- thermistor input: code, instant of the result + 1
  die     : KV (Nat × Nat)          -- die sensor likewise
  exclCnt : KV Nat
  readCnt : KV Nat
  comp    : Nat                     -- T_die used by the compensation in force (R291)
deriving DecidableEq, Repr

structure Strg where
  phase   : Nat                     -- 0 idle, 1 conversion, 2 data
  seen    : Nat                     -- positions accepted in this cycle
  top     : Nat                     -- highest position accepted in this cycle + 1
  ever    : Nat                     -- positions that have been present
  sat     : KV (Nat × Nat)          -- position: code, instant + 1
  miss    : KV Nat
  bad     : KV Nat
  good    : KV Nat
  cycles  : Nat
  enumRaised : Bool
  lowRaised  : Bool
  highRaised : Bool
  errs    : Nat                     -- errors since the last TIMING event
  timingAt : Option Nat             -- cycle of the last TIMING event
  shorted : Nat                     -- positions faulted by a short, until accepted again
  pulsed  : Bool                    -- a pulse has come in this data phase
  resync  : Bool                    -- a frame has failed: no frame begins before 90 µs without a pulse (R301)
  cycleAt : Option Nat              -- instant at which the cycle in progress began
  pulseAt : Nat                     -- instant of the last pulse, or of the fall from conversion level
  shortAt : Nat                     -- instant at which the supply was removed
deriving DecidableEq, Repr

/-- The thermal output beside its registers (R304 to R311). -/
structure ThermOut where
  demand  : Nat                     -- TS_DEMAND of the last SET
  d       : Nat                     -- last valid external demand
  ok      : Bool                    -- the external demand is valid
  lostFor : Nat                     -- samples since it was lost
  ext     : Option Nat              -- demand measured on THD_IN
  rise    : Option Nat              -- time of the last rising edge of THD_IN, 10 ns
  high    : Nat
  u       : Int
  s       : Int
  ePrev   : Option Int
  xPrev   : Option Int
  tLost   : Bool
  retry   : Bool                    -- the window in progress was opened by RETRY
  window  : Bool
  winEdges : Nat
  noRot   : Bool                    -- to be declared at the next sample
  lost    : Bool                    -- tach timeout, to be declared at the next sample
  stop    : Bool                    -- a stop is ordered
  edges   : List Nat                -- intervals of accepted edges, latest first, µs
  ivals   : List Nat                -- intervals of the present sample
  lastEdge : Option Nat
  newSet  : Option (Nat × Nat)      -- an accepted SET for the next sample: source and demand
  retryDue : Bool                   -- an accepted RETRY for the next sample
  tNow    : Nat                     -- temperature last used, as its code
  sampleAt : Nat                    -- instant of the latest sample
  winAt   : Nat                     -- instant at which the spin-up window opened
  edgeAt  : Nat                     -- instant of the last accepted tach edge
  thdAt   : Nat                     -- instant of the last edge of THD_IN
  rampFrom : Nat                    -- start of the ramp, and the duty there
  rampDuty : Nat
  duties  : List (Nat × Nat)        -- the latest changes of the duty, latest first: instant and duty (R304)
deriving DecidableEq, Repr

structure Temps where
  tiers   : KV TierTherm
  strings : KV Strg                 -- 2 · tier + string
  seen    : KV (Nat × Bool × Nat)   -- the base die's view by READ_TEMPS index: code, fault, instant + 1
  baseOt  : Bool
  baseComp : Nat                    -- temperature code at which the base oscillator is corrected (R292)
  out     : ThermOut
deriving DecidableEq, Repr

/-! ### Pack current (R143 to R176) -/

structure Cur where
  inQ    : Nat                      -- exact integral of charge in, 2⁻³² A·s
  outQ   : Nat
  netOff : Int                      -- NET_OFFSET, 2⁻¹⁶ A·s
  lastWord : Option Nat             -- bits [26:0] of the last span word without EST
  inInc  : Nat                      -- increments of the last span
  outInc : Nat
  net    : Int                      -- CHG_NET at the latest span boundary
  rest   : Nat                      -- consecutive REST spans
  lastDir : Nat                     -- last class other than REST and UNKNOWN, 0 = none
  hall   : List (Nat × Int × Bool)  -- Hall results of the present and the previous span: instant, 1/256 µV, S_OR
  hallWord : Nat                    -- latest Hall word of the span
  tHist  : KV (List (Nat × Option Int)) -- results of the inputs that `SHUNT_T_SRC` can name, by its code: instant, 1/64 °C (R149)
  cond   : Bool                     -- the condition of AUTO held in the span in progress
  hallFrom : Option Nat             -- under AUTO: start of the window from which the Hall input is in use
  orPrev : Nat                      -- current detail of the previous span (R157)
  clamped : Bool                    -- an ampere value of the span was clamped
  hallOr : Option Nat               -- grain of the first Hall result of the span that carries `S_OR`
  latch  : KV (LatchEntry)          -- pack current causes 1 to 5 (R174)
  cbWords : List (Nat × Nat × Nat)  -- words to broadcast: span, index, word
  cbSums : List (Nat × List Byte)   -- summaries to broadcast
  cond1  : Bool                     -- the shunt modulator is stuck (R154)
  cond2  : Bool                     -- the common mode is out of range
  good1  : Nat                      -- spans since its last stuck condition
  good2  : Nat                      -- consecutive spans in range
  cbFrom : Option Nat               -- the SOURCE in use: position + 64 · (frame UP) + 128 · `O_AWAY`
  cbCfg  : Option Nat               -- `CB_CFG` of its latest frame
  cbTwo  : Bool                     -- a second SOURCE has been reported
  cbLostFor : Nat                   -- spans without a summary
  cbLost : Bool
  cbGot  : Bool                     -- a summary has come in the span in progress
  cbDue  : List (Nat × Nat)         -- the latest spans, with their sub-windows for which a word is due (R172)
  paired : List (Nat × Nat × Nat × Nat) -- paired words: span, index, word, and the tiers whose cells they do not pair with
deriving DecidableEq, Repr

/-! ### Excitation (R214 to R225) -/

/-- A tone sum of an excitation period (R220): bin, voltage sum in µV (re, im) and current sum in mA (re, im), normalised to
amplitudes. -/
structure ToneSum where
  bin : Nat
  vr  : Int
  vi  : Int
  ir  : Int
  ii  : Int
deriving DecidableEq, Repr

/-- An excitation period that has ended and whose record has not arrived (R220): its cell and band, whether it is a measured
period, and one in which no frequency step fell; whether it is the last of its band, and of its cell. -/
structure ExcDue where
  cell     : Nat
  band     : Nat
  measured : Bool
  clean    : Bool
  lastBand : Bool
  lastCell : Bool
  from_    : Nat                    -- span at which the first measured period of the band began
  spans    : Nat
  tones    : List (Nat × Nat)       -- bin and harmonic
  j        : Nat                    -- the period is 2^j spans
deriving DecidableEq, Repr

/-- The waveform that a channel plays (R216, R218): phase 0 at `origin`, one period of 2^j spans, a ramp up from `up` and one down from
`down`. -/
structure ExcWave where
  tones  : List (Nat × Nat)
  j      : Nat
  amp    : Nat
  origin : Nat
  up     : Nat
  down   : Option Nat
deriving DecidableEq, Repr

structure ExcTier where
  cells    : List Nat               -- named cells after the present one
  bands    : List Nat               -- bands still to run, the present one first
  good     : Nat                    -- bands of the cell that have updated their bins
  poor     : Bool                   -- a band of the cell updated nothing
  tones    : List (Nat × Nat)       -- tones of the band: bin and harmonic
  periods  : List (List ToneSum)    -- measured periods kept
  measured : Nat                    -- measured periods of the band that have ended, kept or dropped
  stepped  : Bool                   -- a frequency step fell in the period in progress
  replan   : Bool                   -- a frequency step calls for the band plan again (R224)
  start    : Option Nat             -- span at which the period in progress began
  leadIn   : Bool                   -- ramping or in lead-in
  settle   : Bool                   -- the next period to begin is a settling period
  from_    : Nat
  rampAt   : Nat                    -- instant at which the channel's ramp-up begins
  due      : Option ExcDue
deriving DecidableEq, Repr

structure Exc where
  sweep : Option (Meta × Nat × Nat × Nat × Nat) -- command, XR_KLO, XR_KHI, XR_AMP, XR_REPS
  tiers : KV (Option ExcTier)
  held  : KV Nat                    -- channels whose loops are held by excitation
  waves : KV (Option ExcWave)       -- by channel
  begun : Option Stamp              -- execution of the latest sweep (R65, R370)
  recLen : KV Nat                   -- by tier: bytes of its latest period record (R220)
deriving DecidableEq, Repr

/-! ### The analysis fabric (R177 to R206) and its built-in jobs (R208 to R249) -/

/-- A job instance that runs (R191): its release, the span-history records it consumes (numbers from the start of the ring), and
whether a release has been skipped while it ran. -/
structure Inst where
  release : Nat
  first   : Nat
  last    : Nat
  late    : Bool
deriving DecidableEq, Repr

structure Job where
  inst    : Option Inst
  next    : Nat                     -- first record not consumed yet
  relAt   : Nat                     -- span of the last release dealt with, + 1
  gap     : Bool                    -- the next output carries INPUT_GAP
  lost    : Nat                     -- records lost in the run in progress (R188)
  okLag   : Nat                     -- consecutive on-time instances under LAG
  held    : Nat                     -- consecutive releases under LAG
  okRun   : Nat                     -- consecutive on-time instances
  image   : List Byte               -- the image of a host job
  out     : List Byte               -- the latest complete output buffer of a host job
  buf     : Nat                     -- the buffer of the two that the next instance writes
  fresh   : Bool                    -- no cubit has loaded the image yet
deriving DecidableEq, Repr

/-- A bin of a spectrum (R226): value in 10 µΩ, round(250·γ²), source, flags of the update, and its span. -/
structure BinVal where
  re   : Int
  im   : Int
  coh  : Nat                        -- 255: no update
  inj  : Bool
  settling : Bool
  low  : Bool
  gap  : Bool
  at_  : Nat
  whole : Nat                       -- 250·γ², rounded down: the thresholds that γ² reaches (R226)
  ever : Bool                       -- an injected update has been stored (R231)
deriving DecidableEq, Repr

/-- An address descriptor (R181). -/
structure Desc where
  base   : Int
  stride : Nat
  step   : Int
deriving DecidableEq, Repr

/-- A cubit (R177, R178, R180): its SRAM, instruction buffer and descriptors, and what the fabric keeps for it. -/
structure Cubit where
  sram     : KV Nat                 -- binary32 words, by 16 · line + word
  ibuf     : List Nat               -- instruction words
  desc     : KV Desc                -- the 16 descriptors
  cond     : Bool                   -- the condition flag
  sticky   : Nat                    -- invalid, overflow, divide by zero (R182)
  loops    : KV Nat                 -- repeats that a LOOP has made, by its place
  stalls   : Nat                    -- stall cycles of the window in progress (R185)
  busy     : Nat
  staging  : List Nat               -- span-history records that the instance in progress reads
  mailbox  : List Nat               -- signals to the management processor
  scrubRow : Nat                    -- next row to scrub (R200)
deriving DecidableEq, Repr

/-- A segment of the series of a bin (R212): Hann-windowed Fourier sums as amplitudes, in 2⁻⁶⁰ µV and mA. -/
structure Seg where
  vr    : Int
  vi    : Int
  ir    : Int
  ii    : Int
  bad   : Bool                      -- a condition of R212 fails
  gap   : Bool                      -- it follows an input loss
  first : Nat                       -- span of its first sample
  last  : Nat
deriving DecidableEq, Repr

/-- The load-current state of a bin of a cell (R212, R213): the segments in progress, the older first, and the counted ones, latest
first. -/
structure LoadBin where
  opened : List Seg
  done   : List Seg
deriving DecidableEq, Repr

/-- The series of R212: what it runs on. -/
structure Series where
  na     : Nat
  r      : Nat                      -- sub-windows to a value
  cyc    : Nat
  period : Nat
  pos    : Nat                      -- samples since it began
  next   : Nat                      -- span that continues it
deriving DecidableEq, Repr

/-- A member of an ensemble (R232, R236): 24 states, 6 parameter factors, the mean anode stoichiometry and its weight, each in 2⁻³². -/
structure Member where
  x : List Int
  f : List Int
  avg : Int
  w : Int
deriving DecidableEq, Repr

/-- The ensemble of a cell (R236): its members, or in TRACK form one mean of the states, the factors and the mean anode
stoichiometry, 31 quantities, and its covariance, row by row, in 2⁻³². -/
structure Ens where
  members : List Member
  mean    : List Int
  cov     : List Int
  upTo    : Nat                     -- spans propagated up to here
  gapLen  : Nat                     -- spans without a pack current in a row (R238)
  vNow    : Int                     -- predicted voltage at the span last propagated, 1 µV
  vGood   : Int                     -- that at the last result without EST (R247)
deriving DecidableEq, Repr

/-- What comes with a span-history record beside its words (R172, R237, R254): I_bal of every cell by interval, with the interval, the tiers
whose cells its current does not pair with, and the temperatures in use: of the sensors of group 0 by position, and of each tier's dies, 1/64 °C. -/
structure Beside where
  bal    : List (Nat × List Int)
  unpaired : Nat
  sens   : List (Nat × Int)
  dies   : List (List Int)
deriving DecidableEq, Repr

structure Fab where
  planDue : Bool                    -- a cause of R198 waits for the plan
  planned : Bool                    -- a plan has been in force since the start
  jobs    : KV Job                  -- by slot
  mLag    : Nat                     -- m_lag (R199)
  nLag    : Nat                     -- the internal limit of n_a (R199)
  histN   : Nat                     -- n of the span-history ring
  histCnt : Nat                     -- records written since the ring began
  histLive : Nat                    -- the span of the last live record, + 1
  confAt  : KV Nat                  -- by cubit: span of the last conflict event while the condition lasts, + 1
  bins    : KV BinVal               -- by 128 · cell + bin
  excAmp  : KV Nat                  -- tone amplitude of the latest injected update, by cell
  settle  : List Nat                -- spans whose current word carried REV, latest first (R227)
  reseed  : KV Nat                  -- updates left with RESEEDED, by cell
  ckpt    : KV (Option Ckpt)        -- checkpoints of the cells (R202, R240)
  ckCnt   : KV Nat                  -- updates since the checkpoint
  ensNow  : Nat                     -- cells with an ensemble: one bit each
  est     : KV (Option Int)         -- T_i of the latest check of a sensor
  plDis   : KV Nat                  -- consecutive disagreeing checks
  plOk    : KV Nat                  -- consecutive agreeing checks
  plSeen  : KV Nat                  -- instant of the result last checked, + 1
  plDue   : Nat                     -- sensors whose first check after a commit of the map is still due (R246)
  tOk     : KV Nat                  -- span of the last valid value of a temperature, + 1
  vLast   : KV (Option Int)         -- last span code of a cell without EST, as the base die received it
  estFor  : KV Nat                  -- spans estimated since the link of a tier was lost
  packs   : KV (List Byte)          -- model packs in use, by slot
  newPack : List Nat                -- slots whose pack has been replaced since the last ENSEMBLE release (R234)
  plateMax : KV Nat                 -- highest `PLATE` of a cell since the last HEALTH record, + 1
  cubits  : KV Cubit                -- by number
  beside  : KV Beside               -- by place in the ring of the span history
  curOld  : Option Nat              -- `CUR_FLAGS` of the last drained record of tier 0 (R174)
  load    : KV LoadBin              -- by 128 · cell + bin
  series  : Option Series
  ens     : KV (Option Ens)         -- by cell
  rot     : KV Nat                  -- by place among the ensemble cubits: the cell that ROTATED form serves next (R197)
deriving DecidableEq, Repr

/-! ### Balancing (R250 to R285) -/

/-- A loop between samples (R258, R260): its last output, the kept level, and the law and form it ran under. -/
structure LoopSt where
  out  : Int
  lev  : Int
  law  : Nat
deriving DecidableEq, Repr

/-- A set-point word (R256). -/
structure SetPoint where
  cmd  : Int
  ceil : Nat
  stop : Bool
  diag : Bool
  ff   : Bool
deriving DecidableEq, Repr

/-- A channel in the loop engine. -/
structure Chan where
  vt     : LoopSt
  il     : LoopSt
  temp   : LoopSt
  cmd    : Int
  sp     : SetPoint
  after  : Nat                      -- state after the stop ramp in progress
  stop   : Option Nat               -- a stop ordered for the next sample: the state after
  trip   : Option (Nat × Int)       -- a supervisor trip for the next sample: cause and detail
  req    : List (Nat × Nat)         -- BAL_SET requests for the next sample: action and target
  rerun  : Bool                     -- RUN accepted during the stop ramp
  fails  : List Bool                -- the last 8 evaluations, latest first
  revs   : List Bool                -- the last samples, latest first: a reversal
  sign   : Int                      -- sign of the last sample that met the band, 0 = none
  undiagAt : Nat                    -- span of the last diagnosed pulse, + 1
  runAt  : Nat                      -- span of entering RUN, + 1
deriving DecidableEq, Repr

/-- A power stage in its tier (R252 to R254, R274 to R277). -/
structure Stage where
  now    : SetPoint                 -- the word in force
  next   : Option SetPoint          -- the word received for the next apply grain
  fed    : Nat                      -- instant at which a word last arrived (R22)
  ramp   : Option (Nat × Int)       -- a stop ramp: its start, and the command there
  pulse  : Option (Nat × Bool)      -- a pulse in progress: its start, and a diagnostic pulse
  carry  : Int                      -- r, 1/4,096 grain
  debt   : Nat                      -- grains
  owed   : Bool                     -- a stop has ended a pulse of 64 grains or more, which is still to be diagnosed (R274)
  openN  : Nat
  highN  : Nat
  leakN  : Nat
  trips  : Nat                      -- hardware trips in the loop interval
  noResp : Nat                      -- consecutive intervals without response
deriving DecidableEq, Repr

/-- A loop record (R255): for each enabled local cell the interval mean in 100 µV, whether its blocks carry OR or DS, and whether they
carry EST (R545); for each channel of the tier its current into the own cell and into the partner cell and its mean sensed current, in mA;
and on tier 0 the mean pack current of the interval in mA. -/
structure LoopRec where
  cells : List (Option (Int × Bool × Bool))
  chans : List (Int × Int × Int)
  pack  : Option Int
deriving DecidableEq, Repr

structure Bal where
  chans  : KV Chan
  stages : KV Stage
  bud    : KV LoopSt                -- by tier
  recs   : KV (Option LoopRec)      -- loop records of the interval just ended, by tier
  prev   : KV (Option LoopRec)      -- those of the interval before
  missed : KV Nat                   -- samples in a row without a record, by tier
  rsup   : KV (Option (Int × Nat × Nat)) -- by cell: R_sup, its bin, span at which it was last valid
  packAt : Option Nat               -- span at which pack current at interval resolution was last available
  ibal   : List (Nat × List Int)    -- I_bal of every cell in the last 48 intervals, latest first, with the end of the interval
  loopAt : KV Nat                   -- by tier: the end of the last interval that has its loop record
  sampleAt : Nat                    -- instant of the last loop sample
  sentAt : KV Nat                   -- by tier: the loop sample of the last words that it received
  pwmAt  : KV Nat                   -- by tier: start of the latest PWM period, + 1
  ffOld  : List (Nat × Nat)         -- position-table words written since the last loop sample, each with the word still in use (R266)
deriving DecidableEq, Repr

/-! ### The state -/

structure State where
  pending : List Instr
  clk     : Clock
  regs    : WordMap
  free    : Nat                 -- the model's own: how many free values have been drawn
  evt     : Events
  host    : HostPort
  win     : Windows
  tb      : TimeBase
  chain   : Chain
  pwr     : Power
  ret     : Retention
  tw      : TwoWire
  start   : Startup
  link    : KV TierLink
  prim    : KV TierPrim
  sec     : KV TierSec
  temps   : Temps
  cur     : Cur
  exc     : Exc
  fab     : Fab
  bal     : Bal
deriving DecidableEq, Repr

/-- A port that has sent and received nothing. -/
def Port.reset : Port :=
  ⟨[], [], 0, 0, 0, 0, true, false, false, false, none, false, false, 0, none, [], none, none, none, false, none⟩

/-- A bank of zeroed memory (R36). -/
def Bank.zeroed : Bank := ⟨[], false, 0, 1, 0, 0⟩

def Events.reset : Events := ⟨[], 0, false, [], 0, false, [], [], none⟩

def HostPort.reset : HostPort :=
  ⟨[], [], [], [], [], [], 0, [], [], [], [], [], [], none, 0, [], none, [], [], [], none, [], []⟩

def Windows.reset : Windows := ⟨Bank.zeroed, Bank.zeroed, false, 0, [], [], [], []⟩

/-- FREE at the default internal span of 50 Hz: 20 ms in units of 2.5 ns. -/
def TimeBase.reset : TimeBase :=
  { period := 8000000, nextPeriod := 8000000, tfPeriod := 0, jumped := false, edges := 0, lastEdge := none, lastPre := none, lastPeriod := 0,
    mean := 0, valids := 0, preAt := 0, sincePre := 0, marks := 0, acqFrom := .free, qualified := false, sinceEdge := 0, loss := 0, step := none, stepQuiet := false, takeover := false, reverted := false,
    takeovers := 0, jumpTo := none, frames := 0, ahead := false, heardMaster := false, otherDir := false, dirDue := false, dirFailed := none, dirDelay := [],
    reportAt := 0, probes := [], probeNext := 0, probeAt := 0, probeOut := none, echoDue := none, delays := [],
    markNow := ⟨0, 0, false, false, 3⟩, markPrev := ⟨0, 0, false, false, 3⟩, stepNow := none, stepPrev := false, frameAt := 0, stepTold := false, freeCycles := 8000000 }

def Chain.reset : Chain := ⟨[], [], [], [], [], none, false, [], [], none, []⟩

def Power.reset : Power :=
  { phase := .starting, railsOk := true, rising := 0, replug := false, vcLow := false, vioLow := false, vrLinear := false, write := none,
    vrFailed := false, ctlTries := [], target := 900, confirmed := 900, slackRun := 0, storeIt := 90, drawAt := 0, bleedOn := [],
    bleedMs := [], wakeCh := [] }

/-- DESIGN CHOICE (log entry 6). -/
def Retention.reset : Retention := ⟨false, 0, false, 0x01, 1, 1, 1, none, false, none, false⟩

def TwoWire.reset : TwoWire := ⟨[], none, false, 0, false, 0, false, 0, none, -9⟩

/-- DESIGN CHOICE (log entry 6). -/
def Startup.reset : Startup :=
  { tun := [], log := ⟨0, 0, 1792, [], [], 1792, []⟩, banks := [], shutdown := none, reported := 0, aborted := false, testing := none, scan := false, bankEvt := [], recBad := [],
    repair := [], calWait := true, lost := false, changed := false, readySpan := 0, booted := false }

/-- A tier just connected: no lane up, cold, its self-calibration due (R466). -/
def TierLink.reset : TierLink :=
  { lane0 := false, lane1 := false, active := 0, supplied := true, supplyLow := false, calibrating := true, cold := true,
    draining := false, buf := [], lost := 0, span := 0, period := 8000000, jumped := false, marks := 0, closed := none, tstate := 0,
    tcount := 0, mstate := 0, mcount := 0, mtq := false, upUnsync := true, evts := [], up := [], overrun := 0, dropped := 0, held := [], partDiff := false, lowSpan := true,
    store := false, last := none }

/-- A cell's own converter in charge from the first span on. -/
def Serve.reset : Serve := ⟨none, none, none, some 0⟩

/-- DESIGN CHOICE (log entry 31). -/
def TierPrim.reset : TierPrim :=
  { raw := [], rawTo := 0, subDone := 0, sincFrom := 0, notchFrom := 0, postFrom := 0, restarted := true, cellFrom := [], cellPost := [], post := [],
    hdr := [], lastWord := [], lastGood := [], orLast := 0, ovOn := 0, uvOn := 0, ovCnt := [], uvCnt := [], taps := [], tapOn := false,
    audit := none, auditNext := 17, moves := [], serve := [], exhausted := 0, stepG := 0, before := 0, mLog := 5, mAt := 0, mBefore := 5, recal := false, mode := 1, drawAt := 0 }

def DiscRun.reset : DiscRun := ⟨false, 0, 0, 0, false, 0, 0, none, false, false⟩

def TierSec.reset : TierSec :=
  { next := 0, run := none, preempted := false, endAt := (0, 0), freeAt := (0, 0), cycleFrom := none, longRaised := false, storeIdle := false,
    hostQ := [], recheck := [], serving := none, words := [], cellRes := [], runs := [], outCnt := [0, 0, 0], agreeCnt := 0, noMaj := 0,
    maj := 0, refSel := 7, refNext := 7, refAt := 0, refMid := 1, cyc := 0, cycOf := 0, oscBad := 0, undecAt := none, bothAt := none, storeT := 0, lastRec := [] }

def TierTherm.reset : TierTherm := ⟨[], [], [], [], 0x8000⟩

def Strg.reset : Strg := ⟨0, 0, 0, 0, [], [], [], [], 0, false, false, false, 0, none, 0, false, false, none, 0, 0⟩

def ThermOut.reset : ThermOut :=
  { demand := 0, d := 0, ok := false, lostFor := 0, ext := none, rise := none, high := 0, u := 0, s := 0, ePrev := none,
    xPrev := none, tLost := false, retry := false, window := false, winEdges := 0, noRot := false, lost := false,
    stop := false, edges := [], ivals := [], lastEdge := none, newSet := none, retryDue := false, tNow := 0x8000, sampleAt := 0, winAt := 0, edgeAt := 0, thdAt := 0, rampFrom := 0, rampDuty := 0, duties := [] }

def Temps.reset : Temps := ⟨[], [], [], false, 0x8000, .reset⟩

def Cur.reset : Cur :=
  { inQ := 0, outQ := 0, netOff := 0, lastWord := none, inInc := 0, outInc := 0, net := 0, rest := 0, lastDir := 0, hall := [],
    hallWord := 0, tHist := [], cond := false, hallFrom := none, orPrev := 0, clamped := false, hallOr := none, latch := [],
    cbWords := [], cbSums := [], cond1 := false, cond2 := false, good1 := 0, good2 := 0, cbFrom := none, cbCfg := none, cbTwo := false, cbLostFor := 0, cbLost := false, cbGot := false, cbDue := [], paired := [] }

def Exc.reset : Exc := ⟨none, [], [], [], none, []⟩

def Job.reset : Job :=
  { inst := none, next := 0, relAt := 0, gap := false, lost := 0, okLag := 0, held := 0, okRun := 0, image := [], out := [], buf := 0, fresh := true }

def BinVal.none : BinVal := ⟨0, 0, 255, false, false, false, false, 0, 0, false⟩

def Cubit.reset : Cubit := ⟨[], [], [], false, 0, [], 0, 0, [], [], 0⟩

def Fab.reset : Fab :=
  { planDue := true, planned := false, jobs := [], mLag := 1024, nLag := 256, histN := 1, histCnt := 0, histLive := 0, confAt := [], bins := [], excAmp := [],
    settle := [], reseed := [], ckpt := [], ckCnt := [], ensNow := 0, est := [], plDis := [], plOk := [], plSeen := [], plDue := 2 ^ 216 - 1,
    tOk := [], vLast := [], estFor := [], packs := [], newPack := [], plateMax := [],
    cubits := [], beside := [], curOld := none, load := [], series := none, ens := [], rot := [] }

def LoopSt.reset : LoopSt := ⟨0, 0, 0⟩

def SetPoint.zero : SetPoint := ⟨0, 0, false, false, false⟩

def Chan.reset : Chan :=
  { vt := .reset, il := .reset, temp := .reset, cmd := 0, sp := .zero, after := 0, stop := none, trip := none, req := [],
    rerun := false, fails := [], revs := [], sign := 0, undiagAt := 0, runAt := 0 }

def Stage.reset : Stage :=
  { now := .zero, next := none, fed := 0, ramp := none, pulse := none, carry := 0, debt := 0, owed := false, openN := 0, highN := 0, leakN := 0, trips := 0,
    noResp := 0 }

def Bal.reset : Bal := ⟨[], [], [], [], [], [], [], none, [], [], 0, [], [], []⟩


/-- The module right after reset. DESIGN CHOICE (log entry 6). DESIGN CHOICE (log entry 87). -/
def State.reset : State :=
  { pending := [], clk := ⟨0, 0⟩, regs := [], free := 0, evt := .reset, host := .reset, win := .reset, tb := .reset,
    chain := .reset, pwr := .reset, ret := .reset, tw := .reset, start := .reset, link := [], prim := [], sec := [], temps := .reset, cur := .reset, exc := .reset, fab := .reset, bal := .reset }

end Sys2Proof.Machine
end

