-- ==== Sys2Proof/Machine/Ops.lean ====
section
/-!
DEFINITION. The named operations on the state: reading and writing fields, counters that saturate, the clock and its
timestamps, and the accessors of the sparse parts of the state.
-/

namespace Sys2Proof.Machine

/-! ### Status codes (R373) -/

def St.ok : Nat := 0x00

def St.pending : Nat := 0x01

def St.busy : Nat := 0x02

def St.badOpcode : Nat := 0x10

def St.badParam : Nat := 0x11

def St.badState : Nat := 0x12

def St.noLease : Nat := 0x13

def St.lifecycle : Nat := 0x14

def St.checkFail : Nat := 0x20

def St.seqGap : Nat := 0x21

def St.timeout : Nat := 0x30

/-- The answer of a meaning. -/
abbrev Out := Host.Outcome State Fault Refusal

/-- The answer of a meaning that always completes. -/
def done (s : State) : Out := .next s

/-- The value of a field of configuration space. -/
def State.get (s : State) (f : Field) : Nat := fieldAt s.regs f

/-- The state with a field set. -/
def State.put (s : State) (f : Field) (v : Nat) : State := { s with regs := putField s.regs f v }

/-- A one-bit field as a truth value. -/
def State.flag (s : State) (f : Field) : Bool := fieldAt s.regs f == 1

/-- The state with a one-bit field set to a truth value. -/
def State.putFlag (s : State) (f : Field) (b : Bool) : State := s.put f (b01 b)

/-- A field read in two's complement. -/
def State.getS (s : State) (f : Field) : Int := signed f.w (s.get f)

/-- The state with a field set to an integer in two's complement. -/
def State.putS (s : State) (f : Field) (i : Int) : State := s.put f (unsigned f.w i)

/-- The state with `k` added to a counter field, held at the field's limit (R10). -/
def State.bumpBy (s : State) (f : Field) (k : Nat) : State := s.put f (satAdd f.w (s.get f) k)

/-- The state with a counter field counted up by one, held at the field's limit. -/
def State.bump (s : State) (f : Field) : State := s.bumpBy f 1

/-- The word at an address as it is stored. -/
def State.word (s : State) (a : Nat) : Nat := wordAt s.regs a

/-- The state with the word at an address set. -/
def State.putW (s : State) (a v : Nat) : State := { s with regs := putWord s.regs a v }

/-! ### Time -/

/-- The instant as span · 4096 + grain. -/
def State.abs (s : State) : Nat := s.clk.span * 4096 + s.clk.grain

/-- The present instant in the count of tier `k`: its own span and the grain (R54). -/
def State.tierAt (s : State) (k : Nat) : Nat := (kvGet (fun _ => TierLink.reset) s.link k).span * 4096 + s.clk.grain

/-- The grains up to grain `g` of the span in progress pass, where they have not. DEDUCED (log entry 4). -/
def State.passGrain (s : State) (g : Nat) : State :=
  if g < 4096 && s.clk.grain < g then { s with clk := { s.clk with grain := g } } else s

/-- The grains up to the instant `due` (span · 4096 + grain) pass: nothing where it has come, and none where it lies beyond the span in
progress, whose end is a mark. DEDUCED (log entry 4). -/
def State.passTo (s : State) (due : Nat) : Option State :=
  if due ≤ s.abs then some s
  else if due / 4096 = s.clk.span then some { s with clk := { s.clk with grain := due % 4096 } }
  else none

/-- Grains of a span of `period` units of 2.5 ns in `ms` milliseconds, rounded up. DEDUCED (log entry 104). -/
def msGrains (period ms : Nat) : Nat := ceilDiv (ms * 400000 * 4096) period

/-- Grains of a span of `period` units of 2.5 ns in `us` microseconds, rounded up. DEDUCED (log entry 104). -/
def usGrains (period us : Nat) : Nat := ceilDiv (us * 400 * 4096) period

/-- The instant of the end of an interval that has not been dealt with, `last` being the latest that has: the last one to have passed, else
the next one (R255, R305). -/
def nextBoundary (last now_ len : Nat) : Nat :=
  let b := now_ / len * len
  if last < b then b else b + len

/-- The always-on domain has a supply (R13, R437): VIO while both rails are good and the mode is not STORE, else the stack bridge on tier 0. DEDUCED (log entry 62). -/
def State.aonPowered (s : State) : Bool :=
  (s.pwr.railsOk && s.pwr.phase != .store) || (kvGet (fun _ => TierLink.reset) s.link 0).supplied

/-- Where the always-on domain has lost its supply, it stops: the retention store and WAKE# are lost (R25, R34, R437). DEDUCED (log entry 62). -/
def aonCheck (s : State) : State :=
  if s.aonPowered then s
  else { s with ret := { s.ret with ok := false }, evt := { s.evt with wake := false, wakeSrcs := [] }, pwr := { s.pwr with wakeCh := [] } }

/-- The base die answers and acts (R464). -/
def State.ready (s : State) : Bool := s.pwr.phase == .ready

/-- The base die is present for the tiers: READY or on the way to it. -/
def State.baseUp (s : State) : Bool :=
  match s.pwr.phase with
  | .starting => true
  | .ready => true
  | .shutting => true
  | .storeEntry => true
  | _ => false

/-- The base die runs the time base and sends marks: READY, or on the way out of it. -/
def State.tbUp (s : State) : Bool :=
  match s.pwr.phase with
  | .ready => true
  | .shutting => true
  | .storeEntry => true
  | _ => false

/-- A module that acts as a head (R351, R55). -/
def isHead (s : State) : Bool := s.flag Reg.HEAD_NOW

/-- A port whose link is UP or calibrating (R318, R320). -/
def portUp (s : State) (p : Nat) : Bool := s.get (Reg.PSTATE p) == 2 || s.get (Reg.PSTATE p) == 3

/-- The module has no chain port UP: a segment of its own. -/
def alone (s : State) : Bool := !portUp s 0 && !portUp s 1

/-- The module is the time master of its segment (R55, R61). -/
def isMaster (s : State) : Bool :=
  alone s || (isHead s && ((s.get Reg.ROLE == 1 && !s.tb.reverted) || (s.get Reg.ROLE == 2 && s.tb.takeover)))

/-- The module has no ring, or is its only module (R47, R328). A ring not yet enumerated, and one of two heads, which counts no module
between them, hold another module. DEDUCED (log entry 105). -/
def ringAlone (s : State) : Bool :=
  alone s || (s.get Reg.TOPOLOGY != 0 && s.get Reg.TOPOLOGY != 3 && s.get Reg.RING_N == 0)

/-- Time qualification (R47). A time master with no ring, or alone in it, counts when FREE by commit; a FOLLOWER ignores `SOURCE` (R68). -/
def timeQualified (s : State) : Bool :=
  match s.get Reg.STATE with
  | 2 => true
  | 3 => s.get Reg.HOLDOVER_COUNT ≤ 4
  | 0 => s.get Reg.SOURCE == 1 && isMaster s && ringAlone s
  | _ => false

/-- `TSTATE` of a time-base state (R52): 0 LOCKED, 1 ACQUIRING, 2 HOLDOVER, 3 FREE. -/
def tstateOf (state : Nat) : Nat :=
  match state with
  | 2 => 0
  | 1 => 1
  | 3 => 2
  | _ => 3

/-- The timestamp of an instant of the span in progress. -/
def State.stampAt (s : State) (grain : Nat) : Stamp :=
  ⟨s.clk.span, grain, timeQualified s, s.tb.jumped, tstateOf (s.get Reg.STATE)⟩

/-- The timestamp now. -/
def State.now (s : State) : Stamp := s.stampAt s.clk.grain

/-- The timestamp word of R52. -/
def stampWord (t : Stamp) : Nat :=
  t.grain % 4096 + (t.span % 2 ^ 48) * 2 ^ 12 + b01 t.tq * 2 ^ 60 + b01 t.jumped * 2 ^ 61 + (t.tstate % 4) * 2 ^ 62

/-- A free value (log entry 1) and the state with the counter advanced. -/
def State.draw (s : State) : Nat × State := ((Config.freeValue s.free).toNat, { s with free := s.free + 1 })

/-! ### Sparse parts of the state -/

def State.tl (s : State) (k : Nat) : TierLink := kvGet (fun _ => TierLink.reset) s.link k

def State.setTl (s : State) (k : Nat) (v : TierLink) : State :=
  { s with link := kvSet (fun _ => TierLink.reset) s.link k v }

def State.pr (s : State) (k : Nat) : TierPrim := kvGet (fun _ => TierPrim.reset) s.prim k

def State.setPr (s : State) (k : Nat) (v : TierPrim) : State :=
  { s with prim := kvSet (fun _ => TierPrim.reset) s.prim k v }

def State.sq (s : State) (k : Nat) : TierSec := kvGet (fun _ => TierSec.reset) s.sec k

def State.setSq (s : State) (k : Nat) (v : TierSec) : State := { s with sec := kvSet (fun _ => TierSec.reset) s.sec k v }

def State.tt (s : State) (k : Nat) : TierTherm := kvGet (fun _ => TierTherm.reset) s.temps.tiers k

def State.setTt (s : State) (k : Nat) (v : TierTherm) : State :=
  { s with temps := { s.temps with tiers := kvSet (fun _ => TierTherm.reset) s.temps.tiers k v } }

/-- String `j` = 2 · tier + string. -/
def State.strg (s : State) (j : Nat) : Strg := kvGet (fun _ => Strg.reset) s.temps.strings j

def State.setStrg (s : State) (j : Nat) (v : Strg) : State :=
  { s with temps := { s.temps with strings := kvSet (fun _ => Strg.reset) s.temps.strings j v } }

/-- The link of tier `k` is up on at least one lane (R15, R16). -/
def State.linkUp (s : State) (k : Nat) : Bool := (s.tl k).supplied && ((s.tl k).lane0 || (s.tl k).lane1)

def State.pt (s : State) (p : Nat) : Port := kvGet (fun _ => Port.reset) s.chain.ports p

def State.setPt (s : State) (p : Nat) (v : Port) : State :=
  { s with chain := { s.chain with ports := kvSet (fun _ => Port.reset) s.chain.ports p v } }

def SeqState.reset : SeqState := ⟨false, []⟩

def State.seqSt (s : State) (i : Nat) : SeqState := kvGet (fun _ => SeqState.reset) s.host.seqs i

def State.setSeqSt (s : State) (i : Nat) (v : SeqState) : State :=
  { s with host := { s.host with seqs := kvSet (fun _ => SeqState.reset) s.host.seqs i v } }

/-- The tier of a cell and its local number. -/
def tierOf (c : Nat) : Nat := c / 18

def localOf (c : Nat) : Nat := c % 18

/-- Cell `c` is enabled (`CELL_EN` of its tier). -/
def State.cellOn (s : State) (c : Nat) : Bool := bit (s.get (Reg.CELL_EN (tierOf c))) (localOf c)

/-- Enabled cells of the module. -/
def State.cellsOn (s : State) : Nat := ((List.range 108).filter s.cellOn).length

/-- Fold an operation over the numbers of a list. -/
def State.each (s : State) (l : List Nat) (f : Nat → State → State) : State := l.foldl (fun t i => f i t) s

/-- The operation, where the condition holds. -/
def State.when (s : State) (b : Bool) (f : State → State) : State := if b then f s else s

/-- The mode in force (R419). -/
def State.modeNow (s : State) : Nat := s.get Reg.MODE_NOW

/-- The mode whose measurement and fabric run: HOLD follows `HOLD_FABRIC` (R419). -/
def State.fabMode (s : State) : Nat := if s.modeNow = 5 then s.get Reg.HOLD_FABRIC else s.modeNow

/-! ### Restarts -/

/-- A word whose holder starts anew: its staged fields stay, every other field takes its Reset value. DEDUCED (log entry 59). -/
def restartWord (a w : Nat) : Nat :=
  match wordRow a with
  | none => w
  | some r => (w &&& r.staged) ||| ((resetWord a).toNat &&& (0xFFFFFFFF ^^^ r.staged))

/-- The listed words that `p` names take the value that `f` gives them. -/
def State.remap (s : State) (p : Nat → Bool) (f : Nat → Nat → Nat) : State :=
  s.regs.foldl (fun t e => if p e.1 then t.putW e.1 (f e.1 e.2.toNat) else t) s

/-! ### The sequencer's time (R120) -/

/-- An instant of the sequencer: a grain in the tier's count, and a fraction of it in 1/period. 2.5 ns are 4,096 of these. -/
abbrev SubTime := Nat × Nat

/-- An instant whose fraction of a grain stands in 1/`old`, in 1/`new` of a grain. -/
def retime (old new : Nat) (t : SubTime) : SubTime := (t.1, t.2 * new / old)

end Sys2Proof.Machine
end

