-- ==== Sys2Proof/Machine/Compensation.lean ====
section
/-!
DEFINITION. Temperature compensation (chapter 09, R291, R292): the quadratic through a part's three factory points, applied to the references of
a tier, to its two oscillators and to the base oscillator.
-/

namespace Sys2Proof.Machine

/-- The common denominator of the quadratic through −40, +25 and +105 °C, for temperatures in 1/64 °C. -/
def epsDen : Nat := 150800 * 4096

/-- The temperature at which ε is evaluated, from a temperature code: −45 to +130 °C in 1/64 °C (R291); without a first T_die, +25 °C. DESIGN
CHOICE (log entry 102). -/
def epsTemp (code : Nat) : Int := if code = 0x8000 then 1600 else clampI (-2880) 8320 (signed 16 code)

/-- The correction ε of a part at a temperature, in parts per 10⁹ over `epsDen` (R291): the quadratic through its three points. DESIGN CHOICE (log entry 102). -/
def epsNum (die part : Nat) (t : Int) : Int :=
  16 * Config.calPoint die part 0 * ((t - 1600) * (t - 6720)) - 29 * Config.calPoint die part 1 * ((t + 2560) * (t - 6720))
    + 13 * Config.calPoint die part 2 * ((t + 2560) * (t - 1600))

/-- A whole of 10⁹ parts over `epsDen`. -/
def epsOne : Nat := 1000000000 * epsDen

/-- A reference's contribution, scaled by 1 − ε, in 10 µV (R291). -/
def refScaled (die part : Nat) (t x : Int) : Int := Config.roundQ (x * (epsOne - epsNum die part t)) epsOne

/-- The references that the primary converters use in the span `p` (R137): one bit each; all three stand for the median, two for their mean. -/
def refsInUse (s : State) (k p : Nat) : Nat :=
  let q := s.sq k
  if q.refAt ≤ p then q.refNext else q.refSel

/-- ε of the reference that the primary converters of tier `k` use in the span `p`, twice, over `epsDen` (R137, R291): of the median of three,
else of the mean of the two that agree. DESIGN CHOICE (log entry 102). -/
def primEps2 (s : State) (k p : Nat) : Int :=
  let sel := refsInUse s k p
  let t := epsTemp (s.tt k).comp
  if sel = 7 then 2 * epsNum k (s.sq k).refMid t
  else ((List.range 3).filter (fun i => bit sel i)).foldl (fun a i => a + epsNum k i t) 0

/-- A sum of readings of the span `p`, scaled by 1 − ε (R291). -/
def primScaled (s : State) (k p : Nat) (x : Int) : Int := Config.roundQ (x * (2 * epsOne - primEps2 s k p)) (2 * epsOne)

/-- One period of the notch of tier `k` in 1/16 grain, as a quotient (R77, R291): in absolute time from the corrected frequency of the active
oscillator and its cycles in the last whole span; before the first count from the announced period. DEDUCED (log entry 106). -/
def notchQuot (s : State) (k : Nat) : Int × Nat :=
  let q := s.sq k
  let f := s.get (Reg.NOTCH_FREQ k)
  let p := (kvGet (fun _ => TierLink.reset) s.link k).period
  if q.cyc = 0 then (16 * 4096 * 16 * 400000000, p * f)
  else
    let eps := epsNum k (3 + s.get (Reg.OSC_ACTIVE k)) (epsTemp (s.tt k).comp)
    (16 * 4096 * 256000000 * q.cycOf * (epsOne + eps), f * q.cyc * p * epsOne)

/-- The length of the notch line of tier `k` in 1/16 grain (R77). -/
def notchLen16 (s : State) (k : Nat) : Nat := (Config.roundQ (notchQuot s k).1 (notchQuot s k).2).toNat

/-- The deviation of an oscillator that made `count` cycles in a span of `period` units of 2.5 ns from the 16 MHz × period that its correction
gives, as a quotient of ppm (R140, R291). -/
def oscDeviation (die part : Nat) (t : Int) (period count : Nat) : Int × Nat :=
  let want : Int := period * (epsOne + epsNum die part t)
  (1000000 * (25 * epsOne * count - want), want.toNat)

/-- The median of the base die's sensors, in 1/64 °C (R292): the mean of the middle two. DESIGN CHOICE (log entry 102). -/
def baseMedian (t : List Int) : Option Int :=
  let l := t.mergeSort (fun a b => decide (a ≤ b))
  match l[(t.length - 1) / 2]?, l[t.length / 2]? with
  | some a, some b => some (Config.roundQ (a + b) 2)
  | _, _ => none

/-- The cycles of the base oscillator's 400 MHz clock that make a span of `period` units of 2.5 ns, corrected at the temperature in force
(R292). -/
def baseCycles (code period : Nat) : Nat := (Config.roundQ (period * (epsOne + epsNum 6 3 (epsTemp code))) epsOne).toNat

end Sys2Proof.Machine
end

