-- ==== Sys2Proof/Machine/Frames.lean ====
section
/-!
DEFINITION. Frames and messages: the bytes of a frame with its two check fields (R324, R326), reading a frame from bytes
(R353, R336), the queues a frame can enter (R337, R355, R448), replies (R358), reports with their DSEQ and the replay buffer
(R367, R371), and completion reports (R370).
-/

namespace Sys2Proof.Machine

/-- The seven header bytes that `FH_HCRC` covers (R324). -/
def headerBytes (f : Frame) : List Byte :=
  [byte (f.ftype % 16 + 16 * f.ver),
   byte (f.hops % 64 + 64 * b01 f.up + 128 * b01 f.bcast),
   byte f.seq, byte (f.seq / 256), byte f.op, byte f.payload.length,
   byte (f.origin % 64 + 64 * b01 f.away + 128 * b01 f.ohead)]

/-- The CRC-32C of a frame: over header and payload with bytes 1 and 7 taken as 0 (R326). -/
def frameCrc (hdr payload : List Byte) : Nat :=
  crc32c (hdr.take 1 ++ [0] ++ ((hdr.drop 2).take 5) ++ [0] ++ payload)

/-- The frame bytes: header, payload and CRC-32C (R323). -/
def frameBytes (f : Frame) : List Byte :=
  let h := headerBytes f
  h ++ [byte (crc8 h)] ++ f.payload ++ leBytes 4 (frameCrc h f.payload)

/-- What the check of received frame bytes finds (R336, R353). -/
inductive Checked where
  | good (f : Frame)
  | header
  | length
  | crc
deriving DecidableEq, Repr

/-- The frame that 12 + `FH_LEN` bytes spell; further bytes are ignored when `exact` is false (R353). -/
def checkFrame (exact : Bool) (bs : List Byte) : Checked :=
  let h := bs.take 7
  let n := leNat ((bs.drop 5).take 1)
  let r := leNat ((bs.drop 1).take 1)
  if bs.length < 8 || leNat ((bs.drop 7).take 1) != crc8 h || 52 < n || (r / 128 == 1) != (r % 64 == 63) then .header
  else if bs.length < 12 + n || (exact && bs.length != 12 + n) then .length
  else if leNat ((bs.drop (8 + n)).take 4) != frameCrc h ((bs.drop 8).take n) then .crc
  else
    let t := leNat (h.take 1)
    let o := leNat ((bs.drop 6).take 1)
    .good ⟨t % 16, t / 16, r % 64, bit r 6, bit r 7, leNat ((bs.drop 2).take 2), leNat ((bs.drop 4).take 1),
      o % 64, bit o 6, bit o 7, (bs.drop 8).take n⟩

/-! ### Queues -/

/-- The ports whose queue holds local frames for later: training, UP or calibrating (R337). -/
def portLive (s : State) (p : Nat) : Bool :=
  match s.get (Reg.PSTATE p) with
  | 1 => true
  | 2 => true
  | 3 => true
  | _ => false

/-- The count to the head reached through port `p` (R328); 63 = none. -/
def posOf (s : State) (p : Nat) : Nat := if p = 1 then s.get Reg.POS_UPH else s.get Reg.POS_DNH

/-- A frame that leaves port `p` towards the head on that side (R330). -/
def routeTo (s : State) (p : Nat) (f : Frame) : Frame :=
  let c := posOf s p
  { f with hops := c, up := p == 1, bcast := false, ohead := isHead s,
           origin := if c = 63 then s.get Reg.POS_UPH else c, away := c == 63 }

/-- A broadcast frame that leaves port `p` (R324, R330). -/
def routeAll (s : State) (p : Nat) (f : Frame) : Frame :=
  let c := posOf s p
  { f with hops := 63, up := p == 1, bcast := true, ohead := isHead s,
           origin := if c = 63 then s.get Reg.POS_UPH else c, away := c == 63 }

/-- Add a local frame to the transmit queue of port `p`. REPORT and CURRENT frames find 28 places, others all 32 (R337). -/
def txAdd (p : Nat) (f : Frame) (s : State) : State :=
  let q := (s.pt p).txq
  let room := if f.ftype = 3 || f.ftype = 5 then 28 else 32
  if portLive s p && q.length < room then s.setPt p { s.pt p with txq := q ++ [f] }
  else s.bump (Reg.TXQ_DROP p)

/-- Add a frame to the SPI host queue of 64 places, 8 of them for REPLY frames (R355). DESIGN CHOICE (log entry 11). -/
def hqAdd (f : Frame) (s : State) : State :=
  let q := s.host.hq
  if f.ftype = 3 then
    if q.length < 56 then { s with host := { s.host with hq := q ++ [f] } } else s.bump Reg.HQ_DROP
  else if q.length < 64 then { s with host := { s.host with hq := q ++ [f] } } else s

/-- Add a frame to the two-wire host queue of 16 places, 4 of them for REPLY frames (R448). DESIGN CHOICE (log entry 11). -/
def twqAdd (f : Frame) (s : State) : State :=
  let q := s.host.twq
  if f.ftype = 3 then
    if q.length < 12 then { s with host := { s.host with twq := q ++ [f] } } else s.bump Reg.TW_DROP
  else if q.length < 16 then { s with host := { s.host with twq := q ++ [f] } } else s

/-- Where a report or a reply goes. -/
inductive Dest where
  | spi
  | tw
  | port (p : Nat)
deriving DecidableEq, Repr

/-- Put a frame into the queue of a destination, routed for it. -/
def sendTo (d : Dest) (f : Frame) (s : State) : State :=
  match d with
  | .spi => hqAdd f s
  | .tw => twqAdd f s
  | .port p => txAdd p (routeTo s p f) s

/-- The destination has an unreserved place for a REPORT frame (R416). -/
def hasRoom (s : State) (d : Dest) : Bool :=
  match d with
  | .spi => s.host.hq.length < 56
  | .tw => s.host.twq.length < 12
  | .port p => portLive s p && (s.pt p).txq.length < 28

/-- Where the answers to a command go (R330, R358, R367). -/
def destOf (m : Meta) : Dest :=
  match m.src with
  | 0 => .spi
  | 1 => .tw
  | _ => .port m.port

/-! ### Messages (R357) -/

/-- The data of a message cut into parts of 51 bytes, at most `fuel` of them. -/
def parts : Nat → List Byte → List (List Byte)
  | 0, _ => []
  | fuel + 1, d => if d.length ≤ 51 then [d] else d.take 51 :: parts fuel (d.drop 51)

/-- The payloads of a message, each with its part byte `PT`. -/
def payloadsFrom : Nat → List (List Byte) → List (List Byte)
  | _, [] => []
  | i, [d] => [byte (i % 128 + 128) :: d]
  | i, d :: ds => (byte (i % 128) :: d) :: payloadsFrom (i + 1) ds

/-- The payloads of a message of data `d` (R357). -/
def payloads (d : List Byte) : List (List Byte) := payloadsFrom 0 (parts 128 d)

/-- A frame of this module before it is routed. -/
def ownFrame (s : State) (ftype seq op : Nat) (payload : List Byte) : Frame :=
  ⟨ftype, 1, 0, false, false, seq, op, s.get Reg.POS_UPH % 63, false, isHead s, payload⟩

/-- Send a reply: one message with the status in `FH_OP` and the command's HSEQ in `FH_SEQ` (R358). DESIGN CHOICE (log entry 11). -/
def sendReply (m : Meta) (status : Nat) (data : List Byte) (s : State) : State :=
  (payloads data).foldl (fun t p => sendTo (destOf m) (ownFrame t 2 m.hseq status p) t) s

/-- What a command answers: status, reply data (R358), and the state it leaves. -/
structure Ans where
  status : Nat
  data   : List Byte
  st     : State
deriving DecidableEq, Repr

/-- A refusal: nothing changes, and the reply carries no data (R358). -/
def refuse (status : Nat) (s : State) : Ans := ⟨status, [], s⟩

/-- OK with reply data. -/
def answer (data : List Byte) (s : State) : Ans := ⟨St.ok, data, s⟩

/-! ### Reports (R367 to R372, R330) -/

/-- The side of a known break on which this module lies reaches the head through port `p` (R339, R340). -/
def sideWorks (s : State) (p : Nat) : Bool :=
  if s.flag Reg.BREAK_KNOWN then
    if p = 1 then s.get Reg.POS_UPH ≤ s.get Reg.BREAK_POS else s.get Reg.BREAK_POS < s.get Reg.POS_UPH
  else true

/-- Port `p` leads to a head that can be reached. -/
def reaches (s : State) (p : Nat) : Bool :=
  s.flag Reg.ENUMERATED && posOf s p != 63 && posOf s p != 0 && portLive s p && sideWorks s p

/-- The chain ports a report leaves by (R330): by `RPT_DIR`; in a closed ring one copy by the working side with the smaller
count, through the up port on a tie. -/
def reportPorts (s : State) : List Nat :=
  let dir := s.get Reg.RPT_DIR
  if dir = 3 then []
  else if s.get Reg.TOPOLOGY = 2 then
    if reaches s 1 && (!reaches s 0 || posOf s 1 ≤ posOf s 0) then [1]
    else if reaches s 0 then [0] else []
  else
    (if (dir = 0 || dir = 2) && reaches s 1 then [1] else []) ++ (if (dir = 1 || dir = 2) && reaches s 0 then [0] else [])

/-- The destinations of a report (R330, R367, R448). -/
def reportDests (s : State) : List Dest :=
  (if isHead s || s.flag Reg.HOST_RPT then [Dest.spi] else [])
    ++ (if s.flag Reg.TW_RPT then [Dest.tw] else [])
    ++ (reportPorts s).map Dest.port

/-- Issue one report frame: it takes the next DSEQ, enters the replay buffer of 4,096 frames, and is queued for its
destinations (R367, R371). -/
def issueFrame (kind : Nat) (dests : List Dest) (mk : Nat → List Byte) (s : State) : State :=
  let d := (s.get Reg.LAST_DSEQ + 1) % 65536
  let f := ownFrame s 3 d kind (mk d)
  let buf := s.host.replayBuf ++ [f]
  let s1 := { s.put Reg.LAST_DSEQ d with host := { s.host with replayBuf := buf.drop (buf.length - 4096) } }
  dests.foldl (fun t x => sendTo x f t) s1

/-- Issue a report message (R368). DEDUCED (log entry 7). -/
def issueReport (kind : Nat) (dests : List Dest) (data : List Byte) (s : State) : State :=
  (payloads data).foldl (fun t p => issueFrame kind dests (fun _ => p) t) s

/-- The data of a COMPLETION report (R370). -/
def completionData (t : Stamp) (op status : Nat) (m : Meta) (cause detail : Nat) : List Byte :=
  leBytes 8 (stampWord t) ++ [byte op, byte status] ++ leBytes 2 m.hseq ++ [byte (m.src % 4 + 4 * b01 m.bcast), byte cause]
    ++ leBytes 6 detail

/-- Send a COMPLETION report to the source of its command only (R367, R370). -/
def complete (t : Stamp) (op status : Nat) (m : Meta) (cause detail : Nat) (s : State) : State :=
  issueReport 0x02 [destOf m] (completionData t op status m cause detail) s

/-- The opcode of a scheduled action (R65). -/
def Action.op : Action → Nat
  | .commit => 0x13
  | .mode _ => 0x50
  | .snap _ => 0x20
  | .excite _ _ _ _ _ => 0x32
  | .fwSwap _ => 0x79

end Sys2Proof.Machine
end

