-- ==== Sys2Proof/Machine/Events.lean ====
section
/-!
DEFINITION. The event system (R394 to R416): what a raise does (R397), handling windows and escalation conditions (R407 to
R410), the outputs HALERT#, HFAULT# and WAKE# (R402 to R405), and a raise made in a tier (R29, R35, R399). The entry to HOLD
that an escalation causes stands in Machine/Modes.lean, which defines `raise` on top of `raiseCore`.
-/

namespace Sys2Proof.Machine

/-- Sources that have end raises (R396). DEDUCED (log entry 27). -/
def hasEnds (src : Nat) : Bool :=
  if src < 432 then src % 4 != 3
  else if src < 480 then [0, 2, 3, 4, 7].contains (src % 8)
  else [480, 481, 482, 487, 497, 498, 499, 500, 501, 502, 503, 504].contains src

/-- The raise reports the end of its condition (R396). A SUMMARY raise never does. -/
def isEndRaise (src value : Nat) (summary : Bool) : Bool :=
  !summary &&
  (let c := value % 16
   if src < 432 then
     match src % 4 with
     | 0 => !bit value 24
     | 1 => !bit value 24
     | 2 => !bit value 16
     | _ => false
   else if src < 480 then
     match src % 8 with
     | 0 => c == 2 || c == 4
     | 2 => c == 2 || c == 4 || c == 6 || c == 9
     | 3 => c == 5
     | 4 => c == 5
     | 7 => c == 3
     | _ => false
   else
     match src with
     | 480 => c == 1
     | 481 => c == 1 || c == 4
     | 482 => c == 2
     | 487 => c == 2
     | 497 => c == 3
     | 498 => c == 2
     | 499 => c == 2 || c == 4
     | 500 => c == 2
     | 501 => bitsOf value 8 4 == 2
     | 502 => c == 4 || c == 5
     | 503 => c == 5
     | 504 => (1 ≤ c && c ≤ 3 && !bit value 8) || c == 8
     | _ => false)

def State.window (s : State) (c : Nat) : Option Window := kvGet (fun _ => none) s.evt.windows c

def State.setWindow (s : State) (c : Nat) (w : Option Window) : State :=
  { s with evt := { s.evt with windows := kvSet (fun _ => none) s.evt.windows c w } }

/-- The window of another class that is open at fatal and took fatal severity earliest (R410, R415): its class and opener. -/
def fatalElsewhere (s : State) (c : Nat) : Option (Nat × Nat) :=
  ((List.range 16).foldl (fun (best : Option (Nat × Nat × Nat)) i =>
      match s.window i with
      | some w =>
        if i != c && w.sev == 3 then
          match best with
          | some (_, _, o) => if w.order < o then some (i, w.opener, w.order) else best
          | none => some (i, w.opener, w.order)
        else best
      | none => best) none).map (fun x => (x.1, x.2.1))

/-- Order a fault beacon: four BEACON sets out of every UP port (R343, R404). -/
def orderBeacon (s : State) : State :=
  let up (p : Nat) : Bool := s.get (Reg.PSTATE p) == 2 || s.get (Reg.PSTATE p) == 3
  let new := (if up 0 then [(0, 4)] else []) ++ (if up 1 then [(1, 4)] else [])
  { s with chain := { s.chain with beacons := s.chain.beacons ++ new } }

/-- A source has caused a wake (R35). -/
def noteWake (src : Nat) (s : State) : State :=
  if s.evt.wakeSrcs.contains src then s else { s with evt := { s.evt with wakeSrcs := s.evt.wakeSrcs ++ [src] } }

/-- Assert WAKE# for a source (R35, R405): it works while tier 0 is supplied (R25). -/
def assertWake (src : Nat) (s : State) : State :=
  if (s.tl 0).supplied then
    let s1 := noteWake src s
    { s1 with evt := { s1.evt with wake := true } }
  else s

/-- Handling of an alarm or fatal raise that is not LATE (R407 to R410): the state, whether the record carries `IN_WINDOW`,
and the fatal window of another class that makes the raise an escalation (class, opener). DEDUCED (log entry 12). -/
def handleRaise (src sev : Nat) (wasLatched : Bool) (s : State) : State × Bool × Option (Nat × Nat) :=
  let c := evtClass src
  let opens : Bool := match s.window c with
    | none => true
    | some w => sev == 3 && w.sev < 3
  if opens then
    let esc := if sev = 3 && s.flag Reg.ESC_EN then fatalElsewhere s c else none
    let s1 := s.setWindow c (some ⟨src, sev, s.clk.span, s.evt.fatals⟩)
    let s2 := if sev = 3 then { s1 with evt := { s1.evt with fatals := s1.evt.fatals + 1 } } else s1
    let s3 := s2.when (sev == 3 && s.flag (Reg.BCN_EN src) && !wasLatched) orderBeacon
    let s4 := s3.when (s.flag (Reg.WAKE_EN src)) (assertWake src)
    (s4, false, esc)
  else
    let s1 := s.bump (Reg.CLASS_COUNT c)
    (s1.when (s1.get (Reg.CLASS_COUNT c) == 65535) (fun t => t.put (Reg.CLASS_SAT c) 1), true, none)

/-- A LATE raise of a tier source that the load at READY has already counted (R401). -/
def countedAtLoad (s : State) (src : Nat) (t : Stamp) (late : Bool) : Bool :=
  late && src < 480 &&
    match s.evt.loadSpan with
    | some r => t.span < r
    | none => false

/-- Queue an event record (R416): a record that finds 256 in the queue is discarded and counted for source 511. -/
def queueRecord (r : EvtRec) (s : State) : State :=
  if s.evt.queue.length < 256 then { s with evt := { s.evt with queue := s.evt.queue ++ [r] } }
  else { s with evt := { s.evt with overflow := satAdd 16 s.evt.overflow 1 } }

/-- One raise (R397), up to the escalation that it may cause. DEDUCED (log entry 12). -/
def raiseCore (src value : Nat) (t : Stamp) (late summary : Bool) (s : State) : State × Option (Nat × Nat) :=
  let s1 := if countedAtLoad s src t late then s else
    let c := s.bump (Reg.COUNT src)
    c.when (c.get (Reg.COUNT src) == 65535) (fun u => u.put (Reg.CNT_SAT src) 1)
  let s2 := s1.put (Reg.EVT_LAST_LAST_SPAN src) t.span
  let fin := isEndRaise src value summary
  let s3 := s2.when (hasEnds src && !summary) (fun u => u.putFlag (Reg.ACTIVE src) (!fin))
  if s3.flag (Reg.MASKED src) then (s3, none)
  else
    let sev := if fin then 0 else s3.get (Reg.SEV src)
    let was := s3.flag (Reg.LATCHED src)
    let (s4, inWin, esc) : State × Bool × Option (Nat × Nat) :=
      if fin then (s3.when (s3.get (Reg.LATCH_EN src) == 0) (fun u => u.put (Reg.LATCHED src) 0), false, none)
      else
        let l := s3.put (Reg.LATCHED src) 1
        if !late && 2 ≤ sev then handleRaise src sev was l else (l, false, none)
    let rec_ : EvtRec := ⟨src, sev, late, summary, inWin, s4.flag (Reg.CNT_SAT src), t, s4.get Reg.POS_UPH, value⟩
    (s4.when (s4.flag Reg.RPT_EVENT && s4.get Reg.RPT_SEV ≤ sev) (queueRecord rec_), esc)

/-- The value of source 512 (R415). -/
def escValue (first : Nat × Nat) (src : Nat) (inHold : Bool) : Nat :=
  first.2 % 1024 + 2 ^ 10 * (src % 1024) + 2 ^ 20 * first.1 + 2 ^ 24 * evtClass src + 2 ^ 28 * b01 inHold

/-- A raise of source 512, from which no escalation follows (R410). DEDUCED (log entry 10). -/
def raise512 (first : Nat × Nat) (src : Nat) (inHold : Bool) (s : State) : State :=
  (raiseCore 512 (escValue first src inHold) s.now false false s).1

/-- A raise in HOLD (R410): a would-be escalation is counted and reported, and the mode does not change. DEDUCED (log entry 12). -/
def raiseInHold (src value : Nat) (t : Stamp) (late summary : Bool) (s : State) : State :=
  match raiseCore src value t late summary s with
  | (s1, none) => s1
  | (s1, some first) => if src = 512 then s1 else raise512 first src true (s1.bump Reg.ESC_COUNT)

/-! ### Outputs -/

/-- The sources whose state words are listed: every other source is unlatched and unmasked. -/
def listedSources (s : State) : List Nat :=
  (s.regs.filter (fun e => 0x71000 ≤ e.1 && e.1 < 0x71880)).map (fun e => (e.1 - 0x71000) / 4)

/-- HALERT# (R402, R356): an unmasked alarm or fatal source is LATCHED, or a REPLY waits under `PEND_ALERT`. Released while
the base die is in reset or unpowered, and before READY (R464). DEDUCED (log entry 80). -/
def halert (s : State) : Bool :=
  s.tbUp &&
    ((listedSources s).any (fun i => s.flag (Reg.LATCHED i) && !s.flag (Reg.MASKED i) && 2 ≤ s.get (Reg.SEV i))
      || (s.flag Reg.PEND_ALERT && s.host.hq.any (fun f => f.ftype == 2)))

/-- HFAULT# (R403). DEDUCED (log entry 80). -/
def hfault (s : State) : Bool :=
  s.tbUp &&
    ((listedSources s).any (fun i => s.flag (Reg.LATCHED i) && !s.flag (Reg.MASKED i) && s.get (Reg.SEV i) == 3 && s.flag (Reg.HF_EN i))
      || (isHead s && s.flag Reg.BCN_HF && s.evt.beaconHf))

/-- Release WAKE# whole (R35). -/
def releaseWake (s : State) : State := { s with evt := { s.evt with wake := false, wakeSrcs := [] } }

/-! ### Raises in the tiers -/

def LatchEntry.reset : LatchEntry := ⟨0, 0, ⟨0, 0, false, false, 3⟩, 0, 0⟩

def State.latchAt (s : State) (src : Nat) : LatchEntry := kvGet (fun _ => LatchEntry.reset) s.evt.latch src

def State.setLatch (s : State) (src : Nat) (e : LatchEntry) : State :=
  { s with evt := { s.evt with latch := kvSet (fun _ => LatchEntry.reset) s.evt.latch src e } }

/-- A latch entry with one more occurrence (R29). -/
def LatchEntry.add (e : LatchEntry) (t : Stamp) (lost : Bool) : LatchEntry :=
  { firstSpan := if e.count = 0 then t.span else e.firstSpan, firstGrain := if e.count = 0 then t.grain else e.firstGrain,
    last := t, count := satAdd 16 e.count 1, unreported := if lost then satAdd 16 e.unreported 1 else e.unreported }

/-- Record a raise in the tier event latch (R29). -/
def latchNote (src : Nat) (t : Stamp) (lost : Bool) (s : State) : State := s.setLatch src ((s.latchAt src).add t lost)

end Sys2Proof.Machine
end

