-- ==== Sys2Proof/Machine/Modes.lean ====
section
/-!
DEFINITION. Modes, leases and the raise that can change the mode: the end of a lease (R428), the end of a sweep (R223, R225),
the execution of a mode change (R422), the entry to HOLD by escalation (R410), and `raise`, the whole of R397.
-/

namespace Sys2Proof.Machine

/-! ### Core supply set-point (R434 to R436) -/

/-- The VCORE floor of a mode, mV (R435). -/
def floorMv (mode : Nat) : Nat :=
  match mode with
  | 2 => 800
  | 3 => 850
  | _ => 720

/-- The floor in force: HOLD takes that of the mode whose fabric it follows; the self-test of SHUTDOWN has its own. -/
def floorNow (s : State) : Nat := if s.pwr.phase = .shutting then 900 else floorMv s.fabMode

/-- A bus line is stuck: no controller transfer starts (R458). -/
def busStuck (s : State) : Bool := s.flag Reg.SCL_STUCK || s.flag Reg.SDA_STUCK

/-- A controller transfer falls due (R449); while a line is stuck a regulator transfer fails instead (R458). -/
def twDue (j : TwJob) (s : State) : State := { s with tw := { s.tw with due := s.tw.due ++ [(j, 0)] } }

/-- Order the write of a set-point (R436). -/
def vcWrite (mv tries : Nat) (s : State) : State :=
  let s1 := (s.put Reg.VC_SET mv).put Reg.VC_CONFIRMED 0
  let s2 := { s1 with pwr := { s1.pwr with write := some ⟨mv, tries⟩ } }
  if busStuck s2 then s2 else twDue (.regulator 0x21 mv) s2

/-- Write the next step towards the wanted set-point: at most 50 mV, and only after the last write is confirmed (R436). -/
def vcStep (s : State) : State :=
  if s.flag Reg.VR_CTRL && s.pwr.write.isNone && !s.pwr.vrFailed && s.pwr.confirmed != s.pwr.target then
    let mv := if s.pwr.confirmed < s.pwr.target then min (s.pwr.confirmed + 50) s.pwr.target
      else max (s.pwr.confirmed - 50) s.pwr.target
    vcWrite mv 0 s
  else s

/-- `FAB_CAPPED`: VCORE is not confirmed at or above the floor of the mode (R436). A change is a cause of R198. -/
def capFabric (s : State) : State :=
  let capped := s.pwr.confirmed < floorMv s.fabMode
  if capped == s.flag Reg.FAB_CAPPED then s
  else { s.putFlag Reg.FAB_CAPPED capped with fab := { s.fab with planDue := true } }

/-- Want a set-point, held between the floor and 0.99 V (R435). -/
def vcWant (mv : Nat) (s : State) : State :=
  let t := min 990 (max mv (floorNow s))
  vcStep { s with pwr := { s.pwr with target := t } }

/-- Want the set-point that the mode asks for (R435): the fixed one, or the present one, both held within the floor. -/
def vcForMode (s : State) : State := vcWant (if s.flag Reg.VC_ADAPT then s.pwr.target else s.get Reg.VC_FIXED) s

/-! ### Actuation running (R440 bit [8]) -/

/-- The channels whose status word is listed: every other channel is IDLE. -/
def listedChannels (s : State) : List Nat :=
  (s.regs.filter (fun e => 0x30000 ≤ e.1 && e.1 < 0x3D800 && e.1 % 0x200 == 0x1C0)).map (fun e => (e.1 - 0x30000) / 0x200)

/-- Actuation of the class is running: a channel in RUN, EXCITING or STOPPING; a sweep RUNNING or PAUSED; `TO_STATE` not
IDLE. -/
def actRunning (s : State) (cls : Nat) : Bool :=
  match cls with
  | 0 => (listedChannels s).any (fun n => [1, 2, 5].contains (s.get (Reg.CH_STATE n)))
  | 1 => s.get Reg.EXC_STATE == 1 || s.get Reg.EXC_STATE == 2
  | _ => s.get Reg.TO_STATE != 0

/-- The end span of a lease. -/
def leaseE (s : State) (c : Nat) : Nat := s.get (Reg.E_LO c) + 2 ^ 32 * s.get (Reg.E_HI c)

/-- A lease of class `c` is held and has not ended under R428. -/
def leaseHeld (s : State) (c : Nat) : Bool := s.flag (Reg.LIVE c)

/-- The lease of class `c` is live (R425). DEDUCED (log entry 71). -/
def leaseLive (s : State) (c : Nat) : Bool := leaseHeld s c && s.clk.span < leaseE s c

/-- The value of the lease expiry event (R440). -/
def leaseValue (s : State) (c cause : Nat) : Nat :=
  cause + 16 * c + 64 * s.get (Reg.HOLDER c) + 256 * b01 (actRunning s c) + 65536 * (leaseE s c % 65536)

/-! ### End of a sweep (R223, R225) -/

/-- The cells of a tier that a sweep has not reached. DEDUCED (log entry 16). -/
def excLeft (s : State) (k : Nat) : Nat :=
  match kvGet (fun _ => none) s.exc.tiers k with
  | some e => e.cells.length
  | none => 0

/-- A cell of a tier has run its last period and the record that decides its outcome has not arrived. DEDUCED (log entry 16). -/
def excOpen (s : State) (k : Nat) : Bool :=
  match kvGet (fun _ => none) s.exc.tiers k with
  | some e => e.due.any (fun d => d.lastCell)
  | none => false

/-- The loop sample at which a ramp begins that is due now (R216, R223): grains 0 to 255 of a span at its mark, else those of the next
sample. -/
def rampFrom (s : State) : Nat := ceilDiv s.abs 256 * 256

/-- The waveform of a channel ramps down from an instant on; a ramp in progress goes on (R216, R223). -/
def rampWave (ch at_ : Nat) (s : State) : State :=
  let w := (kvGet (fun _ => none) s.exc.waves ch).map (fun w => { w with down := some (w.down.getD at_) })
  { s with exc := { s.exc with waves := kvSet (fun _ => none) s.exc.waves ch w } }

/-- A channel leaves EXCITING: back to RUN where its loops were held, else to IDLE (R219); its waveform ramps down (R216, R223). -/
def unexcite (ch : Nat) (s : State) : State :=
  if s.get (Reg.CH_STATE ch) = 5 then
    let s1 := s.put (Reg.CH_STATE ch) (if kvGet (fun _ => 0) s.exc.held ch = 0 then 0 else 1)
    rampWave ch (rampFrom s) { s1 with exc := { s1.exc with held := kvSet (fun _ => 0) s1.exc.held ch 0 } }
  else s

/-- End the sweep in progress: cells not reached count as CUT, the cell under way as PARTIAL; the completion report carries
the status, the end cause and the three counts (R225). The exciting channels ramp down: `EXC_STATE` STOPPING until the next
span. DEDUCED (log entry 16). DEDUCED (log entry 70). -/
def endSweep (status cause : Nat) (s : State) : State :=
  match s.exc.sweep with
  | none => s
  | some (m, _) =>
    let now := (List.range 6).filter (fun k => s.get (Reg.EXC_CELL k) != 127)
    let cut := s.get Reg.EXC_CUT + ((List.range 6).map (excLeft s)).foldl (· + ·) 0
    let partial_ := s.get Reg.EXC_PARTIAL + now.length + ((List.range 6).filter (excOpen s)).length
    let s1 := (s.put Reg.EXC_CUT cut).put Reg.EXC_PARTIAL partial_
    let s2 := s1.each now (fun k t => (unexcite (t.get (Reg.EXC_CELL k)) t).put (Reg.EXC_CELL k) 127)
    let s3 := s2.put Reg.EXC_STATE (if s.get Reg.EXC_STATE = 1 then 3 else 0)
    let s4 := { s3 with exc := { s3.exc with sweep := none, tiers := [] } }
    complete (s.exc.begun.getD s.now) 0x32 status m cause
      (s4.get Reg.EXC_COMPLETE + 2 ^ 8 * s4.get Reg.EXC_PARTIAL + 2 ^ 16 * s4.get Reg.EXC_CUT) s4

/-! ### Leases (R425 to R429) -/

/-- End the lease of class `c` (R428). `r` is the raise in use. A sweep in progress ends with it (R223). DEDUCED (log entry 71). -/
def endLease (r : Nat → Nat → State → State) (c cause : Nat) (s : State) : State :=
  if leaseHeld s c then
    let v := leaseValue s c cause
    let s1 := s.put (Reg.LIVE c) 0
    let s2 := if c = 1 then endSweep 0x13 1 s1 else s1
    r 486 v s2
  else s

/-- Abandon a life-cycle sequence in progress (R488): the life-cycle event with cause ABANDONED. DEDUCED (log entry 17). -/
def abandonLc (r : Nat → Nat → State → State) (src hseq : Nat) (s : State) : State :=
  match s.host.lcSeq with
  | none => s
  | some (_, target, _, _) =>
    let s1 := (({ s with host := { s.host with lcSeq := none } }).put Reg.LC_TARGET 7).put Reg.LC_STEPS_LEFT 0
    r 514 (s1.get Reg.LC_STATE + 8 * target + 64 * src + 256 * 2 + 65536 * hseq) s1

/-! ### Effective n (R111) -/

/-- The code of the effective sub-window count of tier `k` in the mode that measurement follows (R111). -/
def effCode (s : State) (k : Nat) : Nat :=
  match s.fabMode with
  | 2 => s.get (Reg.SUBWIN k)
  | 3 => s.get (Reg.SUBWIN k)
  | _ => 0

/-- n of a `SUBWIN` code: 1, 4, 16, 64 or 256. -/
def nOfCode (c : Nat) : Nat := 4 ^ c

/-- The notch of tier `k` for the present span (R77, R111): its length in whole grains, and whether it acts. In STORE it is off. -/
def updateNotch (k : Nat) (s : State) : State :=
  let (num, den) := notchQuot s k
  let inRange := decide (16 * 16 * den ≤ num) && decide (num ≤ 16 * 32768 * den)
  let en := s.flag (Reg.NOTCH_EN k) && !(s.tl k).store
  let act := en && inRange
  let s1 := (s.putFlag (Reg.NOTCH_ACTIVE k) act).putFlag (Reg.NOTCH_LIMIT k) (en && !inRange)
  let len := if en then min 65535 (Config.roundQ num (16 * den)).toNat else 0
  let s2 := s1.put (Reg.NOTCH_LEN k) len
  if act then s2 else s2.put (Reg.NOTCH_FILLING k) 0

/-- A restart of a whole tier (R80) at an instant of its count: of the sinc history, the notch line and the post-filters. -/
def restartPrim (k at_ : Nat) (sinc notch post : Bool) (s : State) : State :=
  let p := s.pr k
  let s1 := s.setPr k { p with sincFrom := if sinc then at_ else p.sincFrom, notchFrom := if notch then at_ else p.notchFrom,
                               postFrom := if post then at_ else p.postFrom, restarted := true }
  if notch then s1.putFlag (Reg.NOTCH_FILLING k) (s1.flag (Reg.NOTCH_ACTIVE k)) else s1

/-- A restart of the whole path of a tier. -/
def restartAll (k at_ : Nat) (s : State) : State := restartPrim k at_ true true true s

/-- Give a tier the mode that it measures for, and the effective n of that mode: a change of it restarts its sinc history (R80, R111). -/
def applyEffN (k : Nat) (s : State) : State :=
  let c := effCode s k
  let s0 := s.setPr k { s.pr k with mode := s.fabMode }
  if c = s.get (Reg.EFF_SUBWIN k) then s0
  else { restartPrim k (s0.tierAt k) true false false (s0.put (Reg.EFF_SUBWIN k) c) with fab := { s0.fab with planDue := true } }

/-! ### Mode changes (R420 to R422) -/

/-- Execute a mode change (R422). `cause`: 0 MODE command, 1 escalation, 2 RESTART. DEDUCED (log entry 17). -/
def changeMode (r : Nat → Nat → State → State) (new cause src hseq : Nat) (s : State) : State :=
  let old := s.modeNow
  let fab := s.fabMode
  let s1 := ((s.put Reg.MODE_PREV old).put Reg.MODE_NOW new).put Reg.MODE_CAUSE cause
  let s2 := if new = 5 then s1.put Reg.HOLD_FABRIC fab else s1
  let s3 := if new = 0 then s2 else { s2 with ret := { s2.ret with mode := new, holdFab := s2.get Reg.HOLD_FABRIC } }
  let s4 := if old = 3 && new != 3 then endSweep 0x12 2 s3 else s3
  let s5 := if new = 5 then s4.each [0, 1, 2] (fun c t => endLease r c 4 t) else s4
  let s6 := s5.each (List.range 6) (fun k t => applyEffN k t)
  let s7 := { s6 with fab := { s6.fab with planDue := true } }
  let s8 := capFabric (vcForMode s7)
  let s9 := abandonLc r src hseq s8
  r 513 (new + 8 * old + 64 * cause + 256 * src + 65536 * hseq) s9

/-- Enter HOLD by escalation (R410, R422). DEDUCED (log entry 10). -/
def enterHold (s : State) : State := changeMode (fun src v t => raiseInHold src v t.now false false t) 5 1 0 0 s

/-- A raise (R397), whole: an escalation puts the module in HOLD and then raises source 512 (R410). DEDUCED (log entry 10). DEDUCED (log entry 12). -/
def raiseAt (src value : Nat) (t : Stamp) (late summary : Bool) (s : State) : State :=
  if s.modeNow = 5 then raiseInHold src value t late summary s
  else
    match raiseCore src value t late summary s with
    | (s1, none) => s1
    | (s1, some first) =>
      if src = 512 then s1
      else raise512 first src false (enterHold ((s1.put Reg.ESCALATED 1).bump Reg.ESC_COUNT))

/-- A raise of a base source now. -/
def raise (src value : Nat) (s : State) : State := raiseAt src value s.now false false s

/-- The base die's stamp of an instant of a span that may have ended: the span before keeps the state of its own mark. -/
def stampOf (s : State) (span grain : Nat) : Stamp :=
  if span = s.clk.span then s.stampAt grain
  else if span = s.tb.markPrev.span then { s.tb.markPrev with grain := grain }
  else ⟨span, grain, timeQualified s, false, tstateOf (s.get Reg.STATE)⟩

/-- A tier's time base is time-qualified (R47, R54): locked to marks of a time-qualified base die, or holding for no more than 4 spans
since. DEDUCED (log entry 60). -/
def tierQualified (l : TierLink) : Bool := (l.tstate == 2 && l.mtq) || (l.tstate == 3 && l.tcount ≤ 4)

/-- The stamp that tier `k` gives to an instant of its span in progress, or of the span it has just closed (R52). -/
def tierStamp (s : State) (k span grain : Nat) : Stamp :=
  let l := s.tl k
  let now : Stamp := ⟨span, grain, tierQualified l, l.jumped && span == l.span, tstateOf l.tstate⟩
  match l.closed with
  | some c => if c.span = span then { c.stamp with span := span, grain := grain } else now
  | none => now

/-- Enter a raise among the first eight of its span (R27, R413): the state, and whether the span has no place left. -/
def noteEvt (k : Nat) (e : TierEvt) (s : State) : State × Bool :=
  let l := s.tl k
  let own := if 8 ≤ l.evts.length then (s, true) else (s.setTl k { l with evts := l.evts ++ [e] }, false)
  match l.closed with
  | some c =>
    if c.span = e.stamp.span then
      if 8 ≤ c.evts.length then (s, true) else (s.setTl k { l with closed := some { c with evts := c.evts ++ [e] } }, false)
    else own
  | none => own

/-- The tier of a tier source (R394). -/
def tierOfSource (src : Nat) : Nat := if src < 432 then src / 72 else (src - 432) / 8

/-- A raise made in tier `k` at an instant (R26 to R30, R35). While a lane of the link is up and the base die is READY, the base
die processes it at once; otherwise the tier holds it, marked late where neither lane is up, and raises its wake channel for
an over- or under-voltage start raise of a source that is not masked. -/
def raiseTierOn (k src value span grain : Nat) (s : State) : State :=
  let up := s.linkUp k && s.baseUp
  let live := up && s.ready
  let t := tierStamp s k span grain
  let (s1, full) := noteEvt k ⟨src, value, t, if live then 0 else if up then 2 else 1⟩ s
  let s2 := latchNote src t (full && !live) s1
  if live then raiseAt src value t false false s2
  else if !up && src < 432 && (src % 4 == 0 || src % 4 == 1) && !isEndRaise src value false && !s2.flag (Reg.MASKED src) then
    noteWake src { s2 with pwr := { s2.pwr with wakeCh := kvSet (fun _ => false) s2.pwr.wakeCh k true } }
  else s2

/-- A raise made in tier `k` at a grain of the tier's span in progress. -/
def raiseTierAt (k src value grain : Nat) (s : State) : State := raiseTierOn k src value (s.tl k).span grain s

/-- A raise made in tier `k` now. -/
def raiseTier (k src value : Nat) (s : State) : State := raiseTierAt k src value s.clk.grain s

/-- The source of tier `k` numbered `i` (R394). -/
def tierSrc (k i : Nat) : Nat := 432 + 8 * k + i

end Sys2Proof.Machine
end

