-- ==== Sys2Proof/Machine/TimeBase.lean ====
section
/-!
DEFINITION. The external time base (R37 to R69, R544): SPAN_IN and the prescaler, the four states, acquisition, tracking,
holdover, the internal span, distribution around a ring by marks, probes and time frames. Periods are in units of 2.5 ns,
phase errors in 1/16 grain, own mark minus source edge.
-/

namespace Sys2Proof.Machine

/-! ### Roles (R55, R61) -/

/-- The time-base event (R69). -/
def tbEvent (cause detail : Nat) (s : State) : State := raise 480 (cause + 256 * (detail % 2 ^ 24)) s

/-- The master tag (R56). -/
def masterTag (s : State) : Nat := (if s.tb.takeover then 128 else 0) + s.tb.takeovers % 128

/-- SPAN_OUT (R68). DEDUCED (log entry 80). -/
def spanOut (s : State) : Bool := s.ready && s.flag Reg.SPAN_OUT_EN && s.clk.grain < 2048

/-! ### Clocks (R39, R40, R46, R544) -/

/-- log2 of M: the largest power of two from 4 to 256 for which M × grain rate does not exceed 10.5 MHz (R39). -/
def mLog2 (period : Nat) : Nat :=
  ([8, 7, 6, 5, 4, 3].find? (fun l => 2 ^ l * 16384000 ≤ 105 * period)).getD 2

/-- The internal span at `FREE_RATE`, to a whole unit of 2.5 ns (R46). DESIGN CHOICE (log entry 94). -/
def internalPeriod (s : State) : Nat :=
  if s.get Reg.FREE_RATE = 0 then 8000000 else 6400000000 / s.get Reg.FREE_RATE

/-- Two periods differ by more than 0.1 % of the first (R42, R544). -/
def differs01 (p q : Nat) : Bool := p < 1000 * (if p < q then q - p else p - q)

/-- Tier `k` takes a period without a step (R43, R77); instants of its sequencer keep their grains (R120). -/
def pullTier (new k : Nat) (s : State) : State :=
  let old := (s.tl k).period
  let q := s.sq k
  updateNotch k ((s.setTl k { s.tl k with period := new }).setSq k
    { q with endAt := retime old new q.endAt, freeAt := retime old new q.freeAt, cycleFrom := q.cycleFrom.map (retime old new) })

/-- A frequency step in tier `k` at grain `g`, to the period `new` (R40, R77, R80): integration and settling restart. -/
def stepTier (new g k : Nat) (s : State) : State :=
  let old := (s.tl k).period
  let s1 := restartAll k ((s.tl k).span * 4096 + g) (pullTier new k s)
  s1.setPr k { s1.pr k with stepG := g, before := old, mLog := mLog2 new, mAt := (s.tl k).span * 4096 + g, mBefore := (s.pr k).mLog }

/-- Tier `k` takes a period at grain `g`: with a frequency step where it differs by over 0.1 % (R42, R544). -/
def changeTier (new g k : Nat) (s : State) : State := if differs01 (s.tl k).period new then stepTier new g k s else pullTier new k s

/-- The effects of a frequency step at grain `g` on everything but the event (R40, R80, R198, R223, R544). -/
def stepPeriod (new g : Nat) (s : State) : State :=
  let s1 := (s.put Reg.M_LOG2 (mLog2 new))
  let s2 := { s1 with tb := { s1.tb with period := new, nextPeriod := new, step := none, stepNow := some g } }
  let s3 := s2.each ((List.range 6).filter s2.linkUp) (fun k t => stepTier new g k t)
  let mark (e : Nat × Option ExcTier) : Nat × Option ExcTier := (e.1, e.2.map (fun x => { x with stepped := true, replan := true }))
  { s3 with fab := { s3.fab with planDue := true }, exc := { s3.exc with tiers := s3.exc.tiers.map mark } }

/-- An internal step (R544): a frequency step without STEP event where the periods differ by over 0.1 %. A master announces it (R56). -/
def internalStep (s : State) : State :=
  let p := internalPeriod s
  if differs01 s.tb.period p then
    let t := stepPeriod p s.clk.grain s
    { t with tb := { t.tb with stepTold := false } }
  else { s with tb := { s.tb with period := p, nextPeriod := p } }

/-! ### Entering states (R41, R45, R46, R61) -/

/-- SPAN_IN is valid now (R38, R44): two valid periods, and the next edge is not missing 256 grains after it was due. DEDUCED (log entry 15). -/
def inputLive (s : State) : Bool :=
  2 ≤ s.tb.valids && (s.abs - s.tb.preAt - 256) * s.tb.period ≤ s.tb.lastPeriod * 4096

/-- Enter FREE on the internal span; `fallback` raises FALLBACK with the holdover count, 0 where the limit is 0 (R69). DEDUCED (log entry 15). -/
def enterFree (fallback : Bool) (s : State) : State :=
  let n := if s.get Reg.HOLDOVER_SPANS = 0 then 0 else s.get Reg.HOLDOVER_COUNT
  let s1 := internalStep ((s.put Reg.STATE 0).put Reg.HOLDOVER_COUNT 0)
  let s2 := { s1 with tb := { s1.tb with valids := 0, marks := 0, frames := 0, acqFrom := .free, loss := 0, step := none } }
  s2.when fallback (tbEvent 3 n)

/-- Start acquisition on a source that has qualified with period `p` (R42): the frequency step, where due, at the first grain that
begins at least `MARK_LEAD` + 8 µs ahead. -/
def acquire (from_ : AcqFrom) (p : Nat) (s : State) : State :=
  let ahead := ceilDiv ((s.get Reg.MARK_LEAD + 8) * 400 * 4096) s.tb.period
  let st := if differs01 s.tb.period p then some (s.abs + ahead, p) else none
  let s1 := s.put Reg.STATE 1
  { s1 with tb := { s1.tb with acqFrom := from_, qualified := true, step := st, stepQuiet := false, loss := 0,
                               stepTold := s1.tb.stepTold && st.isNone } }

/-- The source has been changed by a commit while it is valid (R41): ACQUIRING, and the source as now chosen qualifies anew (R42). -/
def reacquire (s : State) : State :=
  let s1 := s.put Reg.STATE 1
  { s1 with tb := { s1.tb with acqFrom := .commit, qualified := false, step := none, loss := 0, valids := 0, marks := 0, frames := 0,
                               edges := 0, lastPre := none, lastPeriod := 0 } }

/-- The mean of the two latest prescaled periods, to a whole unit (R42). DESIGN CHOICE (log entry 94). -/
def meanPeriod (p old : Nat) : Nat := (p + old) / 2

/-- A STANDBY_MASTER head whose holdover ends takes over its segment (R61). -/
def takesOver (s : State) : Bool := isHead s && s.get Reg.ROLE == 2 && !s.tb.takeover && !alone s

/-- HOLDOVER reaches its limit (R41, R45, R61): the standby head becomes master, keeps the held period and acquires SPAN_IN where that
is valid; otherwise the module falls back to FREE. DEDUCED (log entry 15). -/
def holdoverEnds (s : State) : State :=
  if takesOver s then
    let s1 := { s with tb := { s.tb with takeover := true, takeovers := (s.tb.takeovers + 1) % 128 } }
    let s2 := tbEvent 5 (masterTag s1) (s1.put Reg.MASTER_DELAY 0)
    if s2.get Reg.SOURCE = 0 && inputLive s2 then acquire .holdover s2.tb.mean (s2.put Reg.IN_PERIOD s2.tb.lastPeriod) else enterFree true s2
  else enterFree true s

/-- Enter HOLDOVER with a count on the period in force (R45); a limit of 0 ends it at the same mark. -/
def enterHoldover (cond count : Nat) (s : State) : State :=
  let s1 := ((s.put Reg.HOLDOVER_COUNT count).bump Reg.LOSS_COUNT).put Reg.STATE 3
  let s2 := { s1 with tb := { s1.tb with nextPeriod := s1.tb.period, loss := 0, step := none, marks := 0, frames := 0 } }
  let s3 := tbEvent 2 cond (s2.when (isMaster s2) (fun t => { t with tb := { t.tb with valids := 0 } }))
  s3.when (s.get Reg.HOLDOVER_SPANS = 0) holdoverEnds

/-- The source of the time base has been lost or found invalid: in LOCKED the loss takes effect at the next mark, in
ACQUIRING the acquisition fails there (R41, R44). -/
def declareLoss (cond : Nat) (s : State) : State :=
  match s.get Reg.STATE with
  | 2 => if s.tb.loss = 0 then { s with tb := { s.tb with loss := cond } } else s
  | 1 => if s.tb.loss = 0 then { s with tb := { s.tb with loss := cond } } else s
  | _ => s

/-- What a prescaled period `p` of SPAN_IN, after `old`, does on the master (R41, R42, R44): it qualifies a source, or invalidates it. -/
def periodDone (p old : Nat) (ok : Bool) (phase : Int) (s : State) : State :=
  let two := decide (2 ≤ s.tb.valids)
  match s.get Reg.STATE with
  | 0 => if two && s.get Reg.SOURCE == 0 then acquire .free (meanPeriod p old) s else s
  | 3 => if two && s.get Reg.SOURCE == 0 then acquire .holdover (meanPeriod p old) s else s
  | 1 =>
    if s.tb.qualified then (if two then s else declareLoss 3 s)
    else if two then acquire s.tb.acqFrom (meanPeriod p old) s
    else if ok then s else declareLoss 3 s
  | _ =>
    if !ok then declareLoss 3 s
    else if 1024 < phase.natAbs then declareLoss 2 s
    else s

/-- SPAN_IN_EDGE (R37, R38, R42, R44): an edge at time `t` (2.5 ns units); `phase` is its error against the prediction. Every module
measures SPAN_IN; only a time master takes its time from it (R55, R61). The first valid edge is the one with which the first valid period
began (R69). DEDUCED (log entry 15). -/
def execSpanInEdge (rising : Bool) (t : Nat) (phase : Int) (s : State) : Out :=
  let prev := s.tb.lastEdge
  let s0 := { s with tb := { s.tb with lastEdge := some t } }
  let tooSoon := match prev with
    | some u => t < u + 400
    | none => false
  if !s.tbUp || tooSoon || rising == s.flag Reg.EDGE then done s0
  else if s.tb.edges < s.get Reg.PRESCALE_M1 then done { s0 with tb := { s0.tb with edges := s.tb.edges + 1 } }
  else
    let s1 := { s0 with tb := { s0.tb with edges := 0, lastPre := some t, preAt := s.abs, sincePre := 0 } }
    match s.tb.lastPre with
    | none => done { s1 with tb := { s1.tb with valids := 0 } }
    | some u =>
      let p := t - u
      let ok := decide (1000000 ≤ p) && decide (p ≤ 40000000)
      let old := s.tb.lastPeriod
      let near := old != 0 && 100 * (if p < old then old - p else p - old) ≤ old
      let valids := if !ok then 0 else if s.tb.valids = 0 || !near then 1 else s.tb.valids + 1
      let since := if isMaster s && valids = 1 then s.tb.sincePre else s.tb.sinceEdge
      let s2 := { s1 with tb := { s1.tb with lastPeriod := p, mean := meanPeriod p old, valids := valids, sinceEdge := since } }
      if isMaster s then done (periodDone p old ok phase ((s2.put Reg.IN_PERIOD p).putFlag Reg.INPUT_VALID (2 ≤ valids)))
      else done s2

/-- FREQUENCY_STEP (R42, R40): at the chosen grain the rate steps in every tier, and STEP is raised, but for the internal step of a master
that its time frame has announced (R544). -/
def execFrequencyStep (s : State) : Out :=
  match s.tb.step with
  | none => done s
  | some (g, p) =>
    if !s.tbUp then done s
    else
      match s.passTo g with
      | none => done s
      | some s0 =>
        let at_ := if g / 4096 = s0.clk.span then g % 4096 else s0.clk.grain
        let s1 := stepPeriod p at_ s0
        done (if s.tb.stepQuiet then s1 else raise 480 (9 + 256 * s1.get Reg.M_LOG2 + 4096 * at_) s1)

/-- The marks of the direction in use have failed while the other works (R59): the follower switches at the next mark. -/
def leaveDir (s : State) : State :=
  { s with tb := { s.tb with dirDue := true, otherDir := false, dirFailed := some (s.get Reg.MARK_DIR) } }

/-- EDGE_MISSING_TIMEOUT (R44, R59, R60): no edge, or no mark from the direction in use, within 256 grains of prediction. A
follower with marks from the other direction switches to it at the next mark and stays LOCKED. -/
def execEdgeMissingTimeout (s : State) : Out :=
  if !s.tbUp then done s
  else if !isMaster s && s.tb.dirDue then done s
  else if !isMaster s && s.tb.otherDir then done (leaveDir s)
  else
    let s1 := (declareLoss 1 s).put Reg.INPUT_VALID 0
    done (if isMaster s then { s1 with tb := { s1.tb with valids := 0, lastPre := none } }
      else { s1 with tb := { s1.tb with marks := 0, frames := 0 } })

/-- HOLDOVER_LIMIT (R45, R46, R61): the holdover limit is reached, at a mark. A STANDBY_MASTER head takes over its segment instead of
falling back. DEDUCED (log entry 15). -/
def execHoldoverLimit (s : State) : Out :=
  if s.get Reg.STATE = 3 && s.get Reg.HOLDOVER_SPANS ≤ s.get Reg.HOLDOVER_COUNT && s.clk.grain = 0 && s.tbUp then done (holdoverEnds s)
  else done s

/-- A tier runs free on the internal span from grain `g` on (R54): an internal step (R544). -/
def tierInternal (g k : Nat) (s : State) : State :=
  changeTier (internalPeriod s) g k (s.setTl k { s.tl k with tstate := 0, tcount := 0, marks := 0 })

/-- A tier loses its marks (R54): HOLDOVER where its last mark showed LOCKED or HOLDOVER, with the count of that mark; FREE otherwise. DEDUCED (log entry 13). DEDUCED (log entry 60). -/
def tierLoses (k : Nat) (s : State) : State :=
  let l := s.tl k
  if l.mstate = 2 || l.mstate = 3 then
    s.setTl k { l with tstate := 3, tcount := if l.mstate = 2 then 0 else l.mcount, marks := 0 }
  else tierInternal s.clk.grain k s

/-- TIER_MARK_TIMEOUT (R54): a tier without a mark 256 grains after prediction; one that holds or runs free already does so on.
DEDUCED (log entry 60). -/
def execTierMarkTimeout (k : Nat) (s : State) : Out :=
  if 5 < k || (s.tl k).tstate = 3 || (s.tl k).tstate = 0 then done s else done (tierLoses k s)

/-! ### Distribution around a ring (R56, R57, R62) -/

/-- A set or a frame that arrives shows symbol lock: the hold of a far calibration ends (R320). DEDUCED (log entry 22). -/
def relock (p : Nat) (s : State) : State := if (s.pt p).calHold then s.setPt p { s.pt p with calHold := false } else s

/-- Send an ordered set out of port `p`, where its link is UP; a port in calibration holds it (R320). -/
def sendSet (p : Nat) (o : OSet) (s : State) : State :=
  match s.get (Reg.PSTATE p) with
  | 2 =>
    match o with
    | .mark _ => s.setPt p { s.pt p with lastSet := some o, markAt := some s.abs }
    | _ => s.setPt p { s.pt p with lastSet := some o }
  | 3 =>
    match o with
    | .probe _ => s
    | .echo _ => s
    | _ => s.setPt p { s.pt p with held := (s.pt p).held ++ [o] }
  | _ => s

/-- The next `FH_SEQ` of a frame type that its origin counts (R327), and the state with the counter advanced. -/
def nextSeq (ftype : Nat) (s : State) : Nat × State :=
  let n := kvGet (fun _ => 0) s.chain.txSeq ftype
  (n, { s with chain := { s.chain with txSeq := kvSet (fun _ => 0) s.chain.txSeq ftype ((n + 1) % 65536) } })

/-- Queue a broadcast frame of type `ftype` on every port whose link is UP. -/
def castFrame (ftype op : Nat) (payload : List Byte) (s : State) : State :=
  let (q, s1) := nextSeq ftype s
  s1.each ((List.range 2).filter (portUp s1)) (fun p t => txAdd p (routeAll t p (ownFrame t ftype q op payload)) t)

/-- The grain at which the MARK set of the next span leaves the master (R56). -/
def markGrain (s : State) : Nat := 4096 - min 4096 (usGrains s.tb.period (s.get Reg.MARK_LEAD))

/-- SPAN_MARK_SET_SEND (R56): `MARK_LEAD` before its own mark the time master sends the MARK set out of both ports. -/
def execSpanMarkSetSend (s : State) : Out :=
  if isMaster s && s.ready then
    done ((s.passGrain (markGrain s)).each [0, 1] (fun p t => sendSet p (.mark ((t.clk.span + 1) % 256)) t))
  else done s

/-- Within 10 µs of a MARK set that port `p` has sent, or is to send in this span (R320, R322). -/
def nearMark (s : State) (p : Nat) : Bool :=
  let d := usGrains s.tb.period 10
  (s.pt p).markAt.any (fun m => s.abs ≤ m + d) || (s.clk.grain < markGrain s && markGrain s ≤ s.clk.grain + d)

/-- `TF_STEP` and the new period of a step in the span in progress, made or chosen (R56, R544). -/
def stepThisSpan (s : State) : Option (Nat × Nat) :=
  match s.tb.step with
  | some (g, p) => if g / 4096 = s.clk.span then some (g % 4096, p) else s.tb.stepNow.map (fun g => (g, s.tb.nextPeriod))
  | none => s.tb.stepNow.map (fun g => (g, s.tb.nextPeriod))

/-- The time frame payload (R56). DEDUCED (log entry 95). -/
def timePayload (s : State) : List Byte :=
  let (step, per) := match stepThisSpan s with
    | some (g, p) => (g % 4096 + 32768, p)
    | none => (0, s.tb.nextPeriod)
  leBytes 6 s.clk.span ++ leBytes 2 step ++ leBytes 4 per ++ [byte (masterTag s), byte (s.get Reg.STATE), 0, 0]

/-- A time frame is due (R56): one in each span before grain 2,048, and a further one once a step has been decided. -/
def frameDue (s : State) : Bool :=
  (s.tb.frameAt != s.clk.span + 1 && s.clk.grain < 2048) || ((stepThisSpan s).isSome && !s.tb.stepTold)

/-- TIME_FRAME_SEND (R56). -/
def execTimeFrameSend (s : State) : Out :=
  if isMaster s && s.ready && frameDue s then
    let t := castFrame 4 0 (timePayload s) s
    done { t with tb := { t.tb with frameAt := s.clk.span + 1, stepTold := (stepThisSpan s).isSome } }
  else done s

/-- Send a RING frame towards a head through port `p`, with `hops` hops to go (R342). -/
def ringTo (p hops op : Nat) (payload : List Byte) (s : State) : State :=
  let (q, s1) := nextSeq 6 s
  txAdd p { routeTo s1 p (ownFrame s1 6 q op payload) with hops := hops } s1

/-- A head gives up its mastership (R55, R61): the ring's marks are its source from now on, and what it followed is lost. DEDUCED (log entry 15). -/
def becomeFollower (s : State) : State :=
  let s1 := declareLoss 2 ((s.put Reg.DELAY_VALID 0).put Reg.INPUT_VALID 0)
  { s1 with tb := { s1.tb with marks := 0, frames := 0, tfPeriod := 0, dirDelay := [], heardMaster := false } }

/-- Two MASTER heads in one segment (R55): a master that knows another head by its ENUM and has received the time frames of
another MASTER reverts to FOLLOWER where its own identity is the higher. DEDUCED (log entry 15). DEDUCED (log entry 25). -/
def roleConflict (s : State) : State :=
  match s.chain.otherHead with
  | none => s
  | some id =>
    if isHead s && s.get Reg.ROLE = 1 && !s.tb.reverted && s.tb.heardMaster && id < s.get Reg.UID_LO then
      tbEvent 8 (if posOf s 1 = 0 then posOf s 0 else posOf s 1) (becomeFollower { s with tb := { s.tb with reverted := true } })
    else s

/-- The delay of the direction in use is too long (R57): DELAY_RANGE. -/
def delayCheck (ns : Nat) (s : State) : State := s.when ((s.get Reg.MARK_LEAD - 2) * 1000 < ns) (tbEvent 6 (ns / 1000))

/-- A follower takes its marks from port `p` from now on (R59): with the hop count and the delay of that direction (R57). -/
def useDir (p : Nat) (s : State) : State :=
  let d := kvGet (fun _ => 0) s.tb.dirDelay p
  let s1 := (s.put Reg.MARK_DIR p).put Reg.HOPS_TO_MASTER (posOf s p)
  if p = s.get Reg.MARK_DIR then s1
  else ((s1.put Reg.MASTER_DELAY (d - 1)).putFlag Reg.DELAY_VALID (d != 0)).when (d != 0) (delayCheck (d - 1))

/-- The follower changes over to the other direction at a mark (R59). -/
def switchDir (s : State) : State :=
  useDir (1 - s.get Reg.MARK_DIR) { s with tb := { s.tb with dirDue := false, otherDir := s.tb.dirFailed.isNone } }

/-- A mark or a time frame on port `p` belongs to the direction not in use (R59), while that in use works. -/
def otherWay (p : Nat) (s : State) : Bool := p != s.get Reg.MARK_DIR && s.flag Reg.INPUT_VALID

/-- What a mark or a time frame on port `p`, of the direction not in use, tells a follower (R59): that direction works, where `good`. The
follower goes over to it at the next mark where it has the fewer hops to the master and its marks are good again. DESIGN CHOICE (log entry 14). -/
def noteOther (p : Nat) (good : Bool) (s : State) : State :=
  if !good then s
  else
    let failed := s.tb.dirFailed = some p
    { s with tb := { s.tb with otherDir := true, dirFailed := if failed then none else s.tb.dirFailed,
                               dirDue := s.tb.dirDue || (!failed && posOf s p < posOf s (s.get Reg.MARK_DIR)) } }

/-- A follower behind, level with or ahead of the master's span number (R62): SPAN_AHEAD and SPAN_REPORT once a span. -/
def compareSpan (span tag : Nat) (s : State) : State :=
  let own := s.clk.span
  if span = own then { s with tb := { s.tb with ahead := false } }
  else if own < span then { s with tb := { s.tb with ahead := false, jumpTo := some (span + 1, own + 1) } }
  else if s.tb.reportAt = own + 1 then { s with tb := { s.tb with ahead := true } }
  else
    let s1 := { s with tb := { s.tb with ahead := true, reportAt := own + 1 } }
    tbEvent 7 own (ringTo (s1.get Reg.MARK_DIR) (s1.get Reg.HOPS_TO_MASTER) 0x07 (leBytes 6 own ++ [byte tag, 0]) s1)

/-- A follower takes a time frame that arrived on port `p` (R62, R59, R61): lengths and steps while it follows the master, the period
of the source always (R56). DEDUCED (log entry 14). -/
def timeFrameIn (p : Nat) (d : List Byte) (s : State) : State :=
  let span := par d 0 6
  let step := par d 6 2
  let per := par d 8 4
  let tag := par d 12 1
  if s.tb.takeover && tag < 128 then
    tbEvent 5 tag (becomeFollower ({ s with tb := { s.tb with takeover := false } }.put Reg.MASTER_TAG tag))
  else if isMaster s then
    if tag < 128 then roleConflict { s with tb := { s.tb with heardMaster := true } } else s
  else if otherWay p s then noteOther p (s.tb.dirFailed != some p) s
  else
    let s1 := (useDir p (s.put Reg.MASTER_TAG tag)).put Reg.INPUT_VALID 1
    let follows := s.get Reg.STATE = 1 || s.get Reg.STATE = 2
    let takes := bit step 15 && follows && differs01 s.tb.period per
    let st := if takes then some (span * 4096 + step % 4096, per) else s1.tb.step
    let quiet := if takes then par d 13 1 % 4 == 0 else s1.tb.stepQuiet
    let s2 := { s1 with tb := { s1.tb with frames := s1.tb.frames + 1, tfPeriod := per, step := st, stepQuiet := quiet,
                                           nextPeriod := if follows then per else s1.tb.nextPeriod } }
    compareSpan span tag s2

/-- TIME_FRAME_RECEIVED (R56, R62). -/
def execTimeFrameReceived (port : Nat) (data : List Byte) (s : State) : Out :=
  if s.ready then done (timeFrameIn port data s) else done s

/-- MARK_RECEIVED (R56, R44, R59, R41): a MARK set arrives; it is forwarded, and a follower takes its phase from it. DEDUCED (log entry 14). -/
def execMarkReceived (port data : Nat) (phase : Int) (s : State) : Out :=
  let s0 := sendSet (1 - port) (.mark data) (relock port s)
  if !s.ready || isMaster s then done s0
  else if otherWay port s then done (noteOther port (phase.natAbs ≤ 1024) s0)
  else
    let s1 := (useDir port s0).put Reg.INPUT_VALID 1
    let s2 := { s1 with tb := { s1.tb with marks := s1.tb.marks + 1, sinceEdge := if s1.tb.marks = 0 then 0 else s1.tb.sinceEdge } }
    let can := 2 ≤ s2.tb.marks && 2 ≤ s2.tb.frames && s2.flag Reg.DELAY_VALID
    match s.get Reg.STATE with
    | 0 => if can then done (acquire .free s2.tb.tfPeriod s2) else done s2
    | 3 => if can then done (acquire .holdover s2.tb.tfPeriod s2) else done s2
    | 1 => if can && !s2.tb.qualified then done (acquire s2.tb.acqFrom s2.tb.tfPeriod s2) else done s2
    | _ =>
      if 1024 < phase.natAbs then
        if s2.tb.dirDue then done s2
        else if s2.tb.otherDir then done (leaveDir s2)
        else done (declareLoss 2 s2)
      else done s2

/-- The hop count from the master through port `p` to the module that lies `pos` hops from it through the other port, in a ring closed
back into its head; through the port itself elsewhere (R57, R59, R328). -/
def hopsThrough (s : State) (p pos : Nat) : Nat :=
  if s.get Reg.TOPOLOGY = 2 && p = 1 then s.get Reg.RING_N + 1 - pos else pos

/-- The follower positions that a master probes (R57): every module of its ring, and with a second head that one too (R328). -/
def probeTop (s : State) : Nat := s.get Reg.RING_N + b01 (s.get Reg.TOPOLOGY == 3)

/-- PROBE_SEND (R57): the master probes one follower position per span in turn, out of port `port`; in a closed ring the same position
out of the other port too. DEDUCED (log entry 14). -/
def execProbeSend (port : Nat) (s : State) : Out :=
  if isMaster s && s.ready && port < 2 && 0 < probeTop s then
    let again := s.tb.probeAt = s.clk.span + 1
    let pos := if again then s.tb.probeNext else if probeTop s ≤ s.tb.probeNext then 1 else s.tb.probeNext + 1
    let hops := hopsThrough s port pos
    if nearMark s port then done s
    else
    let s1 := sendSet port (.probe (hops % 64)) s
    done { s1 with tb := { s1.tb with probeOut := some (port, hops), probeNext := pos, probeAt := s.clk.span + 1 } }
  else done s

/-- PROBE_RECEIVED (R57, R322): answered by the addressed module, forwarded by the others. -/
def execProbeReceived (port data : Nat) (s : State) : Out :=
  if s.ready && data % 64 = posOf s port && data % 64 != 63 && !isMaster s then
    done (relock port { s with tb := { s.tb with echoDue := some (port, data % 64) } })
  else done (sendSet (1 - port) (.probe data) (relock port s))

/-- ECHO_SEND (R57): 800 ns after the probe. -/
def execEchoSend (s : State) : Out :=
  match s.tb.echoDue with
  | none => done s
  | some (p, h) => let s1 := sendSet p (.echo h) s; done { s1 with tb := { s1.tb with echoDue := none } }

/-- ECHO_RECEIVED (R57, R322): the echo goes on out of the other port; the master takes a sample of the one-way delay from a round trip in ns,
and sends the average of 16 to the follower. -/
def execEchoReceived (port data roundNs : Nat) (s0 : State) : Out :=
  let s := sendSet (1 - port) (.echo data) (relock port s0)
  if isMaster s && s.ready then
    if s.tb.probeOut = some (port, data % 64) then
      let key := 64 * port + data % 64
      let (n, sum, _) := kvGet (fun _ => (0, 0, 0)) s.tb.probes key
      let sum2 := sum + (roundNs - 800)
      let s1 := { s with tb := { s.tb with probeOut := none } }
      if n + 1 < 16 then
        done { s1 with tb := { s1.tb with probes := kvSet (fun _ => (0, 0, 0)) s1.tb.probes key (n + 1, sum2, 0) } }
      else
        let d := (Config.roundQ sum2 32).toNat % 2 ^ 18
        let s2 := { s1 with tb := { s1.tb with probes := kvSet (fun _ => (0, 0, 0)) s1.tb.probes key (0, 0, 0),
                                               delays := kvSet (fun _ => 0) s1.tb.delays key d } }
        let (q, s3) := nextSeq 6 s2
        let f := ownFrame s3 6 q 0x06 (leBytes 3 d ++ [16, byte (1 - port)])
        done (txAdd port { routeTo s3 port f with hops := data % 64 } s3)
    else done s
  else done s

/-- DELAY_SET_RECEIVED (R57, R59, R342): a follower keeps the delay of the direction named, and loads that of the direction in use. -/
def delaySetIn (d : List Byte) (s : State) : State :=
  if isMaster s then s
  else
    let p := par d 4 1 % 2
    let ns := par d 0 3 % 2 ^ 18
    let s1 := { s with tb := { s.tb with dirDelay := kvSet (fun _ => 0) s.tb.dirDelay p (ns + 1) } }
    if p != s.get Reg.MARK_DIR then s1 else delayCheck ns ((s1.put Reg.MASTER_DELAY ns).put Reg.DELAY_VALID 1)

def execDelaySetReceived (data : List Byte) (s : State) : Out :=
  if s.ready then done (delaySetIn data s) else done s

/-- SPAN_REPORT_RECEIVED (R62): the master jumps, at the first of its marks at least 2 spans after receipt, to the reported
count plus 8; a jump already due keeps its mark and takes the higher number. -/
def spanReportIn (d : List Byte) (s : State) : State :=
  let n := par d 0 6 + 8
  let due := match s.tb.jumpTo with
    | some (m, from_) => (max m n, from_)
    | none => (n, s.clk.span + (if s.clk.grain = 0 then 2 else 3))
  if isMaster s then { s with tb := { s.tb with jumpTo := some due } } else s

def execSpanReportReceived (data : List Byte) (s : State) : Out :=
  if s.ready then done (spanReportIn data s) else done s

/-! ### What a span mark does to the time base (R42 to R45) -/

/-- The period of the source: that of SPAN_IN on a master, that of the time frames on a follower (R56). -/
def sourcePeriod (s : State) : Nat := if isMaster s then s.get Reg.IN_PERIOD else s.tb.tfPeriod

/-- The source period corrected by the phase error, the correction limited (R42). -/
def corrected (src : Nat) (phase : Int) (limit : Int) : Nat :=
  let c := clampI (-limit) limit (Config.roundQ (phase * src) (16 * 4096))
  ((src : Int) - c).toNat

/-- The period of the span that begins at a mark in ACQUIRING: the phase pull of at most 512 grains (R42). -/
def pulled (src : Nat) (phase : Int) : Nat := corrected src phase (512 * src / 4096 : Nat)

/-- The period of the span that begins at a mark in LOCKED: the corrected source period, within 1 % of the period before (R44). -/
def tracked (old src : Nat) (phase : Int) : Nat :=
  (clampI ((old : Int) - (old / 100 : Nat)) ((old : Int) + (old / 100 : Nat)) (corrected src phase src)).toNat

/-- The period of a span of a follower in LOCKED (R44, R56): what its source announces, whose changes it follows, corrected by the phase error
within 1 %. DEDUCED (log entry 95). -/
def followed (src : Nat) (phase : Int) : Nat := corrected src phase (src / 100 : Nat)

/-- The phase error at the end of a span of period `p`, 1/16 grain, where the source keeps its period and `phase` was the error at its
beginning (R42). -/
def leftOver (p src : Nat) (phase : Int) : Int :=
  if src = 0 then phase else phase - Config.roundQ (((src : Int) - p) * 65536) src

/-- Two periods lie within 100 ppm (R42). -/
def near100 (p src : Nat) : Bool := 1000000 * (if p < src then src - p else p - src) ≤ 100 * src

/-- A follower may not declare LOCKED before it has its delay, with too long a delay, or while it is ahead of the master (R57, R62). -/
def mayLock (s : State) : Bool :=
  isMaster s || (s.flag Reg.DELAY_VALID && !s.tb.ahead && s.get Reg.MASTER_DELAY ≤ (s.get Reg.MARK_LEAD - 2) * 1000)

/-- An acquisition fails (R41): back to where it began. -/
def acquisitionFails (s : State) : State :=
  let count := if s.tb.acqFrom = .holdover then s.get Reg.HOLDOVER_COUNT else 0
  match s.tb.acqFrom with
  | .free => enterFree false { s with tb := { s.tb with loss := 0, valids := 0, step := none } }
  | _ => enterHoldover s.tb.loss count s

/-- The span that begins takes a period; `next` is that which the next one is to have (R56). -/
def setPeriod (p next : Nat) (s : State) : State := { s with tb := { s.tb with period := p, nextPeriod := next } }

/-- The time base at a span mark with phase error `phase` (R41 to R45): the state, and the period of the span that begins. DEDUCED (log entry 95). -/
def tbAtMark (phase : Int) (s : State) : State :=
  let src := sourcePeriod s
  let s0 := { s with tb := { s.tb with sinceEdge := s.tb.sinceEdge + 1, sincePre := s.tb.sincePre + 1 } }
  let s1 := if s.tb.dirDue then switchDir s0 else s0
  match s.get Reg.STATE with
  | 2 =>
    if s.tb.loss != 0 then enterHoldover s.tb.loss 0 s1
    else if src = 0 || s.tb.step.isSome then s1
    else if isMaster s then
      let p := tracked s.tb.period src phase
      setPeriod p (tracked p src (leftOver p src phase)) s1
    else setPeriod (followed src phase) src s1
  | 1 =>
    if s.tb.loss != 0 then acquisitionFails s1
    else if !s.tb.qualified || s.tb.step.isSome || src = 0 then s1
    else
      let p := pulled src phase
      let s2 := setPeriod p (if isMaster s then pulled src (leftOver p src phase) else src) s1
      if phase.natAbs ≤ 1 && near100 p src && mayLock s then tbEvent 1 s2.tb.sinceEdge ((s2.put Reg.STATE 2).put Reg.HOLDOVER_COUNT 0)
      else s2
  | 3 => s1.put Reg.HOLDOVER_COUNT (min 256 (s.get Reg.HOLDOVER_COUNT + 1))
  | _ => s1

end Sys2Proof.Machine
end

