-- ==== Sys2Proof/Machine/Waves.lean ====
section
/-!
DEFINITION. Converter readings by grain (R74, R75, R77, R94, R148): runs of equal readings, their windows and means, the sinc^N weights
and the notch. A reading history is kept newest first.
-/

namespace Sys2Proof.Machine

/-- The grains of history that a tier keeps: the longest notch line, four sub-windows of a span each and a span (R75, R77). -/
def rawKeep : Nat := 32769 + 5 * 4096

/-- The number of grains in a wave. -/
def waveLen : Wave → Nat
  | [] => 0
  | (n, _) :: r => n + waveLen r

/-- The first `k` grains. -/
def waveTake (k : Nat) : Wave → Wave
  | [] => []
  | (n, v) :: r => if k = 0 then [] else if k ≤ n then [(k, v)] else (n, v) :: waveTake (k - n) r

/-- The wave without its first `k` grains. -/
def waveDrop (k : Nat) : Wave → Wave
  | [] => []
  | (n, v) :: r => if k = 0 then (n, v) :: r else if k < n then (n - k, v) :: r else waveDrop (k - n) r

/-- Exactly `k` grains: the last reading given goes on, and where none is given the reading is 0. DESIGN CHOICE (log entry 96). -/
def waveFill (k : Nat) (w : Wave) : Wave :=
  let t := waveTake k w
  let n := waveLen t
  if n < k then t ++ [(k - n, (t.getLastD (0, 0)).2)] else t

/-- The sum of a function over the grains. -/
def waveSum (f : Int → Int) : Wave → Int
  | [] => 0
  | (n, v) :: r => n * f v + waveSum f r

/-- Some reading meets a condition. -/
def waveAny (p : Int → Bool) (w : Wave) : Bool := w.any (fun r => 0 < r.1 && p r.2)

/-- The grains one by one. -/
def waveList (w : Wave) : List Int := w.flatMap (fun r => List.replicate r.1 r.2)

/-- The number of grains up to the last one, in the order given, that meets a condition. -/
def waveLast (p : Int → Bool) : Nat → Wave → Option Nat
  | _, [] => none
  | at_, (n, v) :: r =>
    match waveLast p (at_ + n) r with
    | some t => some t
    | none => if 0 < n && p v then some (at_ + n) else none

/-- The history with a newer stretch, which is given oldest first. -/
def waveAdd (old new : Wave) : Wave := waveTake rawKeep (new.reverse ++ old)

/-- `C(n, k)` for small `k`, as a product. -/
def choose (n k : Nat) : Nat := (List.range k).foldl (fun a i => a * (n - i) / (i + 1)) 1

/-- The part of the sinc^N average of length `len` that the last `x` grains of its support have, times N!·len^N: the integral of the N-fold
average of a window `len` grains long (R75). -/
def sincPart (order len x : Nat) : Int :=
  (List.range (order + 1)).foldl (fun a i =>
    let t : Int := choose order i * (x - i * len) ^ order
    if x < i * len then a else if i % 2 = 0 then a + t else a - t) 0

/-- The weight of the grain that lies `m` grains before the last one (R75): the support is N·`len` grains. DEDUCED (log entry 96). -/
def sincWeight (order len m : Nat) : Int := sincPart order len (m + 1) - sincPart order len m

/-- The sinc^N average of values newest first, over those of them that lie within the support: numerator and denominator. The weights of
the part that counts give unit gain (R83). -/
def sincMean (order len : Nat) (vals : List Int) : Int × Int :=
  let ws := (List.range vals.length).map (sincWeight order len)
  ((vals.zip ws).foldl (fun a x => a + x.1 * x.2) 0, ws.foldl (· + ·) 0)

/-- The value of a grain behind the notch, times the length of the notch in 1/16 grain: the mean over the length, interpolated (R77).
The list begins with that grain and goes back in time. -/
def notched (len16 : Nat) (vals : List Int) : Int :=
  16 * ((vals.take (len16 / 16)).foldl (· + ·) 0) + (len16 % 16 : Nat) * vals.getD (len16 / 16) 0

/-- The values of the first `k` grains of a list behind the notch, times its length in 1/16 grain; a grain whose line does not hold the
length yet, of which `line` grains exist from the first one back, passes as it is (R83). -/
def notchVals (len16 line : Nat) : Nat → List Int → List Int
  | 0, _ => []
  | _ + 1, [] => []
  | k + 1, v :: r =>
    (if (len16 + 15) / 16 ≤ line then notched len16 (v :: r) else len16 * v) :: notchVals len16 (line - 1) k r

end Sys2Proof.Machine
end

