-- ==== Sys2Proof/Machine/Windows.lean ====
section
/-!
DEFINITION. The result window memory (R504 to R514): the preset of a bank, filing of tier results, the swap with its deferral,
the blocks that a read opens and holds.
-/

namespace Sys2Proof.Machine

/-- A primary or current word with the code NO_RESULT (R87). -/
def noResult (span : Nat) : Nat := 0x800000 + 2 ^ 28 * (span % 16)

/-- What an unlisted word of a bank holds: its preset (R505), or 0 in memory that was only zeroed. -/
def presetWord (b : Bank) (off : Nat) : Word :=
  BitVec.ofNat 32 <|
    if !b.preset then 0
    else if 0x40 ≤ off && off < 0x1F0 then noResult b.span4
    else if 0x200 ≤ off && off < 0x2D8 then 0xFFFFFFFF
    else if off = 0x300 then noResult b.span4
    else if 0x800 ≤ off && off < 0xBC8 then 0x00048000
    else if 0x1000 ≤ off && off < 0x1000 + 4 * b.n * 109 then noResult b.span4
    else 0

/-- The word of a bank at an offset that is a multiple of 4. -/
def bankWord (b : Bank) (off : Nat) : Nat := (kvGet (presetWord b) b.words off).toNat

/-- The bank with a word filed. -/
def bankPut (off v : Nat) (b : Bank) : Bank :=
  { b with words := kvSet (presetWord b) b.words off (BitVec.ofNat 32 v) }

/-- The bank with half a word filed. -/
def bankPutHalf (off v : Nat) (b : Bank) : Bank :=
  let a := off / 4 * 4
  bankPut a (putBits (bankWord b a) (8 * (off - a)) 16 v) b

/-- The legacy word of a primary word (R90). -/
def legacyWord (w : Nat) : Nat :=
  let c := signed 24 w
  if bit w 24 || c = -8388608 then 0xFFFF
  else (clampI 0 65534 ((c + 50) / 100)).toNat

/-- File one word in its place (R506): a span word brings its legacy word with it. -/
def fileSlot (w : WinSlot × Nat) (b : Bank) : Bank :=
  match w.1 with
  | .sub c i => if i < b.n then bankPut (0x1000 + 4 * b.n * c + 4 * i) w.2 b else b
  | .word off =>
    let b1 := bankPut off w.2 b
    if 0x40 ≤ off && off < 0x1F0 then bankPutHalf (0x200 + (off - 0x40) / 2) (legacyWord w.2) b1 else b1
  | .half off => bankPutHalf off w.2 b

/-- The base die's view of the temperatures takes a result. -/
def seeTemp (t : Nat × Nat × Bool × Nat) (s : State) : State :=
  { s with temps := { s.temps with seen := kvSet (fun _ => (0x8000, false, 0)) s.temps.seen t.1 (t.2.1, t.2.2.1, t.2.2.2 + 1) } }

/-- File the results of one item of tier `k` into the filling bank; an item of a later span waits for the swap, one of an
earlier span finds its bank gone (R505). -/
def fileItem (k : Nat) (u : UpItem) (s : State) : State :=
  let s1 := u.temps.foldl (fun t x => seeTemp x t) s
  let f := s1.win.filling
  if u.span = f.span then
    let b := u.words.foldl (fun b w => fileSlot w b) f
    let b2 := if u.words.isEmpty then b else { b with tiers := if bit b.tiers k then b.tiers else b.tiers + 2 ^ k }
    { s1 with win := { s1.win with filling := b2 } }
  else if f.span < u.span then { s1 with win := { s1.win with early := s1.win.early ++ [(k, u)] } }
  else s1

/-- The effective n of the module: the greatest of its tiers. DEDUCED (log entry 30). -/
def windowN (s : State) : Nat := ((List.range 6).map (fun k => nOfCode (s.get (Reg.EFF_SUBWIN k)))).foldl max 1

/-- A bank preset for a span, with the carried blocks of the bank just completed (R505). -/
def freshBank (s : State) (done_ : Bank) : Bank :=
  { words := done_.words.filter (fun e => 0x20000 ≤ e.1), preset := true, span4 := s.clk.span % 16, n := windowN s, tiers := 0,
    span := s.clk.span }

/-! ### Blocks and their opening (R506, R512) -/

/-- The blocks of a bank of effective n `n`: first offset and bytes. -/
def blockOf (n off : Nat) : Option (Nat × Nat) :=
  let fixed : List (Nat × Nat) := [(0, 64), (0x40, 432), (0x200, 216), (0x300, 48), (0x340, 216), (0x420, 768), (0x800, 968),
    (0x20000, 448), (0x20200, 48), (0x20400, 968), (0x3A000, 880), (0x3B000, 32), (0x3C000, 448)]
  match fixed.find? (fun b => b.1 ≤ off && off < b.1 + b.2) with
  | some b => some b
  | none =>
    if 0x1000 ≤ off && off < 0x1000 + 4 * n * 109 then some (0x1000 + (off - 0x1000) / (4 * n) * (4 * n), 4 * n)
    else if 0x21000 ≤ off && off < 0x21000 + 848 * 108 then some (0x21000 + (off - 0x21000) / 848 * 848, 848)
    else if 0x38000 ≤ off && off < 0x38000 + 64 * 108 then some (0x38000 + (off - 0x38000) / 64 * 64, 64)
    else none

def State.hold (s : State) (i : Nat) : Option BlockHold := kvGet (fun _ => none) s.win.holds i

def State.setHold (s : State) (i : Nat) (h : Option BlockHold) : State :=
  { s with win := { s.win with holds := kvSet (fun _ => none) s.win.holds i h } }

/-- The block is still open now: not closed by its reader, and opened no more than 32 grains ago (R512). -/
def stillOpen (s : State) (h : BlockHold) : Bool := h.isOpen && s.abs ≤ h.opened + 32

/-- A read of `bytes` bytes at bank offset `off` by reader `i` (R512): every block whose first word it includes opens and becomes
the held block; the block whose last word it includes closes. -/
def openBlocks (i off bytes : Nat) (s : State) : State :=
  let n := s.win.completed.n
  (List.range (bytes / 4)).foldl (fun t j =>
    let a := off + 4 * j
    match blockOf n a with
    | none => t
    | some (b, len) =>
      let t1 := if a = b then t.setHold i (some ⟨b, len, t.win.gen, t.abs, true⟩) else t
      match t1.hold i with
      | some h => if h.block = b && a + 4 = b + len then t1.setHold i (some { h with isOpen := false }) else t1
      | none => t1) s

/-- The reply of such a read is torn (R514): it takes words of the held block, without its first word, after a swap. DEDUCED (log entry 34). -/
def isTorn (i off bytes : Nat) (s : State) : Bool :=
  match s.hold i with
  | none => false
  | some h => h.gen != s.win.gen && off < h.block + h.bytes && h.block < off + bytes && h.block < off

/-- BLOCK_CLOSE_TIMEOUT (R512): 32 grains after its opening a block closes; it stays held. -/
def execBlockCloseTimeout (src : Nat) (s : State) : Out :=
  match s.hold src with
  | none => done s
  | some h => done ((s.passTo (h.opened + 32)).elim s (fun t => t.setHold src (some { h with isOpen := false })))

end Sys2Proof.Machine
end

