-- ==== Sys2Proof/Machine/Primary.lean ====
section
/-!
DEFINITION. Primary cell measurement (R70 to R114): the readings of the converters and the results formed from them, result words,
substitutes, the post-filter, thresholds, the tap test, spare converters with their audit and crossbar, converter faults, the notch, and
the matching of supply draws.
-/

namespace Sys2Proof.Machine

/-- `n` with bit `i` set or cleared. -/
def setBit (n i : Nat) (b : Bool) : Nat := if bit n i == b then n else if b then n + 2 ^ i else n - 2 ^ i

/-- The span that a tier result delivered now belongs to: the one just closed, else the one in progress. -/
def spanOf (s : State) (k : Nat) : Nat :=
  match (s.tl k).closed with
  | some c => c.span
  | none => (s.tl k).span

/-- `n` quarter-milliseconds in grains of tier `k`, rounded up. -/
def quarterMs (s : State) (k n : Nat) : Nat := ceilDiv (n * 100000 * 4096) (s.tl k).period

/-- Local cell `c` of tier `k` is enabled (R73). -/
def localOn (s : State) (k c : Nat) : Bool := bit (s.get (Reg.CELL_EN k)) c

def spareCell (k i : Nat) : Field := if i = 18 then Reg.S18_CELL k else Reg.S19_CELL k

def spareUse (k i : Nat) : Field := if i = 18 then Reg.S18_USE k else Reg.S19_USE k

/-! ### Readings (R74, R75, R77, R94) -/

/-- Readings of tier `k` arrive up to the instant `upto` of its count: a wave for each converter. Where more than a span is missing, the
history begins anew with the span in which that instant lies. DESIGN CHOICE (log entry 96). -/
def bring (k upto : Nat) (waves : List Wave) (s : State) : State :=
  let q := s.pr k
  let n := upto - q.rawTo
  if n = 0 then s
  else
    let m := if 4096 < n then (upto - 1) % 4096 + 1 else n
    let old (i : Nat) : Wave := if 4096 < n then [] else kvGet (fun _ => []) q.raw i
    s.setPr k { q with
      raw := (List.range (if k = 0 then 21 else 20)).foldl (fun r i => kvSet (fun _ => []) r i (waveAdd (old i) (waveFill m (waves.getD i [])))) q.raw,
      rawTo := upto }

/-- The waves of a tier's converters, `cells` from local cell 0 (after them the spares), and the shunt's. -/
def readings (cells : List Wave) (cur : Wave) : List Wave := (List.range 20).map (fun i => cells.getD i []) ++ [cur]

/-- The readings of converter `i` over `[a, b)`, newest first. -/
def rawWin (s : State) (k i a b : Nat) : Wave :=
  let q := s.pr k
  waveTake (b - a) (waveDrop (q.rawTo - b) (kvGet (fun _ => []) q.raw i))

/-- The limits of a converter: −0.6 V and 5.6 V (R87), and ±164 mV of the shunt (R148). -/
def lowLimit (i : Nat) : Int := if i = 20 then -8200000 else -600000

def highLimit (i : Nat) : Int := if i = 20 then 8200000 else 5600000

/-- A reading beyond the limits (R94, R148). -/
def beyond (i : Nat) (v : Int) : Bool := v < lowLimit i || highLimit i < v

/-- A reading counted at the limit that it passed (R94). -/
def limited (i : Nat) (v : Int) : Int := clampI (lowLimit i) (highLimit i) v

/-- A mean, numerator and denominator: nothing was read where the denominator is 0. -/
abbrev Mean := Int × Nat

/-- A mean as a code. -/
def Mean.code (m : Mean) : Int := if m.2 = 0 then 0 else Config.roundQ m.1 m.2

/-- The mean over the 16-grain blocks of `[a, b)` taken together, without notch or filter (R74, R291). -/
def blockMean (s : State) (k i a b : Nat) : Mean :=
  let w := rawWin s k i a b
  (primScaled s k (a / 4096) (waveSum id w), waveLen w)

/-- The boxcar mean over `[a, b)` (R74, R291), over-ranged grains at their limits. -/
def boxMean (s : State) (k i a b : Nat) : Mean :=
  let w := rawWin s k i a b
  (primScaled s k (a / 4096) (waveSum (limited i) w), waveLen w)

/-- The start of the history of a converter's filters behind the cell `c` (R80). -/
def lineStart (s : State) (k c : Nat) : Nat := max (s.pr k).notchFrom (kvGet (fun _ => 0) (s.pr k).cellFrom c)

/-- The notch acts on the results of tier `k` (R77); in STORE it is off (R111). -/
def notchOn (s : State) (k : Nat) : Bool := s.flag (Reg.NOTCH_ACTIVE k) && !(s.tl k).store

/-- The mean that a filter forms, numerator and denominator, with its sum of readings scaled (R291). -/
def scaledMean (s : State) (k p : Nat) (num den : Int) : Mean := (primScaled s k p num, den.toNat)

/-- The sinc^`order` mean of length `len` that ends at `b`, over the grains from `a` on, of converter `i` that serves `c`, behind the notch
where that acts (R74, R75, R77, R83, R291). -/
def filtered (s : State) (k i c order len a b : Nat) : Mean :=
  let count := min (order * len) (b - a)
  let p := (b - 1) / 4096
  if notchOn s k then
    let n16 := notchLen16 s k
    let line := b - lineStart s k c
    let vals := (waveList (rawWin s k i (b - count - ((n16 + 15) / 16 + 1)) b)).map (limited i)
    let (num, den) := sincMean order len (notchVals n16 line count vals)
    scaledMean s k p num (den * n16)
  else if order = 1 then boxMean s k i (b - count) b
  else
    let (num, den) := sincMean order len ((waveList (rawWin s k i (b - count) b)).map (limited i))
    scaledMean s k p num den

/-- Some grain of `[a, b)` lies beyond the limits (R94). -/
def overRanged (s : State) (k i a b : Nat) : Bool := waveAny (beyond i) (rawWin s k i a b)

/-- The first over-ranged grain of the span `p` (R96). -/
def firstOver (s : State) (k i p : Nat) : Option Nat :=
  let w := rawWin s k i (p * 4096) (p * 4096 + 4096)
  (waveLast (beyond i) 0 w).map (fun j => 4096 - j)

/-! ### What measures a cell (R103, R107, R108) -/

/-- What forms the results of a cell (R107, R108): its own converter, a spare, or nothing. -/
inductive Source where
  | own
  | spare (i : Nat)
  | substitute
deriving DecidableEq, Repr

def State.serve (s : State) (k c : Nat) : Serve := kvGet (fun _ => Serve.reset) (s.pr k).serve c

def State.setServe (s : State) (k c : Nat) (v : Serve) : State :=
  s.setPr k { s.pr k with serve := kvSet (fun _ => Serve.reset) (s.pr k).serve c v }

/-- A converter as the source of a cell. -/
def sourceOf : Option Nat → Source
  | none => .own
  | some i => .spare i

/-- The source of the results of a cell in the span `p` whose window ends at `fin` (R88, R107, R108). -/
def cellSource (s : State) (k c p fin : Nat) : Source :=
  let v := s.serve k c
  let before := match v.down with
    | some t => if fin ≤ t then sourceOf v.old else .substitute
    | none => sourceOf v.old
  match v.from_ with
  | some f => if f ≤ p then sourceOf v.now else before
  | none => before

/-- The index of the converter that a source names, for cell `c`. -/
def Source.conv (c : Nat) : Source → Nat
  | .own => c
  | .spare i => i
  | .substitute => c

/-- The spare in REPLACE for a cell (R103). -/
def servedBy (s : State) (k c : Nat) : Option Nat :=
  [18, 19].find? (fun i => s.get (spareUse k i) == 2 && s.get (spareCell k i) == c)

/-- The substitute of R108: a secondary result of the last 4 spans, the last span word without EST, or none. DEDUCED (log entry 32). -/
def substitute (s : State) (k c p : Nat) : Option Int :=
  match kvGet (fun _ => none) (s.sq k).cellRes c with
  | some (v, sp) => if p < sp + 4 then some (v * 400 : Int) else kvGet (fun _ => none) (s.pr k).lastGood c
  | none => kvGet (fun _ => none) (s.pr k).lastGood c

/-- A code held within the clamps (R87, R94). -/
def clampCode (i : Int) : Int := clampI (-600000) 5600000 i

/-- A result word (R86). -/
def cellWord (code : Int) (or_ ds sp est : Bool) (span : Nat) : Nat :=
  unsigned 24 code + 2 ^ 24 * b01 or_ + 2 ^ 25 * b01 ds + 2 ^ 26 * b01 sp + 2 ^ 27 * b01 est + 2 ^ 28 * (span % 16)

/-! ### Disturbances (R95, R102) -/

/-- The window `[a, b)` of local cell `c` overlaps the disturbance of a tap test (R102). -/
def tapDs (s : State) (k c a b : Nat) : Bool :=
  (s.pr k).taps.any (fun t => t.1 ≤ c + 1 && c ≤ t.1 + 1 && t.2 < b && a < t.2 + quarterMs s k 16)

/-- The clamp of a cell conducts at a reading (R72). -/
def clampOn (v : Int) : Bool := 6000000 < v || v < -800000

/-- The stretches of `[a, b)` in which a converter measures local cell `c`, span by span: the converter, its start and its end. A stopped
converter counts up to its declaration (R545). -/
def measuredBy (s : State) (k c a b : Nat) : List (Nat × Nat × Nat) :=
  (List.range (b / 4096 + 1 - a / 4096)).flatMap (fun j =>
    let p := a / 4096 + j
    let x := max a (p * 4096)
    let y := min b (p * 4096 + 4096)
    if y ≤ x then []
    else
      match cellSource s k c p y with
      | .substitute =>
        match (s.serve k c).down with
        | some t => if x < t then [((sourceOf (s.serve k c).old).conv c, x, min t y)] else []
        | none => []
      | src => [(src.conv c, x, y)])

/-- The clamp of local cell `c` conducts in `[a, b)` or did within 500 µs before it, as far as a converter measures the cell. -/
def clampWithin (s : State) (k c a b : Nat) : Bool :=
  c < 18 && localOn s k c && (measuredBy s k c (a - quarterMs s k 2) b).any (fun m => waveAny clampOn (rawWin s k m.1 m.2.1 m.2.2))

/-- The window `[a, b)` of local cell `c` overlaps a clamp interval of a neighbour in the tier (R95). -/
def clampDs (s : State) (k c a b : Nat) : Bool := clampWithin s k (c + 1) a b || (0 < c && clampWithin s k (c - 1) a b)

/-- The window `[a, b)` of local cell `c` is disturbed (R88). -/
def disturbed (s : State) (k c a b : Nat) : Bool := clampDs s k c a b || tapDs s k c a b

/-! ### Thresholds (R97, R98) -/

/-- One step of a debounce counter: the count, and whether the state toggles. -/
def debounce (hit : Bool) (cnt need : Nat) : Nat × Bool :=
  if hit then (if need ≤ cnt + 1 then (0, true) else (cnt + 1, false)) else (0, false)

/-- Evaluate the thresholds on a result of local cell `c`; the raise is stamped with the instant after its window. -/
def thrEval (k c : Nat) (code : Int) (skip : Bool) (span grain deb : Nat) (s : State) : State :=
  if skip then s
  else
    let p := s.pr k
    let g := 18 * k + c
    let hyst : Int := s.get (Reg.THR_HYST k) * 1000
    let ov : Int := s.get (Reg.OV_TH k) * 100
    let uv : Int := s.get (Reg.UV_TH k) * 100
    let ovAct := bit p.ovOn c
    let uvAct := bit p.uvOn c
    let (oc, ot) := debounce (if ovAct then decide (code ≤ ov - hyst) else decide (ov ≤ code)) (kvGet (fun _ => 0) p.ovCnt c) (deb + 1)
    let (uc, ut) := debounce (if uvAct then decide (uv + hyst ≤ code) else decide (code ≤ uv)) (kvGet (fun _ => 0) p.uvCnt c) (deb + 1)
    let s1 := s.setPr k { p with ovCnt := kvSet (fun _ => 0) p.ovCnt c oc, uvCnt := kvSet (fun _ => 0) p.uvCnt c uc,
                                 ovOn := if ot then setBit p.ovOn c (!ovAct) else p.ovOn,
                                 uvOn := if ut then setBit p.uvOn c (!uvAct) else p.uvOn }
    let s2 := s1.when ot (raiseTierOn k (4 * g) (unsigned 24 code + 2 ^ 24 * b01 (!ovAct)) span grain)
    s2.when ut (raiseTierOn k (4 * g + 1) (unsigned 24 code + 2 ^ 24 * b01 (!uvAct)) span grain)

/-! ### Sub-windows (R75, R83, R89) -/

/-- The end and the start of the support of sub-window `i` of the span `p` of tier `k` (R75). -/
def subEnd (p i n : Nat) : Nat := p * 4096 + (i + 1) * (4096 / n)

def subStart (s : State) (k p i n : Nat) : Nat := subEnd p i n - (s.get (Reg.SINC_ORDER k) + 1) * (4096 / n)

/-- The grain from which the support of a window that ends at `fin` counts, of a history that begins at `from_` (R83). -/
def supportFrom (from_ start fin : Nat) : Nat := if from_ < fin then max from_ start else start

/-- The word of a cell for sub-window `i`, and what the thresholds take from it: code, and whether they leave it. Where a restart cuts the
support, `OR` tells of the part that counts, and `DS` of the whole support. DESIGN CHOICE (log entry 30). -/
def subWord (s : State) (k c i n p : Nat) : Nat × Int × Bool :=
  if !localOn s k c then (noResult p, 0, true)
  else
    let fin := subEnd p i n
    let start := subStart s k p i n
    match cellSource s k c p fin with
    | .substitute =>
      match substitute s k c p with
      | some v => (cellWord (clampCode v) false false false true p, clampCode v, false)
      | none => (noResult p + 2 ^ 27, 0, true)
    | src =>
      let own := kvGet (fun _ => 0) (s.pr k).cellFrom c
      let a := max (supportFrom (s.pr k).sincFrom start fin) (supportFrom own start fin)
      let code := clampCode (filtered s k (src.conv c) c (s.get (Reg.SINC_ORDER k) + 1) (4096 / n) a fin).code
      let ds := disturbed s k c start fin
      let est := (start < own && own < fin) || (s.pr k).recal
      (cellWord code (overRanged s k (src.conv c) a fin) ds (src != .own) est p, code, ds)

/-- The header bytes of a sub-window block (R89). -/
def blockHeader (s : State) (k i n p : Nat) : List Nat :=
  let fin := subEnd p i n
  let start := subStart s k p i n
  let q := s.pr k
  let tapping := q.taps.any (fun t => decide (t.2 < fin) && decide (fin - 4096 / n < t.2 + quarterMs s k 4))
  let flags := b01 (decide (start < q.sincFrom) && decide (q.sincFrom < fin)) + 2 * b01 (s.flag (Reg.NOTCH_FILLING k))
    + 4 * b01 (q.restarted || q.recal) + 8 * b01 tapping
  [p % 2 ^ 32, i, flags, s.get (Reg.EFF_SUBWIN k) + 8 * s.get (Reg.SINC_ORDER k), k]

/-- Tier `k` measures for DRIVE or CHARGE (R111): it goes on doing so while the base die is absent (R25). -/
def tierDrives (s : State) (k : Nat) : Bool := (s.pr k).mode = 2 || (s.pr k).mode = 3

/-- The cells of sub-window `i` of tier `k` (R75 to R89, R97): the state, the words to file and the block's header. -/
def primSub (k i p : Nat) (s : State) : State × List (WinSlot × Nat) × List Nat :=
  let n := nOfCode (s.get (Reg.EFF_SUBWIN k))
  let ws := (List.range 18).map (fun c => (c, subWord s k c i n p))
  let h := blockHeader s k i n p
  let s1 := s.setPr k { s.pr k with hdr := h, restarted := false }
  let after := subEnd p i n
  let sub := s.get (Reg.THR_SRC k) = 1 && tierDrives s k
  let s2 := if sub then ws.foldl (fun t w => thrEval k w.1 w.2.2.1 w.2.2.2 (after / 4096) (after % 4096) (t.get (Reg.THR_DEB k)) t) s1 else s1
  (s2, ws.map (fun w => (.sub (18 * k + w.1) i, w.2.1)), h)

/-! ### Span results (R74 to R82, R96, R97) -/

/-- α of the post-filter in 2⁻²⁴ (R79). DESIGN CHOICE (log entry 33). -/
def postAlpha (corner : Nat) : Int :=
  match corner with
  | 1 => 16052207
  | 2 => 9127844
  | _ => 2990959

/-- One post-filter step on `x` (R79, R81), `anew` for the first complete result after a restart, which is delivered unfiltered; `upTo` is
the end of the span. DESIGN CHOICE (log entry 33). -/
def postStep (corner order : Nat) (x : Int) (anew : Bool) (upTo : Nat) (q : PostState) : PostState × Int :=
  let xx := x * 2 ^ 24
  if anew then (⟨xx, xx, upTo⟩, x)
  else
    let stage (y u : Int) : Int := y + Config.roundQ (postAlpha corner * (u - y)) (2 ^ 24)
    let y1 := stage q.y1 xx
    let y2 := if order = 1 then stage q.y2 y1 else y1
    (⟨y1, y2, upTo⟩, Config.roundQ y2 (2 ^ 24))

def PostState.reset : PostState := ⟨0, 0, 0⟩

/-- Post-filter the value of the span `p` in slot `c` (18: the shunt) of tier `k` (R81, R82): a partial span, and one that a restart
divides, is delivered as it is; one that ended before the latest restart still takes the filter as it was. -/
def postFilter (k c p : Nat) (partial_ : Bool) (x : Int) (s : State) : State × Int :=
  let corner := s.get (Reg.POST_CORNER k)
  let q := s.pr k
  let r := max q.postFrom (kvGet (fun _ => 0) q.cellPost c)
  if corner = 0 || partial_ || (p * 4096 < r && r < p * 4096 + 4096) then (s, x)
  else
    let f := kvGet (fun _ => PostState.reset) q.post c
    let anew := f.upTo = 0 || (r ≤ p * 4096 && f.upTo ≤ r)
    let (f1, y) := postStep corner (s.get (Reg.POST_ORDER k)) x anew (p * 4096 + 4096) f
    (s.setPr k { q with post := kvSet (fun _ => PostState.reset) q.post c f1 }, y)

/-- The span result of a local cell: the state, the word, the code for the thresholds and whether they leave it. `g` is the grain of a
frequency step in the span, 0 for none (R82). In STORE the notch and the post-filter are off (R111). Of a divided span `OR` tells of the part
measured, and `DS` of the whole span. DESIGN CHOICE (log entry 30). -/
def spanWord (k c p g : Nat) (s : State) : State × Nat × Int × Bool :=
  if !localOn s k c then (s, noResult p, 0, true)
  else
    let a := p * 4096 + g
    let b := p * 4096 + 4096
    let off := g != 0 || (s.tl k).store
    match cellSource s k c p b with
    | .substitute =>
      match substitute s k c p with
      | some v =>
        let (s1, y) := postFilter k c p off (clampCode v) s
        (s1, cellWord y false false false true p, y, false)
      | none => (s, noResult p + 2 ^ 27, 0, true)
    | src =>
      let (s1, y) := postFilter k c p off (clampCode (filtered s k (src.conv c) c 1 4096 a b).code) s
      let ds := disturbed s k c (p * 4096) b
      let est := g != 0 || (s.pr k).recal
      let q := s1.pr k
      let s2 := if est then s1 else s1.setPr k { q with lastGood := kvSet (fun _ => none) q.lastGood c (some y) }
      (s2, cellWord y (overRanged s k (src.conv c) a b) ds (src != .own) est p, y, ds)

/-- The instant with which a result of the span `p` is evaluated (R51, R98): grain 0 of the next span; in STORE that of the record. DEDUCED (log entry 43). -/
def thrSpan (s : State) (k p : Nat) : Nat := if (s.tl k).store then p else p + 1

/-- The span results of the cells of tier `k`: the state and the 18 words. Thresholds act on them where `THR_SRC` names them,
and always where the effective n is that of WATCH. -/
def primSpan (k p g deb : Nat) (s : State) : State × List Nat :=
  let bySpan := s.get (Reg.THR_SRC k) = 0 || !tierDrives s k || (s.tl k).store
  (List.range 18).foldl (fun (acc : State × List Nat) c =>
    let (t1, w, code, skip) := spanWord k c p g acc.1
    let q := t1.pr k
    let t2 := t1.setPr k { q with lastWord := kvSet (fun _ => 0) q.lastWord c w }
    let t3 := if bySpan then thrEval k c code skip (thrSpan t2 k p) 0 deb t2 else t2
    (t3, acc.2 ++ [w])) (s, [])

/-- The over-range event of tier `k` (R96, R157): cells with OR that had none in the span before; `detail` and `cur` are the current detail
of tier 0 and, where a part of it is new, its first over-ranged grain. -/
def overRange (k p : Nat) (words : List Nat) (detail : Nat) (cur : Option Nat) (s : State) : State :=
  let q := s.pr k
  let now := (List.range 18).foldl (fun m c => setBit m c (bit (words.getD c 0) 24)) 0
  let news := (List.range 18).filter (fun c => bit now c && !bit q.orLast c)
  let mask := news.foldl (fun m c => setBit m c true) 0
  let grains := news.filterMap (fun c => firstOver s k ((cellSource s k c p (p * 4096 + 4096)).conv c) p) ++ cur.toList
  let g := grains.foldl min (grains.headD 0)
  let s1 := s.setPr k { q with orLast := now }
  if mask != 0 || cur.isSome then raiseTierOn k (tierSrc k 5) (mask + 2 ^ 18 * detail) p g s1 else s1

/-- The low byte of the `THR` field of a cell (R99). -/
def thrByte (s : State) (k c p w : Nat) : Nat :=
  let q := s.pr k
  let tested := q.taps.any (fun t => t.1 == c && t.2 / 4096 == p)
  b01 (bit q.ovOn c) + 2 * b01 (bit q.uvOn c) + 4 * b01 (kvGet (fun _ => 0) q.ovCnt c != 0)
    + 8 * b01 (kvGet (fun _ => 0) q.uvCnt c != 0) + 16 * b01 (bit w 25) + 32 * b01 (bit w 24) + 64 * b01 tested

/-! ### Converter faults and spares (R103 to R110) -/

/-- The tap or converter fault event of local cell `c` (R109); `diff` in µV. -/
def convEvent (k c cause index : Nat) (diff : Int) (s : State) : State :=
  let d := if diff = 0 then 0 else unsigned 16 (clampI (-32767) 32767 (Config.roundQ diff 100))
  raiseTier k (4 * (18 * k + c) + 3) (cause + 256 * index + 65536 * d) s

/-- A crossbar move of the spare is due. -/
def movePending (s : State) (k i : Nat) : Bool := (s.pr k).moves.any (fun m => m.spare == i)

/-- The spare waits for a move into REPLACE: it is no longer to be had. -/
def promised (s : State) (k i : Nat) : Bool := (s.pr k).moves.any (fun m => m.spare == i && m.use == 2)

/-- The spare that waits for a move into REPLACE for a cell. -/
def promisedTo (s : State) (k c : Nat) : Option Nat :=
  ((s.pr k).moves.find? (fun m => m.use == 2 && m.cell == some c)).map (·.spare)

/-- The lowest idle spare with no move due. -/
def idleSpare (s : State) (k : Nat) : Option Nat :=
  [18, 19].find? (fun i => s.get (spareUse k i) == 0 && !movePending s k i)

/-- A spare that can be had (R107): an idle one, one only about to audit, or else the auditing one. -/
def spareToHad (s : State) (k : Nat) : Option Nat :=
  ((idleSpare s k).orElse (fun _ => [18, 19].find? (fun i => s.get (spareUse k i) == 0 && !promised s k i))).orElse
    (fun _ => [18, 19].find? (fun i => s.get (spareUse k i) == 1 && !promised s k i))

/-- Order a crossbar move (R103, R107): at the end of the span in progress, or of the next one after grain 4,079. -/
def orderMove (k i : Nat) (cell : Option Nat) (use : Nat) (s : State) : State :=
  let at_ := (s.tl k).span + (if 4079 < s.clk.grain then 1 else 0)
  s.setPr k { s.pr k with moves := (s.pr k).moves.filter (fun m => m.spare != i) ++ [⟨i, cell, use, at_⟩] }

/-- End the audit in progress: its moves are dropped and its spares become idle. -/
def endAudit (k : Nat) (s : State) : State :=
  let s1 := s.setPr k { s.pr k with audit := none, moves := (s.pr k).moves.filter (fun m => m.use != 1) }
  s1.each [18, 19] (fun i t => if t.get (spareUse k i) = 1 then t.put (spareUse k i) 0 else t)

/-- Put spare `i` in REPLACE for a cell: an audit that it runs, or is about to run, ends. -/
def takeSpare (k i c : Nat) (s : State) : State :=
  let s1 := if s.get (spareUse k i) = 1 || movePending s k i then endAudit k s else s
  orderMove k i (some c) 2 s1

/-- A cell needs a spare (R107, R108). With `AUTO_SPARE` = 0 and a spare free nothing happens. -/
def needSpare (k c : Nat) (s : State) : State :=
  match spareToHad s k with
  | some i => if s.flag (Reg.AUTO_SPARE k) then takeSpare k i c s else s
  | none =>
    if bit (s.pr k).exhausted c then s
    else convEvent k c 5 c 0 (s.setPr k { s.pr k with exhausted := setBit (s.pr k).exhausted c true })

/-- Nothing measures the cell from now on (R108). -/
def cellDown (k c : Nat) (s : State) : State :=
  let v := s.serve k c
  match v.from_ with
  | none => s
  | some f => s.setServe k c ⟨if f ≤ (s.tl k).span then v.now else v.old, some (s.tierAt k), none, none⟩

/-- A converter, or with none the cell's own, is in charge of the cell from the span `f` on (R107, R110). -/
def cellUp (k c : Nat) (i : Option Nat) (f : Nat) (s : State) : State :=
  let v := s.serve k c
  let old := match v.from_ with
    | some _ => v.now
    | none => v.old
  let down := match v.from_ with
    | some _ => none
    | none => v.down
  s.setServe k c ⟨old, down, i, some f⟩

/-- The cell that a spare audits, or is about to, is no longer to be audited: the dwell ends (R104). -/
def dropDwell (k c : Nat) (s : State) : State :=
  match (s.pr k).audit with
  | some a => if a.cell = c then endAudit k s else s
  | none => s

/-- Declare a cell's own converter faulty (R107). -/
def convFault (k c cause : Nat) (diff : Int) (s : State) : State :=
  if bit (s.get (Reg.FAULTED k)) c then s
  else
    let s1 := convEvent k c cause c diff (s.put (Reg.FAULTED k) (setBit (s.get (Reg.FAULTED k)) c true))
    let s2 := dropDwell k c s1
    if (servedBy s2 k c).isSome then s2
    else if (promisedTo s2 k c).isSome then cellDown k c s2
    else needSpare k c (cellDown k c s2)

/-- Declare a spare faulty (R109, R110): FAILED; a cell that it served is a new fault. DEDUCED (log entry 32). -/
def spareFault (k i : Nat) (s : State) : State :=
  if s.get (spareUse k i) = 3 then s
  else
    let use := s.get (spareUse k i)
    let c := s.get (spareCell k i)
    let s1 := s.put (Reg.FAULTED k) (setBit (s.get (Reg.FAULTED k)) i true)
    let s2 := if use = 1 then endAudit k s1 else s1
    let s3 := s2.put (spareUse k i) 3
    let s4 := s3.setPr k { s3.pr k with moves := (s3.pr k).moves.filter (fun m => m.spare != i) }
    let s5 := if use = 1 || use = 2 then convEvent k c 6 i 0 s4 else s4
    if use = 2 then needSpare k c (cellDown k c s5) else s5

/-- The modulator clocks of tier `k` in the last `n` grains (R39, R40): M of them in a grain, at the M in force then. -/
def clocksIn (s : State) (k n : Nat) : Nat :=
  let q := s.pr k
  let new := min n (s.tierAt k - q.mAt)
  new * 2 ^ q.mLog + (n - new) * 2 ^ q.mBefore

/-- MODULATOR_STUCK (R106): a converter of tier `k` has made no transition for 4,096 modulator clocks, which count from the last transition,
and from the last grain at which a clamp conducted. The readings up to now arrive. DEDUCED (log entry 32). -/
def execModulatorStuck (k : Nat) (st : StuckConv) (s : State) : Out :=
  if 5 < k || !(s.tl k).supplied || (s.tl k).calibrating then done s
  else
    let s1 := bring k (s.tierAt k) st.waves s
    if clocksIn s1 k (min st.ago st.clampAgo) < 4096 then done s1
    else if st.conv < 18 then (if localOn s1 k st.conv then done (convFault k st.conv 2 0 s1) else done s1)
    else if st.conv < 20 then done (spareFault k st.conv s1)
    else done s1

/-- A cell restart at the span `f` (R80): sinc history and notch line. -/
def restartCell (k c f : Nat) (s : State) : State :=
  s.setPr k { s.pr k with cellFrom := kvSet (fun _ => 0) (s.pr k).cellFrom c (f * 4096) }

/-- A move into AUDIT: the first span after it is not compared (R104). DEDUCED (log entry 31). -/
def auditMoved (k i next : Nat) (s : State) : State :=
  match (s.pr k).audit with
  | some a => if a.spare = i then s.setPr k { s.pr k with audit := some { a with from_ := some (next + 1) } } else s
  | none => s

/-- One crossbar move, after which the spare integrates from the span `next` (R103). A cell that has been disabled meanwhile is no target of
a spare (R73). -/
def moveSpare (k next : Nat) (m : Move) (s : State) : State :=
  let old := s.get (spareCell k m.spare)
  let s1 := if s.get (spareUse k m.spare) = 2 && m.cell != some old then cellUp k old none next (restartCell k old next s) else s
  match m.cell with
  | some c =>
    if !localOn s1 k c then s1.put (spareUse k m.spare) 0
    else
      let s2 := (s1.put (spareCell k m.spare) c).put (spareUse k m.spare) m.use
      if m.use = 2 then cellUp k c (some m.spare) next (restartCell k c next s2) else auditMoved k m.spare next s2
  | none => s1.put (spareUse k m.spare) 0

/-! ### The audit (R104, R105) -/

/-- A cell can be audited: enabled and measured by a healthy converter of its own. -/
def auditable (s : State) (k c : Nat) : Bool :=
  localOn s k c && !bit (s.get (Reg.FAULTED k)) c && (servedBy s k c).isNone && !(s.pr k).moves.any (fun m => m.use == 2 && m.cell == some c)

/-- The next cell to audit after local cell `c`: the lowest comes first after the highest, and first of all. DESIGN CHOICE (log entry 31). -/
def nextAudited (s : State) (k c : Nat) : Option Nat :=
  ((List.range 18).map (fun i => (c + 1 + i) % 18)).find? (auditable s k)

/-- A dwell of spare `i` on cell `c`, compared from the span `from_` on. -/
def setDwell (k i c stage : Nat) (from_ : Option Nat) (first : Option (Nat × Int × Nat)) (s : State) : State :=
  s.setPr k { s.pr k with audit := some ⟨c, i, stage, from_, 0, 0, false, 0, 0, first, none⟩, auditNext := c }

/-- Order a dwell of spare `i` on cell `c` (R103, R104): it begins with the crossbar's move. -/
def beginDwell (k i c stage : Nat) (first : Option (Nat × Int × Nat)) (s : State) : State :=
  setDwell k i c stage none first (orderMove k i (some c) 1 s)

/-- The cell, and its first compared span, to which the spare `i` has gone on with the last compared span of its dwell. -/
def goneOn (s : State) (k i : Nat) : Option (Nat × Nat) :=
  match (s.pr k).audit with
  | some a => if a.spare = i then a.next.filter (fun d => auditable s k d.1) else none
  | none => none

/-- The spare goes on to the next cell; with none left to audit it becomes idle. -/
def auditOn (k i c : Nat) (s : State) : State :=
  match goneOn s k i, nextAudited s k c with
  | some (d, f), _ => setDwell k i d 0 (some f) none s
  | none, some d => beginDwell k i d 0 none s
  | none, none => endAudit k s

/-- With the last compared span of a first dwell the crossbar takes the spare on to the next cell, so that a cell takes 1 + `AUDIT_DWELL` spans
(R103, R104); that span is compared over its first 255 blocks. DEDUCED (log entry 31). -/
def auditAhead (k : Nat) (s : State) : State :=
  let p := (s.tl k).span
  match (s.pr k).audit with
  | none => s
  | some a =>
    let last := a.stage == 0 && a.next.isNone && a.from_.any (· ≤ p) && a.n + 1 == s.get (Reg.AUDIT_DWELL k)
    if last && s.flag (Reg.AUDIT_EN k) && auditable s k a.cell && !movePending s k a.spare
        && !tapDs s k a.cell (p * 4096) (p * 4096 + 4096) then
      match nextAudited s k a.cell with
      | some d => (s.put (spareCell k a.spare) d).setPr k { s.pr k with audit := some { a with next := some (d, p + 2) } }
      | none => s
    else s

/-- CROSSBAR_MOVE (R103): in grains 4,080 to 4,095 the moves that are due are made; the spares integrate from grain 0 of the next
span. In STORE, where no audit runs, the crossbar moves in the span of a record (R107, R111). -/
def execCrossbarMove (k : Nat) (s : State) : Out :=
  let l := s.tl k
  if 5 < k || !l.supplied || l.calibrating then done s
  else
    let s0 := if l.store then s else s.passGrain 4080
    let isDue (m : Move) : Bool := m.span ≤ l.span && (m.use != 1 || !l.store)
    let due := (s0.pr k).moves.filter isDue
    let s1 := s0.setPr k { s0.pr k with moves := (s0.pr k).moves.filter (fun m => !isDue m) }
    let s2 := due.foldl (fun t m => moveSpare k (l.span + 1) m t) s1
    done (if l.store then s2 else auditAhead k s2)

/-- The sequence table measures local cell `c` (R105). -/
def inTable (s : State) (k c : Nat) : Bool :=
  s.flag (Reg.SEQ_EN k) && (List.range (s.get (Reg.SEQ_LAST k) + 1)).any (fun e => s.get (Reg.CH k e) == c)

/-- The unit of the summed differences: a mean over a span, or over its first 255 blocks, is a whole number of 1/`auditUnit` µV. -/
def auditUnit : Nat := 4096 * 255

/-- The mean of `n` summed differences, µV. -/
def meanDiff (sum : Int) (n : Nat) : Int := Config.roundQ sum (auditUnit * n)

/-- A mean difference lies beyond a limit in µV. -/
def differs (sum : Int) (lim n : Nat) : Bool := lim * n * auditUnit < sum.natAbs

/-- AUDIT_UNRESOLVED (R105, R109): it carries the index of the cell's own converter, and after two dwells the mean difference of the first
spare; AUDIT_CONV then carries that of the second. DESIGN CHOICE (log entry 31). -/
def unresolved (k c : Nat) (diff : Int) (s : State) : State := convEvent k c 4 c diff s

/-- The spare that has gone on returns to the cell of its dwell. -/
def auditBack (k : Nat) (a : Audit) (s : State) : State :=
  let s1 := orderMove k a.spare (some a.cell) 1 s
  s1.setPr k { s1.pr k with audit := some { a with from_ := none, next := none } }

/-- The end of a first dwell (R104, R105): a mismatch seeks an arbiter. -/
def firstDwell (k : Nat) (a : Audit) (th : Nat) (s : State) : State :=
  let other := if a.spare = 18 then 19 else 18
  if !differs a.sum th a.n then auditOn k a.spare a.cell s
  else if s.get (spareUse k other) = 0 && !movePending s k other then beginDwell k other a.cell 1 (some (a.spare, a.sum, a.n)) s
  else if inTable s k a.cell then
    let b := { a with stage := 2, n := 0, sum := 0, wide := false, convSec := 0, spareSec := 0, next := none }
    if a.next.isSome then auditBack k b s else s.setPr k { s.pr k with audit := some b }
  else auditOn k a.spare a.cell (unresolved k a.cell (meanDiff a.sum a.n) s)

/-- The end of the other spare's dwell (R105, R109): where it agrees neither with the converter's accuser nor against the converter, the mismatch
stays unresolved. DESIGN CHOICE (log entry 31). -/
def secondDwell (k : Nat) (a : Audit) (th : Nat) (s : State) : State :=
  match a.first with
  | none => endAudit k s
  | some (i, sum, n) =>
    if differs a.sum th a.n then convFault k a.cell 3 (meanDiff a.sum a.n) s
    else if th * (n * a.n) * auditUnit < (sum * a.n - a.sum * n).natAbs then endAudit k (spareFault k i s)
    else
      let s1 := unresolved k a.cell (meanDiff sum n) (s.put (spareUse k a.spare) 0)
      auditOn k i a.cell s1

/-- The end of the dwell against the secondary results, at twice `AUDIT_TH` (R105). Where neither party disagrees with them, the mismatch
stays unresolved. DESIGN CHOICE (log entry 31). -/
def thirdDwell (k : Nat) (a : Audit) (s : State) : State :=
  let lim := 2 * (s.get (Reg.AUDIT_TH k) * 10)
  let bad := differs a.convSec lim a.n
  let spBad := differs a.spareSec lim a.n
  if !bad && !spBad then auditOn k a.spare a.cell (unresolved k a.cell (meanDiff a.sum a.n) s)
  else
    let s1 := if spBad then spareFault k a.spare s else s
    if bad then convFault k a.cell 3 (meanDiff a.sum a.n) s1 else s1

/-- The cell of a dwell can no longer be audited (R73, R104). -/
def dropCell (k : Nat) (a : Audit) (s : State) : State := if a.stage = 1 then endAudit k s else auditOn k a.spare a.cell s

/-- AUDIT_DWELL_END (R104, R105): the mean difference of the dwell is judged. -/
def execAuditDwellEnd (k : Nat) (s : State) : Out :=
  match (s.pr k).audit with
  | none => done s
  | some a =>
    if a.n < s.get (Reg.AUDIT_DWELL k) || a.n = 0 then done s
    else if !auditable s k a.cell then done (dropCell k a s)
    else
      let th := s.get (Reg.AUDIT_TH k) * 10 + (if a.wide then 1000 else 0)
      match a.stage with
      | 0 => done (firstDwell k a th s)
      | 1 => done (secondDwell k a th s)
      | _ => done (thirdDwell k a s)

/-- The audit takes the span `p` of a dwell in progress (R104): spans in which either result carries DS or OR, in which the cell's word is an
estimate, or in which the cell's mean lies outside 0.0 to 5.5 V are not compared and extend the dwell: a spare that has gone on returns.
DESIGN CHOICE (log entry 31). -/
def compareAudit (k p : Nat) (a : Audit) (word : Nat) (s : State) : State :=
  let len := if a.next.any (fun d => d.2 = p + 2) then 4080 else 4096
  let x := boxMean s k a.cell (p * 4096) (p * 4096 + len)
  let y := boxMean s k a.spare (p * 4096) (p * 4096 + len)
  let sec := match kvGet (fun _ => none) (s.sq k).cellRes a.cell with
    | some (v, sp) => if sp = p then some (v * 400 : Int) else none
    | none => none
  let in_ (lo hi : Int) : Bool := decide (lo * len ≤ x.1) && decide (x.1 ≤ hi * len)
  let ok := (a.from_.any (· ≤ p)) && x.2 = len && y.2 = len && !bit word 24 && !bit word 25 && !bit word 27
    && !overRanged s k a.spare (p * 4096) (p * 4096 + len) && in_ 0 5500000 && (a.stage != 2 || sec.isSome)
    && a.n < s.get (Reg.AUDIT_DWELL k)
  if ok then
    let v : Int := sec.getD 0 * (len : Int)
    let w : Int := (auditUnit / len : Nat)
    s.setPr k { s.pr k with audit := some { a with
      n := a.n + 1, sum := a.sum + w * (y.1 - x.1), wide := a.wide || !in_ 2000000 4500000,
      convSec := a.convSec + w * (x.1 - v), spareSec := a.spareSec + w * (y.1 - v) } }
  else if len = 4080 then auditBack k a s
  else s

/-- The audit takes a span (R103, R104): the lowest idle spare begins one, a cell that can no longer be audited ends its dwell. -/
def auditSpan (k p : Nat) (words : List Nat) (s : State) : State :=
  match (s.pr k).audit with
  | none =>
    if s.flag (Reg.AUDIT_EN k) then
      match idleSpare s k, nextAudited s k (s.pr k).auditNext with
      | some i, some c => beginDwell k i c 0 none s
      | _, _ => s
    else s
  | some a =>
    if !s.flag (Reg.AUDIT_EN k) then endAudit k s
    else if !auditable s k a.cell then dropCell k a s
    else compareAudit k p a (words.getD a.cell 0) s

/-! ### The tap test (R100 to R102) -/

/-- The enabled cells of tier `k`, by rising local index. DEDUCED (log entry 31). -/
def enabledCells (s : State) (k : Nat) : List Nat := (List.range 18).filter (localOn s k)

/-- TAP_TEST_START (R100): at grain 2,048 of a span whose number is a multiple of `TAP_INT`, once. DEDUCED (log entry 31). -/
def execTapTestStart (k : Nat) (s : State) : Out :=
  let l := s.tl k
  let n := s.get (Reg.TAP_INT k)
  let on := enabledCells s k
  let due := l.span * 4096 + 2048
  if k < 6 && l.supplied && !l.store && !l.calibrating && s.clk.grain ≤ 2048 && n != 0 && l.span % n = 0 && !on.isEmpty
      && !(s.pr k).taps.any (fun t => due ≤ t.2) then
    let s1 := s.passGrain 2048
    done (s1.setPr k { s1.pr k with taps := ((on.getD (l.span / n % on.length) 0, due) :: (s1.pr k).taps).take 8, tapOn := true })
  else done s

/-- The shift of local cell `c` over the test that began at `t0` (R100): the mean of the last whole block inside the 1 ms, less that of the
block before the test, 1/16 µV. A cell that nothing measures shows none (R545). -/
def tapShift (s : State) (k c t0 : Nat) : Int :=
  let fin := (t0 * (s.tl k).period + 400000 * 4096) / (s.tl k).period / 16 * 16
  match cellSource s k c (t0 / 4096) fin with
  | .substitute => 0
  | src => (blockMean s k (src.conv c) (fin - 16) fin).1 - (blockMean s k (src.conv c) (t0 - 16) t0).1

/-- The tap that a test of cell `c` with the shifts `sh` finds open (R101): its number, 127 for undetermined. -/
def openTap (s : State) (k c : Nat) (th : Int) (sh : Nat → Int) : Nat :=
  let on := enabledCells s k
  let rose (i : Nat) : Bool := i < 18 && localOn s k i && decide (th ≤ sh i)
  if rose (c + 1) then 18 * k + c + 1
  else if 0 < c && rose (c - 1) then 18 * k + c
  else if on.head? = some c then 18 * k + c
  else if on.getLast? = some c then 18 * k + c + 1
  else 127

/-- TAP_TEST_END (R100, R101): 1 ms after its start the test ends and is judged; the readings up to then arrive. -/
def execTapTestEnd (k : Nat) (waves : List Wave) (s : State) : Out :=
  match (s.pr k).taps.head?, (s.pr k).tapOn with
  | some (c, t0), true =>
    let s0 := s.passGrain (t0 % 4096 + quarterMs s k 4)
    if s0.tierAt k < t0 + quarterMs s k 4 then done s
    else
      let s1 := bring k (s0.tierAt k) waves s0
      let s2 := s1.setPr k { s1.pr k with tapOn := false }
      let th : Int := 16 * (s.get (Reg.TAP_TH k) * 4000)
      let sh (i : Nat) : Int := tapShift s2 k i t0
      done (if sh c ≤ -th then convEvent k c 1 (openTap s2 k c th sh) (Config.roundQ (sh c) 16) s2 else s2)
  | _, _ => done s

/-! ### The notch (R77, R83) -/

/-- NOTCH_FILLED (R83): the line holds its length of history again. -/
def execNotchFilled (k : Nat) (s : State) : Out :=
  let due := (s.pr k).notchFrom + (notchLen16 s k + 15) / 16
  if 5 < k || !s.flag (Reg.NOTCH_FILLING k) then done s
  else
    let s0 := if due / 4096 = (s.tl k).span then s.passGrain (due % 4096) else s
    if due ≤ s0.tierAt k then done (s0.put (Reg.NOTCH_FILLING k) 0) else done s

/-! ### Draw matching (R112, R113) -/

/-- Tier `k` shows the mean of its supply draw over 64 spans (R112). -/
def showSupply (ua k : Nat) (s : State) : State :=
  let l := s.tl k
  if l.supplied && (s.pr k).drawAt + 64 ≤ l.span then
    (s.put (Reg.SUPPLY_UA k) (min 65535 ua)).setPr k { s.pr k with drawAt := l.span }
  else s

/-- The base die equalises the tiers whose link is up (R112). A tier whose `BALLAST_EN` is 0 has no ballast. DESIGN CHOICE (log entry 97). -/
def matchTiers (s : State) : State :=
  let ks := (List.range 6).filter s.linkUp
  let on := ks.filter (fun k => s.flag (Reg.BALLAST_EN k))
  let target := (on.map (fun k => s.get (Reg.SUPPLY_UA k))).foldl max 0 + 10
  s.each ks (fun k t =>
    if t.flag (Reg.BALLAST_EN k) then
      let want := target - t.get (Reg.SUPPLY_UA k)
      (t.put (Reg.BALLAST_UA k) (min want 1000)).putFlag (Reg.BALLAST_SAT k) (decide (1000 < want))
    else (t.put (Reg.BALLAST_UA k) 0).put (Reg.BALLAST_SAT k) 0)

/-- DRAW_MATCH (R112, R113): the supply draws of the six tiers, µA; every tier averages its own over 64 spans, and every 64 spans the base
die matches them. -/
def execDrawMatch (ua : List Nat) (s : State) : Out :=
  let s1 := s.each (List.range 6) (fun k t => showSupply (ua.getD k 0) k t)
  if s1.ready && s1.pwr.drawAt + 64 ≤ s1.clk.span then
    done (matchTiers { s1 with pwr := { s1.pwr with drawAt := s1.clk.span } })
  else done s1

/-! ### Commits (R80, R110) -/

/-- `SPARE_FORCE` at a commit (R110): both bits act once. -/
def spareForce (k : Nat) (s : State) : State :=
  let c := s.get (Reg.FORCE_CELL k)
  let s1 :=
    if s.flag (Reg.FORCE_EN k) && (servedBy s k c).isNone && (promisedTo s k c).isNone then
      match spareToHad s k with
      | some i => takeSpare k i c (dropDwell k c s)
      | none => s
    else if s.flag (Reg.RELEASE k) then
      match servedBy s k c with
      | some i => orderMove k i none 0 s
      | none => s
    else s
  (s1.put (Reg.FORCE_EN k) 0).put (Reg.RELEASE k) 0

/-- Converter `c` of a cell without a spare measures it again from the present span on (R110). -/
def returnCell (k c : Nat) (s : State) : State := cellUp k c none (s.tl k).span (restartCell k c (s.tl k).span s)

/-- Converters of tier `k` return to service at the commit that applies TEST CONV_CLEAR (R110, R489). -/
def convClear (k mask : Nat) (s : State) : State :=
  let old := s.get (Reg.FAULTED k)
  let s1 := s.put (Reg.FAULTED k) ((List.range 20).foldl (fun m i => if bit mask i then setBit m i false else m) old)
  let cells := (List.range 18).filter (fun c => bit mask c && bit old c && (servedBy s k c).isNone)
  let q := s1.pr k
  let s2 := s1.setPr k { q with
    exhausted := (List.range 18).foldl (fun m c => if bit mask c then setBit m c false else m) q.exhausted,
    moves := q.moves.filter (fun m => match m.cell with
      | some c => !(m.use == 2 && bit mask c && bit old c)
      | none => true) }
  let s3 := s2.each cells (fun c t => returnCell k c t)
  s3.each [18, 19] (fun i t => if bit mask i && t.get (spareUse k i) = 3 then t.put (spareUse k i) 0 else t)

/-- A cell newly enabled (R80): its whole path restarts. -/
def enableCell (k c : Nat) (s : State) : State :=
  let f := (s.tl k).span
  let s1 := restartCell k c f s
  s1.setPr k { s1.pr k with cellPost := kvSet (fun _ => 0) (s1.pr k).cellPost c (f * 4096) }

/-- The restarts of R80 that a commit brings to tier `k`: which groups of fields changed, and the cells newly enabled. -/
def primCommit (k : Nat) (sinc notch post : Bool) (newCells : List Nat) (s : State) : State :=
  let s1 := applyEffN k s
  let s2 := if notch then updateNotch k s1 else s1
  let s3 := if sinc || notch || post then restartPrim k (s2.tierAt k) (sinc || notch) notch (notch || post) s2 else s2
  s3.each newCells (fun c t => enableCell k c t)

end Sys2Proof.Machine
end

