-- ==== Sys2Proof/Machine/Secondary.lean ====
section
/-!
DEFINITION. The secondary path of a tier (R115 to R142): the sequencer's time, its entries and urgent requests, placement and comparison of
its results with the primary path, runs and discrepancies, the high-water record, overruns, the reference vote and the oscillator check.
What a finished result does stands in Machine/Sequencer.lean.
-/

namespace Sys2Proof.Machine

/-! ### Channels and entries (R116, R119) -/

/-- A channel that the sequence table of tier `k` may name, the delay-only channel 0x7F included (R116, R122). -/
def chanOk (k ch : Nat) : Bool :=
  ch < 0x12 || (0x20 ≤ ch && ch < 0x24) || (k == 0 && (ch == 0x28 || ch == 0x29)) || (0x30 ≤ ch && ch < 0x33)
    || ch == 0x38 || (0x3C ≤ ch && ch < 0x40) || ch == 0x7F

/-- The pedestal P of a channel (R116). -/
def pedestal (ch : Nat) : Int := if ch < 0x12 || ch = 0x29 || ch = 0x38 then 8192 else 0

/-- The table of tier `k` has something to run (R119): enabled, and not all entries are 0x7F without delay. -/
def tableRuns (s : State) (k : Nat) : Bool :=
  s.flag (Reg.SEQ_EN k) &&
    (List.range (s.get (Reg.SEQ_LAST k) + 1)).any (fun e => s.get (Reg.CH k e) != 0x7F || s.get (Reg.DELAY k e) != 0)

/-! ### The sequencer's time (R120, R136) -/

/-- `n` units of 1/period of a grain after an instant. -/
def addT (period : Nat) (t : SubTime) (n : Nat) : SubTime := (t.1 + (t.2 + n) / period, (t.2 + n) % period)

/-- The later of two instants. -/
def laterT (a b : SubTime) : SubTime := if a.1 < b.1 || (a.1 = b.1 && a.2 < b.2) then b else a

/-- 2 µs of settling, 125 ns of a sample, and a cycle of Tk.HK (R115, R120). -/
def settleT : Nat := 3276800

def sampleT : Nat := 204800

def hkT : Nat := 102400

/-- Span numbers that a STORE interval takes (R51). -/
def storeSpans (s : State) : Nat :=
  let f := if s.get Reg.FREE_RATE = 0 then 800 else s.get Reg.FREE_RATE
  (s.get Reg.STORE_INT * f + 8) / 16

/-- Grain 0 of the internal span of the STORE record in progress or next (R136). -/
def storeStart (s : State) (k : Nat) : Nat := ((s.tl k).span + storeSpans s) * 4096

/-- The present instant of the sequencer: in STORE its time is that of the records. DESIGN CHOICE (log entry 35). -/
def seqNow (s : State) (k : Nat) : SubTime := (if (s.tl k).store then storeStart s k else s.tierAt k, 0)

/-- The grains pass up to grain `g` of tier `k`'s count: none where it lies beyond the span in progress, in STORE that of the record. DEDUCED (log entry 4). -/
def seqPass (k g : Nat) (s : State) : Option State :=
  if (s.tl k).store then (if g < storeStart s k + 4096 then some s else none)
  else if g ≤ s.tierAt k then some s
  else if g / 4096 = (s.tl k).span then some (s.passGrain (g % 4096))
  else none

/-- Show the sequencer in `SEQ_STATUS`. -/
def seqShow (k : Nat) (s : State) : State :=
  let q := s.sq k
  (((s.put (Reg.SEQ_NOW k) q.next).putFlag (Reg.URG_ACTIVE k) q.serving.isSome).put (Reg.HOST_Q k) q.hostQ.length).put
    (Reg.RECHK_Q k) q.recheck.length

/-- Store the sequencer's state and show it. -/
def setSeq (k : Nat) (q : TierSec) (s : State) : State := seqShow k (s.setSq k q)

/-! ### Overruns (R124) -/

/-- The sequencer overrun event: once per span for each cause. -/
def overrunEvent (k cause entry n : Nat) (s : State) : State :=
  let l := s.tl k
  if bit l.overrun cause then s
  else raiseTier k (tierSrc k 6) (cause + 16 * entry + 65536 * min 65535 n) (s.setTl k { l with overrun := setBit l.overrun cause true })

/-- The grains from one instant to another. -/
def grainsFrom (period : Nat) (a b : SubTime) : Nat := (b.1 * period + b.2 - (a.1 * period + a.2)) / period

/-- CYCLE_LONG (R124): at the instant `now` the cycle in progress has lasted more than `CYCLE_LIMIT` spans: once in a cycle, with the entry
that runs as the limit passes. -/
def checkCycle (k : Nat) (now : SubTime) (s : State) : State :=
  let q := s.sq k
  match q.cycleFrom with
  | none => s
  | some t =>
    let lim := s.get (Reg.CYCLE_LIMIT k)
    let p := (s.tl k).period
    if tableRuns s k && !(s.tl k).store && !q.longRaised && lim != 0 && t.1 * p + t.2 + lim * 4096 * p < now.1 * p + now.2 then
      overrunEvent k 2 q.next (grainsFrom p t now / 4096) ((s.setSq k { q with longRaised := true }).bump (Reg.OVERRUN_COUNT k))
    else s

/-- Go on to the next entry, which begins at the instant `fin`; after the last one a cycle is complete (R119, R124). In STORE the
sequencer is then idle until the next record (R136). -/
def seqAdvance (k : Nat) (fin : SubTime) (s : State) : State :=
  let s0 := checkCycle k fin s
  let q := s0.sq k
  let q1 := { q with run := none, preempted := false, endAt := fin }
  if q.next < s0.get (Reg.SEQ_LAST k) then setSeq k { q1 with next := q.next + 1 } s0
  else
    let s1 := match q.cycleFrom with
      | some t => s0.put (Reg.CYCLE_GRAINS k) (min 65535 (grainsFrom (s0.tl k).period t fin))
      | none => s0
    setSeq k { q1 with next := 0, cycleFrom := some fin, longRaised := false, storeIdle := (s0.tl k).store } s1

/-- The sequencer starts at entry 0 (R122): an entry in progress is abandoned, an urgent conversion goes on. Entries above
`SEQ_LAST` leave their words at 0 (R121). -/
def seqRestart (k : Nat) (s : State) : State :=
  let q := s.sq k
  let now := seqNow s k
  setSeq k { q with next := 0, run := none, preempted := false, endAt := now, cycleFrom := some now, longRaised := false, storeIdle := false,
                    words := kvDrop (fun e => s.get (Reg.SEQ_LAST k) < e) q.words } s

/-! ### Conversions (R120, R125, R126) -/

/-- B: the smallest power of two from 1 to 256 for which `r` samples of 125 ns take no more than 16B grains. -/
def blockCount (period r : Nat) : Nat :=
  ([1, 2, 4, 8, 16, 32, 64, 128].find? (fun b => r * 12800 ≤ b * period)).getD 256

/-- The instant of sample `j` of a stretch, in the period it was placed with: samples keep their grain positions through a step (R120). A
spread sample takes the last cycle of Tk.HK that is not late, of cycles counted from the first grain of its blocks. DESIGN CHOICE (log entry 35). -/
def sampleAt (g : Stretch) (j : Nat) : SubTime := addT g.period g.at_ (g.num * j / g.den / hkT * hkT)

/-- `r` samples back to back from an instant on. -/
def burstFrom (period : Nat) (t : SubTime) (r : Nat) : Stretch := ⟨t, sampleT, 1, r, period⟩

/-- The samples of a conversion whose channel has settled at `t` (R120): a burst at once, or spread over a set of B aligned blocks. -/
def stretchFrom (period : Nat) (spread : Bool) (r : Nat) (t : SubTime) : Stretch :=
  let w := 16 * blockCount period r
  if spread then ⟨(ceilDiv (if t.2 = 0 then t.1 else t.1 + 1) w * w, 0), w * period, r, r, period⟩ else burstFrom period t r

/-- Switch to a channel at the instant `t`, settle and sample. -/
def convert (period ch r : Nat) (spread recheck : Bool) (t : SubTime) : Conv :=
  ⟨ch, r, spread, recheck, [stretchFrom period spread r (addT period t settleT)]⟩

/-- The samples that a conversion has placed. -/
def Conv.placed (v : Conv) : Nat := (v.parts.map (fun g => g.count)).foldl (· + ·) 0

/-- The grain of its first sample. -/
def Conv.first (v : Conv) : Nat := match v.parts.find? (fun g => g.count != 0) with
  | some g => g.at_.1
  | none => 0

/-- The instant of its last sample. -/
def Conv.lastT (period : Nat) (v : Conv) : SubTime := match (v.parts.filter (fun g => g.count != 0)).getLast? with
  | some g => retime g.period period (sampleAt g (g.count - 1))
  | none => (0, 0)

/-- The instant at which its last sample has ended. -/
def Conv.endT (period : Nat) (v : Conv) : SubTime := addT period (v.lastT period) sampleT

/-- The grains of its samples. -/
def Conv.grains (v : Conv) : List Nat := v.parts.flatMap (fun g => (List.range g.count).map (fun j => (sampleAt g j).1))

/-- A conversion pre-empted at `now` (R126): the samples that have begun are kept. -/
def Conv.cut (period : Nat) (v : Conv) (now : SubTime) : Conv :=
  { v with parts := v.parts.map (fun g =>
      { g with count := ((List.range g.count).filter (fun j => laterT (retime g.period period (sampleAt g j)) now = now)).length }) }

/-- The rest of a pre-empted conversion follows as a burst after settling (R126). -/
def Conv.resume (period : Nat) (v : Conv) (t : SubTime) : Conv :=
  { v with parts := v.parts ++ [burstFrom period (addT period t settleT) (v.reps - v.placed)] }

/-- The table of tier `k` is at an entry that an urgent request can make it leave (R119, R126): in STORE only until its cycle is complete,
and none while the tier calibrates. -/
def atEntry (s : State) (k : Nat) : Bool := tableRuns s k && !(s.tl k).calibrating && !((s.tl k).store && (s.sq k).storeIdle)

/-- SEQ_ENTRY_START (R119, R120): the delay is over, the multiplexer switches, and the channel settles. Channel 0x7F takes its delay only.
DEDUCED (log entry 35). -/
def execSeqEntryStart (k : Nat) (s : State) : Out :=
  let q := s.sq k
  let p := (s.tl k).period
  let e := q.next
  if 5 < k || !(s.tl k).supplied || q.run.isSome || q.serving.isSome || !atEntry s k then done s
  else
    let due := laterT (q.endAt.1 + s.get (Reg.DELAY k e), q.endAt.2) q.freeAt
    match seqPass k due.1 s with
    | none => done s
    | some s0 =>
      let t := laterT due (seqNow s0 k)
      let q1 := { q with cycleFrom := q.cycleFrom.orElse (fun _ => some (laterT q.endAt (seqNow s k))) }
      if s.get (Reg.CH k e) = 0x7F then done (seqAdvance k t (s0.setSq k q1))
      else done (setSeq k { q1 with run := some (convert p (s.get (Reg.CH k e)) (s.get (Reg.REP_M1 k e) + 1) (s.flag (Reg.PLACE k e)) false t) } s0)

/-- The next urgent request leaves its queue at the instant `t`, to be served: rechecks in local cell order, always spread, then host
requests in order, always as bursts (R125). With none left, an entry that was cut goes on (R126). -/
def nextUrgent (period : Nat) (t : SubTime) (q : TierSec) : TierSec :=
  match q.recheck with
  | c :: cs => { q with serving := some (convert period c 16 true true t), recheck := cs }
  | [] =>
    match q.hostQ with
    | (ch, n) :: hs => { q with serving := some (convert period ch n false false t), hostQ := hs }
    | [] => { q with serving := none, run := q.run.map (fun v => v.resume period t) }

/-- URGENT_REQUEST_START (R126): the entry in progress is pre-empted after its sample, or in its delay. An entry whose last sample has begun
completes first. DEDUCED (log entry 35). -/
def execUrgentRequestStart (k : Nat) (s : State) : Out :=
  let q := s.sq k
  let p := (s.tl k).period
  let now := seqNow s k
  if 5 < k || !(s.tl k).supplied || q.serving.isSome || (q.recheck.isEmpty && q.hostQ.isEmpty) then done s
  else
    match q.run with
    | none =>
      let s1 := if atEntry s k then s.bump (Reg.PREEMPT_COUNT k) else s
      done (setSeq k (nextUrgent p (laterT now q.freeAt) q) s1)
    | some v =>
      let c := v.cut p now
      if c.placed = v.placed then done s
      else
        let t := if c.placed = 0 then now else laterT now (c.endT p)
        done (setSeq k (nextUrgent p t { q with preempted := true, run := some c }) (s.bump (Reg.PREEMPT_COUNT k)))

/-! ### Placement (R128) -/

/-- The aligned set of blocks that contains the first sample: first grain and end, as span · 4096 + grain. -/
def blockSet (period r t0 : Nat) : Nat × Nat :=
  let w := 16 * blockCount period r
  (t0 / w * w, t0 / w * w + w)

/-- The samples of a result lie in one aligned block set (R128). -/
def placed (period r t0 t1 : Nat) : Bool := t1 < (blockSet period r t0).2

/-- The block means of the cell over `[a, b)` in span `p` come from a spare that the crossbar moves in those blocks (R103, R128). -/
def movedIn (s : State) (k c p b : Nat) : Bool :=
  b = (p + 1) * 4096 &&
    match cellSource s k c p b with
    | .spare i => (s.pr k).moves.any (fun m => m.spare == i && m.span ≤ p) || (s.serve k c).from_ == some (p + 1)
    | _ => false

/-- The first grain of the windows of tier `k`'s primary results that overlap grains from `a` on (R75, R128). -/
def windowsFrom (s : State) (k a : Nat) : Nat :=
  let len := 4096 / nOfCode (s.get (Reg.EFF_SUBWIN k))
  min (a / 4096 * 4096) ((a / len + 1) * len - (s.get (Reg.SINC_ORDER k) + 1) * len)

/-- A primary result of local cell `c` whose window overlaps grains `a` to `b` carries `OR`, `DS` or `EST`, as far as the grains up to `b`
show it, or a frequency step or a crossbar move falls in them (R128). DEDUCED (log entry 34). -/
def primaryMarred (s : State) (k c a b : Nat) : Bool :=
  let q := s.pr k
  let start := windowsFrom s k a
  let own := kvGet (fun _ => 0) q.cellFrom c
  let src := cellSource s k c (a / 4096) b
  q.recal || q.stepG != 0 || (start < own && own < b) || src == .substitute || movedIn s k c (a / 4096) b
    || overRanged s k (src.conv c) (max start own) b || disturbed s k c start b

/-! ### Runs and discrepancies (R130, R131) -/

/-- What a compared result does to a run: the new state; the run that ended without having set the discrepancy (E, count); and
the setting or clearing (true for set, count, E). `span` is the length of `D_DISC` spans in units of `t`. -/
def discStep (span t : Nat) (x : Bool) (r : DiscRun) : DiscRun × Option (Nat × Nat) × Option (Bool × Nat × Nat) :=
  let gap : Bool := match r.lastT with
    | some u => decide (span < t - u)
    | none => false
  let missed (q : DiscRun) : Option (Nat × Nat) :=
    if 0 < q.count && !q.active && !q.fromActive then some (q.last - q.first, q.count) else none
  let e1 := if gap then missed r else none
  let r1 := if gap then { r with count := 0, sCount := 0 } else r
  let r2 := { r1 with lastT := some t, cmpd := true, lastX := x }
  if x then
    let r3 := if r2.count = 0 then { r2 with count := 1, first := t, last := t, fromActive := r2.active, sCount := 0 }
      else { r2 with count := r2.count + 1, last := t, sCount := 0 }
    if !r3.active && span ≤ t - r3.first then
      ({ r3 with active := true, fromActive := true }, e1, some (true, r3.count, t - r3.first))
    else (r3, e1, none)
  else
    let e2 := e1.orElse (fun _ => missed r2)
    let r3 := { r2 with count := 0 }
    if r3.active then
      let r4 := if r3.sCount = 0 then { r3 with sCount := 1, sFirst := t } else { r3 with sCount := r3.sCount + 1 }
      if span ≤ t - r4.sFirst then ({ r4 with active := false, sCount := 0 }, e2, some (false, r4.sCount, t - r4.sFirst))
      else (r4, e2, none)
    else (r3, e2, none)

def State.run (s : State) (k c : Nat) : DiscRun := kvGet (fun _ => DiscRun.reset) (s.sq k).runs c

def State.setRun (s : State) (k c : Nat) (r : DiscRun) : State :=
  let q := s.sq k
  s.setSq k { q with runs := kvSet (fun _ => DiscRun.reset) q.runs c r }

/-- Show the run of a local cell in `DISC_STATE`. -/
def discShow (k c : Nat) (s : State) : State :=
  let r := s.run k c
  let on := 0 < r.count
  (((s.putFlag (Reg.DISC_ACTIVE k c) r.active).putFlag (Reg.RUN k c) on).put (Reg.RUN_COUNT k c) (min 255 r.count)).put
    (Reg.RUN_GRAINS k c) (if on then min (2 ^ 22 - 1) (r.last - r.first) else 0)

/-- The high-water record (R133). -/
def discHw (k c span : Nat) (e : Option (Nat × Nat)) (s : State) : State :=
  match e with
  | none => s
  | some (len, n) =>
    if s.get (Reg.HW_GRAINS k c) < min (2 ^ 22 - 1) len then
      ((s.put (Reg.HW_GRAINS k c) (min (2 ^ 22 - 1) len)).put (Reg.HW_COUNT k c) (min 255 n)).put (Reg.HW_SPAN k c) span
    else s

/-- The instant in which runs are counted: grains, and in STORE records, which count 4,096 each from its entry on (R136). -/
def discTime (s : State) (k t0 : Nat) : Nat := if (s.tl k).store then (s.sq k).storeT else t0

/-- A finished secondary result as its comparison takes it: the mean in 1/256 LSB (R117), a sample at either end of the range, a sample
in a `DS` interval, the grains of the first and the last sample, and r. -/
structure SecRes where
  mean : Int
  sor  : Bool
  ds   : Bool
  t0   : Nat
  t1   : Nat
  reps : Nat
  fin  : Nat                        -- grain in which the last sample completes
deriving DecidableEq, Repr

/-- Compare a result of local cell `c` (R128 to R133): the state, and whether it was compared and exceeded. -/
def compareCell (k c : Nat) (r : SecRes) (s : State) : State × Bool × Bool :=
  let period := (s.tl k).period
  let (a, b) := blockSet period r.reps r.t0
  let pri := blockMean s k ((cellSource s k c (a / 4096) b).conv c) a b
  if !localOn s k c || !placed period r.reps r.t0 r.t1 || r.sor || r.ds || pri.2 = 0 || primaryMarred s k c a b then (s, false, false)
  else
    let d : Int := (r.mean + 256 * 8192) * 400 * (pri.2 : Int) - 256 * pri.1
    let x := decide ((s.get (Reg.TH_DISC k) * 100 * 256 * pri.2 : Nat) < d.natAbs)
    let (run, ended, fired) := discStep ((s.get (Reg.D_DISC k) + 1) * 4096) (discTime s k r.t0) x (s.run k c)
    let s1 := discShow k c (discHw k c (r.t0 / 4096) ended (s.setRun k c run))
    match fired with
    | none => (s1, true, x)
    | some (set, n, e) =>
      let dv := unsigned 16 (clampI (-32767) 32767 (Config.roundQ d (25600 * pri.2)))
      let v := dv + 2 ^ 16 * b01 set + 2 ^ 17 * min 127 n + 2 ^ 24 * min 255 (e / 4096)
      (raiseTierOn k (4 * (18 * k + c) + 2) v (b / 4096) (b % 4096) s1, true, x)

/-- The discrepancy byte of a local cell in the span record (R132), and the marks of the span it closes. -/
def discByte (s : State) (k c : Nat) : Nat :=
  let r := s.run k c
  b01 r.active + 2 * b01 (decide (0 < r.count)) + 4 * b01 r.cmpd + 8 * b01 (r.cmpd && r.lastX) + 16 * min 15 r.count

/-- Rechecks at a span mark (R134): every enabled cell with a run and no compared result in the span just ended. -/
def recheckAtMark (k : Nat) (s : State) : State :=
  if s.flag (Reg.RECHECK_EN k) && !(s.tl k).store then
    let q := s.sq k
    let due := (List.range 18).filter (fun c =>
      q.recheck.contains c || (localOn s k c && decide (0 < (s.run k c).count) && !(s.run k c).cmpd))
    setSeq k { q with recheck := due } s
  else s

/-- The marks of the closed span leave the runs. -/
def clearCompared (k : Nat) (s : State) : State :=
  let q := s.sq k
  s.setSq k { q with runs := q.runs.map (fun e => (e.1, { e.2 with cmpd := false })) }

/-- A commit changed `TH_DISC` or `D_DISC` (R135): every run ends unrecorded. -/
def endRuns (k : Nat) (s : State) : State :=
  s.each (List.range 18) (fun c t => discShow k c (t.setRun k c { t.run k c with count := 0 }))

/-! ### The link (R121, R124) -/

/-- An item that holds a secondary result. -/
def isSecItem (u : UpItem) : Bool :=
  !u.isRec && u.temps.isEmpty && u.words.all (fun w => match w.1 with
    | .half _ => true
    | _ => false)

/-- A secondary result goes to the link (R124): the FIFO holds 256 records. LINK_FULL is raised at the first
record that a span drops, and an urgent result names the entry left or next. DESIGN CHOICE (log entry 34). -/
def sendSec (k entry : Nat) (u : UpItem) (s : State) : State :=
  let l := s.tl k
  if !s.linkUp k || !s.baseUp then s
  else if (l.up.filter isSecItem).length < 256 then s.setTl k { l with up := l.up ++ [u] }
  else
    let s1 := (s.setTl k { l with dropped := l.dropped + 1 }).bump (Reg.OVERRUN_COUNT k)
    overrunEvent k 1 entry (l.dropped + 1) s1

/-! ### The reference vote (R137 to R139) -/

/-- The reference that is out, from the three references in 10 µV (R137). -/
def refOut (a b c : Int) (tol : Nat) : Option Nat :=
  let ok (x y : Int) : Bool := (x - y).natAbs ≤ tol
  let dist (x y z : Int) : Nat := (2 * x - (y + z)).natAbs
  match ok a b, ok a c, ok b c with
  | true, true, true => none
  | true, false, false => some 2
  | false, true, false => some 1
  | false, false, true => some 0
  | false, true, true => if dist b a c < dist a b c then some 0 else some 1
  | true, false, true => if dist c a b < dist a b c then some 0 else some 2
  | true, true, false => if dist c a b < dist b a c then some 1 else some 2
  | false, false, false => none

/-- No two references agree. -/
def noPair (a b c : Int) (tol : Nat) : Bool :=
  decide (tol < (a - b).natAbs) && decide (tol < (a - c).natAbs) && decide (tol < (b - c).natAbs)

/-- The reference disagreement event (R139), at grain 0 of the span that begins. -/
def refEvent (k cause ref : Nat) (diff : Int) (s : State) : State :=
  raiseTierOn k (tierSrc k 0) (cause + 16 * ref + 65536 * unsigned 16 (clampI (-32768) 32767 diff)) (s.tl k).span 0 s

/-- The vote takes a new state (R138): the selection changes at grain 0 of the next span. In NO_MAJORITY that in force stays, and with it
the outvoted reference. -/
def setVote (k vote out : Nat) (s : State) : State :=
  let at_ := (s.tl k).span + 1
  let q := s.sq k
  let s1 := s.put (Reg.VOTE k) vote
  if vote = 2 then s1
  else
    (s1.put (Reg.REF_OUT k) out).setSq k { q with refSel := refsInUse s k (at_ - 1), refNext := setBit 7 out false, refAt := at_ }

/-- The three references as the vote sees them, scaled at the T_die in force (R291). -/
def scaledRefs (k : Nat) (x : TierCheck) (s : State) : TierCheck :=
  let t := epsTemp (s.tt k).comp
  { x with refA := refScaled k 0 t x.refA, refB := refScaled k 1 t x.refB, refC := refScaled k 2 t x.refC }

/-- The median of the three references (R137); of equal ones the first. DESIGN CHOICE (log entry 102). -/
def middleRef (a b c : Int) : Nat :=
  let mid (x y z : Int) : Bool := (y ≤ x && x ≤ z) || (z ≤ x && x ≤ y)
  if mid a b c then 0 else if mid b a c then 1 else 2

/-- The vote takes a span (R138), with the references as scaled. -/
def voteSpan (k : Nat) (x : TierCheck) (s : State) : State :=
  let tol := s.get (Reg.REF_TOL k)
  let q := s.sq k
  let out := refOut x.refA x.refB x.refC tol
  let none2 := noPair x.refA x.refB x.refC tol
  let ref (i : Nat) : Int := if i = 0 then x.refA else if i = 1 then x.refB else x.refC
  let diff (i : Nat) : Int := Config.roundQ (2 * ref i - (ref ((i + 1) % 3) + ref ((i + 2) % 3))) 2
  let cnt := (List.range 3).map (fun i => if out = some i then q.outCnt.getD i 0 + 1 else 0)
  let o := s.get (Reg.REF_OUT k)
  let agrees := decide ((ref o - ref ((o + 1) % 3)).natAbs ≤ tol) && decide ((ref o - ref ((o + 2) % 3)).natAbs ≤ tol)
  let agree := if s.get (Reg.VOTE k) = 1 && agrees then q.agreeCnt + 1 else 0
  let noMaj := if none2 then q.noMaj + 1 else 0
  let maj := if none2 then 0 else q.maj + 1
  let s1 := (s.setSq k { q with outCnt := cnt, agreeCnt := agree, noMaj := noMaj, maj := maj, refMid := middleRef x.refA x.refB x.refC }).put (Reg.REF_OUT_SPANS k)
    (if out.isSome then satAdd 8 (s.get (Reg.REF_OUT_SPANS k)) 1 else 0)
  let anew (t : State) : State := t.setSq k { t.sq k with agreeCnt := 0 }
  let need := s.get (Reg.REF_PERSIST k) + 1
  let readmit := s.get (Reg.REF_READMIT k)
  let fresh := (List.range 3).find? (fun i => need ≤ cnt.getD i 0 && (s.get (Reg.VOTE k) = 0 || i != o))
  if s.get (Reg.VOTE k) != 2 && need ≤ noMaj then refEvent k 3 3 0 (setVote k 2 3 s1)
  else
    match s.get (Reg.VOTE k) with
    | 0 =>
      match fresh with
      | some r => refEvent k 1 r (diff r) (anew (setVote k 1 r s1))
      | none => s1
    | 1 =>
      if readmit ≤ agree then refEvent k 2 o (diff o) (setVote k 0 3 s1)
      else
        match fresh with
        | some r => refEvent k 2 o (diff o) (refEvent k 1 r (diff r) (anew (setVote k 1 r s1)))
        | none => s1
    | _ =>
      if readmit ≤ maj then
        refEvent k 4 3 0 (match out with
          | none => setVote k 0 3 s1
          | some r => anew (setVote k 1 r s1))
      else s1

/-! ### The oscillator check (R140, R141) -/

/-- The oscillator event, with the deviation in ppm. -/
def oscEvent (k cause : Nat) (ppm : Int) (s : State) : State :=
  raiseTierOn k (tierSrc k 1) (cause + 16 * s.get (Reg.OSC_ACTIVE k) + 65536 * unsigned 16 (clampI (-32768) 32767 ppm))
    (s.tl k).span 0 s

/-- A note of UNDECIDED or BOTH_BAD is due: at most once in every 64 spans while its condition lasts (R141). -/
def noteDue (at_ : Option Nat) (now : Nat) : Bool :=
  match at_ with
  | some n => decide (n + 64 ≤ now)
  | none => true

/-- The deviation of oscillator `i` of tier `k` from its expected count in a span of `period`, as a quotient of ppm (R140, R291). -/
def oscDev (k i period : Nat) (x : TierCheck) (s : State) : Int × Nat :=
  oscDeviation k (3 + i) (epsTemp (s.tt k).comp) period (if i = 0 then x.cyc0 else x.cyc1)

/-- The oscillator check without marks (R140): the two are compared only with each other. The deviation that an UNDECIDED event carries is
open. -/
def oscAlone (k period : Nat) (x : TierCheck) (s : State) : State :=
  let q := { s.sq k with oscBad := 0, bothAt := none }
  let now := (s.tl k).span
  let d0 := oscDev k 0 period x s
  let d1 := oscDev k 1 period x s
  if s.get (Reg.OSC_TOL k) * 200 * (d0.2 * d1.2) < (d0.1 * d1.2 - d1.1 * d0.2).natAbs then
    if noteDue q.undecAt now then
      let (v, s1) := (s.setSq k { q with undecAt := some now }).draw
      oscEvent k 4 (signed 16 v) s1
    else s.setSq k q
  else s.setSq k { q with undecAt := none }

/-- The oscillator check takes a span of `period` (R140): marks arrive while the tier's own state is ACQUIRING or LOCKED. BOTH_BAD carries the
deviation of the active oscillator. DESIGN CHOICE (log entry 36). -/
def oscSpan (k period : Nat) (x : TierCheck) (s : State) : State :=
  let tol := s.get (Reg.OSC_TOL k) * 100
  let a := s.get (Reg.OSC_ACTIVE k)
  let d (i : Nat) : Int × Nat := oscDev k i period x s
  let off (i : Nat) : Bool := decide (tol * (d i).2 < (d i).1.natAbs)
  let dev (i : Nat) : Int := Config.roundQ (d i).1 (d i).2
  let now := (s.tl k).span
  if (s.tl k).tstate = 0 || (s.tl k).tstate = 3 then oscAlone k period x s
  else
    let q := { s.sq k with undecAt := none }
    let good := { q with oscBad := 0, bothAt := none }
    match off a, off (1 - a) with
    | true, true =>
      if noteDue q.bothAt now then oscEvent k 5 (dev a) (s.setSq k { q with oscBad := 0, bothAt := some now }) else s.setSq k { q with oscBad := 0 }
    | true, false =>
      if s.flag (Reg.OSC_SPARE_FAILED k) then s.setSq k good
      else if 1 ≤ q.oscBad then oscEvent k 2 (dev a) ((s.setSq k good).put (Reg.OSC_ACTIVE k) (1 - a))
      else s.setSq k { good with oscBad := q.oscBad + 1 }
    | false, true =>
      let s1 := s.setSq k good
      if s.flag (Reg.OSC_SPARE_FAILED k) then s1 else oscEvent k 3 (dev (1 - a)) (s1.put (Reg.OSC_SPARE_FAILED k) 1)
    | false, false => s.setSq k good

/-- OSC_STOP (R140): the tier switches to the spare, unless the spare is marked failed. DEDUCED (log entry 36). -/
def execOscStop (k : Nat) (s : State) : Out :=
  if 5 < k || !(s.tl k).supplied || s.flag (Reg.OSC_SPARE_FAILED k) then done s
  else
    let s1 := (s.put (Reg.OSC_ACTIVE k) (1 - s.get (Reg.OSC_ACTIVE k))).setSq k { s.sq k with oscBad := 0, cyc := 0 }
    done (raiseTier k (tierSrc k 1) (1 + 16 * s1.get (Reg.OSC_ACTIVE k)) s1)

/-! ### Writes (R127, R133) -/

/-- Queue a host urgent request (R127): the status and the state. With `URG_GO` = 0 nothing is tested. DESIGN CHOICE (log entry 35). -/
def secUrgentWrite (k v : Nat) (s : State) : Nat × State :=
  let ch := bitsOf v 0 7
  let q := s.sq k
  if !bit v 31 then (St.ok, s)
  else if !chanOk k ch || ch = 0x7F then (St.badParam, s)
  else if 4 ≤ q.hostQ.length then (St.busy, s)
  else (St.ok, setSeq k { q with hostQ := q.hostQ ++ [(ch, bitsOf v 8 8 + 1)] } s)

/-- Clear the high-water fields of the named cells (R133). -/
def discHwClr (k v : Nat) (s : State) : State :=
  s.each ((List.range 18).filter (bit v)) (fun c t => (t.putW (Wd.DISC_HW k c) 0).putW (Wd.DISC_HW_SPAN k c) 0)

end Sys2Proof.Machine
end

