-- ==== Sys2Proof/Machine/Thermal.lean ====
section
/-!
DEFINITION. Temperatures that the tiers measure (R286 to R303): die sensors with their vote and the hold of the compensation,
thermistor inputs, sensor strings; the base die's own sensors and their over-temperature (R290).
-/

namespace Sys2Proof.Machine

/-- A temperature as the 16-bit code of R288, 1/64 °C. -/
def tempCode (t : Int) : Nat := unsigned 16 (clampI (-32767) 32767 t)

/-- Send a temperature of tier `k`, with the instant of its result, to the base die, in the status class of R17. -/
def sendTemp (k idx code : Nat) (fault : Bool) (at_ : Nat) (s : State) : State :=
  if s.linkUp k && s.baseUp then
    let l := s.tl k
    s.setTl k { l with up := l.up ++ [⟨at_ / 4096, [], [(idx, code, fault, at_)], false, []⟩] }
  else s

/-- The tier temperature event (R313). -/
def tempEvent (k cause idx code : Nat) (s : State) : State := raiseTier k (tierSrc k 2) (cause + 16 * idx + 65536 * code) s

/-! ### Die sensors (R289, R290) -/

/-- The latest result of a die sensor of tier `k`, 1/64 °C. -/
def dieTemp (s : State) (k i : Nat) : Option Int :=
  match kvGet (fun _ => (0x8000, 0)) (s.tt k).die i with
  | (_, 0) => none
  | (c, _) => if c = 0x8000 then none else some (signed 16 c)

/-- The median of three. -/
def median3 (a b c : Int) : Int := max (min a b) (min (max a b) c)

/-- Form T_die from the three sensors (R289): none while no usable value can be formed; true asks for `COMP_HELD`. DEDUCED (log entry 37). -/
def formTdie (d : List Int) (excl : Nat) : Option Int × Bool :=
  let near (x y : Int) : Bool := (x - y).natAbs ≤ 320
  let x := d.getD 0 0
  let y := d.getD 1 0
  let z := d.getD 2 0
  let pair (u v : Int) : Option Int × Bool := if near u v then (some (Config.roundQ (u + v) 2), false) else (none, true)
  match excl with
  | 0 => if near x y && near y z && near x z then (some (median3 x y z), false) else (none, false)
  | 1 => pair y z
  | 2 => pair x z
  | 4 => pair x y
  | _ => (none, true)

/-- Die over-temperature (R290): the hottest sensor that is not excluded. -/
def dieOt (k : Nat) (s : State) : State :=
  let live := (List.range 3).filterMap (fun i => if bit (s.get (Reg.DIE_EXCL k)) i then none else (dieTemp s k i).map (fun t => (i, t)))
  match live with
  | [] => s
  | h :: hs =>
    let hot := hs.foldl (fun (b : Nat × Int) x => if b.2 < x.2 then x else b) h
    let on : Int := s.get (Reg.DIE_OT k) * 64
    let hyst : Int := s.get (Reg.DIE_HYST k) * 64
    if s.flag (Reg.DIE_OT_ACTIVE k) then
      if hot.2 ≤ on - hyst then tempEvent k 2 hot.1 (tempCode hot.2) (s.put (Reg.DIE_OT_ACTIVE k) 0) else s
    else if on ≤ hot.2 then tempEvent k 1 hot.1 (tempCode hot.2) (s.put (Reg.DIE_OT_ACTIVE k) 1)
    else s

/-- Exclusion and readmission on a result of die sensor `i` (R289). -/
def dieVote (k i : Nat) (d : List Int) (s : State) : State :=
  let q := s.tt k
  let t := d.getD i 0
  let m := median3 (d.getD 0 0) (d.getD 1 0) (d.getD 2 0)
  let near (x y : Int) : Bool := (x - y).natAbs ≤ 320
  if bit (s.get (Reg.DIE_EXCL k)) i then
    let n := if near t (d.getD ((i + 1) % 3) 0) && near t (d.getD ((i + 2) % 3) 0) then kvGet (fun _ => 0) q.readCnt i + 1 else 0
    if 64 ≤ n then
      tempEvent k 4 i (tempCode t) ((s.setTt k { q with readCnt := kvDel i q.readCnt }).put (Reg.DIE_EXCL k)
        (setBit (s.get (Reg.DIE_EXCL k)) i false))
    else s.setTt k { q with readCnt := kvSet (fun _ => 0) q.readCnt i n }
  else
    let n := if near t m then 0 else kvGet (fun _ => 0) q.exclCnt i + 1
    if 4 ≤ n then
      tempEvent k 3 i (tempCode t) ((s.setTt k { q with exclCnt := kvDel i q.exclCnt }).put (Reg.DIE_EXCL k)
        (setBit (s.get (Reg.DIE_EXCL k)) i true))
    else s.setTt k { q with exclCnt := kvSet (fun _ => 0) q.exclCnt i n }

/-- A result of die sensor `i` of tier `k` (R116, R289, R290), first sampled at the instant `at_` (R53). An excluded sensor has a fault, which the
span record and the base die see as no value (R288). DEDUCED (log entry 37). -/
def dieResult (k i : Nat) (temp : Int) (at_ : Nat) (s : State) : State :=
  let q := s.tt k
  let s1 := s.setTt k { q with die := kvSet (fun _ => (0x8000, 0)) q.die i (tempCode temp, at_ + 1) }
  let s2 := match dieTemp s1 k 0, dieTemp s1 k 1, dieTemp s1 k 2 with
    | some a, some b, some c =>
      let d := [a, b, c]
      let t := dieVote k i d s1
      let (v, hold) := formTdie d (t.get (Reg.DIE_EXCL k))
      let t1 := match v with
        | some x => t.put (Reg.T_DIE k) (tempCode x)
        | none => t
      let was := t.flag (Reg.COMP_HELD k)
      if hold && !was then tempEvent k 5 0 (t1.get (Reg.T_DIE k)) (t1.put (Reg.COMP_HELD k) 1)
      else if was && v.isSome then tempEvent k 6 0 (t1.get (Reg.T_DIE k)) (t1.put (Reg.COMP_HELD k) 0)
      else t1
    | _, _, _ => s1
  let out := bit (s2.get (Reg.DIE_EXCL k)) i
  sendTemp k (216 + 3 * k + i) (if out then 0x8000 else tempCode temp) out at_ (dieOt k s2)

/-! ### Thermistors (R294, R295) -/

/-- The pull-up of a thermistor input in mΩ: its factory value, corrected for T_die by a law that the spec does not state (R293). DEDUCED (log
entry 38). -/
def pullUp (s : State) (k : Nat) : Nat :=
  max 1 ((s.get (Reg.TH_PU_MOHM k) : Int) + Config.realFn 293 [k, s.get (Reg.TH_PU_MOHM k), signed 16 (s.get (Reg.T_DIE k))]).toNat

/-- R_T in mΩ as numerator and denominator (R294): R_PU · r / (1 − r) with r = `mean` / 1,600,000. -/
def thermistorR (s : State) (k : Nat) (mean : Int) : Nat × Nat := (pullUp s k * mean.toNat, (1600000 - mean).toNat)

/-- 1/T in 1/K as a temperature in 1/64 °C, in units of 2⁻⁶⁴ K⁻¹ (R294). -/
def kelvinInv (x : Int) : Int := realQuot (Config.realFn 294 []) (640 * fxOne * fxOne - 174816 * fxOne * x) (10 * fxOne * x)

/-- The law BETA (R294): R25 in 0.1 Ω. -/
def thermistorBeta (r : Nat × Nat) (beta r25 : Nat) : Int := kelvinInv (20 * fxOne / 5963 + fxLn r.1 (r.2 * (100 * r25)) / max 1 beta)

/-- A binary32 word in units of 2⁻⁶⁴; one that is no number is open. -/
def fxOfF32 (w : Nat) : Int := match F32.toVal w with
  | .fin neg m e =>
    let n := F32.scaled (m * 2 ^ 64) 1 e
    if neg then -((n.1 / n.2 : Nat) : Int) else (n.1 / n.2 : Nat)
  | _ => Config.realFn 2942 [w]

/-- The law SH (R294), R_T in Ω. -/
def thermistorSh (r : Nat × Nat) (a b c : Nat) : Int :=
  let l := fxLn r.1 (r.2 * 1000)
  kelvinInv (fxOfF32 a + fxMul (fxOfF32 b) l + fxMul (fxOfF32 c) (fxMul l (fxMul l l)))

/-- The temperature of a thermistor input (R294). DEDUCED (log entry 38). -/
def thermistorTemp (s : State) (k i : Nat) (mean : Int) : Nat :=
  let coef (c : Nat) : Nat := s.get (Reg.SH_COEF k (3 * i + c))
  match s.get (Reg.TH_TYPE k i) with
  | 1 => tempCode (thermistorBeta (thermistorR s k mean) (s.get (Reg.TH_BETA k i)) (s.get (Reg.R25 k i)))
  | 2 => tempCode (thermistorSh (thermistorR s k mean) (coef 0) (coef 1) (coef 2))
  | _ => 0x8000

/-- A result of thermistor input `i` of tier `k` (R294, R295); `at_` is the grain in which its last sample completes (R53). DEDUCED (log entry 37).
DEDUCED (log entry 38). -/
def thermistorResult (k i : Nat) (mean : Int) (sor : Bool) (at_ : Nat) (s : State) : State :=
  let op := sor || decide (99 * 1600000 ≤ 100 * mean)
  let sh := !op && decide (100 * mean ≤ 1600000)
  let was := (bit (s.get (Reg.TH_OPEN k)) i, bit (s.get (Reg.TH_SHORT k)) i)
  let s1 := (s.put (Reg.TH_OPEN k) (setBit (s.get (Reg.TH_OPEN k)) i op)).put (Reg.TH_SHORT k) (setBit (s.get (Reg.TH_SHORT k)) i sh)
  let code := if op || sh then 0x8000 else thermistorTemp s k i mean
  let q := s1.tt k
  let s2 := s1.setTt k { q with th := kvSet (fun _ => (0x8000, 0)) q.th i (code, at_ + 1) }
  let s3 := if was = (op, sh) then s2 else tempEvent k (if op then 7 else if sh then 8 else 9) i 0x8000 s2
  sendTemp k (4 * k + i) code (op || sh) at_ s3

/-! ### Sensor strings (R296 to R303) -/

/-- The READ_TEMPS index of a satellite (R286). -/
def satIndex (k j p : Nat) : Nat := 24 + 32 * k + 16 * j + p

/-- The positions of a mask. -/
def posCount (m : Nat) : Nat := ((List.range 16).filter (bit m)).length

/-- The string event (R313). -/
def stringEvent (k j cause pos x : Nat) (s : State) : State :=
  raiseTier k (tierSrc k (3 + j)) (cause + 16 * pos + 256 * s.get (Reg.STR_FOUND k j) + 65536 * x) s

/-- Count an error and raise TIMING at most once in every 64 cycles (R302). -/
def stringError (k j : Nat) (f : Field) (s : State) : State :=
  let q := s.strg (2 * k + j)
  let n := satAdd 16 q.errs 1
  let may : Bool := match q.timingAt with
    | some c => decide (c + 64 ≤ q.cycles)
    | none => true
  let s1 := s.bump f
  if may then stringEvent k j 7 0 n (s1.setStrg (2 * k + j) { q with errs := 0, timingAt := some q.cycles })
  else s1.setStrg (2 * k + j) { q with errs := n }

/-- A position takes a fault: its word becomes no value, and its frames without error count anew (R302). -/
def satFault (k j p why : Nat) (s : State) : State :=
  let q := s.strg (2 * k + j)
  let at_ := (kvGet (fun _ => (0x8000, 0)) q.sat p).2
  let s1 := (s.setStrg (2 * k + j) { q with sat := kvSet (fun _ => (0x8000, 0)) q.sat p (0x8000, at_), good := kvDel p q.good }).put (Reg.SAT_FLT k j)
    (setBit (s.get (Reg.SAT_FLT k j)) p true)
  sendTemp k (satIndex k j p) 0x8000 true (at_ - 1) (stringEvent k j 4 p why s1)

/-- The data phase ends (R297, R302): presence, missing positions, ENUMERATED. -/
def dataEnd (k j : Nat) (s : State) : State :=
  let q := s.strg (2 * k + j)
  let need := s.get (Reg.STR_COUNT k j)
  let all := need != 0 && (List.range need).all (bit q.seen)
  let q1 := { q with phase := 0, ever := q.ever ||| q.seen,
                     miss := (List.range 16).foldl (fun m p =>
                       kvSet (fun _ => 0) m p (if bit q.seen p || !bit q.ever p then 0 else kvGet (fun _ => 0) m p + 1)) q.miss }
  let s1 := ((s.setStrg (2 * k + j) q1).put (Reg.STR_PRESENT k j) q.seen).put (Reg.STR_FOUND k j) (posCount q.seen)
  let gone := (List.range 16).filter (fun p =>
    s.get (Reg.STR_MISS k j) + 1 ≤ kvGet (fun _ => 0) q1.miss p && !bit (s.get (Reg.SAT_FLT k j)) p)
  let s2 := s1.each gone (fun p t => satFault k j p 1 t)
  let s3 := if all || (need = 0 && q.seen != 0) then s2.put (Reg.STR_STATE k j) 2 else s2
  if all && !q.enumRaised then
    stringEvent k j 1 0 0 (s3.setStrg (2 * k + j) { s3.strg (2 * k + j) with enumRaised := true })
  else s3

/-- A string port at work: enabled, its tier supplied and not in STORE (R312). -/
def stringOn (s : State) (k j : Nat) : Bool :=
  k < 6 && j < 2 && s.flag (Reg.STR_EN k j) && (s.tl k).supplied && !(s.tl k).store

/-- The port is switched off, or its supply is: the string enumerates again afterwards (R300, R312). -/
def stringOff (k j : Nat) (s : State) : State :=
  let q := s.strg (2 * k + j)
  (s.setStrg (2 * k + j) { Strg.reset with sat := q.sat, ever := q.ever, bad := q.bad, good := q.good, miss := q.miss,
                                           shorted := q.shorted }).put (Reg.STR_STATE k j) 0

/-- The instant `ms` milliseconds after `from_` in the count of tier `k` has come: the grains up to it pass (R297, R302). DEDUCED (log entry 104). -/
def stringPass (k from_ ms : Nat) (s : State) : Option State := seqPass k (from_ + msGrains (s.tl k).period ms) s

/-- A cycle of a string begins (R297): a data phase still running is ended and counted as a TIMING error. -/
def stringCycle (k j : Nat) (s : State) : State :=
    let s1 := if (s.strg (2 * k + j)).phase = 2 then stringError k j (Reg.ERR_POS k j) (dataEnd k j s) else s
    let s2 := if s1.get (Reg.STR_STATE k j) = 0 then s1.put (Reg.STR_STATE k j) 1 else s1
    let q := s2.strg (2 * k + j)
    s2.setStrg (2 * k + j) { q with phase := 1, seen := 0, top := 0, cycles := q.cycles + 1, cycleAt := some (s2.tierAt k) }

/-- STRING_CYCLE_START (R297): `STR_PERIOD` ms after the cycle before; the first one when the port is enabled. DEDUCED (log entry 104). -/
def execStringCycleStart (k j : Nat) (s : State) : Out :=
  if !stringOn s k j || s.get (Reg.STR_STATE k j) = 3 then done s
  else
    match (s.strg (2 * k + j)).cycleAt with
    | none => done (stringCycle k j s)
    | some c => done ((stringPass k c (s.get (Reg.STR_PERIOD k j)) s).elim s (stringCycle k j))

/-- CONVERSION_PHASE_END (R297): the line falls 1,000 µs after the start of the cycle. DEDUCED (log entry 104). -/
def execConversionPhaseEnd (k j : Nat) (s : State) : Out :=
  let q := s.strg (2 * k + j)
  if q.phase = 1 then
    match stringPass k (q.cycleAt.getD 0) 1 s with
    | none => done s
    | some t => done (t.setStrg (2 * k + j) { q with phase := 2, pulseAt := t.tierAt k, pulsed := false, resync := false })
  else done s

/-- DATA_PHASE_SILENCE (R297): 4,000 µs have passed without a pulse. DEDUCED (log entry 104). -/
def execDataPhaseSilence (k j : Nat) (s : State) : Out :=
  let q := s.strg (2 * k + j)
  if q.phase = 2 then done ((stringPass k q.pulseAt 4 s).elim s (dataEnd k j)) else done s

/-- Accept the frame of position `p` (R301, R302, R303). A frame with RESET from a position that an earlier cycle has had raises REENUMERATE.
DEDUCED (log entry 39). -/
def satAccept (k j p temp stat : Nat) (s : State) : State :=
  let i := 2 * k + j
  let q := s.strg i
  let flt := bit (s.get (Reg.SAT_FLT k j)) p
  let shorted := bit q.shorted p
  let why := if bit stat 3 then 2 else if bit stat 2 then 3 else 0
  let bad := if why = 0 then 0 else kvGet (fun _ => 0) q.bad p + 1
  let good := if why = 0 then kvGet (fun _ => 0) q.good p + 1 else 0
  let at_ := s.tierAt k
  let again := bit stat 1 && bit q.ever p
  let s1 := s.setStrg i { q with
    seen := setBit q.seen p true, top := p + 1, miss := kvDel p q.miss, bad := kvSet (fun _ => 0) q.bad p bad,
    good := kvSet (fun _ => 0) q.good p good, shorted := setBit q.shorted p false,
    sat := kvSet (fun _ => (0x8000, 0)) q.sat p (temp, at_ + 1) }
  let s2 := if again then stringEvent k j 6 p 0 s1 else s1
  let need := s.get (Reg.STR_COUNT k j)
  let s3 := if need != 0 && need ≤ p && !q.highRaised then
      stringEvent k j 3 p 0 (s2.setStrg i { s2.strg i with highRaised := true })
    else s2
  let heal := flt && (shorted || 4 ≤ good)
  let s4 := if heal then s3.put (Reg.SAT_FLT k j) (setBit (s3.get (Reg.SAT_FLT k j)) p false) else s3
  let s5 := if heal && !shorted then stringEvent k j 5 p 0 s4 else s4
  let fresh := why != 0 && s.get (Reg.STR_MISS k j) + 1 ≤ bad && !(flt && !heal)
  let s6 := if fresh then satFault k j p why s5
    else if flt && !heal then s5.setStrg i { s5.strg i with sat := kvSet (fun _ => (0x8000, 0)) (s5.strg i).sat p (0x8000, at_ + 1) }
    else s5
  let bad2 := bit (s6.get (Reg.SAT_FLT k j)) p
  sendTemp k (satIndex k j p) (if bad2 then 0x8000 else temp) bad2 at_ s6

/-- A pulse of either length, and a slot, within tolerance (R301), in 0.1 µs. -/
def pulseOk (w : Nat) : Bool := (60 ≤ w && w ≤ 100) || (180 ≤ w && w ≤ 300)

def slotOk (t : Nat) : Bool := 300 ≤ t && t ≤ 500

/-- The first failure of `n` slots, each the length of its pulse and the time to the next leading edge: 1 PULSE, 2 SLOT, else 0. Too few
pulses leave a slot without end. The time after the last pulse is not part of the frame. -/
def slotsFault : Nat → List (Nat × Nat) → Nat
  | 0, _ => 0
  | _ + 1, [] => 2
  | n + 1, p :: r => if !pulseOk p.1 then 1 else if n != 0 && !slotOk p.2 then 2 else slotsFault n r

/-- What is wrong with the pulses of a frame (R301), in order of time: 3 GAP, then PULSE or SLOT; 0 nothing. `first`: no pulse has come since the fall
from conversion level. DEDUCED (log entry 39). -/
def frameFault (first : Bool) (gap : Nat) (pulses : List (Nat × Nat)) : Nat :=
  if gap < (if first then 750 else 900) then 3 else slotsFault 32 pulses

/-- The word that 32 pulses spell, bit 31 first (R298). -/
def frameWord (pulses : List (Nat × Nat)) : Nat := (pulses.take 32).foldl (fun w p => 2 * w + b01 (decide (180 ≤ p.1))) 0

/-- A frame of a string whose data phase is running (R301): `fault` is its first failure. -/
def frameIn (k j word fault : Nat) (s : State) : Out :=
  let p := bitsOf word 28 4
  match fault with
  | 0 =>
    let s1 := satAccept k j p (bitsOf word 12 16) (bitsOf word 8 4) s
    if p + 1 = s.get (Reg.STR_COUNT k j) then done (dataEnd k j s1) else done s1
  | 1 => done (stringError k j (Reg.ERR_PULSE k j) s)
  | 4 => done (stringError k j (Reg.ERR_CRC k j) s)
  | 5 => done (stringError k j (Reg.ERR_POS k j) s)
  | _ => done (stringError k j (Reg.ERR_SLOT k j) s)

/-- The first failure of a frame that the pulses and its word show (R301): 1 PULSE, 2 SLOT, 3 GAP, 4 CRC, 5 POSITION; 0 none. -/
def frameVerdict (q : Strg) (gap : Nat) (pulses : List (Nat × Nat)) : Nat :=
  let w := frameWord pulses
  match frameFault (!q.pulsed) gap pulses with
  | 0 =>
    if crc8 [byte (w / 2 ^ 24), byte (w / 2 ^ 16), byte (w / 2 ^ 8)] != w % 256 then 4 else if bitsOf w 28 4 < q.top then 5 else 0
  | f => f

/-- SATELLITE_FRAME (R301): a train of pulses ends. `gap` is the time from the leading edge of the last pulse before it, or from the fall from conversion
level where none has come, and each pulse has its length and the time to the next leading edge, in 0.1 µs. After a failure the pulses up to the
first one after 90 µs without one belong to no frame. DEDUCED (log entry 39). -/
def execSatelliteFrame (k j gap : Nat) (pulses : List (Nat × Nat)) (s : State) : Out :=
  let q := s.strg (2 * k + j)
  if q.phase != 2 || !stringOn s k j || pulses.isEmpty then done s
  else
    let f := frameVerdict q gap pulses
    let skip := q.resync && gap < 900
    let s1 := s.setStrg (2 * k + j) { q with pulseAt := s.tierAt k, pulsed := true, resync := skip || f != 0 }
    if skip then done s1 else frameIn k j (frameWord pulses) f s1

/-- STRING_SHORT (R302): the supply is removed; every position is faulted until it is accepted again. DEDUCED (log entry 39). -/
def execStringShort (k j : Nat) (s : State) : Out :=
  if !stringOn s k j || s.get (Reg.STR_STATE k j) = 3 then done s
  else
    let i := 2 * k + j
    let q := s.strg i
    let m := 0xFFFF
    let ps := List.range 16
    let s1 := (s.setStrg i { q with phase := 0, ever := q.ever ||| q.seen, shorted := m, shortAt := s.tierAt k,
                                    sat := ps.foldl (fun v p => kvSet (fun _ => (0x8000, 0)) v p (0x8000, (kvGet (fun _ => (0x8000, 0)) v p).2)) q.sat
                           }).put (Reg.SAT_FLT k j) (s.get (Reg.SAT_FLT k j) ||| m)
    let s2 := s1.each ps (fun p t => sendTemp k (satIndex k j p) 0x8000 true ((kvGet (fun _ => (0x8000, 0)) q.sat p).2 - 1) t)
    done (stringEvent k j 8 0 0 (s2.put (Reg.STR_STATE k j) 3))

/-- SHORT_BACKOFF_END (R302): 1 s after the short the string restarts from enumeration. DEDUCED (log entry 104). -/
def execShortBackoffEnd (k j : Nat) (s : State) : Out :=
  let q := s.strg (2 * k + j)
  if s.get (Reg.STR_STATE k j) = 3 then
    match stringPass k q.shortAt 1000 s with
    | none => done s
    | some t => done ((t.setStrg (2 * k + j) { q with cycles := 0, enumRaised := false, lowRaised := false, highRaised := false,
                                                      timingAt := none, cycleAt := none }).put (Reg.STR_STATE k j) 1)
  else done s

/-- COUNT_LOW_CHECK (R302): 2 × `STR_COUNT` + 2 periods after the line was enabled. DEDUCED (log entry 39). -/
def execCountLowCheck (k j : Nat) (s : State) : Out :=
  let q := s.strg (2 * k + j)
  let need := s.get (Reg.STR_COUNT k j)
  if stringOn s k j && need != 0 && !q.lowRaised && 2 * need + 2 ≤ q.cycles && s.get (Reg.STR_STATE k j) != 3 then
    let s1 := s.setStrg (2 * k + j) { q with lowRaised := true }
    if s.get (Reg.STR_FOUND k j) < need then done (stringEvent k j 2 0 0 s1) else done s1
  else done s

/-! ### Base die sensors (R286, R290) -/

/-- The base oscillator is corrected once per span, at the median of the base die's sensors (R292). -/
def compensateBase (t : List Int) (s : State) : State :=
  let code := (baseMedian t).elim s.temps.baseComp tempCode
  { s with temps := { s.temps with baseComp := code }, tb := { s.tb with freeCycles := baseCycles code (internalPeriod s) } }

/-- The base die takes the housekeeping results of its 8 sensors, 1/64 °C, once per span. DEDUCED (log entry 37). -/
def baseTemps (t : List Int) (s : State) : State :=
  let s1 := (compensateBase t s).each (List.range 8) (fun i u => match t[i]? with
    | some x => seeTemp (234 + i, tempCode x, false, s.abs) u
    | none => u)
  match t with
  | [] => s1
  | x :: xs =>
    let hot := xs.foldl max x
    let on : Int := s.get Reg.BASE_OT * 64
    if s.temps.baseOt then
      if hot < on then raise 500 (2 + 65536 * tempCode hot) { s1 with temps := { s1.temps with baseOt := false } } else s1
    else if on ≤ hot then raise 500 (1 + 65536 * tempCode hot) { s1 with temps := { s1.temps with baseOt := true } }
    else s1

end Sys2Proof.Machine
end

