-- ==== Sys2Proof/Machine/Current.lean ====
section
/-!
DEFINITION. Pack current (R143 to R176): amperes from shunt and Hall, the current words and their source, direction and
reversals, the charge accumulators, shunt faults, the agreement checks, the ring broadcast, and the pack current event.
Currents are in 2⁻³² A (R149), charge integrals in 2⁻³² A·s (R163).
-/

namespace Sys2Proof.Machine

/-- Change the current path. -/
def State.setCur (s : State) (f : Cur → Cur) : State := { s with cur := f s.cur }

/-! ### The pack current event (R174) -/

/-- The event of a cause that tier 0 detects (1 to 5), with tier 0's timestamp; held in tier 0's latch while the base die is
absent. -/
def packTier (cause detail span grain : Nat) (s : State) : State :=
  let live := s.linkUp 0 && s.baseUp && s.ready
  let t := tierStamp s 0 span grain
  let e := (kvGet (fun _ => LatchEntry.reset) s.cur.latch cause).add t (!live)
  let s1 := s.setCur (fun c => { c with latch := kvSet (fun _ => LatchEntry.reset) c.latch cause e })
  if live then raiseAt 504 (cause + 256 * detail) t false false s1 else s1

/-- The event of a cause that the base die finds (6 to 9). -/
def packBase (cause detail : Nat) (s : State) : State := raise 504 (cause + 256 * (detail % 2 ^ 24)) s

/-! ### Amperes (R148, R149, R152) -/

/-- The temperature of the shunt for a window that ends at `e`, 1/64 °C: the latest result of the named input before, where it is
valid (R149, R287). -/
def shuntTemp (s : State) (e : Nat) : Option Int :=
  match (kvGet (fun _ => []) s.cur.tHist (s.get Reg.SHUNT_T_SRC)).find? (fun h => h.1 < e) with
  | some (t, v) => if (e - 1) / 4096 ≤ t / 4096 + 64 then v else none
  | none => none

/-- The history that windows of the present and the previous span can still need: down to the first result before them. -/
def recentTemps (b : Nat) : List (Nat × Option Int) → List (Nat × Option Int)
  | [] => []
  | h :: hs => if b ≤ h.1 + 8192 then h :: recentTemps b hs else [h]

/-- A quotient with a denominator that the configuration may drive to 0, where it is open, and below. -/
def ampQ (num den : Int) : Int := realQuot (Config.realFn 149 [num, den]) num den

/-- Amperes of a shunt voltage in units of 20 nV / 5,120 for a window that ends at `e` (R149): a code counts 5,120 of them, and
1/256 µV counts 1,000. -/
def shuntScaled (s : State) (v : Int) (e : Nat) : Int :=
  let pol : Int := if s.flag Reg.SHUNT_POL then -1 else 1
  let num := pol * (v - 5120 * s.getS Reg.SHUNT_OFS) * (s.get Reg.SHUNT_G : Int) * 65536
  match shuntTemp s e with
  | none => Config.roundQ num 1000000000
  | some t => ampQ (num * 64000000) (1000000000 * (64000000 + s.getS Reg.SHUNT_TC * (t - 1600)))

/-- Amperes of a shunt voltage code (R148, R149) for a window that ends at `e`. -/
def shuntAmp (s : State) (code : Int) (e : Nat) : Int := shuntScaled s (5120 * clampI (-8200000) 8200000 code) e

/-- Amperes of a Hall voltage given as the sum over `n` results, µV (R152). -/
def hallAmp (s : State) (sum : Int) (n : Nat) : Int :=
  Config.roundQ ((sum - (n : Int) * (s.get Reg.HALL_ZERO : Int) * 100) * s.getS Reg.HALL_GAIN * 65536) (n * 1000000)

/-! ### Hall windows and the source (R153) -/

/-- A Hall result at `h` counts for a window that ends at `b`: it lies before, in the last 4 spans. DEDUCED (log entry 40). -/
def hallFresh (h b : Nat) : Bool := h < b && (b - 1) / 4096 < h / 4096 + 4

/-- The Hall value of the window `[a, b)`: the mean of the results whose first sample lies in it, else the latest earlier one;
with whether any carried `S_OR`. Results older than 4 spans do not count. -/
def hallWindow (s : State) (a b : Nat) : Option (Int × Bool) :=
  let fresh := s.cur.hall.filter (fun h => hallFresh h.1 b)
  let inside := fresh.filter (fun h => a ≤ h.1)
  match inside with
  | [] =>
    match fresh with
    | h :: _ => some (hallAmp s h.2.1 1, h.2.2)
    | [] => none
  | hs => some (hallAmp s ((hs.map (fun h => h.2.1)).foldl (· + ·) 0) hs.length, hs.any (fun h => h.2.2))

/-- The Hall value of a block that ends at `e`: the latest result whose first sample lies before its end; one that starts with the next block does
not count. DESIGN CHOICE (log entry 40). -/
def hallBlock (s : State) (e : Nat) : Option Int :=
  (s.cur.hall.find? (fun h => hallFresh h.1 e)).map (fun h => hallAmp s h.2.1 1)

/-- A Hall result without `S_OR` exists (R153). -/
def hallGood (s : State) (b : Nat) : Bool := s.cur.hall.any (fun h => !h.2.2 && hallFresh h.1 b)

/-- The source that a window which ends at `e` takes: 0 shunt, 1 Hall, 3 none. Under AUTO it is the shunt again where no Hall result without
`S_OR` is left (R153). -/
def windowSrc (s : State) (e : Nat) : Nat :=
  match s.get Reg.I_SRC with
  | 0 => 0
  | 1 => 1
  | 2 =>
    match s.cur.hallFrom with
    | some h => if h < e && hallGood s e then 1 else 0
    | none => 0
  | _ => 3

/-- Under AUTO, the window `[a, b)` meets the condition for the Hall input (R153): the switch takes effect with this window. DEDUCED (log entry 40). -/
def autoCheck (a b : Nat) (or_ : Bool) (s : State) : State :=
  if s.get Reg.I_SRC = 2 && (s.flag Reg.SHUNT_FAULT || or_) && hallGood s b then
    let s1 := s.setCur (fun c => { c with cond := true })
    match s.cur.hallFrom with
    | some _ => s1
    | none => packTier 4 1 (b / 4096) (b % 4096) ((s1.setCur (fun c => { c with hallFrom := some a })).put Reg.SRC_USED 1)
  else s

/-- A span without the condition returns AUTO to the shunt (R153). DEDUCED (log entry 40). -/
def autoReturn (p : Nat) (s : State) : State :=
  if s.get Reg.I_SRC = 2 && s.cur.hallFrom.isSome && !s.cur.cond then
    packTier 4 0 (p + 1) 0 ((s.setCur (fun c => { c with hallFrom := none })).put Reg.SRC_USED 0)
  else s

/-! ### Words (R150) -/

/-- A current word. -/
def curWord (code : Int) (or_ hall rev est : Bool) (span : Nat) : Nat :=
  unsigned 24 code + 2 ^ 24 * b01 or_ + 2 ^ 25 * b01 hall + 2 ^ 26 * b01 rev + 2 ^ 27 * b01 est + 2 ^ 28 * (span % 16)

/-- mA of a current, clamped, and whether the clamp acted (R150). -/
def milli (i : Int) : Int × Bool :=
  let m := divRound (i * 1000) (2 ^ 32)
  (clampI (-8388607) 8388607 m, decide (8388607 < m.natAbs))

/-- The value of the last span word without `EST`, which stands in under a shunt fault (R153): its `I_CODE` in 2⁻³² A. -/
def heldAmp (s : State) : Option Int := s.cur.lastWord.map (fun w => Config.roundQ (signed 24 w * 2 ^ 32) 1000)

/-- The current of the shunt in the block that ends at `e` (R147 to R149): over-ranged grains at their limits, and the mean clamped. -/
def shuntBlock (s : State) (e : Nat) : Option Int :=
  let m := boxMean s 0 20 (e - 16) e
  let top : Int := 5120 * 8200000
  if m.2 = 0 then none else some (shuntScaled s (clampI (-top) top (Config.roundQ (5120 * m.1) m.2)) e)

/-- The current of each block in use from `a` to `b`, with the end of the block (R153, R160). -/
def blockAmps (s : State) (a b : Nat) : List (Nat × Option Int) :=
  (List.range ((b - a) / 16)).map (fun j =>
    let t := a + 16 * (j + 1)
    (t, match windowSrc s t with
        | 0 => if s.flag Reg.SHUNT_FAULT then heldAmp s else shuntBlock s t
        | 1 => hallBlock s t
        | _ => none))

/-- Class of a block (R160): 1 P, 2 N, 0 Z. -/
def blockClass (s : State) (i : Int) : Nat :=
  let th : Int := s.get Reg.REST_TH * 2 ^ 32
  if th < 100 * i then 1 else if 100 * i < -th then 2 else 0

/-- P and N among the blocks. -/
def blockSigns (s : State) (bs : List (Nat × Option Int)) : Bool × Bool :=
  let cs := bs.filterMap (fun b => b.2.map (blockClass s))
  (cs.contains 1, cs.contains 2)

/-- The word of a window `[a, b)` of span `p` with its value, from the source in use (R153): word, value, whether the ampere
value was clamped. DESIGN CHOICE (log entry 20). -/
def windowWord (s : State) (a b p : Nat) (code : Int) (orAt rev est : Bool) : Nat × Option Int × Bool :=
  match windowSrc s b with
  | 1 =>
    match hallWindow s a b with
    | none => (noResult p, none, false)
    | some (i, sor) =>
      let m := milli i
      (curWord m.1 (sor || m.2) true rev false p, some i, m.2)
  | 0 =>
    if s.flag Reg.SHUNT_FAULT then
      match s.cur.lastWord with
      | none => (noResult p + 2 ^ 27, none, false)
      | some w => (w % 2 ^ 27 + 2 ^ 27 + 2 ^ 28 * (p % 16), heldAmp s, false)
    else
      let i := shuntAmp s code b
      let m := milli i
      (curWord m.1 (orAt || m.2) false rev est p, some i, m.2)
  | _ => (noResult p, none, false)

/-- The current word of sub-window `i` (R147, R150, R160): the state and the word to file. -/
def curSub (i p : Nat) (s : State) : State × List (WinSlot × Nat) :=
  if s.get Reg.I_SRC = 3 then (s, [])
  else
    let n := nOfCode (s.get (Reg.EFF_SUBWIN 0))
    let b := subEnd p i n
    let a := b - 4096 / n
    let start := subStart s 0 p i n
    let from_ := supportFrom (s.pr 0).sincFrom start b
    let code := clampI (-8200000) 8200000 (filtered s 0 20 18 (s.get (Reg.SINC_ORDER 0) + 1) (4096 / n) from_ b).code
    let or_ := overRanged s 0 20 from_ b
    let s1 := autoCheck a b (or_ || (milli (shuntAmp s code b)).2) s
    let (pos, neg) := blockSigns s1 (blockAmps s1 start b)
    let (w, _, cl) := windowWord s1 a b p code or_ (pos && neg) (s.pr 0).recal
    (s1.setCur (fun c => { c with clamped := c.clamped || cl }), [(.sub 108 i, w)])

/-! ### Accumulators (R162 to R166) -/

/-- `CHG_IN` and `CHG_OUT` as they stand. -/
def chgIn (s : State) : Nat := min (s.cur.inQ / 65536) (2 ^ 64 - 1)

def chgOut (s : State) : Nat := min (s.cur.outQ / 65536) (2 ^ 64 - 1)

/-- Add charge to both integrals and bring the three accumulators up to date (R163, R165). -/
def accumulate (qIn qOut p : Nat) (s : State) : State :=
  let i0 := chgIn s
  let o0 := chgOut s
  let s1 := s.setCur (fun c => { c with inQ := if s.flag Reg.SAT_IN then c.inQ else c.inQ + qIn,
                                        outQ := if s.flag Reg.SAT_OUT then c.outQ else c.outQ + qOut })
  let satIn := 2 ^ 64 ≤ s1.cur.inQ / 65536 + 1 && !s.flag Reg.SAT_IN
  let satOut := 2 ^ 64 ≤ s1.cur.outQ / 65536 + 1 && !s.flag Reg.SAT_OUT
  let net := s1.cur.netOff + (chgIn s1 : Int) - (chgOut s1 : Int)
  let hit := !s.flag Reg.SAT_NET && (decide ((2 ^ 63 - 1 : Int) ≤ net) || decide (net ≤ -(2 ^ 63 : Int)))
  let s2 := s1.setCur (fun c => { c with
    inInc := (chgIn s1 - i0) % 2 ^ 32, outInc := (chgOut s1 - o0) % 2 ^ 32,
    net := if s.flag Reg.SAT_NET then c.net else clampI (-(2 ^ 63)) (2 ^ 63 - 1) net })
  let s3 := if hit then packTier 5 0 (p + 1) 0 (s2.put Reg.SAT_NET 1) else s2
  let s4 := if satIn then packTier 5 1 (p + 1) 0 (s3.put Reg.SAT_IN 1) else s3
  if satOut then packTier 5 2 (p + 1) 0 (s4.put Reg.SAT_OUT 1) else s4

/-- The charge of the blocks of a span (R163, R164), in and out: each block's duration runs piecewise over a frequency step. -/
def blockCharge (s : State) (p period stepG before : Nat) (bs : List (Nat × Option Int)) : Nat × Nat :=
  bs.foldl (fun (acc : Nat × Nat) b =>
    match b.2 with
    | none => acc
    | some i =>
      let g0 := (b.1 - 16) - p * 4096
      let nb := if stepG ≤ g0 then 0 else min 16 (stepG - g0)
      let q := Config.roundQ (i * ((nb * before + (16 - nb) * period : Nat) : Int)) (4096 * 400000000)
      if 100 * i.natAbs ≤ s.get Reg.ACC_DEADBAND * 2 ^ 32 then acc
      else if 0 ≤ q then (acc.1 + q.toNat, acc.2) else (acc.1, acc.2 + q.natAbs)) (0, 0)

/-! ### Direction (R160, R161) -/

/-- Class of a span: 1 CHARGE, 2 DISCHARGE, 0 REST, 3 MIXED. -/
def spanClass (signs : Bool × Bool) : Nat :=
  match signs with
  | (true, true) => 3
  | (true, false) => 1
  | (false, true) => 2
  | (false, false) => 0

/-- `DIR` takes the class of a span; in STORE it is that of the record's span alone (R166). -/
def dirStep (cls : Nat) (alone : Bool) (s : State) : State :=
  match cls with
  | 3 => s.setCur (fun c => { c with rest := 0 })
  | 0 =>
    let n := s.cur.rest + 1
    let s1 := s.setCur (fun c => { c with rest := n })
    if alone || s.get Reg.REST_SPANS ≤ n then s1.put Reg.DIR 0 else s1
  | d =>
    let flip := s.get Reg.DIR != d && s.cur.lastDir != 0 && s.cur.lastDir != d
    let s1 := (s.setCur (fun c => { c with rest := 0, lastDir := d })).put Reg.DIR d
    if flip then s1.bump Reg.REVERSALS else s1

/-! ### The span (R150 to R168) -/

/-- `CUR_FLAGS` (R168). -/
def curFlags (s : State) (mixed est : Bool) : Nat :=
  s.get Reg.DIR + 4 * s.get Reg.SRC_USED + 16 * b01 mixed + 32 * s.get Reg.SH_DISC_ACTIVE + 64 * s.get Reg.HALL_DISC_ACTIVE
    + 128 * s.get Reg.SHUNT_FAULT + 256 * b01 (s.flag Reg.SAT_NET || s.flag Reg.SAT_IN || s.flag Reg.SAT_OUT) + 512 * b01 est
    + 1024 * s.get Reg.TC_HELD

/-- The words of the CURRENT block (R508). -/
def curBlock (s : State) (word flags : Nat) : List (WinSlot × Nat) :=
  let net := unsigned 64 s.cur.net
  [(.word 0x300, word), (.word 0x304, flags), (.word 0x308, net % 2 ^ 32), (.word 0x30C, net / 2 ^ 32),
   (.word 0x310, chgIn s % 2 ^ 32), (.word 0x314, chgIn s / 2 ^ 32), (.word 0x318, chgOut s % 2 ^ 32),
   (.word 0x31C, chgOut s / 2 ^ 32), (.word 0x320, s.cur.hallWord), (.word 0x324, s.cur.inInc), (.word 0x328, s.cur.outInc)]

/-- The current detail of the over-range event of tier 0 (R157), and where a part of it is new the grain of the first new one: of the shunt the
first over-ranged grain, of the Hall input that of the first such result, of a clamped value grain 0. DESIGN CHOICE (log entry 40). -/
def curDetail (p : Nat) (or_ clamped : Bool) (s : State) : Nat × Option Nat :=
  let detail := b01 or_ + 2 * b01 s.cur.hallOr.isSome + 4 * b01 clamped
  let new (i : Nat) : Bool := bit detail i && !bit s.cur.orPrev i
  let gs := (if new 0 then [(firstOver s 0 20 p).getD 0] else []) ++ (if new 1 then [s.cur.hallOr.getD 0] else []) ++ (if new 2 then [0] else [])
  (detail, match gs with
    | [] => none
    | g :: r => some (r.foldl min g))

/-- What the current path forgets and keeps when a span has ended. -/
def curForget (detail b : Nat) (s : State) : State :=
  s.setCur (fun c => { c with orPrev := detail, clamped := false, hallOr := none, cond := false, hallWord := 0,
                              hall := c.hall.filter (fun h => (b - 1) / 4096 < h.1 / 4096 + 5),
                              tHist := c.tHist.map (fun e => (e.1, recentTemps b e.2)) })

/-- The charge that a span adds (R163, R166): in STORE its mean current over the whole interval, in seconds. -/
def spanCharge (s : State) (p interval period stepG before : Nat) (bs : List (Nat × Option Int)) (val : Option Int) : Nat × Nat :=
  if interval = 0 then blockCharge s p period stepG before bs
  else match val with
    | some i => if 0 ≤ i then (i.toNat * interval, 0) else (0, i.natAbs * interval)
    | none => (0, 0)

/-- The span of tier 0's current path (R150 to R168): the state, the words of the `CUR` field and of the CURRENT block, and the
current detail of the over-range event with the grain of what is new in it (R157). `interval` is 0 outside STORE, and the STORE interval
in seconds there. -/
def curSpan (p interval period stepG before : Nat) (s : State) :
    State × List Nat × List (WinSlot × Nat) × Nat × Option Nat :=
  let a := p * 4096
  let b := a + 4096
  let s0 := s.putFlag Reg.TC_HELD (shuntTemp s b).isNone
  if s.get Reg.I_SRC = 3 then
    let s1 := (s0.put Reg.SRC_USED 3).setCur (fun c => { c with inInc := 0, outInc := 0 })
    let (detail, new) := curDetail p false false s1
    (curForget detail b s1, [noResult p, s1.cur.hallWord, 0, 0, curFlags s1 false false], [(.word 0x320, s1.cur.hallWord)], detail, new)
  else
    let part := stepG != 0 || interval != 0
    let (s1, v) := if s0.flag Reg.SHUNT_FAULT then (s0, 0)
      else postFilter 0 18 p part (clampI (-8200000) 8200000 (filtered s0 0 20 18 1 4096 (a + stepG) b).code) s0
    let or_ := overRanged s1 0 20 (a + stepG) b
    let s2 := autoReturn p (autoCheck a b (or_ || (milli (shuntAmp s1 v b)).2) s1)
    let bs := blockAmps s2 a b
    let cls := spanClass (blockSigns s2 bs)
    let (w, val, cl) := windowWord s2 a b p v or_ (cls == 3) (stepG != 0 || (s2.pr 0).recal)
    let s3 := if bit w 27 || val.isNone then s2 else s2.setCur (fun c => { c with lastWord := some (w % 2 ^ 27) })
    let s4 := if val.isNone then s3.bump Reg.ACC_GAP else s3
    let s5 := dirStep cls (interval != 0) s4
    let (qi, qo) := spanCharge s5 p interval period stepG before bs val
    let s6 := accumulate qi qo p s5
    let s7 := if interval = 0 then s6 else s6.put Reg.ACC_EST 1
    let fl := curFlags s7 (cls == 3) (interval != 0)
    let (detail, new) := curDetail p (or_ && windowSrc s2 b == 0 && !s2.flag Reg.SHUNT_FAULT) (cl || s7.cur.clamped) s7
    (curForget detail b s7, [w, s7.cur.hallWord, s7.cur.inInc, s7.cur.outInc, fl], curBlock s7 w fl, detail, new)

/-! ### Hall results and the agreement checks (R152, R155, R156) -/

/-- The sequence table of tier 0 names the Hall channel (R152). -/
def hallNamed (s : State) : Bool := (List.range (s.get (Reg.SEQ_LAST 0) + 1)).any (fun e => s.get (Reg.CH 0 e) == 0x29)

/-- A result of channel 0x29: a Hall result, where the table names the channel (R152). -/
def hallResult (word : Nat) (uv : Int) (sor : Bool) (t0 : Nat) (s : State) : State :=
  if hallNamed s then
    s.setCur (fun c => { c with hall := (t0, uv, sor) :: c.hall, hallWord := word,
                                hallOr := if sor then c.hallOr.orElse (fun _ => some (t0 % 4096)) else c.hallOr })
  else s

/-- The table has changed: without the Hall channel in it no Hall result exists (R152). -/
def hallTable (s : State) : State := if hallNamed s then s else s.setCur (fun c => { c with hall := [] })

/-- A comparison of tier 0's current paths: `slot` 18 shunt, 19 Hall; `x` exceeds, `d` the difference for the event. -/
def compareCurrent (slot : Nat) (t0 b : Nat) (x : Bool) (d : Int) (s : State) : State :=
  let (run, _, fired) := discStep ((s.get Reg.I_DISC_D + 1) * 4096) (discTime s 0 t0) x (s.run 0 slot)
  let s1 := s.setRun 0 slot run
  let f := if slot = 18 then Reg.SH_DISC_ACTIVE else Reg.HALL_DISC_ACTIVE
  match fired with
  | none => s1
  | some (set, _, _) =>
    packTier (if slot = 18 then 1 else 2) (b01 set + 256 * unsigned 16 (clampI (-32767) 32767 d)) (b / 4096) (b % 4096)
      (s1.putFlag f set)

/-- The conditions of R128 for a result of a current channel, and the mean of the shunt over its blocks: none where they are not met. -/
def currentPlaced (s : State) (r : SecRes) : Option Mean :=
  let period := (s.tl 0).period
  let (a, b) := blockSet period r.reps r.t0
  let m := blockMean s 0 20 a b
  if placed period r.reps r.t0 r.t1 && !r.sor && m.2 != 0 && !overRanged s 0 20 (max (windowsFrom s 0 a) (s.pr 0).sincFrom) b
      && (s.pr 0).stepG == 0 && !s.flag Reg.SHUNT_FAULT && !(s.pr 0).recal then some m
  else none

/-- A result of channel 0x28 is compared in volts (R155). -/
def compareShunt (r : SecRes) (s : State) : State × Bool × Bool :=
  let th := s.get Reg.SH_DISC_TH
  match currentPlaced s r with
  | none => (s, false, false)
  | some m =>
    if th = 0 then (s, false, false)
    else
      let d : Int := 1250 * r.mean * (m.2 : Int) - 256 * m.1
      let x := decide ((th * 128000 * m.2 : Nat) < d.natAbs)
      (compareCurrent 18 r.t0 (blockSet (s.tl 0).period r.reps r.t0).2 x (Config.roundQ d (128000 * m.2)) s, true, x)

/-- A Hall result (R152) is compared in amperes while the shunt is in use (R156). -/
def compareHall (uv : Int) (r : SecRes) (s : State) : State × Bool × Bool :=
  let th := s.get Reg.HALL_DISC_TH
  let inUse := s.get Reg.I_SRC = 0 || (s.get Reg.I_SRC = 2 && s.cur.hallFrom.isNone)
  match currentPlaced s r with
  | none => (s, false, false)
  | some m =>
    if th = 0 || !inUse || !hallNamed s then (s, false, false)
    else
      let b := (blockSet (s.tl 0).period r.reps r.t0).2
      let sh := shuntScaled s (Config.roundQ (5120 * m.1) m.2) b
      let d := hallAmp s uv 1 - sh
      let x := decide ((th : Int) * 10 * 2 ^ 32 + (s.get Reg.HALL_DISC_PCT : Int) * sh.natAbs < 100 * d.natAbs)
      (compareCurrent 19 r.t0 b x (Config.roundQ (10 * d) (2 ^ 32)) s, true, x)

/-! ### Shunt faults (R154) -/

/-- A condition of the shunt fault is met: the fault begins with the first one (R154). DEDUCED (log entry 40). -/
def shuntFault (kind : Nat) (s : State) : State :=
  let s1 := s.setCur (fun c => if kind = 1 then { c with cond1 := true, good1 := 0 } else { c with cond2 := true, good2 := 0 })
  if s.flag Reg.SHUNT_FAULT then s1
  else packTier 3 (1 + 2 * kind) (s.tl 0).span s.clk.grain ((s1.put Reg.SHUNT_FAULT 1).put Reg.FAULT_KIND kind)

/-- SHUNT_STUCK (R154): the shunt modulator has made no transition for 4,096 modulator clocks, which are 4,096/M grains. Where its readings
show it beyond ±164 mV in that time, the count has restarted; a modulator that makes no transition goes on with its last reading.
DEDUCED (log entry 40). -/
def execShuntStuck (s : State) : Out :=
  if !(s.tl 0).supplied || (s.tl 0).calibrating then done s
  else
    let n := 4096 / 2 ^ (s.pr 0).mLog
    let now := s.tierAt 0
    if waveAny (beyond 20) (rawWin (bring 0 now [] s) 0 20 (now - n) now) then done s else done (shuntFault 1 s)

/-- SHUNT_CM_FAULT (R144, R154): the common mode has been beyond ±1.2 V for more than 64 grains. -/
def execShuntCmFault (s : State) : Out := if (s.tl 0).supplied then done (shuntFault 2 s) else done s

/-- A span of tier 0 for the conditions of the shunt fault (R154): whether the modulator's transitions were regular, and whether the common mode
stayed within ±1.0 V; both counts are of consecutive spans. DESIGN CHOICE (log entry 40). -/
def shuntGood (regular inRange : Bool) (s : State) : State :=
  s.setCur (fun c => { c with good1 := if regular then c.good1 + 1 else 0, good2 := if inRange then c.good2 + 1 else 0 })

/-- SHUNT_FAULT_CLEAR (R154): a condition ends after 64 good spans, and the fault with the last condition. DEDUCED (log entry 40). -/
def execShuntFaultClear (s : State) : Out :=
  let c1 := s.cur.cond1 && s.cur.good1 < 64
  let c2 := s.cur.cond2 && s.cur.good2 < 64
  let s1 := s.setCur (fun c => { c with cond1 := c1, cond2 := c2 })
  if !s.flag Reg.SHUNT_FAULT then done s
  else if c1 then done (s1.put Reg.FAULT_KIND 1)
  else if c2 then done (s1.put Reg.FAULT_KIND 2)
  else done (packTier 3 (2 * s.get Reg.FAULT_KIND) (s.tl 0).span s.clk.grain ((s1.put Reg.SHUNT_FAULT 0).put Reg.FAULT_KIND 0))

/-! ### Broadcast (R169 to R173) -/

/-- `CB_CFG` of tier `k` (R170), without the sender's `TQ`. -/
def cbCfg (s : State) (k : Nat) : Nat :=
  s.get (Reg.EFF_SUBWIN k) + 8 * s.get (Reg.SINC_ORDER k) + 32 * b01 (s.flag (Reg.NOTCH_ACTIVE k) && !s.flag (Reg.NOTCH_FILLING k))
    + 128 * s.get (Reg.POST_CORNER k) + 512 * s.get (Reg.POST_ORDER k)

/-- Results of tier 0 that a SOURCE broadcasts: sub-window words in DRIVE and CHARGE, summaries always (R171). -/
def cbTake (u : UpItem) (s : State) : State :=
  if s.get Reg.CB_ROLE != 1 then s
  else
    let subs := u.words.filterMap (fun w => match w.1 with
      | .sub c i => if c = 108 then some (u.span, i, w.2) else none
      | _ => none)
    let find (off : Nat) : Option Nat := (u.words.find? (fun w => w.1 == .word off)).map (fun w => w.2)
    let s1 := if s.fabMode = 2 || s.fabMode = 3 then s.setCur (fun c => { c with cbWords := c.cbWords ++ subs }) else s
    match find 0x300, find 0x304, find 0x324, find 0x328 with
    | some w, some f, some i, some o =>
      s1.setCur (fun c => { c with cbSums := c.cbSums ++ [(u.span, leBytes 4 w ++ leBytes 4 i ++ leBytes 4 o ++ leBytes 2 f)] })
    | _, _, _, _ => s1

/-- The first 8 payload bytes of a broadcast frame. -/
def cbHead (s : State) (span first info : Nat) : List Byte :=
  leBytes 4 span ++ [byte first, byte info] ++ leBytes 2 (cbCfg s 0 + 64 * b01 (timeQualified s))

/-- The words that the next sub-window frame takes (R171): 11 of one span in index order, or fewer where the span's last word is among them
or nothing more of it can come. -/
def cbRun (s : State) : List (Nat × Nat × Nat) :=
  match s.cur.cbWords with
  | [] => []
  | (p, _, _) :: _ =>
    let run := (s.cur.cbWords.take 11).takeWhile (fun w => w.1 == p)
    let last := nOfCode (s.get (Reg.EFF_SUBWIN 0)) - 1
    let over_ := run.any (fun w => decide (last ≤ w.2.1)) || s.cur.cbWords.any (fun w => w.1 != p) || s.cur.cbSums.any (fun x => decide (p ≤ x.1))
    if run.length = 11 || over_ then run else []

/-- CURRENT_BROADCAST_SEND (R170, R171): the next frame leaves: the words of one span, or, once the words of its span have left, a
summary. -/
def execCurrentBroadcastSend (s : State) : Out :=
  if !s.ready || s.get Reg.CB_ROLE != 1 then done s
  else
    let sum := match s.cur.cbSums with
      | (p, d) :: rest => if s.cur.cbWords.all (fun w => w.1 != p) then some (p, d, rest) else none
      | [] => none
    match sum with
    | some (p, d, rest) => done (castFrame 5 0 (cbHead s p 0 0x80 ++ d) (s.setCur (fun c => { c with cbSums := rest })))
    | none =>
      match cbRun s with
      | [] => done s
      | (p, i, w) :: r =>
        let body := ((p, i, w) :: r).flatMap (fun w => leBytes 4 w.2.2)
        done (castFrame 5 0 (cbHead s p i r.length ++ body) (s.setCur (fun c => { c with cbWords := c.cbWords.drop (r.length + 1) })))

/-- A span number of 32 bits completed to the number within 2^31 of the own one (R172). -/
def completeSpan (s : State) (n : Nat) : Nat :=
  let own := s.clk.span
  let base := own / 2 ^ 32 * 2 ^ 32 + n
  if base + 2 ^ 31 < own then base + 2 ^ 32
  else if own + 2 ^ 31 ≤ base && 2 ^ 32 ≤ base then base - 2 ^ 32
  else base

/-- The tiers that fail the settings test of R172. -/
def cbFailing (s : State) (cfg : Nat) : Nat :=
  let c := cfg - 64 * b01 (bit cfg 6)
  (List.range 6).foldl (fun m k => if cbCfg s k = c then m else setBit m k true) 0

/-- The words of a sub-window frame, with their indices. -/
def cbWordsOf : Nat → Nat → List Byte → List (Nat × Nat)
  | 0, _, _ => []
  | n + 1, i, d => (i, leNat (d.take 4)) :: cbWordsOf n (i + 1) (d.drop 4)

/-- The index under which the span word of a summary stands among the paired words. -/
def summaryIdx : Nat := 65535

/-- A span current word with `REV` starts a settle interval (R227). -/
def seeRev (span word : Nat) (s : State) : State :=
  if bit word 26 && word % 2 ^ 24 != 0x800000 then
    { s with fab := { s.fab with settle := span :: s.fab.settle.filter (fun r => r != span && span < r + 2304) } }
  else s

/-- The settings test of R172 is judged anew (R173): for a SINK against the latest `CB_CFG` that it received, with an event where the set of its
failing tiers changes; a SOURCE tests its tiers 1 to 5 against its own tier 0. -/
def cbJudge (s : State) : State :=
  match s.get Reg.CB_ROLE, s.cur.cbCfg with
  | 1, _ => s.put Reg.CB_MISMATCH (cbFailing s (cbCfg s 0))
  | 2, some cfg =>
    let mask := cbFailing s cfg
    if mask = s.get Reg.CB_MISMATCH then s else packBase 9 mask (s.put Reg.CB_MISMATCH mask)
  | _, _ => s

/-- A SINK takes a CURRENT frame (R169, R172, R173). Its origin is known by the direction of the frame, `O_AWAY` and the position. -/
def cbReceive (origin : Nat) (d : List Byte) (s : State) : State :=
  if s.get Reg.CB_ROLE != 2 || d.length < 8 then s
  else
    match s.cur.cbFrom with
    | some o =>
      if o != origin then
        if s.cur.cbTwo then s
        else packBase 9 (s.get Reg.CB_MISMATCH + 64) (s.setCur (fun c => { c with cbTwo := true }))
      else go o
    | none => go origin
where
  go (o : Nat) : State :=
    let p := completeSpan s (par d 0 4)
    let info := par d 5 1
    let cfg := par d 6 2 % 1024
    let s1 := cbJudge (s.setCur (fun c => { c with cbFrom := some o, cbCfg := some cfg }))
    let mask := s1.get Reg.CB_MISMATCH
    let inTime := s1.clk.span < p + 1 || (s1.clk.span = p + 1 && s1.clk.grain < 2048)
    let keep := timeQualified s1 && bit cfg 6 && inTime
    if bit info 7 then
      let n := s1.cur.cbLostFor
      let w := par d 8 4
      let s2 := (s1.put Reg.CB_LAST_SPAN (p % 2 ^ 32)).putFlag Reg.CB_PAIRING (timeQualified s1)
      let s3 := seeRev p w (s2.setCur (fun c => { c with paired := if keep then c.paired ++ [(p, summaryIdx, w, mask)] else c.paired }))
      let s4 := s3.setCur (fun c => { c with cbLostFor := 0, cbLost := false, cbGot := true })
      if s1.cur.cbLost then packBase 8 (min n (2 ^ 24 - 1)) s4 else s4
    else if keep && mask != 63 then
      s1.setCur (fun c => { c with
        paired := c.paired ++ (cbWordsOf (info % 16 + 1) (par d 4 1) (d.drop 8)).map (fun w => (p, w.1, w.2, mask)) })
    else s1

/-- CURRENT_BROADCAST_RECEIVED (R172). -/
def execCurrentBroadcastReceived (origin : Nat) (data : List Byte) (s : State) : Out :=
  if s.ready then done (cbReceive origin data s) else done s

/-- BCAST_LOST (R173). -/
def execBcastLost (s : State) : Out :=
  if s.ready && s.get Reg.CB_ROLE = 2 && [2, 3, 5].contains s.modeNow && !s.cur.cbLost && s.get Reg.CB_LOST ≤ s.cur.cbLostFor then
    done (packBase 7 (min s.cur.cbLostFor (2 ^ 24 - 1)) ((s.put Reg.CB_PAIRING 0).setCur (fun c => { c with cbLost := true })))
  else done s

/-- A span mark for the broadcast: a span in which no summary came counts, and the sub-windows of the span before last that found no word
are counted, of spans for which sub-window frames are sent (R171 to R173). DESIGN CHOICE (log entry 41). -/
def cbAtMark (u : State) : State :=
  let s := cbJudge u
  if s.get Reg.CB_ROLE != 2 then s
  else
    let p := s.clk.span - 2
    let got := (s.cur.paired.filter (fun w => w.1 == p && w.2.1 != summaryIdx)).length
    let due := (s.cur.cbDue.find? (fun e => e.1 == p)).elim 0 (·.2)
    let now := if s.fabMode = 2 || s.fabMode = 3 then nOfCode (s.get (Reg.EFF_SUBWIN 0)) else 0
    (s.bumpBy Reg.CB_UNPAIRED (due - got)).setCur (fun c => { c with
      cbLostFor := if !([2, 3, 5].contains s.modeNow) then 0 else if c.cbGot then c.cbLostFor else satAdd 32 c.cbLostFor 1,
      cbGot := false, cbDue := (s.clk.span, now) :: c.cbDue.filter (fun e => p < e.1), paired := c.paired.filter (fun w => p < w.1) })

/-! ### Loads of the accumulators (R165, R167) -/

/-- `ACC_LOAD` and `THRU_CLR` at a commit (R165). -/
def accCommit (s : State) : State :=
  let preset := signed 64 (s.get Reg.PRESET_LO + 2 ^ 32 * s.get Reg.PRESET_HI)
  let s1 := if s.flag Reg.ACC_LOAD then
      (s.setCur (fun c => { c with netOff := preset - ((chgIn s : Int) - (chgOut s : Int)), net := preset })).put Reg.SAT_NET 0
    else s
  let s2 := if s1.flag Reg.THRU_CLR then
      ((s1.setCur (fun c => { c with netOff := c.netOff + ((chgIn s1 : Int) - (chgOut s1 : Int)), inQ := 0, outQ := 0 })).put
        Reg.SAT_IN 0).put Reg.SAT_OUT 0
    else s1
  (s2.put Reg.ACC_LOAD 0).put Reg.THRU_CLR 0

/-- The restore at READY after tier 0 counted from 0 (R167): the last Tun values are added. -/
def accRestore (i o : Nat) (off : Int) (age : Nat) (s : State) : State :=
  if s.flag Reg.ACC_COLD then
    let s1 := s.setCur (fun c => { c with inQ := c.inQ + i * 65536, outQ := c.outQ + o * 65536, netOff := c.netOff + off })
    let s2 := s1.setCur (fun c => { c with net := clampI (-(2 ^ 63)) (2 ^ 63 - 1) (c.netOff + (chgIn s1 : Int) - (chgOut s1 : Int)) })
    packBase 6 (min age (2 ^ 24 - 1)) ((s2.put Reg.ACC_COLD 0).put Reg.ACC_RESTORED 1)
  else s

end Sys2Proof.Machine
end

