-- ==== Sys2Proof/Machine/Sequencer.lean ====
section
/-!
DEFINITION. What a finished secondary result does (R117, R121, R127): its word and record, the comparison of the paths, the
temperatures and the Hall current that it carries, its way to the base die, and the sequencer's return to its table.
-/

namespace Sys2Proof.Machine

/-- A sample within the range of the converter (R115). -/
def sample14 (c : Int) : Int := clampI (-8192) 8191 c

/-- The first `r` samples of a conversion: where fewer are given, the last one goes on. DESIGN CHOICE (log entry 96). -/
def samplesOf (r : Nat) (codes : List Int) : List Int :=
  let cs := (codes.take r).map sample14
  cs ++ List.replicate (r - cs.length) (cs.getLastD 0)

/-- The mean code of a result, rounded to the nearest LSB with ties away from zero (R117). -/
def secCode (cs : List Int) : Int := divRound (cs.foldl (· + ·) 0) cs.length

/-- The mean to 1/256 LSB (R117). -/
def secMean (cs : List Int) : Int := if cs.length = 0 then 0 else Config.roundQ (256 * cs.foldl (· + ·) 0) cs.length

/-- A sample lay at either end of the code range (R117). -/
def secOver (cs : List Int) : Bool := cs.any (fun c => decide (c ≤ -8192) || decide (8191 ≤ c))

/-- The secondary result word (R117). -/
def secWord (code : Int) (sor ds : Bool) : Nat := unsigned 14 code + 2 ^ 14 * b01 sor + 2 ^ 15 * b01 ds

/-- The secondary result record (R121). -/
def secRecord (word entry reps t0 : Nat) (urgent recheck preempted compared exceeded : Bool) : List Byte :=
  leBytes 2 word ++ [byte (entry % 64 + 64 * b01 urgent + 128 * b01 recheck), byte (reps - 1)] ++ leBytes 2 (t0 / 4096)
    ++ leBytes 2 (t0 % 4096 + 2 ^ 12 * b01 preempted + 2 ^ 13 * b01 compared + 2 ^ 14 * b01 exceeded)

/-- The history of the shunt temperature inputs takes a new result (R149): inputs 1 to 4 are the thermistors, 5 is die sensor 0. -/
def noteShuntTemp (k ch t1 : Nat) (s : State) : State :=
  let val (c : Nat) : Option Int := if c = 0x8000 then none else some (signed 16 c)
  let add (i : Nat) (v : Option Int) : State :=
    s.setCur (fun c => { c with tHist := kvSet (fun _ => []) c.tHist i ((t1, v) :: kvGet (fun _ => []) c.tHist i) })
  if k != 0 then s
  else if 0x20 ≤ ch && ch < 0x24 then add (ch - 0x20 + 1) (val (kvGet (fun _ => (0x8000, 0)) (s.tt 0).th (ch - 0x20)).1)
  else if ch = 0x3C then add 5 (if bit (s.get (Reg.DIE_EXCL 0)) 0 then none else dieTemp s 0 0)
  else s

/-- What the result of a channel feeds, and whether it was compared and exceeded. -/
def secUse (k ch word : Nat) (code : Int) (r : SecRes) (s : State) : State × Bool × Bool :=
  if ch < 0x12 then
    let q := s.sq k
    compareCell k ch r (s.setSq k { q with cellRes := kvSet (fun _ => none) q.cellRes ch (some ((code + 8192).toNat, r.t0 / 4096)) })
  else if 0x20 ≤ ch && ch < 0x24 then (noteShuntTemp k ch r.fin (thermistorResult k (ch - 0x20) r.mean r.sor r.fin s), false, false)
  else if 0x3C ≤ ch && ch < 0x3F then (noteShuntTemp k ch r.t1 (dieResult k (ch - 0x3C) (code * 8) r.t0 s), false, false)
  else if ch = 0x28 then compareShunt r s
  else if ch = 0x29 then
    let uv := (code + 8192) * 400
    compareHall uv r (hallResult word uv r.sor r.t0 s)
  else (s, false, false)

/-- A finished conversion `v` with its samples, whose readings have arrived: the state and its word. `entry` is the table entry; an urgent
result has none. -/
def secFinish (k : Nat) (v : Conv) (entry : Option Nat) (preempted : Bool) (codes : List Int) (s : State) : State × Nat :=
  let p := (s.tl k).period
  let cs := samplesOf v.reps codes
  let ds := v.ch < 0x12 && v.grains.any (fun g => disturbed s k v.ch g (g + 1))
  let r : SecRes := ⟨secMean cs, secOver cs, ds, v.first, (v.lastT p).1, v.reps, (v.endT p).1⟩
  let word := secWord (secCode cs) r.sor ds
  let (s1, compared, exceeded) := secUse k v.ch word (secCode cs) r s
  let rec_ := secRecord word (entry.getD v.ch) v.reps r.t0 entry.isNone v.recheck preempted compared exceeded
  let q := s1.sq k
  let s2 := s1.setSq k { q with lastRec := rec_, words := match entry with
    | some e => kvSet (fun _ => 0) q.words e word
    | none => q.words }
  let item : UpItem := ⟨r.t0 / 4096, match entry with
    | some e => [(.half (0x420 + 128 * k + 2 * e), word)]
    | none => [], [], false, []⟩
  (sendSec k (entry.getD q.next) item s2, word)

/-- The readings that a finished conversion is held against arrive (R128, R129): up to the end of its blocks. DESIGN CHOICE (log entry 96). -/
def bringFor (k : Nat) (v : Conv) (waves : List Wave) (s : State) : State :=
  let p := (s.tl k).period
  bring k (max ((v.lastT p).1 + 1) (blockSet p v.reps v.first).2) waves s

/-- The result of a host urgent request shows itself (R127). -/
def urgShow (k word t0 : Nat) (s : State) : State :=
  (((s.put (Reg.URG_WORD k) word).put (Reg.URG_GRAIN k) (t0 % 4096)).put (Reg.URG_SPAN k) (t0 / 4096)).put (Reg.URG_TOGGLE k)
    (1 - s.get (Reg.URG_TOGGLE k))

/-- SEQ_ENTRY_DONE (R117, R121, R126, R127): the result of the urgent request being served, else that of the entry in progress, once its last
sample has ended. DEDUCED (log entry 35). -/
def execSeqEntryDone (k : Nat) (r : SecRead) (s : State) : Out :=
  let q := s.sq k
  let p := (s.tl k).period
  if 5 < k then done s
  else
    match q.serving.orElse (fun _ => q.run) with
    | none => done s
    | some v =>
      let fin := v.endT p
      match seqPass k fin.1 s with
      | none => done s
      | some s0 =>
        let s1 := bringFor k v r.waves s0
        if q.serving.isSome then
          let (s2, word) := secFinish k v none false r.codes s1
          let s3 := setSeq k { nextUrgent p fin (s2.sq k) with freeAt := fin } s2
          done (if v.recheck then s3 else urgShow k word v.first s3)
        else
          let (s2, _) := secFinish k v (some q.next) q.preempted r.codes s1
          done (seqAdvance k fin (s2.setSq k { s2.sq k with freeAt := fin }))

end Sys2Proof.Machine
end

