-- ==== Sys2Proof/Machine/Tier.lean ====
section
/-!
DEFINITION. The spans of a tier (R17, R18, R26 to R28, R51, R54, R111): sub-windows and spans as they complete, the span record and
the result buffer, records in STORE, and the arrival of results at the base die.
-/

namespace Sys2Proof.Machine

/-- The span whose sub-window `i` completes next: the one just closed, where that one is still due, else the one in progress. -/
def subSpan (s : State) (k i : Nat) : Nat :=
  let p := spanOf s k
  if subEnd p i (nOfCode (s.get (Reg.EFF_SUBWIN k))) ≤ (s.pr k).subDone then (s.tl k).span else p

/-- SUBWINDOW_END (R75, R89, R97, R150): the grains up to the end of sub-window `i` of tier `k` pass, their readings arrive, and its results
form; tier 0 adds its current word. They go to the base die only while the link is up (R27). -/
def execSubwindowEnd (k i : Nat) (cells : List Wave) (cur : Wave) (s : State) : Out :=
  let l := s.tl k
  let n := nOfCode (s.get (Reg.EFF_SUBWIN k))
  let p := subSpan s k i
  let fin := subEnd p i n
  if 5 < k || !l.supplied || l.store || l.calibrating || n ≤ i || fin ≤ (s.pr k).subDone then done s
  else
    let s0 := if fin / 4096 = l.span then s.passGrain (fin % 4096) else s
    let s1 := bring k fin (readings cells cur) s0
    let (s2, w, h) := primSub k i p (s1.setPr k { s1.pr k with subDone := fin })
    let (s3, w2) := if k = 0 then curSub i p s2 else (s2, [])
    let l2 := s3.tl k
    done (s3.when (s3.linkUp k && s3.baseUp) (fun t => t.setTl k { l2 with up := l2.up ++ [⟨p, w ++ w2, [], false, h⟩] }))

/-! ### The span record (R27) -/

/-- `REC_FLAGS` of a span that ran in the states `t` of the tier and `b` of the base die (R27, R54). -/
def recFlags (t b : Nat) (store spare unsync : Bool) : Nat :=
  b01 (t == 3 || b == 3) + 2 * b01 (t == 0 || t == 1 || b == 0 || b == 1) + 4 * b01 store + 8 * b01 spare + 16 * b01 unsync

/-- `TIER_STATUS`: `REF_STATUS` [7:0] in its first byte (R138), then the uses of the two spares and the supply monitor. DESIGN CHOICE (log entry 42). -/
def tierStatus (s : State) (k : Nat) : Nat :=
  s.word (Wd.REF_STATUS k) % 256 + 256 * s.get (Reg.S18_USE k) + 1024 * s.get (Reg.S19_USE k) + 65536 * b01 (s.tl k).supplyLow

/-- The temperatures of a tier as its record holds them. -/
def recTherm (s : State) (k : Nat) : List Nat := (List.range 4).map (fun i => (kvGet (fun _ => (0x8000, 0)) (s.tt k).th i).1)

def recSat (s : State) (k : Nat) : List Nat :=
  (List.range 32).map (fun i => (kvGet (fun _ => (0x8000, 0)) (s.strg (2 * k + i / 16)).sat (i % 16)).1)

/-- The die sensors; an excluded one has a fault (R288, R289). -/
def recDie (s : State) (k : Nat) : List Nat :=
  (List.range 3).map (fun i => if bit (s.get (Reg.DIE_EXCL k)) i then 0x8000 else (kvGet (fun _ => (0x8000, 0)) (s.tt k).die i).1)

/-- The bytes of a span record (R27), its CRC included. -/
def recBytes (r : SpanRec) : List Byte :=
  let body := leBytes 6 r.span ++ leBytes 2 r.flags ++ leBytes 8 r.status ++ r.cells.flatMap (leBytes 4) ++ r.seq.flatMap (leBytes 2)
    ++ r.therm.flatMap (leBytes 2) ++ r.sat.flatMap (leBytes 2) ++ r.die.flatMap (leBytes 2) ++ r.thr.flatMap (leBytes 2)
    ++ leBytes 4 (r.cur.getD 0 0) ++ leBytes 2 (r.cur.getD 1 0) ++ leBytes 4 (r.cur.getD 2 0) ++ leBytes 4 (r.cur.getD 3 0)
    ++ leBytes 2 (r.cur.getD 4 0)
    ++ (List.range 8).flatMap (fun i => match r.evts[i]? with
      | some e => leBytes 4 (e.src % 1024 + 1024 * (e.stamp.grain % 4096))
      | none => [0, 0, 0, 0])
  body ++ leBytes 4 (crc32 body) ++ [0, 0]

/-- The raises of a record that has been overwritten before it was delivered count as unreported (R413). -/
def loseEvts (r : SpanRec) (s : State) : State :=
  (r.evts.filter (fun e => e.mark != 0)).foldl (fun t e =>
    let x := t.latchAt e.src
    t.setLatch e.src { x with unreported := satAdd 16 x.unreported 1 }) s

/-- Write a span record (R26, R28): the buffer holds 256; the oldest is overwritten and counted. -/
def bufAdd (k : Nat) (r : SpanRec) (s : State) : State :=
  let l := s.tl k
  if l.buf.length < 256 then s.setTl k { l with buf := l.buf ++ [r] }
  else (l.buf.take 1).foldl (fun t x => loseEvts x t) (s.setTl k { l with buf := l.buf.drop 1 ++ [r], lost := satAdd 32 l.lost 1 })

/-! ### The tier's own clock (R54) -/

/-- During the span in progress only one lane of the link worked, or none (R27). -/
def lowLane (l : TierLink) : Bool := l.lowSpan || !(l.lane0 && l.lane1)

/-- The span of tier `k` in progress as it closes: its number, stamp, flags, raises, period and step. -/
def closeNow (s : State) (k : Nat) : Closed :=
  let l := s.tl k
  let q := s.pr k
  ⟨l.span, tierStamp s k l.span 0, recFlags l.tstate l.mstate l.store (lowLane l) l.cold, l.evts.filter (fun e => e.stamp.span ≤ l.span), l.period,
    q.stepG, q.before⟩

/-- Close the span in progress without a mark: the tier counts on, and its holdover runs out (R54). -/
def closeOwn (k : Nat) (s : State) : State :=
  let l := s.tl k
  match l.closed with
  | some _ => s
  | none =>
    let n := if l.tstate = 3 then l.tcount + 1 else l.tcount
    let s1 := (s.setTl k { l with closed := some (closeNow s k), span := l.span + 1, evts := l.evts.filter (fun e => l.span < e.stamp.span), tcount := n, marks := 0, jumped := false,
                                  lowSpan := !(l.lane0 && l.lane1) }).setPr k { s.pr k with stepG := 0, before := 0 }
    s1.when (l.tstate = 3 && s.get Reg.HOLDOVER_SPANS ≤ n) (tierInternal 0 k)

/-- The cycles of the active oscillator in a span that no frequency step divides, for the length of the notch (R77, R291). -/
def noteCycles (k : Nat) (chk : TierCheck) (c : Closed) (s : State) : State :=
  if c.stepG != 0 then s
  else s.setSq k { s.sq k with cyc := if s.get (Reg.OSC_ACTIVE k) = 0 then chk.cyc0 else chk.cyc1, cycOf := c.period }

/-- The span `p`, just closed, is done with; each correction of temperature is applied anew (R291). -/
def openSpan (k p : Nat) (s : State) : State :=
  let l := s.tl k
  let s1 := s.setTl k { l with closed := none, overrun := 0, dropped := 0 }
  let s2 := clearCompared k (recheckAtMark k (checkCycle k (p * 4096 + 4096, 0) s1))
  updateNotch k (s2.setTt k { s2.tt k with comp := s2.get (Reg.T_DIE k) })

/-! ### The span (R26, R74 to R110, R137 to R141, R150 to R168) -/

/-- What tier `k` does with a completed span whose closing is recorded in `closed` and whose readings have arrived: results, thresholds,
over-range, audit, current, reference vote, oscillator check, and the span record. -/
def spanResults (k interval deb : Nat) (chk : TierCheck) (c : Closed) (s : State) : State :=
  let p := c.span
  let (s1, words) := primSpan k p c.stepG deb s
  let (s2, fld, cw, detail, fresh) :=
    if k = 0 then curSpan p interval c.period c.stepG c.before (shuntGood chk.regular chk.cmIn s1) else (s1, [0, 0, 0, 0, 0], [], 0, none)
  let s3 := overRange k p words detail fresh s2
  let s4 := if interval = 0 then auditSpan k p words s3 else s3
  let s5 := noteCycles k chk c (oscSpan k c.period chk (voteSpan k (scaledRefs k chk s4) s4))
  let thr := (List.range 18).map (fun i => thrByte s5 k i p (words.getD i 0) + 256 * discByte s5 k i)
  let evts := match (s5.tl k).closed with
    | some d => d.evts
    | none => c.evts
  let q := s5.sq k
  let r : SpanRec :=
    { span := p, stamp := c.stamp, flags := c.flags, status := tierStatus s5 k, cells := words, seq := (List.range 64).map (kvGet (fun _ => 0) q.words),
      therm := recTherm s5 k, sat := recSat s5 k, die := recDie s5 k, thr := thr, cur := fld, evts := evts }
  let s6 := bufAdd k r s5
  let item : UpItem := ⟨p, ((List.range 18).zip words).map (fun w => (WinSlot.word (0x40 + 4 * (18 * k + w.1)), w.2))
    ++ ((List.range 18).zip thr).map (fun w => (WinSlot.half (0x340 + 2 * (18 * k + w.1)), w.2)) ++ cw, [], true, []⟩
  let s7 := if s6.linkUp k && s6.baseUp then
      let l := s6.tl k
      s6.setTl k { l with up := l.up ++ [item] }
    else s6
  openSpan k p s7

/-- TIER_SPAN_END (R26): the span that the last mark closed, or, without a mark, the span in progress; its readings arrive. -/
def execTierSpanEnd (k : Nat) (cells spares : List Wave) (cur : Wave) (chk : TierCheck) (s : State) : Out :=
  let l := s.tl k
  if 5 < k || !l.supplied || l.store || l.calibrating then done s
  else
    let s1 := closeOwn k s
    match (s1.tl k).closed with
    | none => done s1
    | some c => done (spanResults k 0 (s.get (Reg.THR_DEB k)) chk c (bring k (c.span * 4096 + 4096) (readings ((List.range 18).map (fun i => cells.getD i []) ++ spares) cur) s1))

/-! ### Records in STORE (R51, R111, R136, R166) -/

/-- The sequencer of tier `k` at the end of a STORE record's span (R136): a table whose cycle did not fit is cut there, and goes on with its
entry in the span of the next record, where else a new cycle begins. DESIGN CHOICE (log entry 35). -/
def storeCycle (k : Nat) (s : State) : State :=
  let q := s.sq k
  let at_ := (storeStart s k, 0)
  let q1 := if q.storeIdle then { q with storeIdle := false, endAt := at_, cycleFrom := some at_ } else { q with run := none, preempted := false }
  setSeq k { q1 with storeT := q.storeT + 4096 } s

/-- STORE_RECORD (R111): tier `k` integrates one internal span, whose readings arrive, and writes its record. Its flags show FREE_SPAN and no
HOLDOVER. DESIGN CHOICE (log entry 43). -/
def execStoreRecord (k : Nat) (cells : List Wave) (cur : Wave) (chk : TierCheck) (s : State) : Out :=
  let l := s.tl k
  if 5 < k || !l.supplied || !l.store || l.calibrating then done s
  else
    let p := l.span + storeSpans s
    let c : Closed := ⟨p, tierStamp s k p 0, recFlags 0 0 true (lowLane l) l.cold, [], internalPeriod s, 0, 0⟩
    let s1 := bring k (p * 4096 + 4096) (readings cells cur) (s.setTl k { l with closed := some c, span := p, evts := [] })
    done (storeCycle k (spanResults k (s.get Reg.STORE_INT) 0 chk c s1))

/-! ### Arrival at the base die (R18, R26) -/

/-- The raises that a record brings and that were not delivered when they were made are raised now (R29, R413): late where
neither lane was up when they were made. -/
def deliverEvts (r : SpanRec) (s : State) : State :=
  (r.evts.filter (fun e => e.mark != 0)).foldl (fun t e => raiseAt e.src e.value e.stamp (e.mark == 1) false t) s

/-- What the base die's jobs note of the words that arrive: the last measured code of a cell (R247) and a reversal of the current
(R227). -/
def baseNotes (u : UpItem) (s : State) : State :=
  u.words.foldl (fun t w =>
    match w.1 with
    | .word off =>
      if 0x40 ≤ off && off < 0x1F0 then
        if bit w.2 27 || w.2 % 2 ^ 24 = 0x800000 then t
        else { t with fab := { t.fab with vLast := kvSet (fun _ => none) t.fab.vLast ((off - 0x40) / 4) (some (signed 24 w.2)) } }
      else if off = 0x300 then seeRev u.span w.2 t
      else if off = 0x304 then { t with fab := { t.fab with curOld := some w.2 } }
      else t
    | _ => t) s

/-- The base die keeps when a temperature was last valid (R261, R309). -/
def noteTemps (u : UpItem) (s : State) : State :=
  u.temps.foldl (fun t x =>
    if x.2.1 = 0x8000 || x.2.2.1 then t
    else { t with fab := { t.fab with tOk := kvSet (fun _ => 0) t.fab.tOk x.1 (x.2.2.2 / 4096 + 1) } }) s

/-- One item of tier `k` arrives: it is filed, a SOURCE takes its current words, and the record it stands for is released. DEDUCED (log entry 24). -/
def arrive (k : Nat) (u : UpItem) (s : State) : State :=
  let s1 := noteTemps u (baseNotes u (fileItem k u s))
  let s2 := if k = 0 then cbTake u s1 else s1
  if u.isRec then
    let l := s2.tl k
    let s3 := s2.setTl k { l with buf := l.buf.filter (fun r => r.span != u.span) }
    (l.buf.filter (fun r => r.span == u.span)).foldl (fun t r => deliverEvts r t) s3
  else s2

/-- TIER_RESULT_RECEIVED (R18): what is on the link of tier `k` arrives, oldest first. -/
def execTierResultReceived (k : Nat) (s : State) : Out :=
  if !s.ready || !s.linkUp k then done s
  else
    let l := s.tl k
    done (l.up.foldl (fun t u => arrive k u t) (s.setTl k { l with up := [] }))

end Sys2Proof.Machine
end

