-- ==== Sys2Proof/Machine/Plausibility.lean ====
section
/-!
DEFINITION. Temperatures as the base die uses them (R287, R288, R245) and the plausibility check of the sensors (R242 to R246).
Sensors and die sensors go by their READ_TEMPS index: 0 to 215 sensor j, 216 to 233 tier dies, 234 to 241 base dies.
-/

namespace Sys2Proof.Machine

/-- The base die's latest result of a temperature: code, fault, instant + 1 (0: none). -/
def State.seenAt (s : State) (i : Nat) : Nat × Bool × Nat := kvGet (fun _ => (0x8000, false, 0)) s.temps.seen i

/-- The plausibility state of sensor `j` (R249): 0 plausible, 1 IMPLAUSIBLE, 2 UNCHECKED, 3 UNDECIDED. -/
def plState (s : State) (j : Nat) : Nat := bitsOf (s.word (Wd.PL_STATUS (j / 16))) (2 * (j % 16)) 2

/-- Set the plausibility state of a sensor. -/
def setPl (j v : Nat) (s : State) : State :=
  s.putW (Wd.PL_STATUS (j / 16)) (putBits (s.word (Wd.PL_STATUS (j / 16))) (2 * (j % 16)) 2 v)

/-- The span of the latest result of a temperature, + 1 (0: none). -/
def seenSpan (s : State) (i : Nat) : Nat := if (s.seenAt i).2.2 = 0 then 0 else ((s.seenAt i).2.2 - 1) / 4096 + 1

/-- The latest result is more than 64 spans old (R287). -/
def tempStale (s : State) (i : Nat) : Bool := seenSpan s i = 0 || seenSpan s i + 64 < s.clk.span + 1

/-- The valid measured value of a temperature (R287), 1/64 °C. -/
def tempValid (s : State) (i : Nat) : Option Int :=
  let (c, fault, _) := s.seenAt i
  if tempStale s i || fault || c = 0x8000 then none else some (signed 16 c)

/-- `T_i` of the latest check of a sensor. -/
def estOf (s : State) (j : Nat) : Option Int := kvGet (fun _ => none) s.fab.est j

/-- The estimate stands in for the sensor's value (R245). -/
def isEst (s : State) (i : Nat) : Bool := i < 216 && plState s i == 1 && (estOf s i).isSome

/-- The valid value of a temperature as the base die uses it (R245). -/
def tempUse (s : State) (i : Nat) : Option Int := if isEst s i then estOf s i else tempValid s i

/-- The temperature word of R288. -/
def tempWord (s : State) (i : Nat) : Nat :=
  let (c, fault, _) := s.seenAt i
  let at1 := seenSpan s i
  let est := isEst s i
  let code := if est then (estOf s i).elim 0x8000 tempCode else c
  let age := if at1 = 0 then 255 else min 255 (s.clk.span + 1 - at1)
  if at1 = 0 && !est then
    0x00048000 + 65536 * (b01 fault * 2) + 2 ^ 19 * b01 (i < 216 && plState s i == 1)
  else
    code + 2 ^ 16 * b01 est + 2 ^ 17 * b01 fault + 2 ^ 18 * b01 (tempStale s i) + 2 ^ 19 * b01 (i < 216 && plState s i == 1)
      + 2 ^ 24 * age

/-- The hottest of the valid values among some temperatures. -/
def hottest (s : State) (l : List Nat) : Option Int :=
  (l.filterMap (tempUse s)).foldl (fun b t => some (match b with
    | none => t
    | some u => max u t)) none

/-- The temperature that a source field names: a sensor, 253 the hottest mapped sensor of group 0, 254 as the caller gives it
(R285, R309). -/
def tempSource (s : State) (src : Nat) (hot254 : List Nat) : Option Int :=
  if src < 216 then tempUse s src
  else if src = 253 then hottest s ((List.range 216).filter (fun j => s.flag (Reg.MAP_EN j) && s.get (Reg.MAP_GROUP j) == 0))
  else if src = 254 then hottest s hot254
  else none

/-- The die sensors of a tier, and those of the base die. -/
def tierDies (k : Nat) : List Nat := [216 + 3 * k, 217 + 3 * k, 218 + 3 * k]

/-- DEDUCED (log entry 37). -/
def baseDies : List Nat := (List.range 8).map (· + 234)

/-! ### The check (R242 to R246) -/

/-- The neighbours of sensor `j` (R244): index and position. -/
def neighbours (s : State) (j : Nat) : List (Nat × Nat) :=
  let p := s.get (Reg.MAP_POS j)
  ((List.range 216).filter (fun i =>
    i != j && s.flag (Reg.MAP_EN i) && s.get (Reg.MAP_GROUP i) == s.get (Reg.MAP_GROUP j) && plState s i != 1
      && (tempValid s i).isSome
      && (let q := s.get (Reg.MAP_POS i); (if p < q then q - p else p - q) ≤ s.get Reg.NB_RANGE))).map (fun i => (i, s.get (Reg.MAP_POS i)))

/-- The element of a list with the least key, the first of equals. -/
def nearestBy (key : Nat × Nat → Nat) (l : List (Nat × Nat)) : Option (Nat × Nat) :=
  l.foldl (fun b x => match b with
    | none => some x
    | some y => if key x < key y then some x else some y) none

/-- The two neighbours that the check takes, the one whose value counts first where both lie on one side (R244 step 1): their
indices and positions, and whether they lie on both sides. -/
def checkPair (s : State) (j : Nat) : Option ((Nat × Nat) × (Nat × Nat) × Bool) :=
  let p := s.get (Reg.MAP_POS j)
  let ns := neighbours s j
  let below := nearestBy (fun x => p - x.2) (ns.filter (fun x => x.2 ≤ p))
  let above := nearestBy (fun x => x.2 - p) (ns.filter (fun x => p ≤ x.2 && some x != below))
  match below, above with
  | some a, some b => some (a, b, true)
  | _, _ =>
    let dist (x : Nat × Nat) : Nat := if p < x.2 then x.2 - p else p - x.2
    match nearestBy dist ns with
    | none => none
    | some a =>
      match nearestBy dist (ns.filter (fun x => x != a)) with
      | none => none
      | some b => some (a, b, false)

/-- `T_i` of a check (R244 step 1). -/
def checkEst (s : State) (j : Nat) (a b : Nat × Nat) (both : Bool) : Int :=
  let va := (tempValid s a.1).getD 0
  let vb := (tempValid s b.1).getD 0
  let p := s.get (Reg.MAP_POS j)
  if !both || a.2 = b.2 then va
  else va + Config.roundQ ((vb - va) * ((p : Int) - a.2)) (b.2 - a.2)

/-- The plausibility event (R246). -/
def plEvent (j cause : Nat) (diff : Int) (s : State) : State :=
  raise 501 (j + 256 * cause + 65536 * unsigned 16 (clampI (-32768) 32767 diff)) s

/-- Check one sensor (R244). -/
def checkSensor (first : Bool) (j : Nat) (s : State) : State :=
  let dis := kvGet (fun _ => 0) s.fab.plDis j
  let ok := kvGet (fun _ => 0) s.fab.plOk j
  let need := s.get Reg.PL_COUNT + 1
  match checkPair s j with
  | none =>
    let s1 := if plState s j = 1 then s else setPl j 2 s
    s1.when first (plEvent j 3 0)
  | some (a, b, both) =>
    let va := (tempValid s a.1).getD 0
    let vb := (tempValid s b.1).getD 0
    let ti := checkEst s j a b both
    let ts := (tempValid s j).getD 0
    let s1 := { s with fab := { s.fab with est := kvSet (fun _ => none) s.fab.est j (some ti) } }
    let set (d o : Nat) (t : State) : State :=
      { t with fab := { t.fab with plDis := kvSet (fun _ => 0) t.fab.plDis j d, plOk := kvSet (fun _ => 0) t.fab.plOk j o } }
    let diff := Config.roundQ (ts - ti) 4
    if s.get Reg.NB_AGREE * 8 < (va - vb).natAbs then (if plState s1 j = 1 then s1 else setPl j 3 s1)
    else if s.get Reg.PL_TH * 8 < (ts - ti).natAbs then
      let s2 := set (dis + 1) 0 s1
      if plState s j = 1 then s2
      else if need ≤ dis + 1 then plEvent j 1 diff (setPl j 1 (set 0 0 s2))
      else setPl j 0 s2
    else
      let s2 := set 0 (ok + 1) s1
      if plState s j != 1 then setPl j 0 s2
      else if need ≤ ok + 1 then plEvent j 2 diff (setPl j 0 (set 0 0 s2))
      else s2

/-- One instance of SENSOR_CHECK (R242): every mapped sensor with a new result since its last check. -/
def sensorCheck (s : State) : State :=
  (List.range 216).foldl (fun t j =>
    let at1 := (t.seenAt j).2.2
    if t.flag (Reg.MAP_EN j) && (tempValid t j).isSome && at1 != kvGet (fun _ => 0) t.fab.plSeen j then
      checkSensor (bit t.fab.plDue j) j
        { t with fab := { t.fab with plSeen := kvSet (fun _ => 0) t.fab.plSeen j at1, plDue := setBit t.fab.plDue j false } }
    else t) s

end Sys2Proof.Machine
end

