-- ==== Sys2Proof/Machine/Impedance.lean ====
section
/-!
DEFINITION. The spectrum of a cell (R208 to R231): bins and bands, the update of a bin, validity, the record, R_sup (R270), and
the headers of output records (R204). Impedances are in 10 µΩ.
-/

namespace Sys2Proof.Machine

/-- The centre of bin `k` does not exceed `num`/`den` Hz (R208): f_k^16 is 10^(k − 32). -/
def binLe (k num den : Nat) : Bool := 10 ^ k * den ^ 16 ≤ 10 ^ 32 * num ^ 16

/-- The 16th root of a quotient, rounded down. -/
def root16 (a b : Nat) : Nat :=
  let r (n : Nat) : Nat := isqrtFrom 128 n 0
  r (r (r (isqrtFrom 256 (a / b) 0)))

/-- Bin `k` lies above f_top,L at the analysis rate `na` and the present span rate (R211). -/
def aboveTop (s : State) (na k : Nat) : Bool := !binLe k (na * 100000000) s.tb.period

/-! ### The filter correction (R159, R230) -/

/-- f_k of R208, 2⁻⁶⁴ Hz: 10^((k − 32)/16). -/
def binHz (k : Nat) : Int := fxExp (fxLn10 * ((k : Int) - 32) / 16)

/-- ω·τ at f_k, with τ in 10 ns (R230). -/
def omegaTau (k tau : Nat) : Int := 2 * fxMul fxPi (binHz k) * tau / 100000000

/-- (re + j·im) / `den` times (1 + jω·τ_tap) / (1 + jω·τ_sh) (R159, R230), the denominator of the quotient open where it is 0. -/
def filterFix (tap sh k : Nat) (re im den : Int) : Int × Int :=
  let a := omegaTau k tap
  let b := omegaTau k sh
  let x := fxOne + fxMul a b
  let y := a - b
  let d := den * (fxOne + fxMul b b)
  let part (i : Nat) (num : Int) : Int := realQuot (Config.realFn 230 [(i : Int), re, im, k]) num d
  (part 0 (re * x - im * y), part 1 (im * x + re * y))

def State.bin (s : State) (cell k : Nat) : BinVal := kvGet (fun _ => BinVal.none) s.fab.bins (128 * cell + k)

def State.setBin (s : State) (cell k : Nat) (v : BinVal) : State :=
  { s with fab := { s.fab with bins := kvSet (fun _ => BinVal.none) s.fab.bins (128 * cell + k) v } }

/-- The data of an update overlap a settle interval and span no more than 8 of them (R227). DEDUCED (log entry 48). -/
def isSettling (s : State) (from_ spans : Nat) : Bool :=
  let z := s.get Reg.Z_SETTLE
  spans ≤ 8 * z && s.fab.settle.any (fun r => from_ < r + z && r < from_ + spans)

/-- γ² = `num`/`den` in 1/250, to the nearest and rounded down (R213, R226); without a current or a voltage it is open. -/
def cohOf (k : Nat) (num den : Int) : Nat × Nat :=
  if 0 < den then ((clampI 0 250 (divRound (250 * num) den)).toNat, (clampI 0 250 (250 * num / den)).toNat)
  else
    let x := (Config.realFn 213 [(k : Int), num, den]).toNat % 251
    (x, x)

/-- Store an update of a bin with its γ² as `cohOf` gives it (R226, R227): one below the threshold only where the bin holds none that reaches it.
DEDUCED (log entry 48). -/
def storeBin (cell k : Nat) (z : Int × Int) (coh : Nat × Nat) (inj gap : Bool) (from_ spans : Nat) (s : State) : State :=
  let old := s.bin cell k
  let reaches (x : Nat) : Bool := s.get Reg.COH_TH ≤ x
  if reaches coh.2 || old.coh = 255 || !reaches old.whole then
    s.setBin cell k ⟨z.1, z.2, coh.1, inj, isSettling s from_ spans, !reaches coh.2, gap, s.clk.span, coh.2, old.ever || inj⟩
  else s

/-- `BAGE` of a bin (R231). -/
def binAge (s : State) (b : BinVal) : Nat := min 65535 (s.clk.span - b.at_)

/-- A bin is VALID at the present span (R228). -/
def binValid (s : State) (b : BinVal) : Bool :=
  b.coh != 255 && s.get Reg.COH_TH ≤ b.coh && !b.settling && binAge s b ≤ s.get Reg.Z_MAXAGE

/-- The VALID bins of a cell, lowest first. -/
def validBins (s : State) (cell : Nat) : List (Nat × BinVal) :=
  ((List.range 101).map (fun k => (k, s.bin cell k))).filter (fun e => binValid s e.2)

/-- A part of a bin value as its field (R231). -/
def partCode (x : Int) : Nat := unsigned 16 (clampI (-32767) 32767 x)

/-- The bytes of a bin entry (R231). -/
def binBytes (s : State) (na k : Nat) (b : BinVal) : List Byte :=
  let never := 32 * b01 (aboveTop s na k && !b.ever)
  if b.coh = 255 then [0, 0, 0, 0, 255, byte never, 0, 0]
  else
    let flags := b01 (binValid s b) + 2 * b01 b.inj + 4 * b01 b.settling + 8 * b01 b.low
      + 16 * b01 (decide (32767 < b.re.natAbs) || decide (32767 < b.im.natAbs)) + never + 64 * b01 b.gap
    leBytes 2 (partCode b.re) ++ leBytes 2 (partCode b.im) ++ [byte b.coh, byte flags] ++ leBytes 2 (binAge s b)

/-- The crossing of the imaginary part from positive to negative among VALID bins, highest first (R231): the real part there and the position in
1/16 bin. DEDUCED (log entry 48). -/
def crossing : List (Nat × BinVal) → Option (Int × Int)
  | [] => none
  | [_] => none
  | (k, b) :: (l, c) :: rest =>
    let falls := decide (c.im < 0) || (c.im == 0 && (((rest.map (·.2.im)).find? (fun x => x != 0)).any (fun x => decide (x < 0))))
    if 0 < b.im && falls then
      let d := (b.im - c.im).toNat
      some (b.re + Config.roundQ ((c.re - b.re) * b.im) d, 16 * k - Config.roundQ (16 * ((k : Int) - l) * b.im) d)
    else crossing ((l, c) :: rest)

/-- The header of an output record (R204). `stamp` is the timestamp word of the latest span used. -/
def outHeader (s : State) (stamp jobId cell form flags fid fl : Nat) : List Byte :=
  let span := stamp / 4096 % 2 ^ 48
  leBytes 8 stamp ++ leBytes 2 jobId ++ [byte cell, byte (form + 4 * flags)] ++ leBytes 2 fid
    ++ [byte (min 255 (s.clk.span - span)), byte fl]

/-- The effective n of a job code, `SUBWIN` coded. -/
def naNow (s : State) : Nat := nOfCode (s.get Reg.N_A)

/-- The impedance record of a cell (R231), 848 bytes. -/
def zRecord (s : State) (stamp cell flags fl : Nat) : List Byte :=
  let na := naNow s
  let vs := validBins s cell
  let x := crossing vs.reverse
  let b80 := s.bin cell 80
  let left := match s.fab.settle with
    | [] => 0
    | r :: _ => r + s.get Reg.Z_SETTLE - s.clk.span
  outHeader s stamp 1 cell 3 flags na fl
    ++ leBytes 2 (x.elim 0xFFFF (fun p => (clampI 0 65534 p.1).toNat)) ++ leBytes 2 (x.elim 0xFFFF (fun p => (clampI 0 65534 p.2).toNat))
    ++ leBytes 2 (partCode b80.re) ++ leBytes 2 (partCode b80.im)
    ++ [byte (vs.head?.elim 255 (·.1)), byte (vs.getLast?.elim 255 (·.1))] ++ leBytes 2 (kvGet (fun _ => 0) s.fab.excAmp cell)
    ++ leBytes 2 (min 65535 left) ++ [0, 0]
    ++ (List.range 101).flatMap (fun k => binBytes s na k (s.bin cell k)) ++ List.replicate 8 0

/-! ### Filing (R205) -/

/-- File bytes into the filling bank from offset `off`. -/
def fileBytes : Nat → List Byte → State → State
  | _, [], s => s
  | off, b0 :: b1 :: b2 :: b3 :: bs, s =>
    fileBytes (off + 4) bs { s with win := { s.win with filling := bankPut off (leNat [b0, b1, b2, b3]) s.win.filling } }
  | off, bs, s => { s with win := { s.win with filling := bankPut off (leNat bs) s.win.filling } }

/-- Bytes of a bank. -/
def bankBytes (b : Bank) (off n : Nat) : List Byte := (List.range (n / 4)).flatMap (fun i => leBytes 4 (bankWord b (off + 4 * i)))

/-- The offset and size of the entry of a built-in slot and cell (R506). -/
def entryOf (slot cell : Nat) : Option (Nat × Nat) :=
  match slot with
  | 0 => if cell < 108 then some (0x21000 + 848 * cell, 848) else none
  | 1 => if cell < 108 then some (0x38000 + 64 * cell, 64) else none
  | 2 => if cell = 255 then some (0x3A000, 880) else none
  | 3 => if cell = 255 then some (0x3B000, 32) else none
  | 4 => if cell = 255 then some (0x3C000, 448) else none
  | _ => none

/-! ### R_sup (R270) -/

/-- The bin whose range holds 8 times the span rate. -/
def bin8f (s : State) : Nat :=
  let lt (k : Nat) : Bool := 10 ^ (2 * k) * s.tb.period ^ 32 ≤ 10 * (320000000000 : Nat) ^ 32
  ((List.range 101).filter lt).length - 1

/-- The bins of the search, nearest first, the lower one first on a tie. -/
def binSearch (k0 span : Nat) : List Nat :=
  k0 :: (List.range span).flatMap (fun i =>
    (if i + 1 ≤ k0 then [k0 - (i + 1)] else []) ++ (if k0 + i + 1 ≤ 100 then [k0 + i + 1] else []))

/-- The bin that LOOP_EXPECT selects for a cell, with its real part. -/
def selectSup (s : State) (cell : Nat) : Option (Nat × Int) :=
  (binSearch (bin8f s) (s.get Reg.SUP_BIN_SPAN)).findSome? (fun k =>
    let b := s.bin cell k
    if binValid s b then some (k, b.re) else none)

end Sys2Proof.Machine
end

