-- ==== Sys2Proof/Machine/Cubit.lean ====
section
/-!
DEFINITION. A cubit (R177 to R186): the instruction word, descriptors and their lines, banks and stalls, the instructions, and the code of
a host job as an instance runs it. What the spec leaves open of the code (which byte names which operation, the store address of a
transfer, the layout of a constant table entry) is log entry 100.
-/

namespace Sys2Proof.Machine

/-! ### Lines and banks (R181, R183, R184) -/

/-- The lines of an operand of base line `b` and stride `st` (R181). -/
def operandLines (b st : Nat) : List Nat := [b, b + st, b + 2 * st, b + 3 * st]

/-- A descriptor out of the ranges of R181. -/
def descriptorBad (b : Int) (st : Nat) : Bool := b < 0 || 10239 < b || st = 0 || 2559 < st || (st == 1 && b % 4 != 0)

/-- A descriptor fault of an operand (R181). -/
def descriptorFault (b : Int) (st : Nat) : Bool := descriptorBad b st || (operandLines b.toNat st).any (fun l => 10239 < l)

/-- The line of a byte address in cubit SRAM (R183). -/
def lineOf (a : Nat) : Nat := a / 64

/-- The bank of a line (R183). -/
def bankOf (l : Nat) : Nat := bitsOf l 0 4 ^^^ bitsOf l 4 4 ^^^ bitsOf l 8 4 ^^^ bitsOf l 12 2

/-- The row of a line (R183). -/
def rowOf (l : Nat) : Nat := bitsOf l 4 10

/-- The cycles of one repeat (R184): those of its class, or the most lines that fall in one bank. -/
def repeatCycles (cls : Nat) (lines : List Nat) : Nat :=
  ((List.range 16).map (fun b => (lines.filter (fun l => bankOf l == b)).length)).foldl max cls

/-! ### The instruction word (R180) -/

/-- The operations of the instruction classes (R181). -/
inductive CubitOp where
  | fma | add | sub | mul | min_ | max_ | abs | sel
  | special (which : Nat)
  | div | sum64 | max64 | copy | bcast | toFp | fromFp
  | agset | dmaIn | dmaOut | wait | loop_ | branch | signal | end_
deriving DecidableEq, Repr

/-- An instruction word taken apart (R180). -/
structure Insn where
  op    : Nat
  dd    : Nat
  da    : Nat
  db    : Nat
  dc    : Nat
  count : Nat
  neg   : Bool
  setc  : Bool
  ifc   : Bool
  imm   : Nat
deriving DecidableEq, Repr

/-- The fields of a 64-bit word. -/
def insnOf (w : Nat) : Insn :=
  ⟨bitsOf w 0 8, bitsOf w 8 4, bitsOf w 12 4, bitsOf w 16 4, bitsOf w 20 4, bitsOf w 24 16, bit w 40, bit w 41, bit w 42, bitsOf w 48 16⟩

/-- The operations in the order of the table of classes. -/
def cubitOps : List CubitOp :=
  [.fma, .add, .sub, .mul, .min_, .max_, .abs, .sel, .special 0, .special 1, .special 2, .special 3, .div, .sum64, .max64, .copy, .bcast, .toFp,
    .fromFp, .agset, .dmaIn, .dmaOut, .wait, .loop_, .branch, .signal, .end_]

/-- The operation that an operation code names: which code is which is open; a code may name none. DESIGN CHOICE (log entry 100). -/
def opOf (code : Nat) : Option CubitOp := cubitOps[Config.cubitOpcode code]?

/-- The cycles of the class of an operation, without conflicts (R181). -/
def classCycles : CubitOp → Nat
  | .special _ => 4
  | .div => 8
  | .sum64 => 6
  | .max64 => 6
  | _ => 1

/-- The descriptors of the sources that an operation names. -/
def sources (i : Insn) : CubitOp → List Nat
  | .fma => [i.da, i.db, i.dc]
  | .sel => [i.da, i.db, i.dc]
  | .add => [i.da, i.db]
  | .sub => [i.da, i.db]
  | .mul => [i.da, i.db]
  | .min_ => [i.da, i.db]
  | .max_ => [i.da, i.db]
  | .div => [i.da, i.db]
  | .agset => []
  | .dmaIn => []
  | .dmaOut => []
  | .wait => []
  | .loop_ => []
  | .branch => []
  | .signal => []
  | .end_ => []
  | _ => [i.da]

/-! ### Lanes -/

/-- A descriptor that no AGSET has loaded. DESIGN CHOICE (log entry 100). -/
def Desc.reset : Desc := ⟨0, 4, 0⟩

def Cubit.descAt (c : Cubit) (d : Nat) : Desc := kvGet (fun _ => Desc.reset) c.desc d

/-- A word of SRAM: word `i` of a line. -/
def Cubit.word (c : Cubit) (line i : Nat) : Nat := kvGet (fun _ => 0) c.sram (16 * line + i)

def Cubit.setWord (c : Cubit) (line i v : Nat) : Cubit := { c with sram := kvSet (fun _ => 0) c.sram (16 * line + i) (v % 2 ^ 32) }

/-- The 64 lanes of an operand (R181): each of its four lines carries 16. -/
def Cubit.lanes (c : Cubit) (d : Desc) : List Nat := (operandLines d.base.toNat d.stride).flatMap (fun l => (List.range 16).map (c.word l))

def Cubit.setLanes (c : Cubit) (d : Desc) (vs : List Nat) : Cubit :=
  ((List.range 64).zip vs).foldl (fun t x => t.setWord (d.base.toNat + x.1 / 16 * d.stride) (x.1 % 16) x.2) c

/-- One lane of an operation (R182): the result and its flags. -/
def laneOp (i : Insn) (op : CubitOp) (a b c : Nat) : Nat × Nat :=
  match op with
  | .fma => F32.fma i.neg a b c
  | .add => F32.add a b
  | .sub => F32.sub a b
  | .mul => F32.mul i.neg a b
  | .min_ => F32.pick false a b
  | .max_ => F32.pick true a b
  | .abs => F32.abs a
  | .sel => F32.sel a b c
  | .special w => F32.special w a
  | .div => F32.div a b
  | .toFp => F32.fromInt a
  | .fromFp => F32.toInt a
  | _ => (F32.flush a, 0)

/-- All of a list added in pairs until one is left, with the flags so far: which two are next is open (`seed`). -/
def sumInOrder (seed : List Int) : Nat → List Nat → Nat → Nat × Nat
  | 0, vs, f => (vs.headD 0, f)
  | n + 1, vs, f =>
    let i := (Config.realFn 181 ((n : Int) :: seed)).toNat % (max 1 vs.length)
    let rest := vs.eraseIdx i
    let j := (Config.realFn 1811 ((n : Int) :: seed)).toNat % (max 1 rest.length)
    let r := F32.add (vs.getD i 0) (rest.getD j 0)
    sumInOrder seed n (r.1 :: rest.eraseIdx j) (f ||| r.2)

/-- What an arithmetic operation makes of its lanes. The order in which SUM64 adds is open. DESIGN CHOICE (log entry 100). -/
def vectorOp (i : Insn) (op : CubitOp) (a b c : List Nat) : List (Nat × Nat) :=
  match op with
  | .sum64 => [sumInOrder (a.map Int.ofNat) (a.length - 1) a 0]
  | .max64 => [(a.drop 1).foldl (fun (m : Nat × Nat) x => let r := F32.pick true m.1 x; (r.1, m.2 ||| r.2)) (a.headD 0, 0)]
  | .bcast => List.replicate 64 (F32.flush (a.headD 0), 0)
  | _ => (List.range 64).map (fun n => laneOp i op (a.getD n 0) (b.getD n 0) (c.getD n 0))

/-- How an instruction ends. -/
inductive Halt where
  | next (pc : Nat)
  | ended
  | descFault
  | stuck
deriving DecidableEq, Repr

/-- One repeat of an arithmetic instruction (R180, R181, R184): none is a descriptor fault. -/
def repeatOnce (i : Insn) (op : CubitOp) (c : Cubit) : Option Cubit :=
  let src := sources i op
  let ds := (src ++ [i.dd]).map c.descAt
  if ds.any (fun d => descriptorFault d.base d.stride) then none
  else
    let v (n : Nat) : List Nat := match src[n]? with
      | some d => c.lanes (c.descAt d)
      | none => []
    let rs := vectorOp i op (v 0) (v 1) (v 2)
    let lines := ds.flatMap (fun d => operandLines d.base.toNat d.stride)
    let cyc := repeatCycles (classCycles op) lines
    let c1 := c.setLanes (c.descAt i.dd) (rs.map (·.1))
    let c2 := (src ++ [i.dd]).eraseDups.foldl (fun t d =>
      let x := t.descAt d
      { t with desc := kvSet (fun _ => Desc.reset) t.desc d { x with base := x.base + x.step } }) c1
    some { c2 with sticky := rs.foldl (fun m r => m ||| r.2) c2.sticky, busy := c2.busy + cyc, stalls := c2.stalls + (cyc - classCycles op),
                   cond := if i.setc then bit ((rs.headD (0, 0)).1) 31 else c2.cond }

/-- The repeats of an arithmetic instruction. -/
def repeats (i : Insn) (op : CubitOp) : Nat → Cubit → Option Cubit
  | 0, c => some c
  | n + 1, c => (repeatOnce i op c).bind (repeats i op n)

/-! ### The shared store as a job sees it (R179, R186) -/

/-- What a running instance knows of the store: reading a word, and writing one. -/
structure JobEnv where
  slot  : Nat
  word  : Nat → Nat
  mine  : Nat → Bool                -- the image declares the area of an offset

/-- The store line of a transfer: its address is not stated. DESIGN CHOICE (log entry 100). -/
def dmaLine (slot pc : Nat) (i : Insn) : Nat := (Config.realFn 186 [slot, pc, i.dd, i.da, i.imm]).toNat % 65536

/-- A transfer of `IMM` lines at one line a cycle (R186): into SRAM, or out of it with what goes to the store; none is a fault of R201. -/
def transfer (e : JobEnv) (out : Bool) (pc : Nat) (i : Insn) (c : Cubit) : Option (Cubit × List (Nat × Nat)) :=
  let d := c.descAt i.dd
  let l0 := dmaLine e.slot pc i
  let at_ (n : Nat) : Nat := d.base.toNat + n * d.stride
  let offs := (List.range i.imm).map (fun n => 64 * (l0 + n))
  if descriptorBad d.base d.stride || (0 < i.imm && 10239 < at_ (i.imm - 1)) || offs.any (fun o => !e.mine o) then none
  else
    let pairs := (List.range i.imm).flatMap (fun n => (List.range 16).map (fun w => (n, w)))
    let c1 := { c with busy := c.busy + i.imm }
    if out then some (c1, pairs.map (fun p => (64 * (l0 + p.1) + 4 * p.2, c.word (at_ p.1) p.2)))
    else some (pairs.foldl (fun t p => t.setWord (at_ p.1) p.2 (e.word (64 * (l0 + p.1) + 4 * p.2))) c1, [])

/-! ### Running code -/

/-- One instruction at place `pc`: the cubit, what it writes to the store, and how it ends. DESIGN CHOICE (log entry 100). -/
def insnStep (e : JobEnv) (pc : Nat) (c : Cubit) : Cubit × List (Nat × Nat) × Halt :=
  match c.ibuf[pc]? with
  | none => (c, [], .stuck)
  | some w =>
    let i := insnOf w
    let one := { c with busy := c.busy + 1 }
    if i.ifc && !c.cond then (one, [], .next (pc + 1))
    else
      match opOf i.op with
      | none => (c, [], .stuck)
      | some .end_ => (one, [], .ended)
      | some .wait => (one, [], .next (pc + 1))
      | some .signal => ({ one with mailbox := one.mailbox ++ [i.imm] }, [], .next (pc + 1))
      | some .branch => (one, [], .next (if c.cond then i.imm else pc + 1))
      | some .loop_ =>
        let n := kvGet (fun _ => 0) c.loops pc
        if n < i.count then ({ one with loops := kvSet (fun _ => 0) c.loops pc (n + 1) }, [], .next i.imm)
        else ({ one with loops := kvSet (fun _ => 0) c.loops pc 0 }, [], .next (pc + 1))
      | some .agset =>
        let g (n : Nat) : Nat := c.word 0 (4 * i.imm + n)
        let d : Desc := ⟨signed 32 (g 0), g 1, signed 32 (g 2)⟩
        ({ one with desc := kvSet (fun _ => Desc.reset) c.desc i.dd d }, [], .next (pc + 1))
      | some .dmaIn => (transfer e false pc i c).elim (c, [], .descFault) (fun r => (r.1, r.2, .next (pc + 1)))
      | some .dmaOut => (transfer e true pc i c).elim (c, [], .descFault) (fun r => (r.1, r.2, .next (pc + 1)))
      | some op => (repeats i op (i.count + 1) c).elim (c, [], .descFault) (fun r => (r, [], .next (pc + 1)))

/-- Code from `pc` on, for at most so many instructions: the cubit, the words for the store, and how it ended. A word written is read back
by later transfers. -/
def runCode (e : JobEnv) : Nat → Nat → Cubit → List (Nat × Nat) → Cubit × List (Nat × Nat) × Halt
  | 0, pc, c, ws => (c, ws, .next pc)
  | n + 1, pc, c, ws =>
    match insnStep { e with word := fun a => (ws.find? (fun x => x.1 == a)).elim (e.word a) (·.2) } pc c with
    | (c1, w1, .next q) => runCode e n q c1 (w1 ++ ws)
    | (c1, w1, h) => (c1, w1 ++ ws, h)

/-- A cubit with the code and the constant data of an image loaded (R177, R189); its SRAM keeps what the data leaves. -/
def Cubit.load (image : List Byte) (c : Cubit) : Cubit :=
  let codeLen := par image 8 4
  let dataLen := par image 12 4
  let c1 := { c with ibuf := (List.range (codeLen / 8)).map (fun n => par image (64 + 8 * n) 8), desc := [], cond := false, loops := [] }
  (List.range (ceilDiv dataLen 4)).foldl (fun t n =>
    let k := min 4 (dataLen - 4 * n)
    t.setWord (n / 16) (n % 16) (putBits (t.word (n / 16) (n % 16)) 0 (8 * k) (par image (64 + codeLen + 4 * n) k))) c1

/-- The code of an instance begins (R182): its sticky flags and its condition flag are clear. -/
def Cubit.begin_ (c : Cubit) : Cubit := { c with sticky := 0, cond := false, loops := [], mailbox := [] }

end Sys2Proof.Machine
end

