-- ==== Sys2Proof/Machine/History.lean ====
section
/-!
DEFINITION. Jobs and their inputs: the slots, LAG (R193), and the span history (R187, R188) with what comes beside its records.
-/

namespace Sys2Proof.Machine

/-! ### Jobs -/

def State.job (s : State) (slot : Nat) : Job := kvGet (fun _ => Job.reset) s.fab.jobs slot

def State.setJob (s : State) (slot : Nat) (j : Job) : State :=
  { s with fab := { s.fab with jobs := kvSet (fun _ => Job.reset) s.fab.jobs slot j } }

/-- A field of the image of a host job (R189). -/
def imageField (s : State) (slot off len : Nat) : Nat := par (s.job slot).image off len

/-- The period of a slot in spans (R191). -/
def periodOf (s : State) (slot : Nat) : Nat := s.get (Reg.JOB_PERIOD_M1 slot) + 1

/-- The job of a slot runs (R207). -/
def isRunning (s : State) (slot : Nat) : Bool := s.get (Reg.JSTATE slot) == 2

/-- The job consumes span-history records. -/
def usesHist (s : State) (slot : Nat) : Bool := slot < 2 || (8 ≤ slot && bit (imageField s slot 24 4) 0)

/-- The fabric lag event (R206). -/
def lagEvent (cause slot rest : Nat) (s : State) : State := raise 487 (cause + 16 * slot + 256 * (rest % 2 ^ 24)) s

/-- `LAG_ANY` after a change. -/
def lagAny (s : State) : State := s.putFlag Reg.LAG_ANY ((List.range 16).any (fun j => s.flag (Reg.LAG j)))

/-- A job takes LAG (R193). -/
def setLag (slot : Nat) (s : State) : State :=
  if s.flag (Reg.LAG slot) then s
  else
    let s1 := (s.put (Reg.LAG slot) 1).setJob slot { s.job slot with okLag := 0, held := 0 }
    lagEvent 1 slot (s.get (Reg.SKIPPED slot)) (lagAny s1)

/-! ### Span history (R187, R188) -/

/-- Bytes of a span-history record of n sub-windows, padded. -/
def histSize (n : Nat) : Nat := (512 + 436 * n + 63) / 64 * 64

/-- Records that the ring holds. -/
def histDepth (n : Nat) : Nat := 2097152 / histSize n

/-- The shared-store offset of record number `i`. -/
def histOfs (s : State) (i : Nat) : Nat := i % histDepth s.fab.histN * histSize s.fab.histN

/-- A word of the shared store that the model lays out. DEDUCED (log entry 66). -/
def storeWord (s : State) (off : Nat) : Nat := (kvGet (fun _ => (0 : Word)) s.win.store off).toNat

def putStore (off v : Nat) (s : State) : State :=
  { s with win := { s.win with store := kvSet (fun _ => (0 : Word)) s.win.store off (BitVec.ofNat 32 v) } }

/-- Write words into the shared store from an offset. -/
def putWords : Nat → List Nat → State → State
  | _, [], s => s
  | off, w :: ws, s => putWords (off + 4) ws (putStore off w s)

/-- A word of record number `i`. DEDUCED (log entry 82). -/
def histWord (s : State) (i off : Nat) : Nat := storeWord s (histOfs s i + off)

/-- The timestamp word of record number `i`. -/
def histTime (s : State) (i : Nat) : Nat := histWord s i 0 + 2 ^ 32 * histWord s i 4

/-- A run of lost records ends, and is reported with its length (R188, R206). -/
def endLoss (slot : Nat) (s : State) : State :=
  let j := s.job slot
  if j.lost = 0 then s else lagEvent 3 slot (min j.lost (2 ^ 24 - 1)) (s.setJob slot { j with lost := 0 })

/-- A job that has lost `n` records before it has consumed them (R188). -/
def loseRecords (slot n : Nat) (s : State) : State :=
  let j := s.job slot
  (s.bumpBy Reg.INPUT_LOST n).setJob slot { j with gap := true, lost := j.lost + n }

/-- The oldest record is overwritten: a job that has not consumed it loses it (R188). -/
def loseRecord (i slot : Nat) (s : State) : State :=
  if isRunning s slot && usesHist s slot && (s.job slot).next ≤ i then
    let t := loseRecords slot 1 s
    t.setJob slot { t.job slot with next := i + 1 }
  else endLoss slot s

/-- A job whose oldest unconsumed record is more than half the ring old has LAG (R193). -/
def ageLag (slot : Nat) (s : State) : State :=
  if isRunning s slot && usesHist s slot && histDepth s.fab.histN < 2 * (s.fab.histCnt - (s.job slot).next) then setLag slot s else s

/-- Nothing beside a record: its current pairs with no tier's cells. -/
def Beside.none : Beside := ⟨[], 0x3F, [], []⟩

/-- The records that a job has not consumed: of an instance in progress too. -/
def unconsumed (s : State) (slot : Nat) : Nat :=
  if isRunning s slot && usesHist s slot then s.fab.histCnt - ((s.job slot).inst.elim (s.job slot).next (·.first)) else 0

/-- A change of n begins the ring again (R188): its depth is fixed then, and an active job loses what it has not consumed. -/
def histBegin (n : Nat) (s : State) : State :=
  if n = s.fab.histN then s
  else
    let lost (j : Nat) : Nat := min (histDepth s.fab.histN) (unconsumed s j)
    let s1 := (List.range 16).foldl (fun u j => u.when (lost j != 0) (fun t => endLoss j (loseRecords j (lost j) t))) s
    let t := { s1 with fab := { s1.fab with histN := n, histCnt := 0, beside := [] } }
    (List.range 16).foldl (fun u j => u.setJob j { u.job j with next := 0, inst := (u.job j).inst.map (fun x => { x with first := 0, last := 0 }) }) t

/-- Write one record into the ring (R187, R188): its words from offset 0 on, and what comes beside it. A job loses the record that stood in its
place. -/
def histAdd (span : Nat) (ws : List Nat) (beside : Beside) (s : State) : State :=
  let i := s.fab.histCnt
  let n := s.fab.histN
  let d := histDepth n
  let s1 := if d ≤ i then (List.range 16).foldl (fun t j => loseRecord (i - d) j t) s else s
  let o := histOfs s1 i
  let s2 := putWords o (ws ++ List.replicate (histSize n / 4 - ws.length) 0) s1
  let s3 := { s2 with fab := { s2.fab with histCnt := i + 1, beside := kvSet (fun _ => Beside.none) s2.fab.beside (i % d) beside } }
  let s4 := (((s3.put Reg.HIST_SPAN (span % 2 ^ 32)).put Reg.HIST_OFS o).put Reg.HIST_DEPTH d).put Reg.HIST_SIZE (histSize n)
  (List.range 16).foldl (fun t j => ageLag j t) s4

/-- What came beside record number `i`. -/
def histBeside (s : State) (i : Nat) : Beside := kvGet (fun _ => Beside.none) s.fab.beside (i % histDepth s.fab.histN)

/-- The words of a record from its parts. -/
def histWords (time n flags : Nat) (cells : List Nat) (cur : Nat) (subs : List Nat) : List Nat :=
  [time % 2 ^ 32, time / 2 ^ 32, n + 65536 * flags] ++ List.replicate 13 0 ++ cells ++ [cur] ++ List.replicate 3 0 ++ subs

/-- The paired word of a SINK for a sub-window, or NO_RESULT, with the tiers whose cells it does not pair with (R172, R187).
DEDUCED (log entry 41). -/
def pairedWord (s : State) (span i : Nat) : Nat × Nat :=
  match s.cur.paired.find? (fun w => w.1 == span && w.2.1 == i) with
  | some w => w.2.2
  | none => (noResult span, 0x3F)

/-- The current of the span is paired: on a SINK every word of the span came in time; otherwise a converter measures it (R187). DEDUCED (log entry 82). -/
def isPaired (s : State) (ws : List (Nat × Nat)) : Bool :=
  if s.get Reg.CB_ROLE = 2 then ws.all (fun w => w.2 != 0x3F) else s.get Reg.I_SRC != 3

/-- The record of the span in the completed bank (R187). -/
def histOfBank (s : State) : List Nat :=
  let b := s.win.completed
  let time := bankWord b 0 + 2 ^ 32 * bankWord b 4
  let wf := bankWord b 8 / 65536
  let sink := s.get Reg.CB_ROLE == 2
  let subs := (List.range (108 * b.n)).map (fun i => bankWord b (0x1000 + 4 * i))
  let cur := (List.range b.n).map (fun i => if sink then pairedWord s b.span i else (bankWord b (0x1000 + 4 * (108 * b.n + i)), 0))
  let spanCur := if sink then pairedWord s b.span summaryIdx else (bankWord b 0x300, 0)
  let paired := isPaired s (spanCur :: cur)
  let flags := 2 * b01 paired + 4 * b01 (bit wf 6) + 8 * b01 (bit wf 7) + 16 * b.tiers
  histWords time b.n flags ((List.range 108).map (fun c =>
      if bit b.tiers (tierOf c) then bankWord b (0x40 + 4 * c) else noResult b.span)) spanCur.1 (subs ++ cur.map (·.1))

/-- The temperatures in use now (R237): of the mapped sensors of group 0 by position, and of the dies of each tier. -/
def sensNow (s : State) : List (Nat × Int) :=
  (List.range 216).filterMap (fun j =>
    if s.flag (Reg.MAP_EN j) && s.get (Reg.MAP_GROUP j) == 0 then (tempUse s j).map (fun v => (s.get (Reg.MAP_POS j), v)) else none)

def diesNow (s : State) : List (List Int) := (List.range 6).map (fun k => (tierDies k).filterMap (tempUse s))

/-- What comes beside the record of the span `p` (R172, R237, R254): the companion block of I_bal, the temperatures, and the tiers that fail the settings test, on a
SINK against the words it paired and on a SOURCE against its own tier 0. -/
def besideOf (s : State) (p : Nat) : Beside :=
  let bal := (s.bal.ibal.filter (fun e => p * 4096 < e.1 && e.1 ≤ p * 4096 + 4096)).map (fun e => ((e.1 - 1) % 4096 / 256, e.2))
  ⟨bal, match s.get Reg.CB_ROLE with
    | 2 => (s.cur.paired.filter (fun w => w.1 == p)).foldl (fun m w => m ||| w.2.2.2) 0
    | 1 => cbFailing s (cbCfg s 0)
    | _ => 0, sensNow s, diesNow s⟩

/-- SPAN_HISTORY_WRITE (R187): after the results of a span have been filed, its record is written, once. DEDUCED (log entry 45). -/
def execSpanHistoryWrite (s : State) : Out :=
  let b := s.win.completed
  if s.ready && s.win.swapped && s.fab.histLive != b.span + 1 then
    let s1 := histAdd b.span (histOfBank s) (besideOf s b.span) (histBegin b.n s)
    done { s1 with fab := { s1.fab with histLive := b.span + 1 } }
  else done s

/-- The record of a drained span of one tier (R30, R187): span results only. DEDUCED (log entry 45). -/
def histDrained (s : State) (k : Nat) (r : SpanRec) : List Nat :=
  let none_ := noResult r.span
  let cells := (List.range 108).map (fun c => if tierOf c = k then r.cells.getD (localOf c) none_ else none_)
  let paired := k = 0 && s.get Reg.I_SRC != 3
  histWords (stampWord r.stamp) 0 (1 + 2 * b01 paired + 4 * b01 r.stamp.tq + 16 * 2 ^ k) cells (if paired then r.cur.getD 0 none_ else none_) []

end Sys2Proof.Machine
end

