-- ==== Sys2Proof/Machine/Ensemble.lean ====
section
/-!
DEFINITION. The ENSEMBLE job (R232 to R241): packs and the temperature of a cell, the ensemble of a cell with its propagation, weighting,
resampling and reseed, and the quantities it puts out. Real quantities are held in 2⁻³²; the model's dynamics, likelihoods and draws are open
functions of what they depend on (log entry 93).
-/

namespace Sys2Proof.Machine

/-- One in the units of the ensemble. -/
def one32 : Int := 4294967296

/-! ### Packs (R233, R235, R237) -/

/-- The slot of the model of a cell (R235). -/
def modelSlot (s : State) (c : Nat) : Nat := bitsOf (s.word (Wd.CELL_MODEL (c / 16))) (2 * (c % 16)) 2

/-- The model pack of a cell. -/
def packOf (s : State) (c : Nat) : List Byte := kvGet (fun _ => ([] : List Byte)) s.fab.packs (modelSlot s c)

/-- A field of its header. -/
def packField (s : State) (c off len : Nat) : Nat := par (packOf s c) off len

/-- Where a table of a pack lies (R233): points along both axes, columns and offset. -/
def packDir (pk : List Byte) (id : Nat) : Option (Nat × Nat × Nat × Nat) :=
  ((List.range (par pk 6 2)).find? (fun i => par pk (64 + 12 * i) 1 == id)).map (fun i =>
    let e := 64 + 12 * i
    (2 ^ (par pk (e + 1) 1 % 16), 2 ^ (par pk (e + 1) 1 / 16), par pk (e + 2) 2, par pk (e + 4) 4))

/-- A value of a table of a pack (R233), as a binary32 word. -/
def packValue (pk : List Byte) (id n : Nat) : Nat := (packDir pk id).elim 0 (fun d => par pk (d.2.2.2 + 4 * n) 4)

/-- A binary32 word in 2⁻³². -/
def fixOf (w : Nat) : Int :=
  match F32.toVal w with
  | .fin neg m e =>
    let (n, d) := F32.scaled m 1 (e + 32)
    if neg then -((n / d : Nat) : Int) else ((n / d : Nat) : Int)
  | _ => 0

/-- The place of `num`/`den` on an axis of `n` points evenly spaced from 0 to 1: the point below and the fraction to the next, in 2⁻³². Beyond
an end of the axis the end counts. DESIGN CHOICE (log entry 93). -/
def axisAt (n : Nat) (num den : Int) : Nat × Int :=
  if n ≤ 1 || den ≤ 0 then (0, 0)
  else
    let x := clampI 0 ((n - 1 : Nat) * one32) (num * (n - 1 : Nat) * one32 / den)
    let i := min (n - 2) (x / one32).toNat
    (i, x - i * one32)

/-- The value a part `u` of the way from `a` to `b`. -/
def lerp (a b u : Int) : Int := a + Config.roundQ ((b - a) * u) (2 ^ 32)

/-- Column `col` of table `id` at a point `soc` of its first axis, in 2⁻³², and a temperature, linear between grid points (R233), in 2⁻³². -/
def packAt (pk : List Byte) (id col : Nat) (soc temp : Int) : Int :=
  match packDir pk id with
  | none => 0
  | some (sp, tp, cols, _) =>
    let lo := signed 16 (par pk 28 2)
    let (i, u) := axisAt sp soc one32
    let (j, v) := axisAt tp (temp - lo) (signed 16 (par pk 30 2) - lo)
    let z (a b : Nat) : Int := fixOf (packValue pk id (((j + b) * sp + i + a) * cols + col))
    lerp (lerp (z 0 0) (z 1 0) u) (lerp (z 0 1) (z 1 1) u) v

/-- The temperature of a cell (R237) and `T_EST`, from the sensors of group 0 in use and the dies. With no value at all it is open. -/
def cellTempOf (sens : List (Nat × Int)) (dies : List (List Int)) (c : Nat) : Int × Bool :=
  let p := 4 * c + 2
  let ix := (List.range sens.length).zip (sens.map (·.1))
  let v (x : Nat × Nat) : Int := (sens.getD x.1 (0, 0)).2
  match nearestBy (fun x => p - x.2) (ix.filter (fun x => x.2 ≤ p)), nearestBy (fun x => x.2 - p) (ix.filter (fun x => p ≤ x.2)) with
  | some a, some b =>
    if a.2 = b.2 then (v a, false) else (v a + Config.roundQ ((v b - v a) * ((p : Int) - a.2)) (b.2 - a.2), false)
  | some a, none => (v a, false)
  | none, some b => (v b, false)
  | none, none =>
    let ds := dies.getD (tierOf c) []
    if ds.isEmpty then (Config.realFn 237 [c], true)
    else (Config.roundQ (ds.foldl (· + ·) 0) ds.length, true)

/-- That of the present instant. -/
def cellTemp (s : State) (c : Nat) : Int × Bool := cellTempOf (sensNow s) (diesNow s) c

/-- A temperature outside the pack's range (R237). -/
def tempOut (s : State) (c : Nat) (t : Int) : Bool := t < signed 16 (packField s c 28 2) || signed 16 (packField s c 30 2) < t

/-! ### What the records of a span give a cell (R236 to R238) -/

/-- The pack span current of record `i` for a cell, mA: none where there is none, or none that pairs with it. -/
def recCurrent (s : State) (i c : Nat) : Option Int :=
  let w := histWord s i 496
  let sink := s.get Reg.CB_ROLE == 2
  if w % 2 ^ 24 = 0x800000 || (sink && !bit (histWord s i 8) 17) || bit (histBeside s i).unpaired (tierOf c) then none
  else some (signed 24 w)

/-- The balancing and excitation current of a cell over the span of record `i`: the mean of its 16 intervals (R254). -/
def recBal (s : State) (i c : Nat) : Int :=
  let b := (histBeside s i).bal
  if b.isEmpty then 0 else Config.roundQ ((b.map (fun e => e.2.getD c 0)).foldl (· + ·) 0) b.length

/-- What the records of a span hold for a cell. -/
structure CellObs where
  span  : Nat
  cur   : Option Int                -- pack current, mA
  bal   : Int
  word  : Nat
  outV  : Bool                      -- the voltage lies outside the pack's range
  temp  : Int
  tEst  : Bool
deriving DecidableEq, Repr

/-- The span of record `i`. -/
def recSpan (s : State) (i : Nat) : Nat := histTime s i / 4096 % 2 ^ 48

/-- The records `is` of a span for a cell (R187, R238): a drained span has one record a tier; the voltage stands in that of the cell's tier, and
the current in that of tier 0. -/
def obsOf (s : State) (c span : Nat) (is : List Nat) : CellObs :=
  let w := (is.find? (fun i => bit (histWord s i 8) (20 + tierOf c))).elim (noResult span) (fun i => histWord s i (64 + 4 * c))
  let lo : Int := packField s c 24 2
  let hi : Int := packField s c 26 2
  let b := histBeside s (is.headD 0)
  let (t, est) := cellTempOf b.sens b.dies c
  ⟨span, is.findSome? (fun i => recCurrent s i c), (is.find? (fun i => !bit (histWord s i 8) 16)).elim 0 (fun i => recBal s i c), w,
    w % 2 ^ 24 != 0x800000 && (decide (signed 24 w < 100 * lo) || decide (100 * hi < signed 24 w)), t, est⟩

/-- A number put in its place in a rising list. -/
def insertNat (x : Nat) : List Nat → List Nat
  | [] => [x]
  | y :: ys => if x < y then x :: y :: ys else if x = y then y :: ys else y :: insertNat x ys

/-- What records give a cell, span by span. -/
def obsList (s : State) (c : Nat) (rs : List Nat) : List CellObs :=
  (rs.foldl (fun l i => insertNat (recSpan s i) l) []).map (fun p => obsOf s c p (rs.filter (fun i => recSpan s i == p)))

/-- No observation (R238): no result, or only one with EST. -/
def CellObs.none_ (o : CellObs) : Bool := bit o.word 27 || o.word % 2 ^ 24 == 0x800000

/-- The result that weights the members (R236): one without OR, DS and EST. -/
def CellObs.weighs (o : CellObs) : Option Int :=
  if o.none_ || bit o.word 24 || bit o.word 25 || o.outV then none else some (signed 24 o.word)

/-! ### Members (R232, R236) -/

/-- What the model of a cell depends on besides the member: the pack, and the temperature. -/
structure ModelAt where
  pack : List Byte
  temp : Int
deriving DecidableEq, Repr

/-- The stoichiometries at 0 % and 100 % of table 9 (R233): of the anode, or of the cathode. DESIGN CHOICE (log entry 93). -/
def endPoints (pk : List Byte) (cathode : Bool) : Int × Int :=
  let v (n : Nat) : Int := fixOf (packValue pk 9 ((if cathode then 2 else 0) + n))
  (v 0, v 1)

/-- The state of charge (R232): the mean anode stoichiometry scaled between the 0 % and 100 % points of table 9. -/
def Member.soc (pk : List Byte) (m : Member) : Int :=
  let (a, b) := endPoints pk false
  realQuot (Config.realFn 2324 [m.avg, a, b]) ((m.avg - a) * one32) (b - a)

/-- The sum of the states from `i` to `i` + `n` − 1. -/
def Member.modes (i n : Nat) (m : Member) : Int := ((List.range n).map (fun j => m.x.getD (i + j) 0)).foldl (· + ·) 0

/-- The surface stoichiometries of anode and cathode (R232): the diffusion modes on the mean. -/
def Member.surface (pk : List Byte) (m : Member) : Int × Int :=
  let (a, b) := endPoints pk true
  (m.avg + m.modes 0 8, a + Config.roundQ ((b - a) * m.soc pk) (2 ^ 32) + m.modes 8 8)

/-- What the pack's tables 1 to 7 give at the state and temperature of a member (R233). -/
def Member.tables (p : ModelAt) (m : Member) : List Int :=
  let soc := m.soc p.pack
  let (an, ca) := m.surface p.pack
  let row (id n : Nat) : List Int := (List.range n).map (fun i => packAt p.pack id i soc p.temp)
  [packAt p.pack 1 0 ca p.temp, packAt p.pack 2 0 an p.temp] ++ row 3 20 ++ row 4 20 ++ row 5 2 ++ row 6 4 ++ row 7 2

/-- What the model's equations depend on: the inputs, the member, and the pack at its state. -/
def Member.args (p : ModelAt) (cur : Int) (m : Member) : List Int := [cur, p.temp] ++ m.x ++ m.f ++ [m.avg] ++ m.tables p

/-- The mean anode stoichiometry that a charge of `num`/`den` A·s moves, for a capacity of `cap` in 2⁻³² of 1/16 A·s. DEDUCED (log entry 93). -/
def socMove (pk : List Byte) (cap num : Int) (den : Nat) : Int :=
  let (a, b) := endPoints pk false
  realQuot (Config.realFn 2327 [cap, num]) (16 * num * one32 * (b - a)) (cap * den)

/-- The states of a member after `dt` 2.5 ns units at a current (R232): h stays within −1 and +1, and the charge moves the mean stoichiometry. The
model's equations are open. DESIGN CHOICE (log entry 93). -/
def Member.propagate (p : ModelAt) (cur : Int) (dt : Nat) (m : Member) : Member :=
  { m with
    x := (List.range 24).map (fun (j : Nat) =>
      let v := Config.realFn 2321 ([(j : Int), (dt : Int)] ++ m.args p cur)
      if j = 22 then clampI (-one32) one32 v else v)
    avg := m.avg + socMove p.pack (m.f.getD 0 0 * (par p.pack 20 4 : Int)) (cur * dt) 400000000000 }

/-- The terminal voltage, 1 µV. DESIGN CHOICE (log entry 93). -/
def Member.volts (p : ModelAt) (cur : Int) (m : Member) : Int := Config.realFn 2322 (m.args p cur)

/-- The anode surface potential against lithium, 1 µV. -/
def Member.anode (p : ModelAt) (cur : Int) (m : Member) : Int := Config.realFn 2323 (m.args p cur)

/-- Table 7's hysteresis amplitude at the member's state, 1 µV. -/
def Member.hystAmp (p : ModelAt) (m : Member) : Int := Config.roundQ (1000000 * packAt p.pack 7 0 (m.soc p.pack) p.temp) (2 ^ 32)

/-- Table 5's ohmic and film resistance at the member's state times its resistance factor, 10 µΩ. -/
def Member.ohmic (p : ModelAt) (m : Member) : Int :=
  let r := packAt p.pack 5 0 (m.soc p.pack) p.temp + packAt p.pack 5 1 (m.soc p.pack) p.temp
  Config.roundQ (100000 * r * m.f.getD 1 0) (2 ^ 64)

/-- The weights after an observation from which the members' predictions differ by `err`, of standard deviation `sd` (R236): times the Gaussian
likelihood, up to a factor that is common to all and falls out when they are normalised. -/
def weighAll (sd : Int) (err : Member → Int) (ms : List Member) : List Member :=
  let q (m : Member) : Int := err m * err m
  let least := (ms.filter (fun m => decide (0 < m.w))).foldl (fun b m => some (b.elim (q m) (min (q m)))) (none : Option Int)
  ms.map (fun m => { m with w := Config.roundQ (m.w * fxExp (-(q m - least.getD 0) * fxOne / (2 * sd * sd))) (2 ^ 64) })

/-- The sum of the weights. -/
def wSum (ms : List Member) : Int := (ms.map (·.w)).foldl (· + ·) 0

/-- The weighted mean of a quantity over the members (R239); without weight it is open. -/
def wMean (ms : List Member) (g : Member → Int) : Int :=
  let w := wSum ms
  let t := (ms.map (fun m => m.w * g m)).foldl (· + ·) 0
  if 0 < w then Config.roundQ t w.toNat else Config.realFn 239 [t, w]

/-- The square root of a square in the same units, rounded down. -/
def rootOf (x : Int) : Int := isqrtFrom 128 x.toNat 0

/-- The weighted standard deviation (R239). -/
def wSd (ms : List Member) (g : Member → Int) : Int :=
  let u := wMean ms g
  rootOf (wMean ms (fun m => (g m - u) * (g m - u)))

/-- The weighted fraction of members that meet a condition, in 2⁻³². -/
def wPart (ms : List Member) (p : Member → Bool) : Int := wMean ms (fun m => if p m then one32 else 0)

/-- The weights normalised to a sum of 1. -/
def normalise (ms : List Member) : List Member :=
  let w := wSum ms
  ms.map (fun m => { m with w := if 0 < w then Config.roundQ (m.w * one32) w.toNat else Config.realFn 2362 [m.w, w] })

/-- Σw² of normalised weights, in 2⁻⁶⁴: the effective sample size is its reciprocal (R236). -/
def sqSum (ms : List Member) : Int := (ms.map (fun m => m.w * m.w)).foldl (· + ·) 0

/-- The effective sample size 1/Σw² as the record carries it, to a whole number. -/
def effSize (ms : List Member) : Nat := if 0 < sqSum ms then (Config.roundQ (one32 * one32) (sqSum ms).toNat).toNat else 0

/-- The member that holds the point `u` of the cumulative weights. -/
def memberAt : Int → List Member → Option Member
  | _, [] => none
  | u, m :: ms => if u < m.w || ms.isEmpty then some m else memberAt (u - m.w) ms

/-- Systematic resampling to `m` members of equal weight from an offset that is drawn (R198, R236). -/
def resample (m seed : Nat) (ms : List Member) : List Member :=
  let step := one32 / (max 1 m : Nat)
  let u0 := (Config.realFn 2363 [seed]) % (max 1 step)
  (List.range m).filterMap (fun (j : Nat) => (memberAt (u0 + j * step) ms).map (fun x => { x with w := step }))

/-- A Gaussian jitter of the standard deviation of table 8 on each factor (R236). -/
def jitter (pk : List Byte) (seed : Nat) (ms : List Member) : List Member :=
  ((List.range ms.length).zip ms).map (fun e => { e.2 with f := ((List.range 6).zip e.2.f).map (fun g =>
    g.2 + Config.realFn 2364 [seed, e.1, g.1, fixOf (packValue pk 8 (3 * g.1 + 2))]) })

/-! ### Mean and covariance -/

/-- Quantity `i`: a state, a factor, or (30) the mean anode stoichiometry. -/
def Member.q (i : Nat) (m : Member) : Int := if i < 24 then m.x.getD i 0 else if i < 30 then m.f.getD (i - 24) 0 else m.avg

/-- A mean as one member. -/
def asMember (mean : List Int) : Member := ⟨mean.take 24, (mean.drop 24).take 6, mean.getD 30 0, one32⟩

/-- The members of an ensemble, or in TRACK form its mean as one. -/
def Ens.sample (e : Ens) : List Member := if e.members.isEmpty then [asMember e.mean] else e.members

def meanOf (ms : List Member) : List Int := (List.range 31).map (fun i => wMean ms (·.q i))

/-- The covariance of the members, row by row. -/
def covOf (ms : List Member) : List Int :=
  let u := meanOf ms
  (List.range 31).flatMap (fun i => (List.range 31).map (fun j =>
    Config.roundQ (wMean ms (fun m => (m.q i - u.getD i 0) * (m.q j - u.getD j 0))) (2 ^ 32)))

/-- `m` members drawn from N(mean, cov) with equal weights (R198, R240). -/
def drawMembers (m seed : Nat) (mean cov : List Int) : List Member :=
  (List.range m).map (fun (j : Nat) =>
    let v (i : Nat) : Int := Config.realFn 2404 ([(seed : Int), (j : Int), (i : Int)] ++ mean ++ cov)
    ⟨(List.range 24).map v, (List.range 6).map (fun i => v (24 + i)), v 30, one32 / (max 1 m : Nat)⟩)

/-- A covariance whose quantity `i` is scaled by `num i / den` and then takes the variance that `var i` gives, without the others'. -/
def covScale (num : Nat → Int) (den : Nat) (var : Nat → Option Int) (cov : List Int) : List Int :=
  ((List.range 961).zip cov).map (fun e =>
    let i := e.1 / 31
    let j := e.1 % 31
    match var i, var j with
    | some v, _ => if i = j then v else 0
    | none, some _ => 0
    | none, none => Config.roundQ (e.2 * num i * num j) (den * den))

/-- An ensemble as mean and covariance. -/
def Ens.collapse (e : Ens) : Ens := if e.members.isEmpty then e else { e with mean := meanOf e.members, cov := covOf e.members, members := [] }

/-! ### Reseed (R238, R240) -/

/-- The variance that `g` spans without a current add to the state of charge (R238), in 2⁻³². -/
def gapVar (s : State) (c : Nat) (factor : Int) (g : Nat) : Int :=
  let q := factor * (packField s c 20 4 : Int)
  let num : Int := ((s.get Reg.GAP_IBOUND * 16 * g * s.tb.period : Nat) : Int) * one32
  if 0 < q then Config.roundQ (num * num * one32) (q.toNat * q.toNat * 3 * (4000000000 * 4000000000)) else Config.realFn 238 [num, q]

/-- The module holds the current sensor. -/
def holdsSensor (s : State) : Bool := s.get Reg.I_SRC != 3 && s.get Reg.CB_ROLE != 2

/-- A mean with a charge `dq` (2⁻¹⁶ A·s) added to its state of charge. -/
def addCharge (pk : List Byte) (cap dq : Int) (mean : List Int) : List Int :=
  mean.take 30 ++ [mean.getD 30 0 + socMove pk cap dq 65536]

/-- A covariance with a variance `v` added to the state of charge. -/
def addSocVar (pk : List Byte) (v : Int) (cov : List Int) : List Int :=
  let (a, b) := endPoints pk false
  cov.take 960 ++ [cov.getD 960 0 + Config.roundQ (v * (b - a) * (b - a)) (2 ^ 64)]

/-- A pack as the arguments of the open functions. -/
def packInts (pk : List Byte) : List Int := pk.map (fun b => (b.toNat : Int))

/-- The mean and covariance that the priors of a pack give (R240): the factors from table 8; the prior of a state is open. -/
def priors (pk : List Byte) : List Int × List Int :=
  let f (j n : Nat) : Int := fixOf (packValue pk 8 (3 * j + n))
  let open_ (n i : Nat) : Int := Config.realFn n ([(i : Int)] ++ packInts pk)
  ((List.range 31).map (fun (i : Nat) => if 24 ≤ i && i < 30 then f (i - 24) 0 else open_ 2403 i),
   (List.range 961).map (fun e =>
     let i := e / 31
     if i != e % 31 then 0
     else if 24 ≤ i && i < 30 then Config.roundQ (f (i - 24) 1 * f (i - 24) 1) (2 ^ 32)
     else open_ 2405 i))

/-- Steps 2 to 4 of a reseed (R240): dynamic states that have relaxed go to zero with their prior variance, others keep their value at four times the
variance (`old`); the variance of h is 1/3, and the factors' deviations grow by a tenth. -/
def reshape (pk : List Byte) (relaxed old : Bool) (mean cov : List Int) : List Int × List Int :=
  let dyn (i : Nat) : Bool := i < 22 || i == 23
  let (_, pc) := priors pk
  (((List.range 31).zip mean).map (fun e => if relaxed && dyn e.1 then 0 else e.2),
   covScale (fun i => if dyn i then (if old then 20 else 10) else if 24 ≤ i && i < 30 then 11 else 10) 10
     (fun i => if i = 22 then some (one32 / 3) else if relaxed && dyn i then some (pc.getD (32 * i) 0) else none) cov)

/-- The ensemble of a cell rebuilt from a mean and covariance of span `at_` with `CHG_NET` as `net` then (R240), in mean and covariance. -/
def rebuild (s : State) (c at_ : Nat) (net : Int) (mean cov : List Int) : Ens :=
  let pk := packOf s c
  let g := s.clk.span - at_
  let dq := s.cur.net - net
  let cap := mean.getD 24 one32 * (packField s c 20 4 : Int)
  let (m1, c1) := if holdsSensor s then
      (addCharge pk cap dq mean,
       addSocVar pk (realQuot (Config.realFn 240 [dq, cap]) ((dq * one32) * (dq * one32) * one32) (cap * cap * 10000 * 4096 * 4096)) cov)
    else (mean, addSocVar pk (gapVar s c (mean.getD 24 one32) g) cov)
  let (m2, c2) := reshape pk (packField s c 40 4 * 400000000 < g * s.tb.period) true m1 c1
  ⟨[], m2, c2, s.clk.span, 0, 0, 0⟩

/-- A new ensemble of a cell: from its checkpoint, or from the pack's priors, which no span has aged (R240). DESIGN CHOICE (log entry 93). -/
def seed (s : State) (c : Nat) : Ens :=
  match kvGet (fun _ => none) s.fab.ckpt c with
  | some k => rebuild s c k.span k.net k.mean k.cov
  | none =>
    let (m0, v0) := priors (packOf s c)
    let (m, v) := reshape (packOf s c) false false m0 v0
    ⟨[], m, v, s.clk.span, 0, 0, 0⟩

/-- An ensemble in the form and with the member count in force (R198): fewer members by resampling, more drawn from mean and covariance. -/
def Ens.inForm (form m rnd : Nat) (e : Ens) : Ens :=
  if form != 0 then e.collapse
  else if e.members.isEmpty then { e with members := drawMembers m rnd e.mean e.cov }
  else if m < e.members.length then { e with members := resample m rnd (normalise e.members) }
  else if e.members.length < m then
    let k := e.members.length
    let old := (normalise e.members).map (fun x => { x with w := Config.roundQ (x.w * k) m })
    { e with members := old ++ drawMembers (m - k) rnd (meanOf e.members) (covOf e.members) }
  else e

/-! ### An update (R236, R239) -/

/-- What an update yields for the record of a cell (R241): its fields from `SOC` to `ESS`, and whether it resampled. -/
structure EnsOut where
  cell : Nat
  soc : Nat
  socSd : Nat
  cap : Nat
  capSd : Nat
  rgrow : Nat
  rgrowSd : Nat
  hyst : Int
  hystV : Int
  plate : Nat
  margin : Int
  accept : Nat
  vResid : Int
  ess : Nat
  temp : Int
  eflags : Nat
  resampled : Bool
deriving DecidableEq, Repr

/-- An update in progress: the ensemble, the sum of the residuals and their number (`V_RESID`), the bits [4:1] of `EFLAGS`, and the temperature and the
current of the latest span. -/
structure Upd where
  ens : Ens
  sum : Int
  cnt : Nat
  flags : Nat
  temp : Int
  cur : Int
deriving DecidableEq, Repr

/-- After a gap in the current (R238) the state of charge is less certain: of members by a draw of that variance. -/
def closeGap (s : State) (c rnd : Nat) (e : Ens) : Ens :=
  if e.gapLen = 0 then e
  else if e.members.isEmpty then
    { e with gapLen := 0, cov := addSocVar (packOf s c) (gapVar s c (e.mean.getD 24 one32) e.gapLen) e.cov }
  else
    let v := gapVar s c (wMean e.members (fun m => m.f.getD 0 0)) e.gapLen
    { e with gapLen := 0, members := ((List.range e.members.length).zip e.members).map (fun x => { x.2 with
        avg := x.2.avg + Config.realFn 2381 [(rnd : Int), (x.1 : Int), v] }) }

/-- The ensemble of a cell goes on by `dt` 2.5 ns units under a current, and is weighted by a voltage where there is one (R236 steps 1 and 2); a
Kalman estimate takes both in one open step, in which h stays within −1 and +1. -/
def Ens.advance (p : ModelAt) (cur : Int) (dt : Nat) (sd : Int) (v : Option Int) (e : Ens) : Ens :=
  if e.members.isEmpty then
    let args (i : Nat) : List Int := [(i : Int), (dt : Int), sd, v.elim 0 (fun _ => 1), v.getD 0] ++ (asMember e.mean).args p cur ++ e.cov
    { e with mean := (List.range 31).map (fun i =>
               let y := Config.realFn 2365 (args i)
               if i = 22 then clampI (-one32) one32 y else y)
             cov := (List.range 961).map (fun i => Config.realFn 2366 (args i)) }
  else
    let ms := e.members.map (·.propagate p cur dt)
    { e with members := v.elim ms (fun x => weighAll sd (fun m => m.volts p cur - x) ms) }

/-- The results of a span come to an ensemble (R236 steps 1 and 2, R237, R238); spans between them and the last that no record holds pass without a
current. -/
def ensSpan (s : State) (c : Nat) (u : Upd) (o : CellObs) : Upd :=
  let p : ModelAt := ⟨packOf s c, o.temp⟩
  let sd : Int := 10 * packField s c 38 2
  let out := tempOut s c o.temp
  let v := if out then none else o.weighs
  let miss := o.span - u.ens.upTo
  let e0 := if miss = 0 then u.ens else { u.ens.advance p 0 (miss * s.tb.period) sd none with gapLen := u.ens.gapLen + miss }
  let cur := o.cur.elim 0 (· + o.bal)
  let e1 := if o.cur.isNone then { e0 with gapLen := e0.gapLen + 1 } else closeGap s c o.span e0
  let pred := wMean (e1.sample.map (·.propagate p cur s.tb.period)) (·.volts p cur)
  let e2 := e1.advance p cur s.tb.period sd v
  { ens := { e2 with upTo := o.span + 1, vNow := pred, vGood := if o.none_ then e2.vGood else pred }
    sum := u.sum + v.elim 0 (pred - ·)
    cnt := u.cnt + b01 v.isSome
    flags := u.flags ||| (2 * b01 (out || o.outV) + 4 * b01 (o.cur.isNone || miss != 0) + 8 * b01 o.tEst + 16 * b01 (o.none_ || miss != 0))
    temp := o.temp
    cur := cur }

/-- The observation of the resistance by a bin (R236 step 3). -/
def ensZ (s : State) (c : Nat) (t : Int) (e : Ens) : Ens :=
  let k := packField s c 19 1
  let b := s.bin c k
  if s.flag Reg.ENS_Z_OBS && k ≤ 100 && binValid s b then
    let p : ModelAt := ⟨packOf s c, t⟩
    let sd : Int := max 20 (Config.roundQ (2 * rootOf (b.re * b.re + b.im * b.im)) 100)
    if e.members.isEmpty then
      let args (i : Nat) : List Int := [(i : Int), b.re, sd] ++ (asMember e.mean).args p 0 ++ e.cov
      { e with mean := (List.range 31).map (fun i => Config.realFn 2367 (args i)), cov := (List.range 961).map (fun i => Config.realFn 2368 (args i)) }
    else { e with members := weighAll sd (fun m => m.ohmic p - b.re) e.members }
  else e

/-- The largest current in 100 mA, found by bisection over 16 bits, for which a condition holds that larger currents lose (R239). -/
def bisect (ok : Nat → Bool) : Nat → Nat → Nat
  | 0, a => a
  | n + 1, a => bisect ok n (if ok (a + 2 ^ n) then a + 2 ^ n else a)

/-- The outputs of an ensemble (R239, R241): weighted means and deviations, in TRACK form those of the estimate. -/
def ensOut (s : State) (c : Nat) (u : Upd) (ess : Nat) (re : Bool) : EnsOut :=
  let e := u.ens
  let track := e.members.isEmpty
  let ms := e.sample
  let p : ModelAt := ⟨packOf s c, u.temp⟩
  let th : Int := 100 * signed 16 (packField s c 32 2)
  let sd (i : Nat) (g : Member → Int) : Int :=
    if track then rootOf (e.cov.getD (32 * i) 0 * one32) else wSd ms g
  let n (x : Int) : Nat := x.toNat
  let cap := wMean ms (·.f.getD 0 0)
  let capSd := sd 24 (·.f.getD 0 0)
  let avgSd := sd 30 (·.avg)
  let (a0, a1) := endPoints p.pack false
  let reaches (a : Nat) (m : Member) : Bool :=
    0 < Config.realFn 2392 ([(a : Int), (packField s c 34 2 : Int), th, (packField s c 26 2 : Int)] ++ m.args p u.cur)
  { cell := c
    soc := n (Config.roundQ (50000 * wMean ms (·.soc p.pack)) (2 ^ 32))
    socSd := n (realQuot (Config.realFn 2391 [avgSd, a0, a1]) (50000 * avgSd) (if a0 < a1 then a1 - a0 else a0 - a1))
    cap := n (Config.roundQ (cap * packField s c 20 4) (2 ^ 32))
    capSd := if 0 < cap then n (Config.roundQ (10000 * capSd) cap.toNat) else n (Config.realFn 2393 [cap, capSd])
    rgrow := n (Config.roundQ (4096 * wMean ms (·.f.getD 1 0)) (2 ^ 32))
    rgrowSd := n (Config.roundQ (4096 * sd 25 (·.f.getD 1 0)) (2 ^ 32))
    hyst := Config.roundQ (16384 * wMean ms (·.x.getD 22 0)) (2 ^ 32)
    hystV := Config.roundQ (wMean ms (fun m => Config.roundQ (m.x.getD 22 0 * m.hystAmp p * m.f.getD 5 0) (2 ^ 64))) 10
    plate := n (Config.roundQ (65535 * wPart ms (fun m => decide (m.anode p u.cur < th))) (2 ^ 32))
    margin := Config.roundQ (wMean ms (fun m => m.anode p u.cur - th)) 100
    accept := bisect (fun a => decide (256 * wPart ms (reaches a) ≤ one32 * packField s c 36 1)) 16 0
    vResid := if u.cnt = 0 then 0 else Config.roundQ u.sum (10 * u.cnt)
    ess := ess
    temp := u.temp
    eflags := u.flags
    resampled := re }

/-- The update of a cell from the records `rs` (R236): its ensemble and its outputs. DESIGN CHOICE (log entry 93). -/
def ensUpdate (s : State) (c m form : Nat) (rs : List Nat) : Ens × EnsOut :=
  let (t, est) := cellTemp s c
  let e0 := ((kvGet (fun _ => none) s.fab.ens c).getD (seed s c)).inForm form m (s.clk.span)
  let obs := (obsList s c rs).filter (fun o => e0.upTo ≤ o.span)
  let u := obs.foldl (ensSpan s c) ⟨e0, 0, 0, if obs.isEmpty then 2 * b01 (tempOut s c t) + 8 * b01 est else 0, t, 0⟩
  let e1 := ensZ s c u.temp u.ens
  if e1.members.isEmpty then (e1, ensOut s c { u with ens := e1 } 1 false)
  else
    let ms := normalise e1.members
    let re := 256 * (one32 * one32) < (s.get Reg.RESAMP_TH * m : Nat) * sqSum ms
    let out := ensOut s c { u with ens := { e1 with members := ms } } (effSize ms) re
    ({ e1 with members := if re then jitter (packOf s c) s.clk.span (resample m (s.clk.span + 1) ms) else ms }, out)

end Sys2Proof.Machine
end

