-- ==== Sys2Proof/Machine/LoadZ.lean ====
section
/-!
DEFINITION. Impedance from the load current (R210 to R213, R230): the analysis series of the span history, the segments of each bin with
their Hann-windowed Fourier sums, and the update of a bin from its counted segments. The weights of a sum are real numbers, which the model
takes in 2⁻⁶⁰ (log entry 93).
-/

namespace Sys2Proof.Machine

/-! ### The series (R210) -/

/-- The words of sub-windows `[w, w + r)` of slot `c` (108: the current) in record `i`, of `n` sub-windows. -/
def subWords (s : State) (i n c w r : Nat) : List Nat := (List.range r).map (fun j => histWord s i (512 + 4 * (c * n + w + j)))

/-- A word that R212 does not count: NO_RESULT, or one of the flags of the mask. -/
def unfit (mask w : Nat) : Bool := w % 2 ^ 24 == 0x800000 || (w &&& mask) != 0

/-- The balancing current of a cell over the sub-windows `[w, w + r)` of `n`, mA: that of the loop interval, or the mean of the intervals
that a longer sub-window spans (R210, R254). -/
def balOver (b : Beside) (c n w : Nat) : Int :=
  let at_ (m : Nat) : Int := ((b.bal.find? (fun e => e.1 == m)).elim [] (·.2)).getD c 0
  if 16 ≤ n then at_ (16 * w / n)
  else
    let k := 16 / n
    Config.roundQ (((List.range k).map (fun j => at_ (k * w + j))).foldl (· + ·) 0) k

/-- An analysis value of a cell in record `i`: the sums of the voltage and of the current into it over `r` sub-windows from `w` on, and
whether R212 rejects it. -/
def seriesValue (s : State) (i n c w r : Nat) : Int × Int × Bool :=
  let vs := subWords s i n c w r
  let is_ := subWords s i n 108 w r
  let b := histBeside s i
  let v := (vs.map (signed 24 ·)).foldl (· + ·) 0
  let cur := ((List.range r).map (fun j => signed 24 (is_.getD j 0) + balOver b c n (w + j))).foldl (· + ·) 0
  let bad := vs.any (unfit (2 ^ 24 + 2 ^ 25 + 2 ^ 27)) || is_.any (unfit (2 ^ 24 + 2 ^ 25 + 2 ^ 27)) || bit b.unpaired (tierOf c)
    || !bit (histWord s i 8) (20 + tierOf c) || (s.get Reg.CB_ROLE == 2 && !bit (histWord s i 8) 17)
  (v, cur, bad)

/-! ### Segments (R212, R213) -/

/-- Half of T_k in analysis values (R212), rounded down, at least 1. DESIGN CHOICE (log entry 93). -/
def halfSeg (s : State) (na k : Nat) : Nat :=
  max 1 (root16 ((s.get Reg.ZL_CYC * na * 200000000) ^ 16 * 10 ^ 32) (s.tb.period ^ 16 * 10 ^ k))

/-- The weight of value `u` of `n` in the Fourier sum at f_k (R212): the Hann window times the cosine and the sine, normalised to amplitude and
to the mean of the sub-windows of a value, in 2⁻⁶⁰. DESIGN CHOICE (log entry 93). -/
def segWeight (q : Series) (k u n : Nat) : Int × Int :=
  let hann := fxOne - (fxTurn u n).1
  let (c, sn) := fxTurn (binHz k * u * q.period) (2 ^ 64 * q.na * 400000000)
  let w (x : Int) : Int := Config.roundQ (2 * fxMul hann x) (16 * n * q.r)
  (w c, w sn)

def Seg.fresh (gap : Bool) (span : Nat) : Seg := ⟨0, 0, 0, 0, false, gap, span, span⟩

/-- A value enters a segment. -/
def Seg.add (q : Series) (k u n : Nat) (x : Int × Int × Bool) (span : Nat) (g : Seg) : Seg :=
  let (wc, ws) := segWeight q k u n
  { g with vr := g.vr + wc * x.1, vi := g.vi - ws * x.1, ir := g.ir + wc * x.2.1, ii := g.ii - ws * x.2.1, bad := g.bad || x.2.2, last := span }

/-- |I_i| is at least `ZL_IMIN` · 10 mA. -/
def Seg.strong (imin : Nat) (g : Seg) : Bool := (imin * 10 * 2 ^ 60) ^ 2 ≤ (g.ir * g.ir + g.ii * g.ii).toNat

/-- Z = Σ V·conj(I) / Σ |I|² and γ² of segments, in the codes' units: Σ V·conj(I) (re, im), Σ |V|² and Σ |I|² (R213). -/
def segSums (gs : List Seg) : Int × Int × Int × Int :=
  gs.foldl (fun a x => (a.1 + x.vr * x.ir + x.vi * x.ii, a.2.1 + x.vi * x.ir - x.vr * x.ii, a.2.2.1 + x.vr * x.vr + x.vi * x.vi,
    a.2.2.2 + x.ir * x.ir + x.ii * x.ii)) (0, 0, 0, 0)


/-- The update of a bin from its counted segments (R213, R226, R227), in 10 µΩ and with both filters removed (R159, R230). -/
def loadUpdate (cell k : Nat) (gs : List Seg) (s : State) : State :=
  let (re, im, vv, ii) := segSums gs
  let z := filterFix (s.get (Reg.TAU_TAP (tierOf cell))) (s.get Reg.TAU_SHUNT) k (100 * re) (100 * im) ii
  let from_ := (gs.map (·.first)).foldl min ((gs.map (·.first)).headD 0)
  let to_ := (gs.map (·.last)).foldl max 0
  storeBin cell k z (cohOf k (re * re + im * im) (vv * ii)) false (gs.any (·.gap)) from_ (to_ + 1 - from_) s

def State.loadBin (s : State) (cell k : Nat) : LoadBin := kvGet (fun _ => ⟨[], []⟩) s.fab.load (128 * cell + k)

def State.setLoadBin (s : State) (cell k : Nat) (b : LoadBin) : State :=
  { s with fab := { s.fab with load := kvSet (fun _ => ⟨[], []⟩) s.fab.load (128 * cell + k) b } }

/-- Value number `t` of the series comes to a bin of a cell (R212, R213): a segment begins every half segment; the older one in progress may
complete, is counted or dropped, and gives the bin its update. -/
def binStep (q : Series) (gap : Bool) (cell k span : Nat) (x : Int × Int × Bool) (s : State) : State :=
  let h := halfSeg s q.na k
  let b := s.loadBin cell k
  let u := q.pos % h
  let open1 := if u = 0 then b.opened ++ [Seg.fresh (gap && q.pos = 0) span] else b.opened
  let n := open1.length
  let open2 := ((List.range n).zip open1).map (fun e => e.2.add q k (u + h * (n - 1 - e.1)) (2 * h) x span)
  if u + 1 = h && n = 2 then
    let g := open2.headD (Seg.fresh false span)
    let young := b.done.filter (fun d => (span - d.last) * q.na ≤ 4 * s.get Reg.ZL_AVG * h)
    if g.bad || !g.strong (s.get Reg.ZL_IMIN) then s.setLoadBin cell k ⟨open2.drop 1, young⟩
    else
      let all := (g :: young).take (s.get Reg.ZL_AVG)
      let s1 := s.setLoadBin cell k ⟨open2.drop 1, all⟩
      if all.length = s.get Reg.ZL_AVG then loadUpdate cell k all s1 else s1
  else s.setLoadBin cell k ⟨open2, b.done⟩

/-- The bins of the load source (R211). -/
def loadBins (s : State) (na : Nat) : List Nat := (List.range 101).filter (fun k => !aboveTop s na k)

/-- The segments in progress of the cells that `p` names are given up. -/
def dropOpen (p : Nat → Bool) (s : State) : State :=
  { s with fab := { s.fab with load := s.fab.load.map (fun e => if p (e.1 / 128) then (e.1, { e.2 with opened := [] }) else e) } }

/-- Record `i` comes to the series (R210 to R213). The series begins anew where a span is missing, where a frequency step falls in the record,
and where n_a, n, `ZL_CYC` or the span rate has changed, and for a cell that is disabled. A record without sub-windows gives nothing. -/
def loadRecord (na i : Nat) (gap : Bool) (s : State) : State :=
  let n := histWord s i 8 % 65536
  let span := histTime s i / 4096 % 2 ^ 48
  if n = 0 then s
  else
    let na1 := min na n
    let r := n / na1
    let fits := s.fab.series.any (fun q => q.na == na1 && q.r == r && q.cyc == s.get Reg.ZL_CYC && q.period == s.tb.period && q.next == span)
    let step := bit (histWord s i 8) 19
    let s0 := if fits && !step then dropOpen (fun c => !s.cellOn c) s
      else
        let t := dropOpen (fun _ => true) s
        { t with fab := { t.fab with series := some ⟨na1, r, s.get Reg.ZL_CYC, s.tb.period, 0, span⟩ } }
    if step then { s0 with fab := { s0.fab with series := none } }
    else
      let cells := (List.range 108).filter s.cellOn
      let ks := loadBins s na1
      (List.range na1).foldl (fun t j =>
        match t.fab.series with
        | none => t
        | some q =>
          let t1 := cells.foldl (fun u c =>
            let x := seriesValue u i n c (j * r) r
            ks.foldl (fun v k => binStep q gap c k span x v) u) t
          { t1 with fab := { t1.fab with series := some { q with pos := q.pos + 1, next := span + 1 } } }) s0

/-- The IMPEDANCE job consumes the records of an instance (R191, R210). -/
def loadConsume (na first last : Nat) (gap : Bool) (s : State) : State :=
  if s.flag Reg.ZL_EN then ((List.range (last - first)).map (· + first)).foldl (fun t i => loadRecord na i (gap && i == first) t) s else s

end Sys2Proof.Machine
end

