-- ==== Sys2Proof/Machine/Fabric.lean ====
section
/-!
DEFINITION. The analysis fabric (R177 to R207): the shared store, the plan, job instances with their lag, cubits that fault, and the outputs of
the built-in jobs and of host jobs (R231, R235 to R247, R270).
-/

namespace Sys2Proof.Machine

/-! ### The shared store (R179) -/

/-- The length of the image of a slot as the store holds it, to whole lines. -/
def imageSpace (s : State) (slot : Nat) : Nat := ((s.job slot).image.length + 63) / 64 * 64

/-- Where the image of a slot begins: built-in images in the first 256 KB of their area, host images in the last, each after those of the slots
before. DESIGN CHOICE (log entry 66). -/
def imageOfs (s : State) (slot : Nat) : Nat :=
  if slot < 8 then 0x2C0000 + ((List.range slot).map (imageSpace s)).foldl (· + ·) 0
  else 0x300000 + ((List.range (slot - 8)).map (fun i => imageSpace s (8 + i))).foldl (· + ·) 0

/-- The output buffers of a host slot: two of 4 KB. DESIGN CHOICE (log entry 66). -/
def bufOfs (slot buf : Nat) : Nat := 0x3E0000 + 8192 * (slot - 8) + 4096 * buf

/-- A word of an area whose layout is not stated: 0 while the area is empty, as a restart leaves it (R36). DEDUCED (log entry 66). -/
def areaWord (s : State) (empty : Bool) (off : Nat) : Nat :=
  if empty then 0 else (Config.realFn 179 [off, s.clk.span, s.clk.grain]).toNat % 2 ^ 32

/-- The word of a job image at an offset. -/
def imageWord (s : State) (off : Nat) : Nat :=
  match (List.range 16).find? (fun j => decide (imageOfs s j ≤ off) && decide (off < imageOfs s j + imageSpace s j)) with
  | some j => par (s.job j).image (off - imageOfs s j) 4
  | none => 0

/-- A word of the shared store (R179, R516). DESIGN CHOICE (log entry 66). -/
def sharedWord (s : State) (off : Nat) : Nat :=
  if off < 0x200000 then storeWord s off
  else if off < 0x240000 then areaWord s (decide (s.host.replayBuf.length ≤ (off - 0x200000) / 64)) off
  else if off < 0x2C0000 then par (kvGet (fun _ => ([] : List Byte)) s.fab.packs ((off - 0x240000) / 0x20000)) ((off - 0x240000) % 0x20000) 4
  else if off < 0x340000 then imageWord s off
  else if off < 0x344000 then areaWord s ((List.range 108).all (fun c => (kvGet (fun _ => none) s.fab.ckpt c).isNone)) off
  else if off < 0x3B0000 then areaWord s (kvGet (fun _ => none) s.fab.ckpt ((off - 0x344000) / 4096)).isNone off
  else if off < 0x3E0000 then areaWord s ((List.range 5).all (fun j => s.get (Reg.JOB_LAST_LAST_SPAN j) == 0)) off
  else if off < 0x3F0000 then storeWord s off
  else areaWord s (s.get Reg.PLAN_GEN == 0) off

/-- The areas that a host job's image declares (R179, R189): its inputs, its image, its output buffers. The partition names no area of the
temperatures; the model opens the Control area for them. DESIGN CHOICE (log entry 66). -/
def jobArea (s : State) (slot off : Nat) : Bool :=
  let inp := imageField s slot 24 4
  (bit inp 0 && decide (off < 0x200000)) || (bit inp 1 && decide (0x3F0000 ≤ off) && decide (off < 0x400000))
    || (bit inp 2 && decide (0x3B0000 ≤ off) && decide (off < 0x3E0000))
    || (decide (imageOfs s slot ≤ off) && decide (off < imageOfs s slot + imageSpace s slot))
    || (decide (bufOfs slot 0 ≤ off) && decide (off < bufOfs slot 0 + 8192))

def State.cubit (s : State) (j : Nat) : Cubit := kvGet (fun _ => Cubit.reset) s.fab.cubits j

def State.setCubit (s : State) (j : Nat) (c : Cubit) : State :=
  { s with fab := { s.fab with cubits := kvSet (fun _ => Cubit.reset) s.fab.cubits j c } }

/-! ### The plan (R194 to R199) -/

/-- A plan (R195). -/
structure Plan where
  na    : Nat
  m     : Nat
  pLog  : Nat
  form  : Nat
  nEns  : Nat
  nSvc  : Nat
  hosts : List Nat
  nHost : Nat
  per   : Nat
deriving DecidableEq, Repr

/-- The cubit cap of the mode (R194), held at 2 under `FAB_CAPPED` (R436); 0 while the test engine has scan access (R489) and under the
rescue firmware (R469). -/
def nCap (s : State) : Nat :=
  if s.start.scan || s.flag Reg.RESCUE then 0
  else
    let c := match s.fabMode with
      | 0 => 0
      | 2 => 16
      | 3 => 28
      | _ => 2
    if s.flag Reg.FAB_CAPPED then min c 2 else c

/-- The cubits of the scheduled set, lowest first. -/
def scheduled (s : State) : List Nat := (List.range 32).filter (fun j => s.get (Reg.CSTATE j) < 2)

/-- The job of a slot asks for its cubits: `JOB_ACT` = 1, an image, and no FAULT. -/
def wants (s : State) (slot : Nat) : Bool :=
  s.flag (Reg.JOB_ACT slot) && s.get (Reg.JSTATE slot) != 0 && s.get (Reg.JSTATE slot) != 4

/-- The host slots in the order of the plan: priority high to low, then slot. -/
def hostOrder (s : State) : List Nat :=
  (List.range 8).flatMap (fun q => (List.range 8).filterMap (fun i =>
    if wants s (8 + i) && imageField s (8 + i) 23 1 % 8 == 7 - q then some (8 + i) else none))

/-- The host jobs that run, with their cubits (R195). -/
def hostPlan (s : State) (avail : Nat) : List Nat × Nat :=
  (hostOrder s).foldl (fun a slot =>
    let c := imageField s slot 22 1
    let fits := a.2 + c + 2 ≤ avail
      && imageField s slot 32 4 * 400000000 ≤ c * 720000000 * imageField s slot 20 2 * s.tb.period
    if fits then (a.1 ++ [slot], a.2 + c) else a) ([], 0)

/-- ⌊x / 64⌋ · 64. -/
def floor64 (x : Nat) : Nat := x / 64 * 64

/-- n_a: the largest value from `n` down whose demand the cap covers (R195). -/
def findNa (s : State) (cap : Nat) : Nat → Nat → Nat
  | 0, n => n
  | fuel + 1, n =>
    if 1 < n && cap * 720000000 * s.tb.period < s.cellsOn * 400000000 * n * 2048 then findNa s cap fuel (n / 4) else n

/-- The compute bound of members (R195). -/
def mCpu (s : State) (p pLog : Nat) : Nat :=
  floor64 ((720000000 * 2 ^ pLog * s.tb.period - 65536 * p * 400000000) / (3072 * p * 400000000))

/-- The period search of the ENSEMBLE form. -/
def findP (s : State) (p mSram : Nat) : Nat → Nat → Nat
  | 0, q => q
  | fuel + 1, q =>
    if 64 * s.get Reg.ENS_M_MIN_64 ≤ min mSram (mCpu s p q) || s.get Reg.ENS_PMAX_LOG2 ≤ q then q else findP s p mSram fuel (q + 1)

/-- The period search of the TRACK form. -/
def findTrack (s : State) (p : Nat) : Option Nat :=
  ((List.range 7).filter (fun q => s.get Reg.ENS_PMIN_LOG2 ≤ q && q ≤ s.get Reg.ENS_PMAX_LOG2)).find? (fun q =>
    p * 400000000 * 131072 ≤ 720000000 * 2 ^ q * s.tb.period)

/-- The plan of R195, or the degraded plan of R196. DESIGN CHOICE (log entry 44). -/
def planOf (s : State) : Plan :=
  let avail := min (nCap s) (scheduled s).length
  let (hosts, nHost) := hostPlan s avail
  let nb := avail - nHost
  let n := min (windowN s) s.fab.nLag
  let imp := wants s 0
  let ens := wants s 1
  if nb = 0 then ⟨0, 0, 0, 0, 0, 0, hosts, nHost, 0⟩
  else if nb = 1 then ⟨if imp then findNa s 1 4 n else 0, 1, s.get Reg.ENS_PMAX_LOG2, 2, 0, 1, hosts, nHost, s.cellsOn⟩
  else
    let cap := max 1 (ceilDiv (s.get Reg.IMP_SHARE * nb) 256)
    let na := findNa s cap 4 n
    let dImp := if imp then s.cellsOn * 400000000 * na * 2048 else 0
    let nSvc := min (nb - 1) (max 1 (ceilDiv (dImp + 36000000 * s.tb.period) (720000000 * s.tb.period)))
    let nEns := nb - nSvc
    let p := max 1 (ceilDiv s.cellsOn nEns)
    let naOut := if imp then na else 0
    if !ens then ⟨naOut, 0, 0, 0, 0, nSvc, hosts, nHost, 0⟩
    else
      let track : Plan := match findTrack s p with
        | some q => ⟨naOut, 1, q, 1, nEns, nSvc, hosts, nHost, p⟩
        | none => ⟨naOut, 1, s.get Reg.ENS_PMAX_LOG2, 2, nEns, nSvc, hosts, nHost, p⟩
      if s.fabMode = 2 || s.fabMode = 3 then
        let mSram := floor64 ((4608 - 32 * p) / p)
        let q := findP s p mSram 7 (s.get Reg.ENS_PMIN_LOG2)
        let m := min (min (64 * s.get Reg.ENS_M_MAX_64) mSram) (min (mCpu s p q) s.fab.mLag)
        if m < 64 * s.get Reg.ENS_M_MIN_64 then track else ⟨naOut, m, q, 0, nEns, nSvc, hosts, nHost, p⟩
      else track

/-- The code of an n or n_a as `SUBWIN` codes it: 1, 4, 16, 64, 256. -/
def codeOfN (n : Nat) : Nat := if 256 ≤ n then 4 else if 64 ≤ n then 3 else if 16 ≤ n then 2 else if 4 ≤ n then 1 else 0

/-- The job slot of each cubit of a plan, in order. -/
def planSlots (s : State) (p : Plan) : List Nat :=
  List.replicate p.nSvc 0 ++ List.replicate p.nEns 1 ++ p.hosts.flatMap (fun h => List.replicate (imageField s h 22 1) h)

/-- The counts of `FAB_STATUS` after a change of the cubits. -/
def fabCounts (s : State) : State :=
  let n (v : Nat) : Nat := ((List.range 32).filter (fun j => s.get (Reg.CSTATE j) == v)).length
  ((((s.put Reg.SCHED_SET (n 0 + n 1)).put Reg.IN_PLAN (n 0)).put Reg.SPARES (n 2)).putFlag Reg.SPARES_OUT (n 0 + n 1 < 28))

/-- Put the cubits to their places in a plan, and load the image of a new job (R189, R194, R207). DESIGN CHOICE (log entry 44). -/
def placeCubits (p : Plan) (s : State) : State :=
  let slots := planSlots s p
  let cubits := scheduled s
  let loaded (t : State) : State := slots.eraseDups.foldl (fun u j => u.setJob j { u.job j with fresh := false }) t
  fabCounts (loaded (((List.range cubits.length).zip cubits).foldl (fun t x =>
    match slots[x.1]? with
    | some j =>
      let u := if t.get (Reg.CSTATE x.2) = 0 && t.get (Reg.CJOB x.2) = j && !(t.job j).fresh then t
        else t.setCubit x.2 ((t.cubit x.2).load (t.job j).image)
      (u.put (Reg.CSTATE x.2) 0).put (Reg.CJOB x.2) j
    | none => (t.put (Reg.CSTATE x.2) 1).put (Reg.CJOB x.2) 31) s))

/-- The state, cubits and period of every slot under a plan. -/
def placeJobs (p : Plan) (s : State) : State :=
  let none_ := p.nSvc = 0
  let one (t : State) (slot cubits period : Nat) (runs : Bool) : State :=
    let st := t.get (Reg.JSTATE slot)
    let st2 := if st = 0 || st = 4 then st else if !t.flag (Reg.JOB_ACT slot) then 1 else if runs then 2 else 3
    ((t.put (Reg.JSTATE slot) st2).put (Reg.JOB_CUBITS slot) (if st2 = 2 then cubits else 0)).put (Reg.JOB_PERIOD_M1 slot)
      (if st = 0 then 0 else (period - 1) % 256)
  let s0 := one s 0 p.nSvc 1 (!none_)
  let s1 := one s0 1 p.nEns (2 ^ p.pLog) (!none_)
  let s2 := one s1 2 p.nSvc 16 (!none_)
  let s3 := one s2 3 p.nSvc 1 (!none_)
  let s4 := one s3 4 p.nSvc 1 (!none_)
  (List.range 8).foldl (fun t i => one t (8 + i) (imageField t (8 + i) 22 1) (imageField t (8 + i) 20 2) (p.hosts.contains (8 + i))) s4

/-- The next 16 updates of a cell carry RESEEDED (R240). -/
def markReseed (cell : Nat) (s : State) : State := { s with fab := { s.fab with reseed := kvSet (fun _ => 0) s.fab.reseed cell 16 } }

/-- Reseed the ensemble of a cell at its next update, from its checkpoint or the priors (R202, R240). -/
def reseed (cell : Nat) (s : State) : State :=
  let t := markReseed cell s
  { t with fab := { t.fab with ens := kvSet (fun _ => none) t.fab.ens cell none } }

/-- Reseed it from the priors of its pack (R234): its checkpoint belongs to another model. -/
def reseedPriors (cell : Nat) (s : State) : State :=
  let t := reseed cell s
  { t with fab := { t.fab with ckpt := kvSet (fun _ => none) t.fab.ckpt cell none } }

/-- At a release of ENSEMBLE the cells of replaced packs are reseeded from the new priors (R234). -/
def takePacks (s : State) : State :=
  let cs := (List.range 108).filter (fun c => s.cellOn c && s.fab.newPack.contains (modelSlot s c))
  let t := cs.foldl (fun u c => reseedPriors c u) s
  { t with fab := { t.fab with newPack := [] } }

/-- The ensembles across a plan change (R198, R240): members are resampled or drawn; a change of form rebuilds from mean and covariance. While
no plan runs them they stay. -/
def carryEns (p : Plan) (s : State) : State :=
  if p.m = 0 then s
  else s.fab.ens.foldl (fun t e => match e.2 with
    | none => t
    | some x =>
      let y := if x.members.isEmpty == (p.form != 0) then x
        else
          let c := x.collapse
          { rebuild t e.1 x.upTo t.cur.net c.mean c.cov with upTo := x.upTo, gapLen := x.gapLen, vNow := x.vNow, vGood := x.vGood }
      { t with fab := { t.fab with ens := kvSet (fun _ => none) t.fab.ens e.1 (some (y.inForm p.form p.m t.clk.span)) } }) s

/-- No built-in job runs (R196): no sensor is IMPLAUSIBLE, no R_sup is valid, and no series goes on. -/
def noService (s : State) : State :=
  let s1 := (List.range 14).foldl (fun t i => t.putW (Wd.PL_STATUS i) 0) s
  { s1 with fab := { s1.fab with est := [], plDis := [], plOk := [], series := none }, bal := { s1.bal with rsup := [] } }

/-- The enabled cells. -/
def cellsList (s : State) : List Nat := (List.range 108).filter s.cellOn

/-- Put a plan in force (R198). A changed fidelity of a built-in job is reported where a plan has been in force before. -/
def usePlan (p : Plan) (s : State) : State :=
  let oldM := s.get Reg.ENS_M
  let oldP := s.get Reg.ENS_P_LOG2
  let oldF := s.get Reg.ENS_FORM
  let oldA := s.get Reg.N_A
  let first := !s.fab.planned
  let s1 := placeJobs p (placeCubits p s)
  let s2 := (((((s1.put Reg.ENS_M p.m).put Reg.ENS_P_LOG2 p.pLog).put Reg.ENS_FORM p.form).put Reg.N_A (codeOfN p.na)).put Reg.N_ENS p.nEns)
  let s3 := ((((s2.put Reg.N_SVC p.nSvc).put Reg.N_HOST p.nHost).put Reg.CELLS_PER_CUBIT p.per).put Reg.PLAN_GEN
    ((s2.get Reg.PLAN_GEN + 1) % 65536))
  let s4 := { s3 with fab := { s3.fab with planDue := false, planned := true } }
  let s5 := if first then s4
    else
      let t := carryEns p s4
      if oldM != 0 && p.m != 0 && oldF != p.form then (cellsList t).foldl (fun u c => markReseed c u) t else t
  let degraded := p.nSvc = 0 || (p.nSvc = 1 && p.nEns = 0 && p.form = 2)
  let val := p.m + 2 ^ 11 * p.pLog + 2 ^ 14 * p.form
  let s6 := s5.when ((!first || degraded) && (degraded || oldM != p.m || oldP != p.pLog || oldF != p.form)) (lagEvent 4 1 val)
  let s7 := s6.when (p.nSvc = 0) noService
  s7.when (!first && oldA != codeOfN p.na) (lagEvent 4 0 p.na)

/-- PLAN_TAKE_EFFECT (R198): at grain 0, once every instance of the old plan has ended. DESIGN CHOICE (log entry 9). DEDUCED (log entry 45). -/
def execPlanTakeEffect (s : State) : Out :=
  if s.ready && s.fab.planDue && s.clk.grain = 0 && (List.range 16).all (fun j => (s.job j).inst.isNone) then done (usePlan (planOf s) s) else done s

/-! ### Releases, aborts and lag (R191 to R193, R199) -/

/-- A further step of the adaptation of R199: down after 8 releases under LAG, up after 256 on-time instances. -/
def adaptDown (slot : Nat) (s : State) : State :=
  if s.flag Reg.LAG_ADAPT then
    match slot with
    | 0 => if 1 < s.fab.nLag then { s with fab := { s.fab with nLag := max 1 (min s.fab.nLag (naNow s) / 4), planDue := true } } else s
    | 1 => if 64 < s.fab.mLag then { s with fab := { s.fab with mLag := max 64 (s.fab.mLag - 64), planDue := true } } else s
    | _ => s
  else s

def adaptUp (slot : Nat) (s : State) : State :=
  match slot with
  | 0 => if s.fab.nLag < 256 then { s with fab := { s.fab with nLag := min 256 (4 * s.fab.nLag), planDue := true } } else s
  | 1 => if s.fab.mLag < 1024 then { s with fab := { s.fab with mLag := min 1024 (s.fab.mLag + 64), planDue := true } } else s
  | _ => s

/-- The ensemble record that was last filed for a cell, with HELD set and its age grown (R204, R205). -/
def holdEns (cell : Nat) (s : State) : State :=
  let b := bankBytes s.win.filling (0x38000 + 64 * cell) 64
  if par b 8 2 = 0 then s
  else
    let span := par b 0 8 / 4096 % 2 ^ 48
    let fl := par b 15 1
    fileBytes (0x38000 + 64 * cell) (b.take 14 ++ [byte (min 255 (s.clk.span - span)), byte (if bit fl 3 then fl else fl + 8)] ++ b.drop 16) s

/-- Hold the outputs of every enabled cell that `upd` leaves out. -/
def holdAll (upd : List Nat) (s : State) : State := ((cellsList s).filter (fun c => !upd.contains c)).foldl (fun t c => holdEns c t) s

/-- JOB_RELEASE (R191, R192, R193, R199). While a plan is due no instance is released under the old one. DEDUCED (log entry 45). -/
def execJobRelease (slot : Nat) (s : State) : Out :=
  let j := s.job slot
  if !s.ready || 15 < slot || j.relAt = s.clk.span + 1 || s.clk.span % periodOf s slot != 0 then done s
  else
    let s0 := s.setJob slot { j with relAt := s.clk.span + 1 }
    if !isRunning s slot then done (s0.when (slot == 1 && s.get (Reg.JSTATE 1) == 3) (holdAll []))
    else
      let s0 := s0.when (slot == 1) takePacks
      let s1 := if s.flag (Reg.LAG slot) && slot < 5 then
          if 7 ≤ j.held then adaptDown slot (s0.setJob slot { s0.job slot with held := 0 })
          else s0.setJob slot { s0.job slot with held := j.held + 1 }
        else s0
      match j.inst with
      | some i =>
        let s2 := (s1.bump (Reg.SKIPPED slot)).setJob slot { s1.job slot with inst := some { i with late := true } }
        done (setLag slot (s2.when (slot == 1) (holdAll [])))
      | none =>
        if s1.fab.planDue then done s1
        else
          done (s1.setJob slot { s1.job slot with inst := some ⟨s.clk.span, j.next, s.fab.histCnt, false⟩, next := s.fab.histCnt })

/-- End an instance by an abort that counts (R192). -/
def abortInst (slot : Nat) (s : State) : State :=
  let s1 := ((s.bump Reg.ABORTS).bump (Reg.ABORT_RUN slot)).setJob slot { s.job slot with inst := none, okLag := 0, okRun := 0 }
  if 3 ≤ s1.get (Reg.ABORT_RUN slot) then lagEvent 5 slot (s1.get (Reg.JOB_ID slot)) (s1.put (Reg.JSTATE slot) 4) else s1

/-- INSTANCE_ABORT (R192): an instance still running two periods after its release. -/
def execInstanceAbort (slot : Nat) (s : State) : Out :=
  match (s.job slot).inst with
  | none => done s
  | some i => if i.release + 2 * periodOf s slot ≤ s.clk.span then done (abortInst slot s) else done s

/-! ### Outputs of the built-in jobs -/

/-- The timestamp word of the latest span that an instance has used (R204): the record of the highest span number. -/
def instStamp (s : State) (i : Inst) : Nat :=
  let ts := ((List.range (i.last - i.first)).map (· + i.first)).map (histTime s)
  match ts with
  | [] => stampWord (stampOf s (i.release - 1) 0)
  | t :: r => r.foldl (fun m x => if m / 4096 % 2 ^ 48 < x / 4096 % 2 ^ 48 then x else m) t

/-- `OH_FLAGS` [1:0] of a slot's next output. -/
def lagGap (s : State) (slot : Nat) : Nat := s.get (Reg.LAG slot) + 2 * b01 (s.job slot).gap

/-- An ANALYSIS report of an output filed with REPORT set (R205, R368). -/
def reportOutput (slot cell : Nat) (rec_ : List Byte) (s : State) : State :=
  let rep := bit (imageField s slot 30 2) 1
  s.when (rep && s.flag Reg.RPT_ANALYSIS)
    (issueReport 0x06 (reportDests s) (rec_.take 8 ++ [0, byte slot, byte cell] ++ rec_))

/-- File a record of a built-in slot and report it. -/
def fileRecord (slot cell : Nat) (rec_ : List Byte) (s : State) : State :=
  match entryOf slot cell with
  | some (off, _) => reportOutput slot cell rec_ (fileBytes off rec_ s)
  | none => s

/-- IMPEDANCE (R210 to R213, R226 to R231): its records enter the series, and the records of its rotation are filed. -/
def impOutput (i : Inst) (flags : Nat) (s : State) : State :=
  let s1 := loadConsume (naNow s) i.first i.last (s.job 0).gap s
  let stamp := instStamp s i
  let rot := max 1 (s.get Reg.Z_ROT)
  ((cellsList s1).filter (fun c => c % rot == i.release % rot)).foldl (fun t c =>
    fileRecord 0 c (zRecord t stamp c flags (lagGap t 0)) t) s1

/-- The records of an instance. -/
def Inst.records (i : Inst) : List Nat := (List.range (i.last - i.first)).map (· + i.first)

/-- The header flags of an ensemble record. -/
def ensFlags (s : State) (c : Nat) : Nat :=
  lagGap s 1 + 4 * b01 (kvGet (fun _ => 0) s.fab.reseed c != 0) + 16 * s.get Reg.ENS_P_LOG2

/-- A field held within its unsigned and signed limits (R241). -/
def satU (w n : Nat) : List Byte := leBytes (w / 8) (min n (2 ^ w - 1))

def satS (i : Int) : List Byte := leBytes 2 (unsigned 16 (clampI (-32768) 32767 i))

/-- The ensemble record of a cell (R241). -/
def ensRecord (s : State) (i : Inst) (flags c : Nat) (e : EnsOut) : List Byte :=
  outHeader s (instStamp s i) 2 c (s.get Reg.ENS_FORM) flags (s.get Reg.ENS_M) (ensFlags s c)
    ++ satU 16 (min e.soc 50000) ++ satU 16 e.socSd ++ satU 32 e.cap ++ satU 16 e.capSd ++ satU 16 e.rgrow ++ satU 16 e.rgrowSd
    ++ satS (clampI (-16384) 16384 e.hyst) ++ satS e.hystV ++ satU 16 e.plate ++ satS e.margin ++ satU 16 e.accept ++ satS e.vResid
    ++ satU 16 (if s.get Reg.ENS_FORM = 0 then e.ess else 1) ++ leBytes 2 (tempCode e.temp)
    ++ [byte (modelSlot s c), byte (e.eflags + 32 * b01 e.resampled)]
    ++ leBytes 4 (packField s c 8 4) ++ List.replicate 12 0

/-- The record of a cell whose model slot is EMPTY (R235). -/
def noModelRecord (s : State) (i : Inst) (flags c : Nat) : List Byte :=
  outHeader s (instStamp s i) 2 c (s.get Reg.ENS_FORM) flags (s.get Reg.ENS_M) (ensFlags s c) ++ List.replicate 30 0
    ++ [byte (modelSlot s c), 1] ++ List.replicate 16 0

/-- The mean and covariance of an ensemble as a checkpoint. -/
def ckptOf (span : Nat) (net : Int) (e : Ens) : Ckpt :=
  let c := e.collapse
  ⟨span, net, c.mean, c.cov⟩

/-- An updated cell: its ensemble, one RESEEDED update less, and the checkpoint every 16 updates (R202, R240). -/
def ensUpdated (net : Int) (c plate : Nat) (e : Ens) (s : State) : State :=
  let r := kvGet (fun _ => 0) s.fab.reseed c
  let n := kvGet (fun _ => 0) s.fab.ckCnt c + 1
  let top := max (plate + 1) (kvGet (fun _ => 0) s.fab.plateMax c)
  let f := { s.fab with reseed := kvSet (fun _ => 0) s.fab.reseed c (r - 1), ensNow := setBit s.fab.ensNow c true,
                        plateMax := kvSet (fun _ => 0) s.fab.plateMax c top, ens := kvSet (fun _ => none) s.fab.ens c (some e) }
  { s with fab := if 16 ≤ n then
      { f with ckCnt := kvSet (fun _ => 0) f.ckCnt c 0, ckpt := kvSet (fun _ => none) f.ckpt c (some (ckptOf s.clk.span net e)) }
    else { f with ckCnt := kvSet (fun _ => 0) f.ckCnt c n } }

/-- The model of a cell runs: its slot holds a pack (R235). -/
def modelRuns (s : State) (c : Nat) : Bool := !(packOf s c).isEmpty

/-- The cubits that carry ensembles, in order: in the degraded plan of one cubit that one. -/
def ensCubits (s : State) : List Nat :=
  let es := (List.range 32).filter (fun i => s.get (Reg.CSTATE i) == 0 && s.get (Reg.CJOB i) == 1)
  if es.isEmpty && s.get Reg.ENS_FORM = 2 then ((List.range 32).filter (fun i => s.get (Reg.CSTATE i) == 0 && s.get (Reg.CJOB i) == 0)).take 1 else es

/-- The cells of the ensemble cubit at a place: in rising number, so many to a cubit. -/
def cellsAt (s : State) (place : Nat) : List Nat :=
  ((cellsList s).drop (place * s.get Reg.CELLS_PER_CUBIT)).take (s.get Reg.CELLS_PER_CUBIT)

/-- The cells that a cubit serves in an instance of ROTATED form (R196, R197): as many as its cycles allow, at 131,072 a cell; on the one cubit of
the degraded plan IMPEDANCE and the D_other jobs take theirs first. -/
def servedNow (s : State) : Nat :=
  let per := 2 ^ s.get Reg.ENS_P_LOG2 * s.tb.period
  let other := if s.get Reg.N_ENS = 0 then
      (if s.flag (Reg.JOB_ACT 0) then s.cellsOn * 400000000 * naNow s * 2048 * 2 ^ s.get Reg.ENS_P_LOG2 else 0) + 36000000 * per else 0
  (720000000 * per - other) / (131072 * 400000000)

/-- The cells that the instance updates, and the state with the rotation moved on. -/
def ensServed (s : State) : List Nat × State :=
  if s.get Reg.ENS_FORM != 2 then (cellsList s, s)
  else
    (List.range (ensCubits s).length).foldl (fun (a : List Nat × State) i =>
      let cs := cellsAt a.2 i
      let n := min (servedNow a.2) cs.length
      let from_ := kvGet (fun _ => 0) a.2.fab.rot i % max 1 cs.length
      let got := (List.range n).map (fun j => cs.getD ((from_ + j) % max 1 cs.length) 0)
      (a.1 ++ got, { a.2 with fab := { a.2.fab with rot := kvSet (fun _ => 0) a.2.fab.rot i (from_ + n) } })) ([], s)

/-- ENSEMBLE (R235 to R241). A cell that an instance in ROTATED form does not serve, and one without a pack, is not updated. -/
def ensOutput (i : Inst) (flags : Nat) (s : State) : State :=
  let (cs, s0) := ensServed s
  let upd := cs.filter (modelRuns s0)
  let recs := (List.range (min i.last (histDepth s0.fab.histN))).map (fun j => i.last - min i.last (histDepth s0.fab.histN) + j)
  let s1 := upd.foldl (fun t c =>
    let (e, o) := ensUpdate t c (t.get Reg.ENS_M) (t.get Reg.ENS_FORM) recs
    ensUpdated t.cur.net c (min 65535 o.plate) e (fileRecord 1 c (ensRecord t i flags c o) t)) s0
  let empty := (cellsList s0).filter (fun c => !modelRuns s0 c)
  let s2 := empty.foldl (fun t c => fileRecord 1 c (noModelRecord t i flags c) t) s1
  holdAll (upd ++ empty) s2

/-- SENSOR_CHECK (R242 to R246, R509). -/
def sensorOutput (i : Inst) (flags : Nat) (s : State) : State :=
  let s1 := sensorCheck s
  let body := (List.range 216).flatMap (fun j => leBytes 4 ((estOf s1 j).elim 0x8000 tempCode + 65536 * plState s1 j))
  fileRecord 2 255 (outHeader s1 (instStamp s1 i) 3 255 3 flags 0 (lagGap s1 2) ++ body) s1

/-- The tiers whose cells TIER_ESTIMATE stands in for: no lane of the link is up (R25, R247). The cells of a tier without supply are absent. -/
def lostTiers (s : State) : List Nat := (List.range 6).filter (fun k => (s.tl k).supplied && !s.linkUp k && !bit s.win.filling.tiers k)

/-- The voltage that the ensemble of a cell predicts at the span being filed (R247), µV: beyond the spans it has taken, under the current of that
span. DESIGN CHOICE (log entry 93). -/
def predNow (s : State) (c : Nat) (e : Ens) : Int :=
  let w := bankWord s.win.filling 0x300
  let cur := if w % 2 ^ 24 = 0x800000 then 0 else signed 24 w
  let p : ModelAt := ⟨packOf s c, (cellTemp s c).1⟩
  if s.win.filling.span < e.upTo then e.vNow
  else wMean (e.sample.map (·.propagate p cur ((s.win.filling.span + 1 - e.upTo) * s.tb.period))) (·.volts p cur)

/-- V̂_now − V̂_last of a cell (R247), µV: the ensemble's predicted voltages at the span being filed and at that of the last result. -/
def predDelta (s : State) (c : Nat) : Int :=
  match kvGet (fun _ => none) s.fab.ens c with
  | none => 0
  | some e => predNow s c e - e.vGood

/-- The estimate of a cell (R247). DEDUCED (log entry 50). -/
def estWord (s : State) (c : Nat) : Nat :=
  let span4 := 2 ^ 28 * (s.win.filling.span % 16)
  match kvGet (fun _ => none) s.fab.vLast c with
  | none => 0x800000 + 2 ^ 27 + span4
  | some v => unsigned 24 (clampI (-8388607) 8388607 (v + predDelta s c)) + 2 ^ 27 + span4

/-- TIER_ESTIMATE (R247, R509). -/
def estimateOutput (i : Inst) (flags : Nat) (s : State) : State :=
  let ks := lostTiers s
  let s1 := ks.foldl (fun t k =>
    let cells := (List.range 18).filter (fun j => localOn t k j)
    let t1 := cells.foldl (fun u j =>
      let w := estWord u (18 * k + j)
      { u with win := { u.win with filling := fileSlot (.word (0x40 + 4 * (18 * k + j)), w) u.win.filling } }) t
    { t1 with fab := { t1.fab with estFor := kvSet (fun _ => 0) t1.fab.estFor k (satAdd 16 (kvGet (fun _ => 0) t1.fab.estFor k) 1) } }) s
  let mask := ks.foldl (fun m k => setBit m k true) 0
  fileRecord 3 255 (outHeader s1 (instStamp s1 i) 4 255 3 flags 0 (lagGap s1 3) ++ [byte mask, 0]
    ++ (List.range 6).flatMap (fun k => leBytes 2 (kvGet (fun _ => 0) s1.fab.estFor k)) ++ [0, 0]) s1

/-- R_sup in use for a cell: the last valid one for up to `SUP_AGE` spans (R271). -/
def supInUse (s : State) (c : Nat) : Option Int :=
  match kvGet (fun _ => none) s.bal.rsup c with
  | some (r, _, at_) => if s.clk.span ≤ at_ + s.get Reg.SUP_AGE then some r else none
  | none => none

/-- The field that shows an R_sup: 0xFFFF is invalid. -/
def supCode (r : Option Int) : Nat := r.elim 0xFFFF (fun x => unsigned 16 (clampI (-32768) 32767 x))

/-- LOOP_EXPECT (R270, R509): the selection for every cell. -/
def expectOutput (i : Inst) (flags : Nat) (s : State) : State :=
  let sel := (List.range 108).map (fun c => if s.cellOn c then selectSup s c else none)
  let s1 := ((List.range 108).zip sel).foldl (fun t x => match x.2 with
    | some (k, r) => { t with bal := { t.bal with rsup := kvSet (fun _ => none) t.bal.rsup x.1 (some (r, k, t.clk.span)) } }
    | none => t) s
  let body := sel.flatMap (fun x => match x with
    | some (k, r) => leBytes 4 (supCode (some r) + 65536 * k)
    | none => leBytes 4 (0xFFFF + 65536 * 127))
  fileRecord 4 255 (outHeader s1 (instStamp s1 i) 5 255 3 flags 0 (lagGap s1 4) ++ body) s1

/-- What the code of a host job leaves on one of its cubits: the state, the sticky flags of the instance so far, how it ended, and the cubit. -/
abbrev HostRun := State × Nat × Halt × Nat

/-- The code of a host job runs on cubit `j` (R180 to R186): for at most 2^20 instructions. What it writes to its image or to an input below the
result staging is dropped. DESIGN CHOICE (log entry 46). -/
def runOn (slot : Nat) (i : Inst) (j : Nat) (r : HostRun) : HostRun :=
  match r.2.2.1 with
  | .ended =>
    let s := r.1
    let e : JobEnv := ⟨slot, sharedWord s, jobArea s slot⟩
    let (c, ws, h) := runCode e (2 ^ 20) 0 { (s.cubit j).begin_ with staging := i.records.drop (i.last - i.first - 2) } []
    (ws.reverse.foldl (fun t w => if 0x3B0000 ≤ w.1 then putStore w.1 w.2 t else t) (s.setCubit j c), r.2.1 ||| c.sticky, h, j)
  | _ => r

/-- The cubits of a slot. -/
def cubitsOf (s : State) (slot : Nat) : List Nat := (List.range 32).filter (fun j => s.get (Reg.CSTATE j) == 0 && s.get (Reg.CJOB j) == slot)

/-- The code of a host job runs on each of its cubits. DESIGN CHOICE (log entry 46). -/
def hostRun (slot : Nat) (i : Inst) (s : State) : HostRun := (cubitsOf s slot).foldl (fun r j => runOn slot i j r) (s, 0, .ended, 0)

/-- The output of a host job (R204, R205): the buffer that its code has written is complete, behind the header, and is reported where the image asks
for it; the next instance writes the other one. -/
def hostOutput (slot : Nat) (i : Inst) (flags : Nat) (s : State) : State :=
  let len := imageField s slot 28 2
  let j := s.job slot
  let body := ((List.range (len / 4)).flatMap (fun w => leBytes 4 (storeWord s (bufOfs slot j.buf + 4 * w)))).drop 16
  let rec_ := outHeader s (instStamp s i) (s.get (Reg.JOB_ID slot)) 255 3 flags 0 (lagGap s slot) ++ body
  reportOutput slot 255 rec_ (s.setJob slot { j with out := rec_, buf := 1 - j.buf })

/-- What the end of an instance does to the lag of its job (R193, R199). -/
def endLag (slot : Nat) (i : Inst) (s : State) : State :=
  let j := s.job slot
  let old := usesHist s slot && histDepth s.fab.histN < 2 * (s.fab.histCnt - j.next)
  let onTime := !i.late
  let n := if onTime && !old then j.okLag + 1 else 0
  let r := if onTime then j.okRun + 1 else 0
  let s1 := s.setJob slot { j with inst := none, gap := false, okLag := n, okRun := if 256 ≤ r then 0 else r }
  let s2 := if s1.flag (Reg.LAG slot) && 8 ≤ n then
      lagEvent 2 slot (s1.get (Reg.SKIPPED slot)) (lagAny ((s1.put (Reg.LAG slot) 0).setJob slot { s1.job slot with okLag := 0, held := 0 }))
    else s1
  if 256 ≤ r then adaptUp slot s2 else s2

/-- The end of an instance whose output has been filed. -/
def endInst (slot : Nat) (i : Inst) (stamp : Nat) (s : State) : State :=
  endLag slot i ((s.put (Reg.ABORT_RUN slot) 0).put (Reg.JOB_LAST_LAST_SPAN slot) (stamp / 4096 % 2 ^ 32))

/-! ### Cubits (R185, R200 to R203) -/

/-- The slots whose instances run on a cubit: on the one cubit of the degraded plan the ensemble's too (R196). -/
def slotsOn (s : State) (j : Nat) : List Nat :=
  match s.get (Reg.CJOB j) with
  | 0 => if s.get Reg.ENS_FORM = 2 && s.get Reg.N_ENS = 0 then [0, 1, 2, 3, 4] else [0, 2, 3, 4]
  | 31 => []
  | n => [n]

/-- The cubit fault event (R206). -/
def cubitEvent (cause j bank row size : Nat) (s : State) : State :=
  raise 489 (cause + 16 * j + 2 ^ 9 * bank + 2 ^ 13 * row + 2 ^ 23 * size) s

/-- The cells whose ensembles a cubit carries. -/
def ensCellsOf (s : State) (j : Nat) : List Nat := if (ensCubits s).contains j then cellsAt s ((ensCubits s).findIdx (fun x => x == j)) else []

/-- A DESCRIPTOR fault of a job on a cubit (R181, R201): its instance is aborted, and the cubit stays in. -/
def jobFault (slot j : Nat) (s : State) : State := cubitEvent 5 j 0 0 0 (abortInst slot s)

/-- INSTANCE_COMPLETE (R205): the instance of a slot ends and its output is filed; `flags` are the sticky flags of a built-in job (R182). The code of a
host job runs; where it does not come to its END the instance goes on. DESIGN CHOICE (log entry 46). DESIGN CHOICE (log entry 93). -/
def execInstanceComplete (slot flags : Nat) (s : State) : Out :=
  match (s.job slot).inst with
  | none => done s
  | some i =>
    if !s.ready then done s
    else
      let f := flags % 8
      let stamp := instStamp s i
      match slot with
      | 0 => done (endInst 0 i stamp (impOutput i f s))
      | 1 => done (endInst 1 i stamp (ensOutput i f s))
      | 2 => done (endInst 2 i stamp (sensorOutput i f s))
      | 3 => done (endInst 3 i stamp (estimateOutput i f s))
      | 4 => done (endInst 4 i stamp (expectOutput i f s))
      | _ =>
        match hostRun slot i s with
        | (t, g, .ended, _) => done (endInst slot i stamp (hostOutput slot i g t))
        | (t, _, .descFault, j) => done (jobFault slot j t)
        | _ => done s

/-- Take a cubit out at run time (R201, R203): a spare takes the place of a cubit of the scheduled set. -/
def cubitOut (j cause bank row : Nat) (s : State) : State :=
  let slots := slotsOn s j
  let cells := ensCellsOf s j
  let s1 := slots.foldl (fun t n => t.setJob n { t.job n with inst := none }) s
  let s2 := cells.foldl (fun t c => reseed c t) s1
  let s3 := ((s2.put (Reg.CSTATE j) 3).put (Reg.OUT_CAUSE j) 2).put (Reg.CJOB j) 31
  let inSet := s.get (Reg.CSTATE j) < 2
  let s4 := match (List.range 32).find? (fun i => inSet && s3.get (Reg.CSTATE i) == 2) with
    | some i => s3.put (Reg.CSTATE i) 1
    | none => s3
  let s5 := fabCounts { s4 with fab := { s4.fab with planDue := s4.fab.planDue || inSet } }
  let s6 := cubitEvent cause j bank row 0 s5
  s6.when (inSet && s6.get Reg.SCHED_SET < 28) (cubitEvent 6 j 0 0 (s6.get Reg.SCHED_SET))

/-- A cubit is powered: it is in the plan or a spare, and not a scheduled one that the mode does not use (R194). -/
def cubitPowered (s : State) (j : Nat) : Bool := j < 32 && (s.get (Reg.CSTATE j) == 0 || s.get (Reg.CSTATE j) == 2)

/-- SCRUB_LINE (R200): one line of every bank, the next row of the 640, is read and corrected; corrected errors are counted. -/
def execScrubLine (cubit corrected : Nat) (s : State) : Out :=
  if s.ready && s.flag Reg.SCRUB_EN && cubitPowered s cubit then
    let c := s.cubit cubit
    done ((s.setCubit cubit { c with scrubRow := (c.scrubRow + 1) % 640 }).bumpBy (Reg.ECC_CORR cubit) corrected)
  else done s

/-- CONFLICT_WINDOW_END (R184, R185): the stall and busy cycles that the cubit has counted, with those of built-in code, which the row brings. -/
def execConflictWindowEnd (cubit stalls busy : Nat) (s : State) : Out :=
  if s.ready && cubit < 32 && s.get (Reg.CSTATE cubit) = 0 then
    let c := s.cubit cubit
    let b := busy + c.busy
    let share := if b = 0 then 0 else min 255 ((stalls + c.stalls) * 256 / b)
    let s1 := (s.setCubit cubit { c with stalls := 0, busy := 0 }).put (Reg.CONF_NOW cubit) share
    if share ≤ s.get Reg.CONF_SHARE then
      done { s1 with fab := { s1.fab with confAt := kvSet (fun _ => 0) s1.fab.confAt cubit 0 } }
    else
      let at1 := kvGet (fun _ => 0) s.fab.confAt cubit
      if at1 = 0 || at1 + 64 ≤ s.clk.span + 1 then
        let s2 := { s1 with fab := { s1.fab with confAt := kvSet (fun _ => 0) s1.fab.confAt cubit (s.clk.span + 1) } }
        done (raise 488 (cubit + 256 * share + 65536 * (s.get (Reg.CJOB cubit) % 16)) s2)
      else done s1
  else done s

end Sys2Proof.Machine
end

