-- ==== Sys2Proof/Machine/Excite.lean ====
section
/-!
DEFINITION. Injected excitation (R214 to R225): the tones of a band, the course of a sweep in each tier, its pause under a lapsing
lease, the records of its periods and the bin updates they give.
-/

namespace Sys2Proof.Machine

/-! ### Bands and tones (R216, R217) -/

/-- j of band `b` at the present span rate (R217). -/
def bandJ (s : State) (b : Nat) : Nat :=
  (((List.range 20).map (· + 1)).find? (fun j => 640000000000 ≤ 2 ^ j * s.tb.period * 10 ^ b)).getD 20

/-- The harmonic of bin `k` at a fundamental of f / 2^j (R217). -/
def harmonic (s : State) (j k : Nat) : Nat :=
  2 * root16 (10 ^ k * (2 ^ j * s.tb.period) ^ 16) (800000000 ^ 16 * 10 ^ 32) + 1

/-- The harmonic `h` is no more than min(20 kHz, 1,024 · f) (R217). -/
def placeable (s : State) (j h : Nat) : Bool := h * 20000 ≤ s.tb.period * 2 ^ j && h ≤ 1024 * 2 ^ j

/-- The tones of band `b` for a request (R217). -/
def bandTones (s : State) (klo khi b : Nat) : List (Nat × Nat) :=
  let j := bandJ s b
  (((List.range 16).map (· + 16 * b)).filter (fun k => klo ≤ k && k ≤ khi && k ≤ 100)).filterMap (fun k =>
    let h := harmonic s j k
    if placeable s j h then some (k, h) else none)

/-- The bands of a request that place a bin, highest first (R216). -/
def requestBands (s : State) (klo khi : Nat) : List Nat := [6, 5, 4, 3, 2, 1, 0].filter (fun b => !(bandTones s klo khi b).isEmpty)

/-- The cells that a mask names. -/
def maskCells (mask : Nat) : List Nat := (List.range 108).filter (fun c => bit mask c)

/-- The refusal of EXCITE START (R215), whose source must hold the lease (R427). `scheduled`: another sweep waits in the schedule. -/
def exciteRefusal (src cells klo khi amp reps : Nat) (scheduled_ : Bool) (s : State) : Option Nat :=
  if cells = 0 || 2 ^ 108 ≤ cells || 100 < klo || 100 < khi || khi < klo || amp < 50 || 2000 < amp || reps < 4 || 64 < reps
      || (requestBands s klo khi).isEmpty then some St.badParam
  else if s.modeNow != 3 || (maskCells cells).any (fun c => !s.cellOn c || s.get (Reg.BAL_MODE (tierOf c)) != 2) then some St.badState
  else if !leaseLive s 1 || s.get (Reg.HOLDER 1) != src then some St.noLease
  else if s.exc.sweep.isSome || s.get Reg.EXC_STATE = 3 || scheduled_ then some St.busy
  else none

/-! ### Channels that excite (R219) -/

def State.excTier (s : State) (k : Nat) : Option ExcTier := kvGet (fun _ => none) s.exc.tiers k

def State.setExc (s : State) (k : Nat) (e : Option ExcTier) : State :=
  { s with exc := { s.exc with tiers := kvSet (fun _ => none) s.exc.tiers k e } }

def State.chan (s : State) (n : Nat) : Chan := kvGet (fun _ => Chan.reset) s.bal.chans n

def State.setChan (s : State) (n : Nat) (c : Chan) : State :=
  { s with bal := { s.bal with chans := kvSet (fun _ => Chan.reset) s.bal.chans n c } }

/-- The sum of the tones of a band at a grain of its period, each of amplitude 1 (R218): cosines, tone i with the phase −π·i·(i−1)/N_t.
DESIGN CHOICE (log entry 51). -/
def sineSum (tones : List (Nat × Nat)) (j g : Nat) : Int :=
  let p := 4096 * 2 ^ j
  let n := tones.length
  (tones.zipIdx.map (fun x => (fxTurn ((2 * n * x.1.2 * g : Nat) - (p * (x.2 + 1) * x.2 : Nat) : Int) (2 * n * p)).1)).foldl (· + ·) 0

/-- Its largest value over the grains of the period, to which `XR_AMP` scales it (R218). -/
def sinePeak (tones : List (Nat × Nat)) (j : Nat) : Int := ((List.range (4096 * 2 ^ j)).map (sineSum tones j)).foldl max 1

/-- The part of a waveform that plays at an instant, in 1/65,536: up over 256 grains from `up`, and from `down` on over 256 grains from the
part reached there to nothing (R216, R223). A channel stopped before its ramp-up plays nothing. -/
def excGain (w : ExcWave) (now_ : Nat) : Nat :=
  match w.down with
  | some d => if d ≤ now_ then min 256 (d - w.up) * (256 - (now_ - d)) else 256 * min 256 (now_ - w.up)
  | none => 256 * min 256 (now_ - w.up)

/-- The value of a channel's multisine at a grain of its period with the part `gain` of its amplitude, mA (R218). DESIGN CHOICE (log entry 51). -/
def multisine (w : ExcWave) (gain g : Nat) : Int :=
  clampI (-(w.amp : Int)) w.amp (Config.roundQ (w.amp * sineSum w.tones w.j g * gain) (65536 * sinePeak w.tones w.j).toNat)

/-- The excitation that a channel plays at the present grain, mA (R216, R218). -/
def excNow (s : State) (ch : Nat) : Int :=
  match kvGet (fun _ => none) s.exc.waves ch with
  | none => 0
  | some w =>
    let gain := excGain w s.abs
    if gain = 0 then 0 else multisine w gain (((s.abs : Int) - w.origin) % (4096 * 2 ^ w.j : Nat)).toNat

/-- A channel gets a waveform that ramps up from the instant `up`; its phase begins with the next span (R216). -/
def setWave (ch b klo khi amp up : Nat) (s : State) : State :=
  let w : ExcWave := ⟨bandTones s klo khi b, bandJ s b, amp, (s.clk.span + 1) * 4096, up, none⟩
  { s with exc := { s.exc with waves := kvSet (fun _ => none) s.exc.waves ch (some w) } }

/-- A channel begins to excite: its loops are held, and the held output stays as a constant term, reduced to make room for the
amplitude; without a live balancing lease it is 0 (R219). DEDUCED (log entry 51). -/
def excite (ch amp : Nat) (s : State) : State :=
  let st := s.get (Reg.CH_STATE ch)
  let c := s.chan ch
  let room := s.get (Reg.CH_CLAMP ch) - amp
  let held : Int := if leaseLive s 0 && st = 1 then clampI (-(room : Int)) room c.cmd else 0
  let s1 := (s.put (Reg.CH_STATE ch) 5).setChan ch { c with cmd := held }
  { s1 with exc := { s1.exc with held := kvSet (fun _ => 0) s1.exc.held ch (b01 (st == 1)) } }

/-! ### The course of a sweep (R216, R224) -/

/-- XR_KLO, XR_KHI, XR_AMP and XR_REPS of the sweep in progress. -/
def sweepReq (s : State) : Nat × Nat × Nat × Nat :=
  match s.exc.sweep with
  | some (_, r) => r
  | none => (0, 0, 0, 0)

/-- A channel that is held at zero does not excite: one that is STOPPING, TRIPPED or in FAULT (R273, R276, R277). DEDUCED (log entry 81). -/
def exciteBlocked (s : State) (ch : Nat) : Bool := s.get (Reg.CH_STATE ch) = 2 || s.get (Reg.CH_STATE ch) = 3 || s.get (Reg.CH_STATE ch) = 4

/-- The next cell of tier `k` begins: it ramps up from the instant `up`, and its first settling period begins with the next span. A cell whose
channel is held at zero is CUT. Without a further cell no channel of the tier excites. DEDUCED (log entry 81). -/
def nextCell (k up : Nat) (e : ExcTier) (s0 : State) : State :=
  let s := s0.bumpBy Reg.EXC_CUT (e.cells.takeWhile (exciteBlocked s0)).length
  let (klo, khi, amp, _) := sweepReq s
  match e.cells.dropWhile (exciteBlocked s0) with
  | [] => (s.put (Reg.EXC_CELL k) 127).setExc k (some { e with cells := [], bands := [], start := none, leadIn := false })
  | c :: cs =>
    let e1 : ExcTier := { e with cells := cs, bands := requestBands s klo khi, good := 0, poor := false, tones := [], periods := [],
                                 measured := 0, stepped := false, replan := false, start := none, leadIn := true, settle := true,
                                 from_ := 0, rampAt := up }
    let s1 := excite c amp s
    let s2 := match e1.bands with
      | [] => s1
      | b :: _ => setWave c b klo khi amp up s1
    (s2.put (Reg.EXC_CELL k) c).setExc k (some e1)

/-- Begin a sweep (R216): every tier with named cells starts its first. DEDUCED (log entry 81). -/
def startSweep (m : Meta) (cells klo khi amp reps : Nat) (s : State) : State :=
  let s1 := (((s.put Reg.EXC_COMPLETE 0).put Reg.EXC_PARTIAL 0).put Reg.EXC_CUT 0).put Reg.EXC_STATE 1
  let s2 := { s1 with exc := { s1.exc with sweep := some (m, klo, khi, amp, reps), tiers := [], begun := some s.now } }
  (List.range 6).foldl (fun t k =>
    match (maskCells cells).filter (fun c => tierOf c == k) with
    | [] => t
    | cs => nextCell k t.abs ⟨cs, [], 0, false, [], [], 0, false, false, none, false, true, 0, 0, none⟩ t) s2

/-- The sweep is over when no tier has anything left (R216, R225). -/
def sweepDone (s : State) : State :=
  if s.exc.sweep.isSome && (List.range 6).all (fun k => (s.excTier k).isNone) then endSweep St.ok 0 s else s

/-- A tier without present cell, further cells or open record is finished. -/
def tierDone (k : Nat) (s : State) : State :=
  match s.excTier k with
  | none => s
  | some e => if s.get (Reg.EXC_CELL k) = 127 && e.cells.isEmpty && e.due.isNone then sweepDone (s.setExc k none) else s

/-- The sums of a bin over periods: Σ V·conj(I) (re, im), Σ |V|² and Σ |I|² (R213). -/
def binSums (k : Nat) (ps : List (List ToneSum)) : Int × Int × Int × Int :=
  ps.foldl (fun a p => match p.find? (fun x => x.bin == k) with
    | none => a
    | some x => (a.1 + x.vr * x.ir + x.vi * x.ii, a.2.1 + x.vi * x.ir - x.vr * x.ii, a.2.2.1 + x.vr * x.vr + x.vi * x.vi,
        a.2.2.2 + x.ir * x.ir + x.ii * x.ii)) (0, 0, 0, 0)

/-- The update of one bin from the measured periods of a band (R213, R221, R226, R230), in 10 µΩ and with the tap filter removed. -/
def injectBin (d : ExcDue) (k : Nat) (ps : List (List ToneSum)) (s : State) : State :=
  let (re, im, vv, ii) := binSums k ps
  let z := filterFix (s.get (Reg.TAU_TAP (tierOf d.cell))) 0 k (100 * re) (100 * im) ii
  storeBin d.cell k z (cohOf k (re * re + im * im) (vv * ii)) true false d.from_ d.spans s

/-- The record of the period that is due has arrived, or is lost (`none`): the band updates its bins after its last period, and
the cell takes its outcome after its last band (R220, R221, R225). -/
def finishDue (k : Nat) (rec_ : Option (Bool × List ToneSum)) (s : State) : State :=
  match s.excTier k with
  | none => s
  | some e =>
    match e.due with
    | none => s
    | some d =>
      let (_, _, amp, _) := sweepReq s
      let ps := match rec_ with
        | some (marred, sums) => if d.measured && d.clean && !marred then e.periods ++ [sums] else e.periods
        | none => e.periods
      if !d.lastBand then s.setExc k (some { e with due := none, periods := ps })
      else
        let ok := 4 ≤ ps.length
        let bins := ((List.range 16).map (· + 16 * d.band)).filter (fun b => ps.any (fun p => p.any (fun x => x.bin == b)))
        let s1 := if ok then bins.foldl (fun t b => injectBin d b ps t) s else s
        let a := if d.tones.length = 1 then amp else (Config.roundQ (amp * fxOne) (sinePeak d.tones d.j).toNat).toNat % 65536
        let s2 := if ok then { s1 with fab := { s1.fab with excAmp := kvSet (fun _ => 0) s1.fab.excAmp d.cell a } } else s1
        let poor := e.poor || !ok
        let s3 := s2.setExc k (some { e with due := none, periods := [], poor := if d.lastCell then false else poor,
                                             good := if d.lastCell then 0 else if ok then e.good + 1 else e.good })
        if d.lastCell then tierDone k (s3.bump (if poor then Reg.EXC_PARTIAL else Reg.EXC_COMPLETE)) else s3

/-- The period in progress ends where its last span is over: its record becomes due, and after the last period of the cell the next
cell begins (R216). -/
def endPeriod (k : Nat) (s : State) : State :=
  match s.excTier k with
  | none => s
  | some e =>
    match e.start with
    | none => s
    | some st =>
      if s.clk.span < st + 2 ^ s.get (Reg.EXC_J k) then s
      else
        let (_, _, _, reps) := sweepReq s
        let meas := !s.flag (Reg.EXC_SETTLING k)
        let n := if meas then e.measured + 1 else e.measured
        let lastBand := meas && reps ≤ n
        let rest := e.bands.drop 1
        let lastCell := lastBand && rest.isEmpty
        let d : ExcDue := ⟨s.get (Reg.EXC_CELL k), s.get (Reg.EXC_BAND k), meas, !e.stepped, lastBand, lastCell, e.from_,
          s.clk.span - e.from_, e.tones, s.get (Reg.EXC_J k)⟩
        let e1 := { e with due := some d, start := none, measured := if lastBand then 0 else n, settle := lastBand,
                           bands := if lastBand then rest else e.bands, tones := if lastBand then [] else e.tones }
        if lastCell then
          let s1 := unexcite (s.get (Reg.EXC_CELL k)) s
          let s2 := nextCell k (rampFrom s + 256) { e1 with periods := [] } s1
          match s2.excTier k with
          | some e2 => s2.setExc k (some { e2 with periods := e.periods, poor := e.poor, good := e.good })
          | none => s2
        else s.setExc k (some e1)

/-- A cell whose remaining bands are all skipped is over: COMPLETE if its earlier bands completed (R224). -/
def skipCell (k : Nat) (e : ExcTier) (s : State) : State :=
  let s1 := s.bump (if e.poor || e.good = 0 then Reg.EXC_PARTIAL else Reg.EXC_COMPLETE)
  tierDone k (nextCell k (rampFrom s + 256) e (unexcite (s1.get (Reg.EXC_CELL k)) s1))

/-- Begin the next period of tier `k` at the present span, with the band plan of the present span rate where it is new or a step
calls for it (R216, R224). -/
def startPeriod (k : Nat) (s : State) : State :=
  match s.excTier k with
  | none => s
  | some e =>
    let (klo, khi, _, _) := sweepReq s
    if s.get (Reg.EXC_CELL k) = 127 || e.start.isSome || (e.leadIn && s.abs ≤ e.rampAt) then s
    else
      let fresh := e.tones.isEmpty
      let bands := if fresh || e.replan then e.bands.dropWhile (fun b => (bandTones s klo khi b).isEmpty) else e.bands
      match bands with
      | [] => skipCell k e s
      | b :: _ =>
        let tones := if fresh || e.replan then bandTones s klo khi b else e.tones
        let j := if fresh || e.replan then bandJ s b else s.get (Reg.EXC_J k)
        let again := !fresh && (tones != e.tones || j != s.get (Reg.EXC_J k) || bands != e.bands)
        let settle := e.settle || again
        let e1 := { e with bands := bands, tones := tones, start := some s.clk.span, leadIn := false, stepped := false,
                           replan := false, settle := false, measured := if again then 0 else e.measured,
                           periods := if again then [] else e.periods, due := if again then none else e.due,
                           from_ := if !settle && e.measured = 0 then s.clk.span else e.from_ }
        let s1 := ((s.put (Reg.EXC_BAND k) b).put (Reg.EXC_J k) j).put (Reg.EXC_TONES k) tones.length
        let play (w : ExcWave) : ExcWave := { w with tones := tones, j := j, origin := s.abs }
        let ch := s.get (Reg.EXC_CELL k)
        let s2 := { s1 with exc := { s1.exc with waves := kvSet (fun _ => none) s1.exc.waves ch ((kvGet (fun _ => none) s1.exc.waves ch).map play) } }
        ((s2.putFlag (Reg.EXC_SETTLING k) settle).put (Reg.EXC_REP k) (if settle then 0 else e1.measured + 1)).setExc k (some e1)

/-- EXC_PERIOD_START (R216): at grain 0 of a span. A record of the last period that has not come by now is lost. -/
def execExcPeriodStart (k : Nat) (s : State) : Out :=
  if s.ready && s.get Reg.EXC_STATE = 1 && s.clk.grain = 0 then
    match s.excTier k with
    | none => done s
    | some e =>
      let s1 := endPeriod k (finishDue k none s)
      match s1.excTier k with
      | none => done s1
      | some e1 => if e1.leadIn && !e.leadIn then done s1 else done (tierDone k (startPeriod k s1))
  else done s

/-- The sum of a wave from grain `g` of a period of `p` grains on, weighted by exp(−j2π·h·g/p): real and imaginary part, in units of 2⁻⁶⁴ of
those of the wave. -/
def toneSum (h p : Nat) : Nat → Wave → Int × Int
  | _, [] => (0, 0)
  | g, (n, v) :: r =>
    let t := toneSum h p (g + n) r
    if v = 0 then t
    else (List.range n).foldl (fun a i =>
      let w := fxTurn (h * (g + i) : Nat) p
      (a.1 + v * w.1, a.2 - v * w.2)) t

/-- The sums of a period's tones (R220), from the grain means of the cell's voltage and of the channel's current. -/
def toneSums (d : ExcDue) (volt cur : Wave) : List ToneSum :=
  let p := 4096 * 2 ^ d.j
  d.tones.map (fun t =>
    let v := toneSum t.2 p 0 (waveFill p volt)
    let i := toneSum t.2 p 0 (waveFill p cur)
    ⟨t.1, v.1, v.2, i.1, i.2⟩)

/-- The length of the record of a period: 16 bytes for each tone and a header of 16 (R220). -/
def excRecordLen (sums : List ToneSum) : Nat := 16 + 16 * sums.length

/-- EXC_PERIOD_RECORD (R220, R221): the tier takes the grain means of the period that ended, in µV and mA, and sends its sums. A period
in which the cell over-ranged or its clamp conducted is dropped. DEDUCED (log entry 51). -/
def execExcPeriodRecord (k : Nat) (volt cur : Wave) (s : State) : Out :=
  if s.ready then
    match (s.excTier k).bind (fun e => e.due) with
    | none => done s
    | some d =>
      let sums := toneSums d volt cur
      let s1 := { s with exc := { s.exc with recLen := kvSet (fun _ => 0) s.exc.recLen k (excRecordLen sums) } }
      done (finishDue k (some (waveAny (beyond (localOf d.cell)) volt || waveAny clampOn volt, sums)) s1)
  else done s

/-! ### Pause and interruption (R222, R223) -/

/-- The sweep at grain 0 of a span: it pauses when the lease has no more than `EXC_GUARD` spans to run (R222). The period that ended
with the span before counts. -/
def excGuard (s : State) : State :=
  if s.get Reg.EXC_STATE = 1 && leaseE s 1 ≤ s.clk.span + s.get Reg.EXC_GUARD then
    let s1 := (List.range 6).foldl (fun t k =>
      match t.excTier k with
      | none => t
      | some _ =>
        let u := endPeriod k t
        match u.excTier k with
        | none => u
        | some e => (unexcite (u.get (Reg.EXC_CELL k)) u).setExc k (some { e with start := none, leadIn := true, settle := true, rampAt := u.abs })) s
    s1.put Reg.EXC_STATE 2
  else s

/-- A paused channel of tier `k` ramps up again in the next span, for the interrupted band (R222); one that has been stopped meanwhile is CUT.
DEDUCED (log entry 81). -/
def resumeTier (k : Nat) (s : State) : State :=
  match s.excTier k with
  | none => s
  | some e =>
    let ch := s.get (Reg.EXC_CELL k)
    let up := (s.clk.span + 1) * 4096
    if ch = 127 then s
    else if exciteBlocked s ch then tierDone k (nextCell k up e (s.bump Reg.EXC_CUT))
    else
      let (klo, khi, amp, _) := sweepReq s
      let s1 := (excite ch amp s).setExc k (some { e with rampAt := up })
      setWave ch (e.bands.headD 0) klo khi amp up s1

/-- EXC_RESUME (R222): a renewal lifts the rest of the lease above the guard: the paused channels ramp up again. -/
def execExcResume (s : State) : Out :=
  if s.ready && s.get Reg.EXC_STATE = 2 && leaseLive s 1 && s.clk.span + s.get Reg.EXC_GUARD < leaseE s 1 then
    done ((List.range 6).foldl (fun t k => resumeTier k t) (s.put Reg.EXC_STATE 1))
  else done s

/-- EXC_LEASE_END (R222): the end of the lease arrives while the sweep is PAUSED. -/
def execExcLeaseEnd (s : State) : Out :=
  if s.ready && s.get Reg.EXC_STATE = 2 && leaseE s 1 ≤ s.clk.span then done (endSweep St.noLease 1 s) else done s

/-- The present cell of tier `k` is CUT and the tier moves to its next cell (R223). `ch` has already left EXCITING. -/
def cutCell (k : Nat) (s : State) : State :=
  match s.excTier k with
  | none => s
  | some e =>
    if s.get (Reg.EXC_CELL k) = 127 then s
    else
      let d := if e.due.any (fun x => x.lastCell) then e.due else none
      tierDone k (nextCell k (rampFrom s + 256) { e with due := d, periods := if d.isSome then e.periods else [] } (s.bump Reg.EXC_CUT))

/-- The cells of tier `k` still to run are CUT: the tier has lost its set-points (R223). -/
def cutTier (k : Nat) (s : State) : State :=
  match s.excTier k with
  | none => s
  | some e =>
    let now := if s.get (Reg.EXC_CELL k) = 127 then 0 else 1
    let s1 := unexcite (s.get (Reg.EXC_CELL k)) (s.bumpBy Reg.EXC_CUT (now + e.cells.length))
    tierDone k ((s1.put (Reg.EXC_CELL k) 127).setExc k (some { e with cells := [], due := e.due.filter (fun x => x.lastCell) }))

end Sys2Proof.Machine
end

