-- ==== Sys2Proof/Machine/Balance.lean ====
section
/-!
DEFINITION. Balancing (R250 to R285): the laws and forms of the loops, selection and slew, supervision, the loop sample with its
stops, the power stages of the tiers with their diagnosis, and BAL_SET.
-/

namespace Sys2Proof.Machine

/-! ### Loops (R257 to R261) -/

/-- Base addresses of the loop blocks (R285). -/
def vtBase (n : Nat) : Nat := 0x30040 + 0x200 * n

def ilBase (n : Nat) : Nat := 0x30090 + 0x200 * n

def tempBase (n : Nat) : Nat := 0x300E0 + 0x200 * n

def budBase (k : Nat) : Nat := 0x3E010 + 0x100 * k

/-- The gain of the look-up table at |e| = `x` (R259); products and quotients are truncated toward zero (R258). -/
def lutGain (s : State) (b x : Nat) : Int :=
  let e (i : Nat) : Int := s.get (Reg.E_BP b i)
  let g (i : Nat) : Int := s.get (Reg.G b i)
  if (x : Int) ≤ e 0 then g 0
  else
    match (List.range 15).find? (fun i => decide ((x : Int) < e (i + 1))) with
    | none => g 15
    | some i => if e i < e (i + 1) then g i + Int.tdiv ((g (i + 1) - g i) * ((x : Int) - e i)) (e (i + 1) - e i) else g (i + 1)

/-- law(e) of the look-up table (R259). -/
def lutLaw (s : State) (b : Nat) (e : Int) : Int := Int.tdiv (lutGain s b e.natAbs * e) 1024

/-- The level of the hysteretic law after error `e` from the level `lev` (R260). DEDUCED (log entry 54). -/
def hystLevel (s : State) (vt : Bool) (b : Nat) (e lev : Int) : Int :=
  let lo := s.getS (Reg.H_LO b)
  let hi := s.getS (Reg.H_HI b)
  let on : Int := s.get (Reg.H_ON b)
  if vt then
    if max 0 hi ≤ e.natAbs then e.sign * on else if (e.natAbs : Int) ≤ max 0 lo then 0 else lev
  else if hi ≤ e then on
  else if e ≤ lo then (s.get (Reg.H_OFF b) : Int)
  else lev

/-- Law and form of a loop as one code from 1 to 4. -/
def lawCode (s : State) (b : Nat) : Nat := 1 + s.get (Reg.LAW b) + 2 * s.get (Reg.FORM b)

/-- The state of a loop as its channel enters RUN (R258): a limiting loop at its clamp, the VT loop at 0. -/
def loopStart (s : State) (b : Nat) (start : Int) : LoopSt := ⟨start, if s.flag (Reg.FORM b) then 0 else start, lawCode s b⟩

/-- One evaluation of a loop with error `e`, clamped to `[lo, hi]` (R258 to R260, R268). `vt`: the VT loop, whose output keeps the
sign of its error (R257, R267). DEDUCED (log entry 54). -/
def loopStep (s : State) (vt : Bool) (b : Nat) (lo hi e : Int) (st : LoopSt) : LoopSt :=
  if s.flag (Reg.FREEZE b) then { st with out := clampI lo hi st.out }
  else
    let code := lawCode s b
    let form := s.flag (Reg.FORM b)
    let st0 := if st.law = code then st else { st with lev := if form then 0 else st.out, law := code }
    let lev := if s.flag (Reg.LAW b) then hystLevel s vt b e st0.lev else st0.lev
    let law := if s.flag (Reg.LAW b) then lev else lutLaw s b e
    let raw := if form then st0.out + law else law
    if vt && raw.sign != e.sign && raw != 0 then { st0 with out := 0, lev := if form then lev else 0 }
    else { st0 with out := clampI lo hi raw, lev := lev }

/-! ### What the loop records give (R254, R255) -/

/-- The interval mean of a cell, and whether its blocks carry OR or DS, or EST (R261, R545). -/
def loopV (recs : KV (Option LoopRec)) (c : Nat) : Option (Int × Bool × Bool) :=
  match kvGet (fun _ => none) recs (tierOf c) with
  | some r => r.cells.getD (localOf c) none
  | none => none

/-- The currents of a channel: into the own cell, into the partner cell, and the mean sensed current. -/
def loopI (recs : KV (Option LoopRec)) (n : Nat) : Option (Int × Int × Int) :=
  match kvGet (fun _ => none) recs (tierOf n) with
  | some r => r.chans[localOf n]?
  | none => none

/-- The partner cell of a channel (R250). -/
def partnerOf (n : Nat) : Nat := if n = 107 then 106 else n + 1

/-- A current that no record of the interval gives is open. DEDUCED (log entry 53). -/
def lostCurrent (s : State) (n : Nat) : Int := Config.realFn 254 [s.clk.span, s.clk.grain, n]

/-- The balancing current of a cell in the interval just ended (R254): a PASSIVE channel gives minus its bleed current. DEDUCED (log entry 53). -/
def ibalOf (s : State) (recs : KV (Option LoopRec)) (c : Nat) : Int :=
  let mode (n : Nat) : Nat := s.get (Reg.BAL_MODE (tierOf n))
  let own : Int := match mode c with
    | 0 => 0
    | 1 => (loopI recs c).elim (lostCurrent s c) (fun i => -i.2.2)
    | _ => (loopI recs c).elim (lostCurrent s c) (·.1)
  let part (n : Nat) : Int := if mode n = 2 && partnerOf n = c then (loopI recs n).elim (lostCurrent s n) (·.2.1) else 0
  own + (if 0 < c then part (c - 1) else 0) + (if c = 106 then part 107 else 0)

/-- Pack current of interval `m` of span `p` on a SINK: the mean of its paired words, once all have come (R270). DEDUCED (log entry 41). -/
def sinkPack (s : State) (p m : Nat) : Option Int :=
  let n := nOfCode (s.get (Reg.EFF_SUBWIN 0))
  let per := n / 16
  let ws := (List.range per).filterMap (fun i => s.cur.paired.find? (fun w => w.1 == p && w.2.1 == m * per + i))
  if n < 16 || ws.length < per || ws.any (fun w => w.2.2.1 % 2 ^ 24 == 0x800000) then none
  else some (Config.roundQ ((ws.map (fun w => signed 24 w.2.2.1)).foldl (· + ·) 0) per)

/-- The span and interval that `back` loop intervals before now name. -/
def intervalAt (s : State) (back : Nat) : Nat × Nat :=
  let j := s.clk.span * 16 + s.clk.grain / 256 - back
  (j / 16, j % 16)

/-- The mean pack current of the interval just ended (`back` 1) or the one before (`back` 2), mA. -/
def packI (s : State) (recs : KV (Option LoopRec)) (back : Nat) : Option Int :=
  if s.get Reg.CB_ROLE = 2 then sinkPack s (intervalAt s back).1 (intervalAt s back).2
  else if s.get Reg.I_SRC = 3 then none
  else match kvGet (fun _ => none) recs 0 with
    | some r => r.pack
    | none => none

/-- Σ V·I over the channels of a tier (R257), mW. -/
def tierPower (s : State) (k : Nat) (r : LoopRec) : Int :=
  ((List.range 18).map (fun i =>
    match r.cells.getD i none, r.chans[i]? with
    | some (v, _, _), some (_, _, mean) =>
      match s.get (Reg.BAL_MODE k) with
      | 1 => Int.tdiv (v * mean) 10000
      | 2 => Int.tdiv ((mean.natAbs : Int) * v * (256 - s.get (Reg.ETA k))) 2560000
      | _ => 0
    | _, _ => 0)).foldl (· + ·) 0

/-! ### Channels -/

/-- The temperature that `T_SRC` of a channel names (R257). -/
def chanTemp (s : State) (n : Nat) : Option Int := tempSource s (s.get (Reg.T_SRC n)) (tierDies (tierOf n))

/-- The temperatures that a `T_SRC` stands for. -/
def chanSensors (s : State) (n : Nat) : List Nat :=
  if s.get (Reg.T_SRC n) = 254 then tierDies (tierOf n) else [s.get (Reg.T_SRC n)]

/-- `T_SRC` of a channel has had no valid value for 64 spans, counted from its last valid one or from READY (R261). -/
def chanTempLost (s : State) (n : Nat) : Bool :=
  let last := ((chanSensors s n).map (fun i => kvGet (fun _ => 0) s.fab.tOk i)).foldl max s.start.readySpan
  s.get (Reg.T_SRC n) != 255 && (chanTemp s n).isNone && last + 64 ≤ s.clk.span

/-- The counts of `BAL_STATUS`. -/
def balCounts (s : State) : State :=
  let n (f : Nat → Bool) : Nat := ((listedChannels s).filter (fun i => f (s.get (Reg.CH_STATE i)))).length
  ((s.put Reg.N_RUN (n (fun v => v == 1 || v == 5))).put Reg.N_TRIPPED (n (fun v => v == 3))).put Reg.N_FAULT (n (fun v => v == 4))

/-- A channel enters RUN (R258, R270, R272). -/
def enterRun (n : Nat) (s : State) : State :=
  let k := tierOf n
  let clamp : Int := s.get (Reg.CH_CLAMP n)
  let others := (List.range 18).any (fun i => [1, 5].contains (s.get (Reg.CH_STATE (18 * k + i))))
  let top : Int := (((List.range 18).map (fun i => s.get (Reg.CH_CLAMP (18 * k + i)))).foldl max 0 : Nat)
  let c : Chan := { (s.chan n) with vt := loopStart s (vtBase n) 0, il := loopStart s (ilBase n) clamp, temp := loopStart s (tempBase n) clamp,
                                    cmd := 0, sp := .zero, after := 0, stop := none, trip := none, rerun := false, fails := [], revs := [],
                                    sign := 0, runAt := s.clk.span + 1 }
  let s1 := (((s.put (Reg.CH_STATE n) 1).put (Reg.SUP_FAILS n) 0).put (Reg.OSC_COUNT n) 0).setChan n c
  if others then s1
  else { s1 with bal := { s1.bal with bud := kvSet (fun _ => LoopSt.reset) s1.bal.bud k (loopStart s (budBase k) top) } }

/-- The loop supervision event (R284). -/
def supEvent (cause n b11 top : Nat) (s : State) : State := raise 502 (cause + 16 * n + 2048 * b11 + 65536 * top) s

/-- The balancing stage event (R284). -/
def stageEvent (cause n : Nat) (top : Nat) (s : State) : State :=
  raise 503 (cause + 16 * n + 65536 * top) (s.put (Reg.LAST_FINDING n) cause)

/-- Order the stop of a running channel (R276, R281). One ramp serves every cause that falls due: the state after is FAULT where a finding
waits, TRIPPED where a trip does, which is then made (R273), and else the one given (R282). A channel that excites ends its cell with it, and
its excitation ramps from the apply grain (R223, R282). DEDUCED (log entry 56). -/
def orderStop (n after : Nat) (s : State) : State :=
  let c := s.chan n
  let s0 := match c.trip with
    | some (cause, v) => supEvent cause n 0 (unsigned 16 v) (s.bump (Reg.TRIPS n))
    | none => s
  let a := if c.stop.isSome then c.stop.getD 4 else if c.trip.isSome then 3 else after
  let s1 := (s0.put (Reg.CH_STATE n) 2).setChan n { s0.chan n with cmd := 0, after := a, stop := none, trip := none, rerun := false }
  if s.get (Reg.CH_STATE n) = 5 then
    cutCell (tierOf n) (rampWave n (rampFrom s1 + 32) { s1 with exc := { s1.exc with held := kvSet (fun _ => 0) s1.exc.held n 0 } })
  else s1

/-- A stage finding (R274, R277): the stage event now, and the stop at the next sample; none in HOLD (R283). DEDUCED (log entry 56). -/
def finding (cause n : Nat) (mA : Int) (s : State) : State :=
  let c := s.chan n
  let st := s.get (Reg.CH_STATE n)
  if !s.ready || !s.linkUp (tierOf n) || s.modeNow = 5 then s
  else
    let s1 := if st = 1 || st = 5 then s.setChan n { c with stop := some 4 }
      else if st = 2 then s.setChan n { c with after := 4, rerun := false } else s
    if st = 1 || st = 5 || st = 2 then stageEvent cause n (unsigned 16 (clampI (-32768) 32767 mA)) s1 else s1

/-! ### Selection (R262, R263) -/

/-- One slew step (R263). -/
def slewStep (step prev want : Int) : Int :=
  if prev != 0 && want.sign != prev.sign then prev.sign * max 0 (prev.natAbs - step)
  else prev + clampI (-step) step (want - prev)

/-- The channel's ceiling and winning loop (R262). -/
def selectCeil (clamp bud : Int) (il temp : Option Int) (vt : Int) : Int × Nat :=
  let lims := (match il with
    | some u => [(u, 1)]
    | none => []) ++ (match temp with
    | some u => [(u, 2)]
    | none => []) ++ [(bud, 3)]
  let low := lims.foldl (fun (b : Int × Nat) x => if x.1 < b.1 then x else b) (lims.headD (bud, 3))
  (min clamp low.1, if (vt.natAbs : Int) ≤ low.1 then 0 else low.2)

/-- Length of a PWM period (R252). -/
def periodLen (s : State) (k : Nat) : Nat := 256 * 2 ^ s.get (Reg.PASSIVE_PERIOD k)

/-- The pulses of a duty are shorter than 64 grains but not zero (R275). -/
def shortPulses (s : State) (k : Nat) (duty : Int) : Bool := 0 < duty && duty * periodLen s k < 64 * 4096

/-- The command of a running channel from its loop outputs (R262, R263): the channel, and the winning loop. -/
def command (s : State) (n : Nat) (c : Chan) : Chan × Nat :=
  let k := tierOf n
  let shuttle := s.get (Reg.BAL_MODE k) = 2
  let il := if shuttle && s.flag (Reg.IL_EN n) then some c.il.out else none
  let temp := if s.get (Reg.T_SRC n) = 255 then none else some c.temp.out
  let (ceil, win) := selectCeil (s.get (Reg.CH_CLAMP n)) (kvGet (fun _ => LoopSt.reset) s.bal.bud k).out il temp c.vt.out
  let mag0 := min (c.vt.out.natAbs : Int) ceil
  let mag1 := if !shuttle && c.vt.out < 0 then 0 else mag0
  let mag := if mag1 < s.get (Reg.FF_DEAD n) then 0
    else if mag1 < s.get (Reg.FF_MIN n) then (if mag1 = 0 then 0 else min (s.get (Reg.FF_MIN n) : Int) ceil) else mag1
  let want := c.vt.out.sign * mag
  let cmd := if shuttle then slewStep (20 * s.get (Reg.SLEW n)) c.cmd want else want
  let short := s.get (Reg.DIAG_EN k) = 1 && s.get (Reg.BAL_MODE k) = 1 && s.clk.grain / 256 = 15 && (s.clk.span + 1) % 64 = n % 64
    && shortPulses s k cmd
  let sp : SetPoint := ⟨cmd, (if shuttle then ceil / 2 else ceil).toNat % 4096, false, short, shuttle && s.flag (Reg.FF_EN n)⟩
  ({ c with cmd := cmd, sp := sp }, win)

/-- The loops of a running channel at a sample (R257 to R261). DEDUCED (log entry 53). -/
def runLoops (s : State) (recs : KV (Option LoopRec)) (n : Nat) (c : Chan) : Chan :=
  let k := tierOf n
  let clamp : Int := s.get (Reg.CH_CLAMP n)
  let vlo : Int := if s.get (Reg.BAL_MODE k) = 2 then -clamp else 0
  let vt := match loopV recs n with
    | some (v, false, mark) =>
      if mark || bit (kvGet (fun _ => 0) (s.pr k).lastWord (localOf n)) 27 then { c.vt with out := clampI vlo clamp c.vt.out }
      else
        let e := v + Int.tdiv ((s.get (Reg.IR_COMP n) : Int) * ibalOf s recs n) 10000 - s.get (Reg.TARGET n)
        loopStep s true (vtBase n) vlo clamp e c.vt
    | _ => { c.vt with out := clampI vlo clamp c.vt.out }
  let il := if s.get (Reg.BAL_MODE k) != 2 || !s.flag (Reg.IL_EN n) then c.il else match loopI recs n with
    | some (_, _, i) => loopStep s false (ilBase n) 0 clamp ((s.get (Reg.LIM (ilBase n)) : Int) - i.natAbs) c.il
    | none => { c.il with out := clampI 0 clamp c.il.out }
  let temp := match chanTemp s n with
    | some t => loopStep s false (tempBase n) 0 clamp (s.getS (Reg.LIM (tempBase n)) - t) c.temp
    | none => if chanTempLost s n && !s.flag (Reg.FREEZE (tempBase n)) then { c.temp with out := 0 }
      else { c.temp with out := clampI 0 clamp c.temp.out }
  { c with vt := vt, il := il, temp := temp }

/-- The budget loop of a tier (R257, R261). DEDUCED (log entry 54). -/
def runBudget (k : Nat) (s : State) : State :=
  if s.get (Reg.BAL_MODE k) = 0 then s
  else
    let top : Int := (((List.range 18).map (fun i => s.get (Reg.CH_CLAMP (18 * k + i)))).foldl max 0 : Nat)
    let st := kvGet (fun _ => LoopSt.reset) s.bal.bud k
    let st0 := if st.law = 0 then loopStart s (budBase k) top else st
    match kvGet (fun _ => none) s.bal.recs k with
    | none => s
    | some r =>
      let p := tierPower s k r
      let st1 := loopStep s false (budBase k) 0 top ((s.get (Reg.LIM (budBase k)) : Int) - p) st0
      let s1 := { s with bal := { s.bal with bud := kvSet (fun _ => LoopSt.reset) s.bal.bud k st1 } }
      (s1.put (Reg.P_TIER k) (clampI 0 65535 p).toNat).put (Reg.U_BUD k) (clampI 0 65535 st1.out).toNat

/-! ### Supervision (R269 to R273) -/

/-- The plausibility supervisor of a cell at a sample (R270): whether the step is evaluated, and then whether it fails and its ratio. -/
def plausStep (s : State) (n : Nat) : Option (Bool × Int) :=
  match supInUse s n, loopV s.bal.recs n, loopV s.bal.prev n, packI s s.bal.recs 1, packI s s.bal.prev 2, s.bal.ibal with
  | some r, some (v1, false, _), some (v0, false, _), some p1, some p0, (t1, now) :: (t0, before) :: _ =>
    let di := now.getD n 0 - before.getD n 0
    let dp := p1 - p0
    if t0 + 256 != t1 || di.natAbs < s.get Reg.SUP_STEP * 10 || s.get Reg.SUP_QUIET * 10 < dp.natAbs then none
    else
      let den0 := r * (di + dp)
      let num0 := (v1 - v0) * 640000
      if den0 = 0 then
        let rho := Config.realFn 270 [num0, s.clk.span, s.clk.grain, n]
        some (decide (rho < s.get Reg.SUP_RLO) || decide ((s.get Reg.SUP_RHI : Int) < rho) || decide (rho < 0), rho)
      else
        let den := den0.natAbs
        let num := if den0 < 0 then -num0 else num0
        some (decide (num < s.get Reg.SUP_RLO * den) || decide ((s.get Reg.SUP_RHI : Int) * den < num) || decide (num < 0),
          Config.roundQ num den)
  | _, _, _, _, _, _ => none

/-- Which supervisor a NATIVE channel uses (R271): the oscillation detector, and then whether for want of pack current. -/
def oscNow (s : State) (n : Nat) : Bool × Bool :=
  let noR := (supInUse s n).isNone
  let noP := s.bal.packAt.getD s.start.readySpan + 64 ≤ s.clk.span
  (noR || noP, !noR && noP)

/-- Track the supervisor in use (R271). -/
def trackSup (n : Nat) (s : State) : State :=
  if s.get (Reg.SUP_MODE n) != 0 then s.put (Reg.SUP_OSC n) 0
  else
    let (osc, pack) := oscNow s n
    if osc == s.flag (Reg.SUP_OSC n) then s
    else
      let s1 := s.putFlag (Reg.SUP_OSC n) osc
      let run := s.get (Reg.CH_STATE n) == 1 || s.get (Reg.CH_STATE n) == 5
      s1.when run (supEvent (if osc then 3 else 4) n (b01 (osc && pack)) 0)

/-- Supervise a channel in RUN or EXCITING at a sample (R270, R272): a trip is acted on at the next sample (R273). -/
def supervise (n : Nat) (s : State) : State :=
  let run := s.get (Reg.CH_STATE n) = 1
  let mode := s.get (Reg.SUP_MODE n)
  let plausOn := mode = 2 || (mode = 0 && !s.flag (Reg.SUP_OSC n))
  let oscOn := mode != 0 || s.flag (Reg.SUP_OSC n)
  let c := s.chan n
  let step := if plausOn then plausStep s n else none
  let fails := match step with
    | some (f, _) => (f :: c.fails).take 8
    | none => c.fails
  let nf := (fails.filter (fun f => f)).length
  let tripP := match step with
    | some (_, rho) => if s.get Reg.SUP_TRIP ≤ nf then some (1, clampI (-32768) 32767 rho) else none
    | none => none
  let band (sg : Int) : Bool × Int := match loopV s.bal.recs n with
    | some (v, false, mark) =>
      let e := v + Int.tdiv ((s.get (Reg.IR_COMP n) : Int) * ibalOf s s.bal.recs n) 10000 - s.get (Reg.TARGET n)
      let est := mark || bit (kvGet (fun _ => 0) (s.pr (tierOf n)).lastWord (localOf n)) 27
      if est || e.natAbs ≤ s.get Reg.OSC_BAND then (false, sg) else (sg != 0 && sg != e.sign, e.sign)
    | _ => (false, sg)
  let (rev, sg) := band c.sign
  let revs := if run then (rev :: c.revs).take (s.get Reg.OSC_WIN) else c.revs
  let nr := (revs.filter (fun f => f)).length
  let tripO := if run && oscOn && s.get Reg.OSC_MAX ≤ nr then some (2, (nr : Int)) else none
  let c1 := { c with fails := fails, revs := revs, sign := if run then sg else c.sign, trip := tripP.or tripO }
  ((s.setChan n c1).put (Reg.SUP_FAILS n) nf).put (Reg.OSC_COUNT n) (min 255 nr)

/-! ### The loop sample (R255, R262, R281, R283) -/

/-- A channel can run: its tier is not OFF, and its cell, in SHUTTLE its partner cell too, is enabled (R250, R251). A request that a commit has
overtaken does not start it. DEDUCED (log entry 55). -/
def canRun (s : State) (n : Nat) : Bool :=
  s.get (Reg.BAL_MODE (tierOf n)) != 0 && s.cellOn n && (s.get (Reg.BAL_MODE (tierOf n)) != 2 || s.cellOn (partnerOf n))

/-- The requests that wait for the sample (R280): RUN and RESUME under a live lease outside HOLD, STOP always. -/
def takeRequest (n : Nat) (on : Bool) (r : Nat × Nat) (s : State) : State :=
  let st := s.get (Reg.CH_STATE n)
  match r.1 with
  | 0 =>
    let s1 := s.put (Reg.TARGET n) r.2
    if st = 0 && on then enterRun n s1
    else if st = 2 && (s.chan n).after = 0 then s1.setChan n { s1.chan n with rerun := true }
    else s1
  | 1 =>
    if st = 1 || st = 5 then orderStop n 0 s
    else if st = 3 || st = 4 then s.put (Reg.CH_STATE n) 0
    else s.setChan n { s.chan n with rerun := false }
  | _ => if st = 3 && on then supEvent 5 n 0 0 (enterRun n s) else s

/-- A stop falls due for a channel at the sample (R281). -/
def stopDue (s : State) (n : Nat) (on : Bool) : Bool :=
  let c := s.chan n
  let st := s.get (Reg.CH_STATE n)
  (st = 1 || st = 5) && (c.stop.isSome || c.trip.isSome || (st = 1 && !on) || s.modeNow = 5)

/-- Stops and requests of one channel at a sample. -/
def sampleStops (n : Nat) (live : Bool) (s : State) : State :=
  let s2 := s.when (stopDue s n live) (orderStop n 0)
  let on := live && canRun s n
  let again := (s2.chan n).rerun && s2.get (Reg.CH_STATE n) == 0
  let s3 := if again then (if on then enterRun n s2 else s2.setChan n { s2.chan n with rerun := false }) else s2
  let reqs := (s3.chan n).req
  reqs.foldl (fun t r => takeRequest n on r t) (s3.setChan n { s3.chan n with req := [] })

/-- A tier that has sent no loop record for two samples has stopped itself: its channels are IDLE (R22, R281). -/
def missedStop (n : Nat) (s : State) : State :=
  let st := s.get (Reg.CH_STATE n)
  if 2 ≤ kvGet (fun _ => 0) s.bal.missed (tierOf n) && (st = 1 || st = 2 || st = 5) then
    let s1 := orderStop n (if st = 2 then (s.chan n).after else 0) s
    s1.put (Reg.CH_STATE n) (s1.chan n).after
  else s

/-- The lowest output of the limiting loops over a channel that excites (R223, R257): the budget of its tier, and the held IL and TEMP where the
channel ran before and they are active. DEDUCED (log entry 51). -/
def exciteCeil (s : State) (n : Nat) (c : Chan) : Int :=
  let bud := (kvGet (fun _ => LoopSt.reset) s.bal.bud (tierOf n)).out
  if kvGet (fun _ => 0) s.exc.held n = 0 then bud
  else
    let il := if s.flag (Reg.IL_EN n) then min bud c.il.out else bud
    if s.get (Reg.T_SRC n) = 255 then il else min il c.temp.out

/-- The command of one channel at the sample, and the word that its tier is sent (R256, R262). -/
def sampleCommand (n : Nat) (s : State) : State :=
  let c := s.chan n
  match s.get (Reg.CH_STATE n) with
  | 1 =>
    let (c1, win) := command s n (runLoops s s.bal.recs n c)
    ((s.setChan n c1).put (Reg.CMD_NOW n) (unsigned 16 c1.cmd)).put (Reg.WIN_LOOP n) win
  | 5 =>
    let cmd := if leaseLive s 0 then c.cmd else 0
    let s1 := if leaseLive s 0 then s else { s with exc := { s.exc with held := kvSet (fun _ => 0) s.exc.held n 0 } }
    let s2 := (s1.setChan n { c with cmd := cmd, sp := ⟨cmd, s.get (Reg.CH_CLAMP n) / 2, false, false, s.flag (Reg.FF_EN n)⟩ }).put
      (Reg.CMD_NOW n) (unsigned 16 cmd)
    let (_, _, amp, _) := sweepReq s2
    if exciteCeil s2 n c < cmd.natAbs + amp then cutCell (tierOf n) (unexcite n s2) else s2
  | 2 => (s.setChan n { c with cmd := 0, sp := ⟨0, 0, true, false, false⟩ }).put (Reg.CMD_NOW n) 0
  | _ => (s.setChan n { c with cmd := 0, sp := .zero }).put (Reg.CMD_NOW n) 0

/-- The values that a loop record shows (R285). -/
def showRecord (k : Nat) (r : LoopRec) (s : State) : State :=
  (List.range 18).foldl (fun t i =>
    let n := 18 * k + i
    let t1 := match r.cells.getD i none with
      | some (v, _, _) => if t.cellOn n then t.put (Reg.VLOOP n) (clampI 0 65535 v).toNat else t
      | none => t
    match r.chans[i]? with
    | some (_, _, m) => t1.put (Reg.I_NOW n) (unsigned 16 (clampI (-32768) 32767 m))
    | none => t1) s

/-- The records of the interval just ended come into use: what is missing is counted, and the balancing currents are kept. -/
def takeRecords (s : State) : State :=
  let recs := s.bal.recs
  let s1 := (List.range 6).foldl (fun t k =>
    match kvGet (fun _ => none) recs k with
    | some r => showRecord k r { t with bal := { t.bal with missed := kvSet (fun _ => 0) t.bal.missed k 0 } }
    | none => { t with bal := { t.bal with missed := kvSet (fun _ => 0) t.bal.missed k (min 2 (kvGet (fun _ => 0) t.bal.missed k + 1)) } }) s
  let ib := (List.range 108).map (ibalOf s recs)
  let pack := (packI s recs 1).isSome || (s.get Reg.CB_ROLE = 2 && 16 ≤ nOfCode (s.get (Reg.EFF_SUBWIN 0))
    && s.cur.paired.any (fun w => s.clk.span ≤ w.1 + 1 && w.2.1 != summaryIdx))
  { s1 with bal := { s1.bal with ibal := ((s.abs, ib) :: s1.bal.ibal).take 48, packAt := if pack then some s.clk.span else s1.bal.packAt } }

/-- What a loop sample does at its grain. The supervisor in use is found before a channel enters RUN, which is so no change for it (R271). In
HOLD nothing is supervised and every command is 0 (R283). -/
def loopSample (s : State) : State :=
  let live := leaseLive s 0
  let hold := s.modeNow = 5
  let s1 := takeRecords (s.putFlag Reg.LEASE_LIVE live)
  let s2 := (List.range 108).foldl (fun t n =>
    sampleStops n (live && !hold) (missedStop n (if hold then t else trackSup n t))) s1
  let s3 := (List.range 6).foldl (fun t k => runBudget k t) s2
  let s4 := (List.range 108).foldl (fun t n => sampleCommand n t) s3
  let s5 := if hold then s4 else (List.range 108).foldl (fun t n =>
    if t.get (Reg.CH_STATE n) = 1 || t.get (Reg.CH_STATE n) = 5 then supervise n t else t) s4
  balCounts { s5 with bal := { s5.bal with prev := s5.bal.recs, recs := [], sampleAt := s.abs, ffOld := [] } }

/-- LOOP_SAMPLE (R255 to R263, R269 to R273, R281 to R283): the grains up to the next loop sample pass, and it is taken, once. DEDUCED (log entry 98). -/
def execLoopSample (s : State) : Out :=
  if s.ready && !s.flag Reg.RESCUE then
    match s.passTo (nextBoundary s.bal.sampleAt s.abs 256) with
    | none => done s
    | some t => done (loopSample t)
  else done s

/-- LOOP_TEMP_LOST (R261). -/
def execLoopTempLost (ch : Nat) (s : State) : Out :=
  if s.ready && ch < 108 && chanTempLost s ch && !s.flag (Reg.FREEZE (tempBase ch)) then
    let c := s.chan ch
    done (s.setChan ch { c with temp := { c.temp with out := 0 } })
  else done s

/-! ### The stages (R252 to R254, R274 to R277) -/

def State.stage (s : State) (n : Nat) : Stage := kvGet (fun _ => Stage.reset) s.bal.stages n

def State.setStage (s : State) (n : Nat) (g : Stage) : State :=
  { s with bal := { s.bal with stages := kvSet (fun _ => Stage.reset) s.bal.stages n g } }

/-- The channels of a tier. -/
def tierChans (k : Nat) : List Nat := (List.range 18).map (· + 18 * k)

/-- The drivers of a tier can act. -/
def drives (s : State) (k : Nat) : Bool := k < 6 && (s.tl k).supplied && !(s.tl k).store

/-- The interval mean of a local cell over `[a, b)` in 100 µV with its marks (R255, R545): the 16 block means of the converter that serves the
cell; a cell that none serves carries EST and its substitute. -/
def loopCell (s : State) (k c a b : Nat) : Option (Int × Bool × Bool) :=
  if !localOn s k c then none
  else
    match cellSource s k c (a / 4096) b with
    | .substitute => some (((substitute s k c (a / 4096)).elim 0 (fun v => Config.roundQ v 100)), false, true)
    | src =>
      let i := src.conv c
      let m := blockMean s k i a b
      some (if m.2 = 0 then 0 else Config.roundQ m.1 (100 * m.2), overRanged s k i a b || disturbed s k c a b, false)

/-- The mean pack current of `[a, b)` in mA from the source of R153, where every block has a value (R255). -/
def loopPack (s : State) (a b : Nat) : Option Int :=
  if s.get Reg.I_SRC = 3 then none
  else
    let bs := (blockAmps s a b).filterMap (·.2)
    if bs.length < (b - a) / 16 then none else some (Config.roundQ (1000 * bs.foldl (· + ·) 0) (2 ^ 32 * bs.length))

/-- NO_RESPONSE of a SHUTTLE channel over the interval just ended (R277); a new interval begins for the trips. -/
def stageInterval (n : Nat) (mean : Int) (t : State) : State :=
  let g := t.stage n
  let weak := t.modeNow != 5 && t.get (Reg.BAL_MODE (tierOf n)) = 2 && 500 ≤ g.now.cmd.natAbs && 10 * mean.natAbs < g.now.cmd.natAbs
  let no := if weak then g.noResp + 1 else 0
  let t1 := t.setStage n { g with trips := 0, noResp := if 2 ≤ no then 0 else no }
  t1.when (2 ≤ no) (finding 7 n mean)

/-- LOOP_INTERVAL_END (R255): the grains up to the end of the loop interval pass, the readings of the tier arrive, and it sends its loop
record, once for each interval. DEDUCED (log entry 98). -/
def execLoopIntervalEnd (k : Nat) (r : LoopRead) (s : State) : Out :=
  let fin := nextBoundary (kvGet (fun _ => 0) s.bal.loopAt k) (s.tierAt k) 256
  if !drives s k || (s.tl k).calibrating || (s.tierAt k < fin && fin % 4096 = 0) then done s
  else
    let s1 := bring k fin r.waves (s.when (s.tierAt k < fin) (fun t => t.passGrain (fin % 4096)))
    let a := fin - 256
    let rec_ : LoopRec := ⟨(List.range 18).map (fun c => loopCell s1 k c a fin), r.chans, if k = 0 then loopPack s1 a fin else none⟩
    let s2 := { s1 with bal := { s1.bal with loopAt := kvSet (fun _ => 0) s1.bal.loopAt k fin } }
    let s3 := s2.when (s2.linkUp k && s2.ready) (fun t => { t with bal := { t.bal with recs := kvSet (fun _ => none) t.bal.recs k (some rec_) } })
    done ((tierChans k).foldl (fun t n => stageInterval n (r.chans.getD (localOf n) (0, 0, 0)).2.2 t) s3)

/-- SETPOINT_RECEIVED (R256): the tier receives the words of the latest loop sample, one for each channel, once. -/
def execSetpointReceived (k : Nat) (s : State) : Out :=
  if drives s k && s.linkUp k && s.ready && kvGet (fun _ => 0) s.bal.sentAt k < s.bal.sampleAt then
    let s1 := { s with bal := { s.bal with sentAt := kvSet (fun _ => 0) s.bal.sentAt k s.bal.sampleAt } }
    done ((tierChans k).foldl (fun t n => t.setStage n { t.stage n with next := some (t.chan n).sp, fed := s.abs }) s1)
  else done s

/-- A word takes effect in a stage (R255, R276). A stop ends a PASSIVE pulse at once and clears its carry and its debt (R252, R282); a pulse that
has had 64 grains is still diagnosed (R274). -/
def applyWord (passive : Bool) (now_ : Nat) (w : SetPoint) (g : Stage) : Stage :=
  let g1 := { g with now := w, next := none }
  if w.stop then
    if passive then { g1 with pulse := none, carry := 0, debt := 0, owed := g.owed || g.pulse.any (fun p => p.1 + 64 ≤ now_) }
    else if g.ramp.isNone && g.now.cmd != 0 then { g1 with ramp := some (now_, g.now.cmd) } else g1
  else { g1 with ramp := none }

/-- The words that tier `k` has received and not applied take effect. -/
def applyWords (k : Nat) (s : State) : State :=
  (tierChans k).foldl (fun t n =>
    let g := t.stage n
    match g.next with
    | none => t
    | some w => t.setStage n (applyWord (t.get (Reg.BAL_MODE k) == 1) t.abs w g)) s

/-- SETPOINT_APPLY (R255): the grains up to grain 256j + 32 pass, j being the sample of the words received, and the tier applies them. DEDUCED
(log entry 98). -/
def execSetpointApply (k : Nat) (s : State) : Out :=
  if drives s k && (tierChans k).any (fun n => (s.stage n).next.isSome) then
    match s.passTo (kvGet (fun _ => 0) s.bal.sentAt k + 32) with
    | none => done s
    | some t => done (applyWords k t)
  else done s

/-- The entry of the position table of channel `n` for grain `g` (R264), limited by `FF_CLAMP`: a word written since the last loop sample is not
in use yet (R266). -/
def ffEntry (s : State) (n g : Nat) : Int :=
  let i := g % 4096 / 64
  let f := if i % 2 = 0 then Reg.FF_E_LO n (i / 2) else Reg.FF_E_HI n (i / 2)
  let e := match s.bal.ffOld.find? (fun x => x.1 == f.a) with
    | some x => x.2 / 2 ^ f.lo % 65536
    | none => s.get f
  clampI (-(s.get (Reg.FF_CLAMP n) : Int)) (s.get (Reg.FF_CLAMP n)) (signed 16 e)

/-- The current that the SHUTTLE stage of channel `n` is commanded to carry at the present grain, mA: the command in force, with the
position table (R264), or the stop ramp of 256 grains (R276). DEDUCED (log entry 80). -/
def commandNow (s : State) (n : Nat) : Int :=
  let g := s.stage n
  match g.ramp with
  | some (from_, i) => if from_ + 256 ≤ s.abs then 0 else Int.tdiv (i * (256 - (s.abs - from_) : Nat)) 256
  | none =>
    let c := g.now.cmd
    if g.now.stop || c = 0 then 0
    else if g.now.ff && s.get (Reg.BAL_MODE (tierOf n)) = 2 then
      let x := c + ffEntry s n s.clk.grain
      if x.sign != c.sign then 0 else c.sign * min (x.natAbs : Int) (2 * g.now.ceil)
    else c

/-- The current that it is to carry: the command, and the excitation that is played on it (R218). DEDUCED (log entry 80). -/
def driveNow (s : State) (n : Nat) : Int := commandNow s n + excNow s n

/-- The instant at which the drivers of tier `k` have had no set-point for two samples, 512 grains (R22). -/
def refreshDue (s : State) (k : Nat) : Nat := ((tierChans k).foldl (fun m n => max m (s.stage n).fed) 0) + 512

/-- SETPOINT_REFRESH_TIMEOUT (R22): 512 grains have brought no word: the drivers ramp to zero, and a sweep loses the tier (R223). -/
def execSetpointRefreshTimeout (k : Nat) (s : State) : Out :=
  if !drives s k then done s
  else
    match s.passTo (refreshDue s k) with
    | none => done s
    | some s0 =>
      let s1 := (tierChans k).foldl (fun t n =>
        t.setStage n (applyWord (t.get (Reg.BAL_MODE k) == 1) t.abs ⟨0, 0, true, false, false⟩ (t.stage n))) s0
      done (s1.when s1.ready (cutTier k))

/-- R_BLEED + R_S, 0.01 mΩ. -/
def bleedR (s : State) (k : Nat) : Int := 1000 * s.get (Reg.R_BLEED k) + s.get (Reg.R_S k)

/-- A PWM period of channel `n` begins (R252, R274): `i` is the mean current before it. A pulse begins where the duty calls for one; one that
ends at the first grain leaves its carry. -/
def beginPulse (n : Nat) (i : Int) (t : State) : State :=
  let k := tierOf n
  let g := t.stage n
  let len := g.now.cmd * periodLen t k + g.carry
  if g.now.cmd ≤ 0 then t
  else if len ≤ 0 && !g.now.diag then t.setStage n { g with carry := clampI (-4096) 0 len }
  else
    let leak := decide (10000 * (t.get (Reg.VLOOP n) : Int) < 16 * i * bleedR t k)
    let m := if t.modeNow = 5 then g.leakN else if leak then g.leakN + 1 else 0
    let t1 := t.setStage n { g with pulse := some (t.abs, g.now.diag), now := { g.now with diag := false }, leakN := if 4 ≤ m then 0 else m }
    let t2 := t1.when g.now.diag (fun u => u.bump (Reg.DIAG_PULSES n))
    t2.when (4 ≤ m) (finding 3 n i)

/-- PWM_PERIOD_START (R252, R274): the grains up to the next multiple of the period length pass, where a period of every PASSIVE channel of the
tier begins; `ioff` are the mean currents before it. DEDUCED (log entry 98). -/
def execPwmPeriodStart (k : Nat) (ioff : List Int) (s : State) : Out :=
  if !drives s k || s.get (Reg.BAL_MODE k) != 1 then done s
  else
    let last := kvGet (fun _ => 0) s.bal.pwmAt k
    let at_ := if last = 0 && s.abs % periodLen s k = 0 then s.abs else nextBoundary (last - 1) s.abs (periodLen s k)
    match s.passTo at_ with
    | none => done s
    | some t =>
      let t1 := { t with bal := { t.bal with pwmAt := kvSet (fun _ => 0) t.bal.pwmAt k (at_ + 1) } }
      done ((tierChans k).foldl (fun u n => beginPulse n (ioff.getD (localOf n) 0) u) t1)

/-- The grain at which a pulse ends that began `elapsed` grains ago (R252, R275), with the carry and the debt it leaves. -/
def pulseEnd (d len : Int) (g : Stage) (diag : Bool) (elapsed : Nat) : Nat × Int × Nat :=
  let full := d * len + g.carry
  let whole := (if full ≤ 0 then 0 else (full + 4095) / 4096).toNat
  if diag then (64, g.carry, g.debt + (64 - whole))
  else
    let pay := min g.debt whole
    let at_ := max (whole - pay) elapsed
    (at_, clampI (-4096) 0 (full - 4096 * max (whole : Int) (elapsed + pay)), g.debt - pay)

/-- `DIAG_AGE` (R275): spans since the last diagnosed pulse; of a channel that has had none, since it entered RUN. DEDUCED (log entry 55). -/
def diagAge (s : State) (n : Nat) : Nat :=
  let c := s.chan n
  let u := if c.undiagAt = 0 then c.runAt else c.undiagAt
  if u = 0 then 0 else min 65535 (s.clk.span + 1 - u)

/-- What a diagnosed pulse shows (R274, R275): `i` is the mean current over its grains 32 to 63, mA. -/
def diagnose (n : Nat) (i : Int) (s : State) : State :=
  if s.modeNow = 5 then s else
  let k := tierOf n
  let r := bleedR s k
  let v : Int := 10000 * s.get (Reg.VLOOP n)
  let g := s.stage n
  let o := if 4 * i * r < v then g.openN + 1 else 0
  let h := if 2 * v < i * r then g.highN + 1 else 0
  let age := diagAge s n
  let s1 := (s.setStage n { g with openN := if 2 ≤ o then 0 else o, highN := if 2 ≤ h then 0 else h }).setChan n
    { s.chan n with undiagAt := s.clk.span + 1 }
  let s2 := if s1.flag (Reg.UNDIAGNOSED n) && s1.ready then stageEvent 5 n age (s1.put (Reg.UNDIAGNOSED n) 0) else s1
  (s2.when (2 ≤ o) (finding 1 n i)).when (2 ≤ h) (finding 2 n i)

/-- PULSE_END (R252, R274, R275): the grains up to the end of a pulse of channel `ch` pass, and it ends; one of 64 grains or more is diagnosed,
also where a stop ended it. DEDUCED (log entry 98). -/
def execPulseEnd (ch : Nat) (meas : Int) (s : State) : Out :=
  let g := s.stage ch
  match g.pulse with
  | none => done (if g.owed then diagnose ch meas (s.setStage ch { g with owed := false }) else s)
  | some (t0, diag) =>
    let (len, carry, debt) := pulseEnd g.now.cmd (periodLen s (tierOf ch)) g diag (s.abs - t0)
    let s0 := (s.passTo (t0 + len)).getD s
    let s1 := s0.setStage ch { g with pulse := none, carry := carry, debt := debt }
    done (if 64 ≤ len then diagnose ch meas s1 else s1)

/-- UNDIAGNOSED (R275): 64 spans without a diagnosed pulse, in RUN with pulses shorter than 64 grains but not zero. -/
def execUndiagnosed (ch : Nat) (s : State) : Out :=
  if s.ready && ch < 108 && s.get (Reg.CH_STATE ch) = 1 && s.get (Reg.BAL_MODE (tierOf ch)) = 1 && !s.flag (Reg.DIAG_EN (tierOf ch))
      && !s.flag (Reg.UNDIAGNOSED ch) && shortPulses s (tierOf ch) (s.chan ch).cmd
      && max (s.chan ch).undiagAt (s.chan ch).runAt + 63 ≤ s.clk.span then
    done (stageEvent 4 ch (diagAge s ch) (s.put (Reg.UNDIAGNOSED ch) 1))
  else done s

/-- PEAK_CURRENT_TRIP (R253, R277): the switch phase ends at once; eight trips in a loop interval are a finding. -/
def execPeakCurrentTrip (ch : Nat) (meas : Int) (s : State) : Out :=
  if drives s (tierOf ch) && s.get (Reg.BAL_MODE (tierOf ch)) = 2 then
    let g := s.stage ch
    let s1 := s.setStage ch { g with trips := g.trips + 1 }
    done (s1.when (g.trips + 1 == 8) (finding 6 ch meas))
  else done s

/-- The instant at which the stop ramp of a driver is over (R276): none before its tier has applied the stop. DEDUCED (log entry 56). -/
def rampEnd (s : State) (ch : Nat) : Option Nat :=
  match (s.stage ch).ramp with
  | some (t, _) => some (t + 256)
  | none => if (s.stage ch).now.stop then some s.abs else none

/-- STOP_RAMP_DONE (R276, R280): the grains up to the end of the ramp pass, and the channel takes the state after. -/
def execStopRampDone (ch : Nat) (s : State) : Out :=
  if ch < 108 && s.get (Reg.CH_STATE ch) = 2 then
    match (rampEnd s ch).bind s.passTo with
    | none => done s
    | some t => done (balCounts ((t.put (Reg.CH_STATE ch) (t.chan ch).after).setStage ch { t.stage ch with ramp := none }))
  else done s

/-! ### BAL_SET (R278 to R280) -/

/-- The next loop sample after now: span and grain. -/
def nextSample (s : State) : Nat × Nat :=
  let g := (s.clk.grain / 256 + 1) * 256
  if g = 4096 then (s.clk.span + 1, 0) else (s.clk.span, g)

/-- The balancing lease is live at an instant and is held by the source (R279, R427). -/
def balLease (s : State) (src span : Nat) : Bool := leaseLive s 0 && span < leaseE s 0 && s.get (Reg.HOLDER 0) == src

/-- State and target of a channel after the requests that wait. DEDUCED (log entry 55). -/
def foreseen (s : State) (n : Nat) : Nat × Nat :=
  (s.chan n).req.foldl (fun (p : Nat × Nat) r => match r.1 with
    | 0 => (if p.1 = 0 then 1 else p.1, r.2)
    | 1 => (if [1, 5].contains p.1 then 2 else if [3, 4].contains p.1 then 0 else p.1, p.2)
    | _ => (if p.1 = 3 then 1 else p.1, p.2)) (s.get (Reg.CH_STATE n), s.get (Reg.TARGET n))

/-- The refusal of BAL_SET RUN and RESUME (R279). -/
def balRefusal (src mask : Nat) (target : Option Nat) (s : State) : Option Nat :=
  let ch := (List.range 108).filter (fun n => bit mask n)
  let st (n : Nat) : Nat := s.get (Reg.CH_STATE n)
  let mode (n : Nat) : Nat := s.get (Reg.BAL_MODE (tierOf n))
  if target.any (fun t => t < 5000 || 50000 < t) || mask = 0 || 2 ^ 108 ≤ mask || ch.any (fun n => !s.cellOn n) then some St.badParam
  else if s.modeNow = 0 || s.modeNow = 5 || ch.any (fun n => mode n == 0 || (mode n == 2 && !s.cellOn (partnerOf n)))
      || (target.isSome && ch.any (fun n => st n == 3 || st n == 4 || (st n == 2 && (s.chan n).after != 0)))
      || (target.isNone && ch.any (fun n => st n != 3)) then some St.badState
  else if !balLease s src (nextSample s).1 then some St.noLease
  else none

/-- The sample at which RUN takes effect for a channel in its stop ramp (R280). DEDUCED (log entry 55). -/
def rerunSample (s : State) (n : Nat) : Nat × Nat :=
  let t0 := match (s.stage n).ramp with
    | some (t, _) => t + 256
    | none => s.abs / 256 * 256 + 32 + (if s.get (Reg.BAL_MODE (tierOf n)) = 2 then 256 else 0)
  let t := (max t0 s.abs / 256 + 1) * 256
  (t / 4096, t % 4096)

/-- The timestamp of a loop sample to come. -/
def sampleStamp (s : State) (p : Nat × Nat) : Nat :=
  stampWord (if p.1 = s.clk.span then s.stampAt p.2 else ⟨p.1, p.2, timeQualified s, false, tstateOf (s.get Reg.STATE)⟩)

/-- The data of the reply (R278). -/
def balReply (count time : Nat) : List Byte := byte count :: leBytes 8 time

/-- A request waits for the next sample. -/
def addReq (r : Nat × Nat) (n : Nat) (s : State) : State := s.setChan n { s.chan n with req := (s.chan n).req ++ [r] }

/-- BAL_SET (R278 to R280): `act` 0 RUN, 1 STOP, 2 RESUME. DEDUCED (log entry 55). -/
def balSet (act src mask target : Nat) (s : State) : Ans :=
  let ch := (List.range 108).filter (fun n => bit mask n)
  let bad := if act = 1 then none else balRefusal src mask (if act = 0 then some target else none) s
  match bad with
  | some st => ⟨st, balReply 0 0, s⟩
  | none =>
    let changed := ch.filter (fun n =>
      let (st, tg) := foreseen s n
      match act with
      | 0 => st == 0 || st == 2 || tg != target
      | 1 => st == 1 || st == 3 || st == 4 || st == 5
      | _ => true)
    let late := if act = 0 then ch.filter (fun n => s.get (Reg.CH_STATE n) == 2) else []
    let at_ := (late.map (rerunSample s)).foldl (fun (a b : Nat × Nat) => if a.1 * 4096 + a.2 < b.1 * 4096 + b.2 then b else a) (nextSample s)
    ⟨St.ok, balReply changed.length (sampleStamp s at_), ch.foldl (fun t n => addReq (act, target) n t) s⟩

end Sys2Proof.Machine
end

