-- ==== Sys2Proof/Machine/Chain.lean ====
section
/-!
DEFINITION. The Rinsa chain (R316 to R351): training and rates, ordered sets, credits, the handling of received frames up to
their consumption, the transmit choice, enumeration, topology, breaks and beacons. Port 0 is the down port, port 1 the up
port.
-/

namespace Sys2Proof.Machine

/-! ### Events (R350) -/

/-- The chain port event. -/
def portEvent (p cause reason hi : Nat) (s : State) : State :=
  raise 481 (cause + 16 * p + 256 * reason + 65536 * min hi 65535) s

/-- The ring break event. DEDUCED (log entry 25). -/
def ringEvent (cause : Nat) (s : State) : State :=
  let pos := if cause = 1 || cause = 2 then s.get Reg.BREAK_POS else 0
  raise 482 (cause + 16 * pos + 65536 * s.get Reg.RING_N + 2 ^ 24 * s.get Reg.TOPOLOGY) s

/-- `count` errors of a kind on port `p` (R336, R350): the frame check event, at most once in 64 spans. -/
def checkNote (p kind count : Nat) (s : State) : State :=
  let q := s.pt p
  let n := satAdd 16 q.checkErrs count
  let may := match q.checkSpan with
    | none => true
    | some c => c + 64 ≤ s.clk.span
  if may then raise 483 (kind + 16 * p + 65536 * n) (s.setPt p { q with checkErrs := 0, checkSpan := some s.clk.span })
  else s.setPt p { q with checkErrs := n }

/-! ### Enumeration (R338) and topology (R339 to R341) -/

/-- The low 32 bits of the unique identity (R342). -/
def identity (s : State) : Nat := s.get Reg.UID_LO

/-- TOPO out of every UP port, and what the head takes from it itself (R338, R340). -/
def sendTopo (s : State) : State :=
  castFrame 6 0x03 ([byte (s.get Reg.TOPOLOGY), byte (s.get Reg.RING_N), byte (s.get Reg.ENUM_GEN),
    byte (s.get Reg.BREAK_KNOWN), byte (s.get Reg.BREAK_POS)] ++ leBytes 4 (identity s)) s

/-- The ports whose link is UP. -/
def portsUp (s : State) : List Nat := (List.range 2).filter (portUp s)

/-- A TOPO_CHANGE that waits for its TOPO (R341). DEDUCED (log entry 25). -/
def topoChange (s : State) : State :=
  if s.chain.retopo then ringEvent 3 { s with chain := { s.chain with retopo := false } } else s

/-- A head ends its enumeration with the ends heard (R338, R339). Ends are (port, kind, count); kind 0 is the head's own ENUM
coming back. Without any end the number of modules is a free value. DEDUCED (log entry 25). -/
def finishEnum (timeout : Bool) (s : State) : State :=
  match s.chain.enumEnds with
  | none => s
  | some ends =>
    let s0 := { s with chain := { s.chain with enumEnds := none } }
    let up := portsUp s0
    let ring := ends.find? (fun e => e.2.1 == 0)
    let other := ends.find? (fun e => e.2.1 == 2)
    let openEnd := ends.find? (fun e => e.2.1 == 1)
    if ring.isNone && up.length = 2 && !timeout then topoChange (ringEvent 4 s0)
    else
      let (drawn, sFree) := s0.draw
      let (topo, n, s1) :=
        if up.isEmpty then (0, 0, s0)
        else match ring, other, openEnd with
          | some e, _, _ => (2, e.2.2 - 1, s0)
          | none, some e, _ => (3, e.2.2 - 1, s0)
          | none, none, some e => (1, e.2.2, s0)
          | none, none, none => (1, drawn % 63, sFree)
      let side := up.head?.getD 0
      let s2 := match topo with
        | 0 => (s1.put Reg.POS_UPH 63).put Reg.POS_DNH 63
        | 2 => (s1.put Reg.POS_UPH 0).put Reg.POS_DNH 0
        | _ =>
          let far := if topo = 3 then n + 1 else 63
          if side = 0 then (s1.put Reg.POS_UPH 0).put Reg.POS_DNH far else (s1.put Reg.POS_DNH 0).put Reg.POS_UPH far
      let s3 := ((((s2.put Reg.TOPOLOGY topo).put Reg.RING_N n).put Reg.ENUMERATED 1).put Reg.BREAK_KNOWN 0).put Reg.BREAK_POS 0
      let s4 := topoChange (sendTopo s3)
      if timeout then ringEvent 5 s4 else s4

/-- A head starts an enumeration (R338 step 1). -/
def enumStart (s : State) : State :=
  if isHead s && s.ready then
    let g := (s.get Reg.ENUM_GEN + 1) % 256
    let s1 := (s.put Reg.ENUM_GEN g).put Reg.ENUMERATED 0
    let s2 := { s1 with chain := { s1.chain with enumEnds := some [], linkUps := [] }, tb := { s1.tb with heardMaster := false } }
    let s3 := s2.each (portsUp s2) (fun p t => ringTo p 0 0x01 ([byte 1, byte g] ++ leBytes 4 (identity t)) t)
    if (portsUp s3).isEmpty then finishEnum false s3 else s3
  else s

/-- Record an end of the enumeration in progress, and end it when every UP port has given its end. -/
def enumEnd (p kind count : Nat) (s : State) : State :=
  match s.chain.enumEnds with
  | none => s
  | some ends =>
    let ends2 := ends.filter (fun e => e.1 != p) ++ [(p, kind, count)]
    let s1 := { s with chain := { s.chain with enumEnds := some ends2 } }
    if (portsUp s1).all (fun q => ends2.any (fun e => e.1 == q)) then finishEnum false s1 else s1

/-- The position field of the side of port `p`. -/
def posField (p : Nat) : Field := if p = 1 then Reg.POS_UPH else Reg.POS_DNH

/-- ENUM arrives on port `p` (R338 steps 2 to 5, R55). The position that it gives a module is in use with the TOPO of its generation, so that
an enumeration that does not complete leaves the positions of the last one that did. DEDUCED (log entry 25). -/
def enumIn (p : Nat) (d : List Byte) (s : State) : State :=
  let count := par d 0 1 % 64
  let gen := par d 1 1
  let head := par d 2 4
  if isHead s && head = identity s then
    if gen = s.get Reg.ENUM_GEN then enumEnd p 0 count (enumEnd (1 - p) 0 count s) else s
  else if isHead s then
    let s1 := s.put (posField p) count
    let s2 := { s1 with chain := { s1.chain with otherHead := some head } }
    roleConflict (ringTo p count 0x02 ([byte 2, byte count, byte gen] ++ leBytes 4 (identity s2)) s2)
  else if kvGet (fun _ => none) s.chain.enumGen p = some (gen, head) then s
  else
    let s1 := (s.put Reg.ENUM_GEN gen).put Reg.ENUMERATED 0
    let s2 := { s1 with chain := { s1.chain with enumGen := kvSet (fun _ => none) s1.chain.enumGen p (some (gen, head)),
                                                 enumPos := kvSet (fun _ => 0) s1.chain.enumPos p count } }
    if portUp s2 (1 - p) then ringTo (1 - p) 0 0x01 ([byte (count + 1), byte gen] ++ leBytes 4 head) s2
    else ringTo p count 0x02 ([byte 1, byte count, byte gen] ++ leBytes 4 (identity s2)) s2

/-- ENUM_END arrives at a head on port `p` (R338 step 6, R55). -/
def enumEndIn (p : Nat) (d : List Byte) (s : State) : State :=
  if isHead s && par d 2 1 = s.get Reg.ENUM_GEN then
    let kind := par d 0 1
    let id := par d 3 4
    let s1 := { s with chain := { s.chain with modules := kvSet (fun _ => 0) s.chain.modules (par d 1 1) id } }
    let s2 := enumEnd p kind (par d 1 1) s1
    if kind = 2 then roleConflict { s2 with chain := { s2.chain with otherHead := some id } } else s2
  else s

/-- The position of a side with a TOPO of topology `topo` (R328, R338, R339): that of the ENUM it belongs to; a side on which no ENUM of it came
leads to no head, but in a dual-head ring, where the other head's own counts. -/
def sidePos (topo : Nat) (key : Option (Nat × Nat)) (p : Nat) (s : State) : State :=
  if kvGet (fun _ => none) s.chain.enumGen p = key then s.put (posField p) (kvGet (fun _ => 0) s.chain.enumPos p)
  else if topo = 3 then s
  else s.put (posField p) 63

/-- TOPO arrives (R338, R340): a module takes it for the present generation of the head that sent it. -/
def topoIn (d : List Byte) (s0 : State) : State :=
  let key := some (par d 2 1, par d 5 4)
  let s := if isHead s0 then s0 else s0.each [0, 1] (fun p t => sidePos (par d 0 1) key p t)
  if isHead s0 && par d 5 4 = identity s0 then s0
  else if isHead s0 || kvGet (fun _ => none) s0.chain.enumGen 0 = key || kvGet (fun _ => none) s0.chain.enumGen 1 = key then
    let s1 := ((s.put Reg.TOPOLOGY (par d 0 1)).put Reg.RING_N (par d 1 1)).put Reg.BREAK_KNOWN (par d 3 1 % 2)
    let s2 := s1.put Reg.BREAK_POS (par d 4 1)
    if isHead s0 then s2 else s2.put Reg.ENUMERATED 1
  else s0

/-- A head takes note of a break at the port `p` of the module at `POS_UPH` = `up` (R340): it is recorded at the module on its up side. -/
def breakAt (up p : Nat) (s : State) : State :=
  let pos := if p = 1 then up - 1 else up
  if s.flag Reg.BREAK_KNOWN && s.get Reg.BREAK_POS = pos % 64 then s
  else
    let s1 := { (s.put Reg.BREAK_KNOWN 1).put Reg.BREAK_POS pos with chain := { s.chain with linkUps := [] } }
    sendTopo (ringEvent 1 s1)

/-- BREAK arrives at a head (R340). -/
def breakIn (d : List Byte) (s : State) : State := if isHead s then breakAt (par d 0 1) (par d 2 1) s else s

/-- A head's own port has gone DOWN (R340): seen from the up port of a closed ring the head is the module after the last. -/
def ownBreak (p : Nat) (s : State) : State :=
  if isHead s && s.flag Reg.ENUMERATED then
    breakAt (if p = 1 && s.get Reg.POS_UPH = 0 then s.get Reg.RING_N + 1 else s.get Reg.POS_UPH) p s
  else s

/-- LINK_UP arrives at a head (R341). A frame that fits the known break waits for the frame of the other end; two that fit
heal the break; any other starts a new enumeration. DEDUCED (log entry 25). -/
def linkUpIn (d : List Byte) (s : State) : State :=
  if isHead s then
    let up := par d 0 1
    let port := par d 2 1
    let id := par d 3 4
    let b := s.get Reg.BREAK_POS
    let known := kvGet (fun _ => 0) s.chain.modules up
    let fits := s.flag Reg.BREAK_KNOWN && up = (if port = 1 then b + 1 else b) && (known = 0 || known = id)
    let seen := s.chain.linkUps.filter (fun e => e.2.2.1 != port)
    if fits && seen.any (fun e => e.1 == (if port = 1 then b else b + 1)) then
      let s1 := { s.put Reg.BREAK_KNOWN 0 with chain := { s.chain with linkUps := [] } }
      sendTopo (ringEvent 2 s1)
    else if fits then { s with chain := { s.chain with linkUps := seen ++ [(up, par d 1 1, port, id)] } }
    else enumStart { s with chain := { s.chain with retopo := true } }
  else s

/-! ### Links up and down (R318, R319, R337, R340, R341) -/

/-- The rate at which a port begins training (R318). -/
def startFull (s : State) : Bool := s.get Reg.RATE_MODE != 2

/-- Flush the receive buffer of a port (R334): frames still to be forwarded count in `FWD_DROP`. -/
def flushRx (p : Nat) (s : State) : State :=
  let n := ((s.pt p).rxbuf.filter (fun r => r.fwd)).length
  (s.setPt p { s.pt p with rxbuf := [] }).bumpBy (Reg.FWD_DROP p) n

/-- Port `p` begins to train; after a change of rate it calibrates anew (R320). -/
def beginTraining (p : Nat) (full change : Bool) (s : State) : State :=
  let s1 := flushRx p (s.put (Reg.PSTATE p) 1)
  s1.setPt p { s1.pt p with trainRx := 0, calDue := (s1.pt p).calDue || change, trialFull := full, rateChange := change, askFall := false, calHold := false,
                            held := [], lastSet := if p = 0 then some (.train 0) else (s1.pt p).lastSet }

/-- A frame addressed to a head (R337). -/
def toHead (f : Frame) : Bool :=
  f.ftype == 2 || f.ftype == 3 || (f.ftype == 6 && [0x02, 0x04, 0x05, 0x07].contains f.op)

/-- Move or discard the frames queued for a port that went DOWN (R337): only in a closed ring does the other port reach the same head. -/
def rehome (p : Nat) (s : State) : State :=
  let q := (s.pt p).txq
  let s1 := s.setPt p { s.pt p with txq := [] }
  q.foldl (fun t f => if toHead f && t.get Reg.TOPOLOGY = 2 && reaches t (1 - p) then txAdd (1 - p) (routeTo t (1 - p) f) t else t.bump (Reg.TXQ_DROP p)) s1

/-- The frames that wait in the other port's buffers for a port that went DOWN are discarded there (R329, R340). -/
def dropForwards (p : Nat) (s : State) : State :=
  let q := s.pt (1 - p)
  (s.setPt (1 - p) { q with rxbuf := q.rxbuf.map (fun r => { r with fwd := false }) }).bumpBy (Reg.FWD_DROP p) (q.rxbuf.filter (fun r => r.fwd)).length

/-- The link of port `p` goes DOWN for a reason of R350, and trains again (R318, R340). DEDUCED (log entry 22). -/
def linkDown (p reason : Nat) (s : State) : State :=
  if portUp s p then
    let s1 := (beginTraining p (startFull s) false s).put (Reg.PSTATE p) 4
    let s2 := s1.setPt p { s1.pt p with sent := 0, released := 0, freed := 0 }
    let s3 := dropForwards p (rehome p s2)
    if s3.ready then
      let s4 := ownBreak p (portEvent p 2 reason 0 s3)
      let c := posOf s4 (1 - p)
      s4.when (c != 63 && c != 0 && portUp s4 (1 - p)) (ringTo (1 - p) c 0x04
        [byte (s4.get Reg.POS_UPH), byte (s4.get Reg.POS_DNH), byte p, byte reason])
    else s3
  else s

/-- The link of port `p` is UP (R318, R334, R338, R341); a rate other than before makes a calibration due (R320). DEDUCED (log entry 23). -/
def linkUpNow (p : Nat) (s : State) : State :=
  let q := s.pt p
  let fall := b01 (!q.trialFull)
  let was := s.get (Reg.FALLBACK p)
  let s1 := (s.put (Reg.PSTATE p) 2).put (Reg.FALLBACK p) fall
  let s2 := s1.setPt p { q with sent := 0, released := 0, freed := 0, creditRaised := false, rateChange := false, askFall := false,
                                trainRx := 0, calDue := q.calDue || was != fall }
  if s2.ready then
    let s3 := if was = fall then s2 else if fall = 1 then portEvent p 3 2 0 s2 else portEvent p 4 0 (s2.get (Reg.RATE_BACKOFF p)) s2
    if q.rateChange then s3
    else
      let s4 := portEvent p 1 0 0 s3
      if isHead s4 then enumStart s4
      else if s4.flag Reg.ENUMERATED then
        s4.each ((List.range 2).filter (fun h => posOf s4 h != 63 && posOf s4 h != 0 && portUp s4 h)) (fun h t => ringTo h (posOf t h) 0x05
          ([byte (t.get Reg.POS_UPH), byte (t.get Reg.POS_DNH), byte p] ++ leBytes 4 (identity t)) t)
      else s4
  else s2

/-- The TRAIN sets that port `p` has received when it has received and sent 64 (R318). DEDUCED (log entry 22). -/
def trainSets (p : Nat) : Nat := if p = 1 then 128 else 64

/-- FALLBACK at the far end's word (R350): the errors of the deciding second are those that this port has counted and asked with; of those that the
far end counted nothing is known here, and they are open. DEDUCED (log entry 26). -/
def farFallback (p : Nat) (s : State) : State :=
  match (s.pt p).fallErrs with
  | some n => portEvent p 3 1 n (s.setPt p { s.pt p with fallErrs := none })
  | none =>
    let (drawn, t) := s.draw
    portEvent p 3 1 (drawn % 65536) t

/-- TRAIN_SET_RECEIVED (R318, R319, R320): `count` TRAIN or CAL sets in a row at one rate, all with the data byte `data`. The link is UP after 64
sets received and 64 sent: the down port sends while it receives, the up port from its 64th at one rate on. DEDUCED (log entry 22). -/
def execTrainSetReceived (port data : Nat) (fallback : Bool) (count : Nat) (s : State) : Out :=
  let q := s.pt port
  let st := s.get (Reg.PSTATE port)
  if 7 < data || 1 < port || count = 0 then done s
  else if bit data 2 then
    if st = 2 || st = 3 then done (s.setPt port { q with calHold := true }) else done s
  else if st = 1 || st = 4 then
    if data % 2 = port then
      let s1 := s.put (Reg.PSTATE port) 5
      if s.ready then done (portEvent port 5 0 0 s1) else done s1
    else if port = 0 && q.trialFull == fallback then done s
    else
      let n := (if q.trialFull == fallback then 0 else q.trainRx) + count
      let s1 := (s.put (Reg.PSTATE port) 1).setPt port { q with trainRx := min n (trainSets port), trialFull := !fallback,
                                                                   lastSet := if 64 ≤ n then some (.train port) else q.lastSet }
      if trainSets port ≤ n then done (linkUpNow port s1) else done s1
  else if st = 2 || st = 3 then
    if bit data 1 && port = 0 then
      if s.get Reg.RATE_MODE = 0 && s.get (Reg.FALLBACK port) = 0 && 8 ≤ q.trainRx + count then
        let b := if q.firstSec then min 6 (s.get (Reg.RATE_BACKOFF 0) + 1) else s.get (Reg.RATE_BACKOFF 0)
        let s1 := (beginTraining 0 false true s).put (Reg.FALLBACK 0) 1
        let s2 := (s1.setPt 0 { s1.pt 0 with firstSec := false }).put (Reg.RATE_BACKOFF 0) b
        if s.ready then done (farFallback 0 s2) else done s2
      else done (s.setPt port { q with trainRx := min (q.trainRx + count) 64 })
    else if fallback != (s.get (Reg.FALLBACK port) == 1) then
      let s1 := (beginTraining port (!fallback) true s).put (Reg.FALLBACK port) (b01 fallback)
      if !s.ready then done s1
      else if fallback then done (farFallback port s1) else done (portEvent port 4 0 (s.get (Reg.RATE_BACKOFF port)) s1)
    else done (linkDown port 1 s)
  else done s

/-- LINK_TRAIN_TIMEOUT (R318): 2 ms without 64 valid TRAIN sets; the down port tries the other rate. -/
def execLinkTrainTimeout (s : State) : Out :=
  let st := s.get (Reg.PSTATE 0)
  let q := s.pt 0
  if (st = 1 || st = 4) && s.get Reg.RATE_MODE = 0 then done (s.setPt 0 { q with trialFull := !q.trialFull, trainRx := 0 })
  else if st = 1 || st = 4 then done (s.setPt 0 { q with trainRx := 0 })
  else done s

/-- MISWIRED_RETRY (R318): after 1 s the port trains again. -/
def execMiswiredRetry (port : Nat) (s : State) : Out :=
  if s.get (Reg.PSTATE port) = 5 then done (beginTraining port (startFull s) false s) else done s

/-- RATE_FALLBACK (R319): `errs` frame check errors within one second on a link at full rate. DESIGN CHOICE (log entry 26). -/
def execRateFallback (port errs : Nat) (s : State) : Out :=
  let q := s.pt port
  if s.get (Reg.PSTATE port) = 2 && s.get (Reg.FALLBACK port) = 0 && s.get Reg.RATE_MODE = 0 && s.get Reg.ERR_FALLBACK ≤ errs then
    if port = 0 then
      let b := if q.firstSec then min 6 (s.get (Reg.RATE_BACKOFF 0) + 1) else s.get (Reg.RATE_BACKOFF 0)
      let s1 := (beginTraining 0 false true s).put (Reg.FALLBACK 0) 1
      let s2 := (s1.setPt 0 { s1.pt 0 with firstSec := false }).put (Reg.RATE_BACKOFF 0) b
      if s.ready then done (portEvent 0 3 1 errs s2) else done s2
    else done (s.setPt port { q with askFall := true, fallErrs := some errs, lastSet := some (.train 3) })
  else done s

/-- RATE_RETRY_EXPIRY (R319): after `RATE_RETRY` × 2^b seconds at fallback rate the down port retrains at full rate. -/
def execRateRetryExpiry (s : State) : Out :=
  if s.get (Reg.PSTATE 0) = 2 && s.get (Reg.FALLBACK 0) = 1 && s.get Reg.RATE_MODE = 0 then
    let s1 := (beginTraining 0 true true s).put (Reg.FALLBACK 0) 0
    let s2 := s1.setPt 0 { s1.pt 0 with firstSec := true }
    if s.ready then done (portEvent 0 4 0 (s.get (Reg.RATE_BACKOFF 0)) s2) else done s2
  else done s

/-- RATE_BACKOFF_RESET (R319): one second at full rate below `ERR_FALLBACK` errors. -/
def execRateBackoffReset (s : State) : Out :=
  if s.get (Reg.PSTATE 0) = 2 && s.get (Reg.FALLBACK 0) = 0 then
    done ((s.setPt 0 { s.pt 0 with firstSec := false }).put (Reg.RATE_BACKOFF 0) 0)
  else done s

/-- The mean of the base die's sensors, 1/64 °C; none before their first results. -/
def baseMean (s : State) : Option Int :=
  let l := (List.range 8).filterMap (fun i =>
    let (c, _, at_) := kvGet (fun _ => (0x8000, false, 0)) s.temps.seen (234 + i)
    if at_ = 0 then none else some (signed 16 c))
  if l.isEmpty then none else some (Config.roundQ (l.foldl (· + ·) 0) l.length)

/-- The mean base-die temperature has moved 25 °C since the port's last calibration (R320). -/
def calMoved (s : State) (p : Nat) : Bool :=
  match baseMean s, (s.pt p).calTemp with
  | some t, some u => decide (1600 ≤ (t - u).natAbs)
  | _, _ => false

/-- A port that calibrated before the base die had a temperature takes the first one that comes (R320). DEDUCED (log entry 22). -/
def noteCalTemp (s : State) : State :=
  s.each [0, 1] (fun p t => if (t.pt p).calTemp.isNone && !(t.pt p).calDue then t.setPt p { t.pt p with calTemp := baseMean t } else t)

/-- Port `p` calibrates (R320): at once where enable or a change of rate call for it; for temperature only within the 10 µs after a MARK set. -/
def calNow (s : State) (p : Nat) : Bool :=
  (s.pt p).calDue || (calMoved s p && (s.pt p).markAt.any (fun m => s.abs ≤ m + usGrains s.tb.period 10))

/-- PORT_CAL_START (R320): the port sends one CAL set and calibrates. -/
def execPortCalStart (port : Nat) (s : State) : Out :=
  if s.get (Reg.PSTATE port) = 2 && calNow s port then
    done ((s.put (Reg.PSTATE port) 3).setPt port { s.pt port with lastSet := some (.cal (port + 4)), calDue := false, calTemp := baseMean s })
  else done s

/-- The order in which sets that fell due together are sent (R322). -/
def OSet.rank : OSet → Nat
  | .mark _ => 0
  | .echo _ => 1
  | .probe _ => 2
  | .beacon _ => 3
  | .credit _ => 4
  | .train _ => 5
  | .cal _ => 6

/-- PORT_CAL_DONE (R320, R322): the calibration ends, and the sets that fell due are sent in their order. -/
def execPortCalDone (port : Nat) (s : State) : Out :=
  if s.get (Reg.PSTATE port) = 3 then
    let q := s.pt port
    let order := (List.range 7).flatMap (fun r => q.held.filter (fun o => o.rank == r))
    let s1 := (s.put (Reg.PSTATE port) 2).setPt port { q with held := [] }
    done (order.foldl (fun t o => sendSet port o t) s1)
  else done s

/-- CAL_HOLD_EXPIRY (R320): the far end's calibration outlasts 250 µs. -/
def execCalHoldExpiry (port : Nat) (s : State) : Out :=
  if (s.pt port).calHold then done (linkDown port 5 s) else done s

/-- SYMBOL_LOCK_LOSS (R336): outside the hold of R320. -/
def execSymbolLockLoss (port : Nat) (s : State) : Out :=
  if (s.pt port).calHold then done s else done (linkDown port 1 s)

/-- CODE_ERROR_BURST (R336): `errs` code errors outside frames within 1 ms; more than 64 take the link down. DESIGN CHOICE (log entry 26). -/
def execCodeErrorBurst (port errs : Nat) (s : State) : Out :=
  if portUp s port && 0 < errs then
    let s1 := (s.bumpBy (Reg.CODE_ERR port) errs).when s.ready (checkNote port 3 errs)
    done (s1.when (64 < errs) (linkDown port 2))
  else done s

/-! ### Credits (R334, R335) -/

/-- The credits a port holds. -/
def credits (s : State) (p : Nat) : Nat := 8 - (((s.pt p).sent + 16 - (s.pt p).released) % 16)

/-- CREDIT_RECEIVED (R334): a set whose halves do not match is ignored. -/
def execCreditReceived (port data : Nat) (s : State) : Out :=
  let q := s.pt port
  if portUp s port && data < 256 && data % 16 + data / 16 = 15 then
    let s1 := s.setPt port { q with released := data % 16, calHold := false }
    if credits s1 port = 0 then done s1 else done (s1.setPt port { s1.pt port with creditRaised := false })
  else done s

/-- The CREDIT set of port `p`. -/
def creditSet (s : State) (p : Nat) : OSet := .credit ((s.pt p).freed + 16 * (15 - (s.pt p).freed))

/-- Release every buffer of a port whose frame has left. -/
def releaseLeft (p : Nat) (s : State) : State :=
  let q := s.pt p
  let n := (q.rxbuf.filter (fun r => !r.fwd)).length
  s.setPt p { q with rxbuf := q.rxbuf.filter (fun r => r.fwd), freed := (q.freed + n) % 16 }

/-- CREDIT_RELEASE (R334): the buffers whose frames have left are released, and one CREDIT set carries the count. -/
def execCreditRelease (port : Nat) (s : State) : Out :=
  if (s.pt port).rxbuf.any (fun r => !r.fwd) then
    let s1 := releaseLeft port s
    done (sendSet port (creditSet s1 port) s1)
  else done s

/-- CREDIT_REFRESH (R334). -/
def execCreditRefresh (port : Nat) (s : State) : Out :=
  if portUp s port then done (sendSet port (creditSet s port) s) else done s

/-- A frame waits for port `p`: a local frame, or one to be forwarded. -/
def frameWaits (s : State) (p : Nat) : Bool :=
  !(s.pt p).txq.isEmpty || (s.pt (1 - p)).rxbuf.any (fun r => r.fwd)

/-- CREDIT_TIMEOUT (R335): raised once for a wait; the value gives the limit in force as the time without credit. DEDUCED (log entry 34). -/
def execCreditTimeout (port : Nat) (s : State) : Out :=
  let q := s.pt port
  if s.ready && portUp s port && credits s port = 0 && frameWaits s port && !q.creditRaised then
    let us := s.get Reg.CREDIT_TO * (if s.get (Reg.FALLBACK port) = 1 then 8 else 1)
    done (raise 484 (16 * port + 256 * q.txq.length + 65536 * min 65535 (us / 10)) (s.setPt port { q with creditRaised := true }))
  else done s

/-- CREDIT_RETRAIN (R335): LINK_DOWN with reason CREDIT. -/
def execCreditRetrain (port : Nat) (s : State) : Out :=
  if portUp s port && credits s port = 0 && frameWaits s port then done (linkDown port 3 s) else done s

/-! ### Transmission (R332) -/

/-- The class of a local frame among those that compete for a port (R332). -/
def txClass (f : Frame) : Nat :=
  match f.ftype with
  | 6 => 0
  | 4 => 1
  | 5 => 2
  | 3 => 4
  | _ => 3

/-- The first frame of the best class that may leave: before the TOPO of the present generation a module originates RING frames only, but an
enumeration does not stop the TIME frames (R338). DEDUCED (log entry 25). -/
def pickLocal (enumerated : Bool) (q : List Frame) : Option Frame :=
  (List.range 5).findSome? (fun c => if c ≤ 1 || enumerated then q.find? (fun f => txClass f == c) else none)

/-- The list without the first element equal to `f`. -/
def dropFirst (f : Frame) : List Frame → List Frame
  | [] => []
  | x :: xs => if x = f then xs else x :: dropFirst f xs

/-- Mark the first waiting frame of a receive buffer as left. -/
def markLeft : List RxSlot → List RxSlot
  | [] => []
  | r :: rs => if r.fwd then { r with fwd := false } :: rs else r :: markLeft rs

/-- CHAIN_FRAME_TRANSMIT (R332, R334): at a frame boundary of a port that holds a credit, a waiting forwarded frame leaves
first, then the local frames by class. -/
def execChainFrameTransmit (port : Nat) (s : State) : Out :=
  let q := s.pt port
  if s.get (Reg.PSTATE port) != 2 || credits s port = 0 then done s
  else
    match (s.pt (1 - port)).rxbuf.find? (fun r => r.fwd) with
    | some r =>
      let o := s.pt (1 - port)
      let s1 := s.setPt (1 - port) { o with rxbuf := markLeft o.rxbuf }
      let q1 := s1.pt port
      done (s1.setPt port { q1 with sent := (q1.sent + 1) % 16, lastTx := some (r.frame, r.abort) })
    | none =>
      if !s.ready then done s
      else
        match pickLocal (s.flag Reg.ENUMERATED) q.txq with
        | none => done s
        | some f =>
          done (s.setPt port { q with txq := dropFirst f q.txq, sent := (q.sent + 1) % 16, lastTx := some (f, false) })

/-! ### Reception (R329, R336) -/

/-- The header of frame bytes whose header is valid; the payload as far as it came. -/
def headerOf (bs : List Byte) : Option Frame :=
  let r := leNat ((bs.drop 1).take 1)
  let t := leNat (bs.take 1)
  let o := leNat ((bs.drop 6).take 1)
  if bs.length < 8 || leNat ((bs.drop 7).take 1) != crc8 (bs.take 7) || 52 < leNat ((bs.drop 5).take 1) || (r / 128 == 1) != (r % 64 == 63)
  then none
  else some ⟨t % 16, t / 16, r % 64, bit r 6, bit r 7, leNat ((bs.drop 2).take 2), leNat ((bs.drop 4).take 1),
      o % 64, bit o 6, bit o 7, (bs.drop 8).take (leNat ((bs.drop 5).take 1))⟩

/-- A frame enters a receive buffer of port `p`; buffers whose frames have left are released first where all 8 are in use. -/
def rxTake (p : Nat) (r : RxSlot) (s : State) : State :=
  let s1 := if (s.pt p).rxbuf.length < 8 then s else releaseLeft p s
  let q := s1.pt p
  if q.rxbuf.length < 8 then s1.setPt p { q with rxbuf := q.rxbuf ++ [r], calHold := false }
  else s1.bump (if r.fwd then Reg.FWD_DROP p else Reg.RX_DROP p)

/-- Where a frame goes on to: the frame with its hops counted down, if it is to be forwarded (R329). DEDUCED (log entry 24). -/
def onward (s : State) (p : Nat) (f : Frame) : Option Frame :=
  if f.bcast then
    if isHead s || !portUp s (1 - p) then none else some f
  else if f.hops != 0 && portUp s (1 - p) then some { f with hops := f.hops - 1 }
  else none

/-- A frame with an error: counted, and its forwarded copy ends in EOFA. -/
def rxError (p kind : Nat) (ctr : Field) (hdr : Option Frame) (s : State) : State :=
  let s1 := match hdr with
    | none => rxTake p ⟨⟨0, 0, 0, false, false, 0, 0, 0, false, false, []⟩, false, true⟩ s
    | some f =>
      match onward s p f with
      | some g => rxTake p ⟨g, true, true⟩ s
      | none => rxTake p ⟨f, false, true⟩ s
  let s2 := s1.bump ctr
  if s2.ready then checkNote p kind 1 s2 else s2

/-- A frame arrives on port `p` (R329, R336): the state after counting, buffering and forwarding, and the frame that the
module consumes. `fin`: 0 EOF, 1 EOFA, 2 a code violation inside the frame, 3 SOF inside it. `waiting`: frames that stand in the management
queue, which holds 32 (R334). DEDUCED (log entry 24). -/
def chainRx (p : Nat) (data : List Byte) (fin waiting : Nat) (s : State) : State × Option Frame :=
  if !portUp s p then (s, none)
  else
    match headerOf data with
    | none =>
      if 8 ≤ data.length then (rxError p 1 (Reg.HDR_ERR p) none s, none)
      else if fin = 2 then (rxError p 3 (Reg.CODE_ERR p) none s, none)
      else if fin = 1 then (rxError p 4 (Reg.ABORT_RX p) none s, none)
      else (rxError p 2 (Reg.CRC_ERR p) none s, none)
    | some h =>
      if fin = 2 then (rxError p 3 (Reg.CODE_ERR p) (some h) s, none)
      else if fin = 3 then (rxError p 2 (Reg.CRC_ERR p) (some h) s, none)
      else if fin = 1 then (rxError p 4 (Reg.ABORT_RX p) (some h) s, none)
      else
        match checkFrame true data with
        | .header => (rxError p 1 (Reg.HDR_ERR p) none s, none)
        | .length => (rxError p 2 (Reg.CRC_ERR p) (some h) s, none)
        | .crc => (rxError p 2 (Reg.CRC_ERR p) (some h) s, none)
        | .good f =>
          let mine := f.bcast || f.hops = 0
          let s1 := match onward s p f with
            | some g => rxTake p ⟨g, true, false⟩ s
            | none => rxTake p ⟨f, false, false⟩ s
          if mine then
            if !s.ready || 32 ≤ waiting then (s1.bump (Reg.RX_DROP p), none)
            else if f.ver != 1 || f.ftype = 0 || 6 < f.ftype then (s1.bump (Reg.RX_DROP p), none)
            else if f.ftype = 2 || f.ftype = 3 then
              if isHead s then (hqAdd f s1, none) else (s1.bump (Reg.RX_DROP p), none)
            else (s1, some f)
          else if (onward s p f).isSome then (s1, none)
          else (s1.bump (Reg.FWD_DROP (1 - p)), none)

/-- A RING frame that the module consumes (R342). -/
def ringIn (p : Nat) (f : Frame) (s : State) : State :=
  match f.op with
  | 0x01 => enumIn p f.payload s
  | 0x02 => enumEndIn p f.payload s
  | 0x03 => topoIn f.payload s
  | 0x04 => breakIn f.payload s
  | 0x05 => linkUpIn f.payload s
  | 0x06 => delaySetIn f.payload s
  | 0x07 => spanReportIn f.payload s
  | _ => s.bump (Reg.RX_DROP p)

/-- ENUM_START (R338). -/
def execEnumStart (s : State) : Out := done (enumStart s)

/-- ENUM_RECEIVED (R338). -/
def execEnumReceived (port : Nat) (data : List Byte) (s : State) : Out := if s.ready then done (enumIn port data s) else done s

/-- ENUM_END_RECEIVED (R338). -/
def execEnumEndReceived (port : Nat) (data : List Byte) (s : State) : Out :=
  if s.ready then done (enumEndIn port data s) else done s

/-- ENUM_TIMEOUT (R338): 5 ms after ENUM. -/
def execEnumTimeout (s : State) : Out := if s.ready then done (finishEnum true s) else done s

/-- TOPO_RECEIVED (R338, R340). -/
def execTopoReceived (data : List Byte) (s : State) : Out := if s.ready then done (topoIn data s) else done s

/-- BREAK_RECEIVED (R340). -/
def execBreakReceived (data : List Byte) (s : State) : Out := if s.ready then done (breakIn data s) else done s

/-- LINK_UP_RECEIVED (R341). -/
def execLinkUpReceived (data : List Byte) (s : State) : Out := if s.ready then done (linkUpIn data s) else done s

/-! ### Beacons (R343) -/

/-- BEACON_SET_SEND (R343): the next set of every order in progress. -/
def execBeaconSetSend (s : State) : Out :=
  if s.ready then
    let send (e : Nat × Nat) (t : State) : State :=
      let c := posOf t e.1
      sendSet e.1 (.beacon (if c = 63 then t.get Reg.POS_UPH % 64 + 64 else c)) t
    let s1 := s.chain.beacons.foldl (fun t e => send e t) s
    done { s1 with chain := { s1.chain with
      beacons := (s1.chain.beacons.map (fun e => (e.1, e.2 - 1))).filter (fun e => 0 < e.2) } }
  else done s

/-- BEACON_RECEIVED (R343, R322): forwarded, or recorded at a head. A data byte with a code error is discarded. -/
def execBeaconReceived (port data : Nat) (codeError : Bool) (s : State) : Out :=
  if codeError || !portUp s port then done s
  else if !isHead s then done (sendSet (1 - port) (.beacon (data % 256)) (relock port s))
  else if !s.ready then done s
  else
    let o := data % 64
    let away := data / 64 % 2
    let key := if away = 1 then 64 + o else if port = 1 && s.get Reg.TOPOLOGY = 2 then s.get Reg.RING_N + 1 - o else o
    let fresh := match kvGet (fun _ => none) s.chain.bcnAt key with
      | none => true
      | some (sp, gr) => 400000 * 4096 < (s.abs - (sp * 4096 + gr)) * s.tb.period
    let s1 := ((((s.put Reg.BCN_ORIGIN o).put Reg.BCN_AWAY away).put Reg.BCN_PORT port).put Reg.BCN_GRAIN s.clk.grain).put Reg.BCN_SPAN s.clk.span
    if fresh then
      let s2 := s1.bump Reg.BCN_COUNT
      done { s2 with chain := { s2.chain with bcnAt := kvSet (fun _ => none) s2.chain.bcnAt key (some (s.clk.span, s.clk.grain)) },
                     evt := { s2.evt with beaconHf := true } }
    else done s1

/-! ### Ports at a start and at a commit (R318, R349, R351) -/

/-- The enable field of a port. -/
def portEn (p : Nat) : Field := if p = 1 then Reg.UP_EN else Reg.DN_EN

/-- A port enabled trains; a port disabled goes OFF. -/
def portEnable (p : Nat) (s : State) : State :=
  if s.flag (portEn p) then
    if s.get (Reg.PSTATE p) = 0 then beginTraining p (startFull s) false (s.setPt p { s.pt p with calDue := true }) else s
  else (linkDown p 4 s).put (Reg.PSTATE p) 0

/-- The counters of both ports are cleared (R351). -/
def clearCounters (s : State) : State :=
  s.each [0, 1] (fun p t => ((((t.putW (Wd.PC_RX p) 0).putW (Wd.PC_LINE p) 0).putW (Wd.PC_DROP p) 0).putW (Wd.PC_DEST p) 0))

/-- The forwarding path stops (R345, R349, R351): both ports off, with their queues, the positions and the counters. -/
def pathStop (s0 : State) : State :=
  let s := (clearCounters s0).put Reg.BCN_COUNT 0
  let s1 := s.each [0, 1] (fun p t => (((t.setPt p Port.reset).put (Reg.PSTATE p) 0).put (Reg.FALLBACK p) 0).put (Reg.RATE_BACKOFF p) 0)
  let s2 := ((s1.put Reg.POS_UPH 63).put Reg.POS_DNH 63).put Reg.TOPOLOGY 0
  let s3 := ((s2.put Reg.RING_N 0).put Reg.ENUM_GEN 0).put Reg.ENUMERATED 0
  let s4 := (s3.put Reg.BREAK_KNOWN 0).put Reg.BREAK_POS 0
  { s4 with chain := { s4.chain with enumGen := [], enumPos := [], bcnAt := [], enumEnds := none, beacons := [], linkUps := [] } }

/-- A commit that changes `RATE_MODE` or a port enable retrains the ports concerned (R351). -/
def portsAtCommit (rate : Bool) (s : State) : State :=
  s.each [0, 1] (fun p t =>
    let u := portEnable p t
    if rate && t.get (Reg.PSTATE p) != 0 && u.get (Reg.PSTATE p) != 0 then
      beginTraining p (startFull u) true u
    else u)

end Sys2Proof.Machine
end

