-- ==== Sys2Proof/Machine/ThermalOut.lean ====
section
/-!
DEFINITION. The thermal output (R304 to R311): the demand and its loss, the laws DIRECT and CASCADE, spin-up and tach supervision, the
stop ramp, and THERM_SET.
-/

namespace Sys2Proof.Machine

/-- Change the thermal output. -/
def State.setTo (s : State) (o : ThermOut) : State := { s with temps := { s.temps with out := o } }

/-- The thermal output is neither IDLE nor STOPPING. -/
def toRuns (s : State) : Bool := [1, 2, 3, 4].contains (s.get Reg.TO_STATE)

/-- The thermal output event (R313). -/
def toEvent (cause top : Nat) (s : State) : State := raise 499 (cause + 65536 * (top % 65536)) s

/-! ### Demand (R305) -/

/-- An external demand is lost. -/
def demandLose (s : State) : State :=
  let o := s.temps.out
  if o.ok then
    toEvent 1 o.d ((s.setTo { o with ok := false, lostFor := 0 }).put Reg.DEMAND_OK 0)
  else s

/-- An external demand has a valid value. -/
def demandIs (d : Nat) (s : State) : State :=
  let o := s.temps.out
  let s1 := (s.setTo { o with d := d, ok := true, lostFor := 0 }).put Reg.DEMAND_OK 1
  if o.ok then s1 else toEvent 2 d s1

/-- THD_IN_EDGE (R305): an edge of THD_IN at `t`, in 10 ns. -/
def execThdInEdge (rising : Bool) (t : Nat) (s : State) : Out :=
  let o := s.temps.out
  if !s.ready then done s
  else if !rising then done (s.setTo { o with high := t - o.rise.getD t, thdAt := s.abs })
  else
    let s1 := s.setTo { o with rise := some t, thdAt := s.abs }
    match o.rise with
    | none => done s1
    | some r =>
      let p := t - r
      if 2000 ≤ p && p ≤ 10000000 then
        let d := (divRound (o.high * 1024) p).toNat
        let s2 := s1.setTo { s1.temps.out with ext := some d }
        done (if s.get Reg.SRC_NOW = 1 then demandIs d s2 else s2)
      else
        let s2 := s1.setTo { s1.temps.out with ext := none }
        done (if s.get Reg.SRC_NOW = 1 then demandLose s2 else s2)

/-- An instant `ms` milliseconds after `from_` has come: the grains up to it pass (R305, R307, R308). DEDUCED (log entry 104). -/
def outPass (from_ ms : Nat) (s : State) : Option State := s.passTo (from_ + msGrains s.tb.period ms)

/-- DEMAND_LOST (R305): THD_IN has stayed at one level for 250 ms. DEDUCED (log entry 104). -/
def execDemandLost (s : State) : Out :=
  if s.ready then
    match outPass s.temps.out.thdAt 250 s with
    | none => done s
    | some t =>
      let s1 := t.setTo { s.temps.out with ext := none, rise := none }
      done (if s.get Reg.SRC_NOW = 1 then demandLose s1 else s1)
  else done s

/-- DEMAND_HOLD_EXPIRY (R305): a lost demand has been held for `TD_HOLD` samples. -/
def execDemandHoldExpiry (s : State) : Out :=
  let o := s.temps.out
  if s.ready && toRuns s && s.get Reg.SRC_NOW != 0 && !o.ok && s.get Reg.TD_HOLD ≤ o.lostFor && !o.stop then
    done (toEvent 5 o.d (s.setTo { o with stop := true }))
  else done s

/-! ### Tach (R304, R307, R308) -/

/-- The speed at a sample (R304): rpm. -/
def tachRpm (s : State) : Nat :=
  let o := s.temps.out
  let ppr := s.get Reg.TACH_PPR + 1
  let m := o.ivals.length - 1
  let sum := ((o.ivals.take m)).foldl (· + ·) 0
  let (n, t) := if 1 ≤ m && 0 < sum then (m, sum) else (1, o.edges.headD 0)
  if t = 0 then s.get Reg.RPM_NOW else min 65535 (Config.roundQ (60000000 * n) (ppr * t)).toNat

/-- Seven intervals, each within ±25 % of their mean. -/
def steady (l : List Nat) : Bool :=
  let sum := l.foldl (· + ·) 0
  l.length = 7 && l.all (fun i => 4 * (if 7 * i < sum then sum - 7 * i else 7 * i - sum) ≤ sum)

/-- TACH_EDGE (R304): a rising edge at `t`, in µs. An edge within 100 µs of the last accepted one is ignored. -/
def execTachEdge (t : Nat) (s : State) : Out :=
  let o := s.temps.out
  if !s.ready || !s.flag Reg.TACH_EN || o.lastEdge.any (fun l => t < l + 100) then done s
  else
    let i := o.lastEdge.elim 0 (fun l => t - l)
    let edges := if o.lastEdge.isSome then (i :: o.edges).take 7 else o.edges
    let n := if o.window then o.winEdges + 1 else o.winEdges
    let s1 := s.setTo { o with lastEdge := some t, edgeAt := s.abs, edges := edges, ivals := i :: o.ivals, winEdges := n, lost := false }
    let s2 := if o.window && o.retry && n = 2 then
        raise 497 (3 + 65536 * s1.get Reg.DUTY_NOW) (s1.setTo { s1.temps.out with retry := false }) else s1
    if s2.get Reg.TO_STATE = 4 && steady edges then
      let s3 := ((s2.setTo { s2.temps.out with u := s2.get Reg.DUTY_NOW, xPrev := none }).put Reg.TO_STATE 2).put Reg.FF_BIAS 0
      done (raise 498 (2 + 65536 * s3.get Reg.RPM_NOW) s3)
    else done s2

/-- TACH_TIMEOUT (R308): no accepted edge for `TACH_TO` ms; declared at the next sample. DEDUCED (log entry 104). -/
def execTachTimeout (s : State) : Out :=
  if s.ready && s.flag Reg.TACH_EN && s.get Reg.TO_STATE = 2 && s.get Reg.TACH_MIN_DUTY ≤ s.get Reg.DUTY_NOW then
    match outPass s.temps.out.edgeAt (s.get Reg.TACH_TO) s with
    | none => done s
    | some t => done (t.setTo { s.temps.out with lost := true })
  else done s

/-- SPIN_WINDOW_END (R307): `SPIN_WIN` ms after the window opened; with fewer than two edges NO_ROTATION is declared at the next sample.
DEDUCED (log entry 104). -/
def execSpinWindowEnd (s : State) : Out :=
  let o := s.temps.out
  if s.ready && o.window && s.get Reg.TO_STATE = 1 then
    match outPass o.winAt (s.get Reg.SPIN_WIN) s with
    | none => done s
    | some t =>
      if o.winEdges < 2 && s.get Reg.TACH_MIN_DUTY ≤ s.get Reg.DUTY_NOW then done (t.setTo { o with window := false, noRot := true })
      else done ((t.setTo { o with window := false, retry := false, u := s.get Reg.DUTY_NOW, xPrev := none }).put Reg.TO_STATE 2)
  else done s

/-! ### Temperature (R309) -/

/-- The temperature that `TO_T_SRC` names. -/
def toTemp (s : State) : Option Int := tempSource s (s.get Reg.TO_T_SRC) baseDies

/-- The READ_TEMPS indices that `TO_T_SRC` stands for. -/
def toSensors (s : State) : List Nat :=
  match s.get Reg.TO_T_SRC with
  | 253 => (List.range 216).filter (fun j => s.flag (Reg.MAP_EN j) && s.get (Reg.MAP_GROUP j) == 0)
  | 254 => baseDies
  | j => [j]

/-- THERMAL_TEMP_LOST (R309): no valid value for 64 spans. -/
def execThermalTempLost (s : State) : Out :=
  let last := ((toSensors s).map (fun i => kvGet (fun _ => 0) s.fab.tOk i)).foldl max s.start.readySpan
  if s.ready && s.get Reg.TO_MODE = 2 && toRuns s && (toTemp s).isNone && !s.temps.out.tLost && last + 64 ≤ s.clk.span then
    done (toEvent 3 s.temps.out.tNow (s.setTo { s.temps.out with tLost := true }))
  else done s

/-! ### The law (R306) -/

/-- FF(s) (R306). -/
def ffDuty (s : State) (sp : Int) : Int :=
  (s.get Reg.FF_D0 : Int) + Int.tdiv (((s.get Reg.FF_D1 : Int) - s.get Reg.FF_D0) * sp) (s.get Reg.RPM_MAX)

/-- T_set (R306). -/
def setPointT (s : State) : Int :=
  let o := s.temps.out
  if s.get Reg.SRC_NOW = 0 then signed 16 o.demand
  else s.getS Reg.TSP_0 + Int.tdiv ((o.d : Int) * (s.getS Reg.TSP_1024 - s.getS Reg.TSP_0)) 1024

/-- The outer loop (R306 steps 1 and 2, R309). -/
def outerLoop (s : State) : State :=
  let o := s.temps.out
  match toTemp s with
  | none => s
  | some t =>
    let e := if s.flag Reg.TO_SENSE then setPointT s - t else t - setPointT s
    let ePrev := if o.tLost then e else o.ePrev.getD e
    let sp := o.s + Int.tdiv ((s.get Reg.KP_T : Int) * (e - ePrev)) 256 + Int.tdiv ((s.get Reg.KI_T : Int) * e) 256
    let s1 := s.setTo { o with s := clampI 0 (s.get Reg.RPM_MAX) sp, ePrev := some e, tLost := false, tNow := tempCode t }
    if o.tLost then toEvent 4 (tempCode t) s1 else s1

/-- u of the law at a sample. -/
def lawDuty (s : State) : State :=
  let o := s.temps.out
  let lo : Int := s.get Reg.DUTY_MIN
  let hi : Int := s.get Reg.DUTY_MAX
  if s.get Reg.TO_MODE = 2 then
    let s1 := outerLoop s
    let p := s1.temps.out
    if !s.flag Reg.TACH_EN then s1.setTo { p with u := clampI 0 1024 (ffDuty s p.s) }
    else
      match s.get Reg.TO_STATE with
      | 3 => s1
      | 4 => s1.setTo { p with u := clampI 0 1024 (ffDuty s p.s + s.getS Reg.FF_BIAS) }
      | 1 => s1.setTo { p with u := clampI 0 1024 (ffDuty s p.s) }
      | _ =>
        let x := p.s - s1.get Reg.RPM_NOW
        let xPrev := p.xPrev.getD x
        let u := p.u + Int.tdiv ((s.get Reg.KP_S : Int) * (x - xPrev)) 4096 + Int.tdiv ((s.get Reg.KI_S : Int) * x) 4096
        s1.setTo { p with u := clampI lo hi u, xPrev := some x }
  else
    let d : Nat := if s.get Reg.SRC_NOW = 0 then o.demand else o.d
    s.setTo { o with u := if d = 0 then 0 else max lo (min d hi) }

/-- The duty of the loop takes a value at this instant. -/
def setDuty (d : Nat) (s : State) : State :=
  (s.setTo { s.temps.out with duties := ((s.abs, d) :: s.temps.out.duties).take 20 }).put Reg.DUTY_NOW d

/-- The duty takes u under `DUTY_SLEW` (R306); a rise through `TACH_MIN_DUTY` opens a spin-up window (R307). -/
def takeDuty (s : State) : State :=
  let o := s.temps.out
  let old := s.get Reg.DUTY_NOW
  let u := if s.get Reg.TO_STATE = 3 then min o.u (s.get Reg.NR_DUTY) else o.u
  let new := (clampI 0 1024 (min u (old + s.get Reg.DUTY_SLEW))).toNat
  let s1 := setDuty new s
  let min_ := s.get Reg.TACH_MIN_DUTY
  if s.flag Reg.TACH_EN && old < min_ && min_ ≤ new && s.get Reg.TO_STATE != 3 then
    (s1.setTo { s1.temps.out with window := true, winAt := s.abs, winEdges := 0, retry := false }).put Reg.TO_STATE 1
  else s1

/-! ### The sample (R305 to R311) -/

/-- Begin the stop ramp (R311). -/
def toStop (s : State) : State :=
  let o := s.temps.out
  (s.setTo { o with stop := false, newSet := none, retryDue := false, window := false, noRot := false, lost := false, retry := false,
                    rampFrom := s.abs, rampDuty := s.get Reg.DUTY_NOW }).put Reg.TO_STATE 5

/-- The demand of the source in use, at a sample (R305). -/
def sampleDemand (auxUv : Nat) (s : State) : State :=
  match s.get Reg.SRC_NOW with
  | 0 => (s.setTo { s.temps.out with ok := true }).put Reg.DEMAND_OK 1
  | 1 =>
    match s.temps.out.ext with
    | some d => demandIs d s
    | none => demandLose s
  | _ =>
    if 100000 ≤ auxUv && auxUv ≤ 1700000 then demandIs (Config.roundQ ((auxUv - 100000 : Nat) * 1024) 1600000).toNat s else demandLose s

/-- What an accepted SET does at its sample (R310). -/
def takeSet (s : State) : State :=
  let o := s.temps.out
  match o.newSet with
  | none => s
  | some (src, demand) =>
    let s1 := (s.setTo { o with newSet := none, demand := demand, ok := true, lostFor := 0 }).put Reg.SRC_NOW src
    if s.get Reg.TO_STATE = 0 then
      (s1.setTo { s1.temps.out with u := 0, s := 0, ePrev := none, xPrev := none, tLost := false, window := false,
                                    noRot := false, lost := false, stop := false }).put Reg.TO_STATE 2
    else s1

/-- NO_ROTATION as it is declared at a sample (R307): the duty becomes min(u, `NR_DUTY`) at once, u being that of the law at this sample; before
a stop ramp it does not rise (R311). -/
def declareNoRot (stops : Bool) (s : State) : State :=
  let o := s.temps.out
  if o.noRot then
    let d := (clampI 0 1024 (min o.u (s.get Reg.NR_DUTY))).toNat
    let duty := if stops then min d (s.get Reg.DUTY_NOW) else d
    raise 497 (1 + 65536 * duty) (setDuty duty ((s.setTo { o with noRot := false, retry := false }).put Reg.TO_STATE 3))
  else s

/-- TACH_LOST as it is declared at a sample (R308). -/
def declareLost (s : State) : State :=
  let p := s.temps.out
  if p.lost then
    let b := if s.get Reg.TO_MODE = 2 then p.u - ffDuty s p.s else 0
    let t := ((s.setTo { p with lost := false, edges := [], lastEdge := none }).put Reg.TO_STATE 4).putS Reg.FF_BIAS b
    raise 498 (1 + 65536 * t.get Reg.RPM_NOW) t
  else s

/-- A RETRY at its sample (R307): a new window, from the law's duty. -/
def takeRetry (s : State) : State :=
  let o := s.temps.out
  if o.retryDue && s.get Reg.TO_STATE = 3 then
    let s1 := (s.setTo { o with retryDue := false, window := true, winAt := s.abs, winEdges := 0, retry := true }).put Reg.TO_STATE 1
    raise 497 (2 + 65536 * s1.get Reg.DUTY_NOW) s1
  else s.setTo { o with retryDue := false }

/-- The values that the status words show after a sample (R315). -/
def showOut (s : State) : State :=
  let o := s.temps.out
  let dem := if s.get Reg.TO_MODE = 2 then unsigned 16 (setPointT s) else if s.get Reg.SRC_NOW = 0 then o.demand else o.d
  ((s.put Reg.DEMAND_NOW dem).put Reg.S_NOW o.s.toNat).putFlag Reg.TEMP_OK (toTemp s).isSome

/-- What a sample of the thermal loop does; `auxUv` is the voltage of AUX_IN. -/
def thermalSample (auxUv : Nat) (s : State) : State :=
  let live := leaseLive s 2
  let s0 := (s.putFlag Reg.TO_LEASE live).put Reg.RPM_NOW (tachRpm s)
  let s1 := s0.setTo { s0.temps.out with ivals := [], sampleAt := s.abs }
  if toRuns s1 && (s1.temps.out.stop || !live || s1.modeNow = 5) then
    let s2 := sampleDemand auxUv s1
    showOut (toStop (declareNoRot true (declareLost (if s2.temps.out.noRot then lawDuty s2 else s2))))
  else if !live || s1.modeNow = 5 then
    showOut (sampleDemand auxUv (s1.setTo { s1.temps.out with newSet := none, retryDue := false, stop := false }))
  else
    let s3 := sampleDemand auxUv (takeSet s1)
    if !toRuns s3 then showOut s3
    else
      let o := s3.temps.out
      let s4 := if o.ok then s3 else s3.setTo { o with lostFor := o.lostFor + 1 }
      showOut (takeDuty (declareNoRot false (lawDuty (takeRetry (declareLost s4)))))

/-- THERMAL_SAMPLE (R305 to R309, R311): the grains up to the next of the grains 0, 1,024, 2,048 and 3,072 pass, and the loop samples there,
once. DEDUCED (log entry 57). -/
def execThermalSample (auxUv : Nat) (s : State) : Out :=
  if !s.ready || s.modeNow = 0 then done s
  else done ((s.passTo (nextBoundary s.temps.out.sampleAt s.abs 1024)).elim s (thermalSample auxUv))

/-- THERMAL_RAMP_DONE (R311): 1,024 grains after the sample at which the ramp began. -/
def execThermalRampDone (s : State) : Out :=
  if s.get Reg.TO_STATE = 5 then
    done ((s.passTo (s.temps.out.rampFrom + 1024)).elim s (fun t => setDuty 0 (t.put Reg.TO_STATE 0)))
  else done s

/-- The duty of the loop at an instant: during the stop ramp it falls linearly over 1,024 grains (R311). -/
def dutyAt (s : State) (t : Nat) : Nat :=
  let o := s.temps.out
  if (s.get Reg.TO_STATE = 5 || o.rampDuty != 0) && o.rampFrom ≤ t && (s.get Reg.TO_STATE = 5 || t < o.rampFrom + 1024) then
    (Config.roundQ (o.rampDuty * (1024 - (t - o.rampFrom)) : Nat) 1024).toNat
  else ((o.duties.find? (fun x => x.1 ≤ t)).map (·.2)).getD 0

/-- The start of the PWM period in progress (R304): the periods of 40 µs or 10 ms follow one another from instant 0 on. DESIGN CHOICE (log entry 80). -/
def pwmEdge (s : State) : Nat :=
  let p := if s.flag Reg.THO_FREQ then 4000000 else 16000
  ceilDiv (s.abs * s.tb.period / (4096 * p) * (4096 * p)) s.tb.period

/-- The duty in force, which changes only where a PWM period begins (R304); THO is low while the base die does not run, and in STORE (R312).
DEDUCED (log entry 80). -/
def dutyNow (s : State) : Nat := if !s.ready || s.modeNow = 0 then 0 else dutyAt s (pwmEdge s)

/-! ### THERM_SET (R310) -/

/-- The next thermal sample after now: span and grain. -/
def nextThermal (s : State) : Nat × Nat :=
  let g := (s.clk.grain / 1024 + 1) * 1024
  if g = 4096 then (s.clk.span + 1, 0) else (s.clk.span, g)

/-- The reply data. DEDUCED (log entry 77). -/
def thermReply (state time : Nat) : List Byte := byte state :: leBytes 8 time

/-- The refusal of SET and RETRY. `set` holds source and demand of a SET. -/
def thermRefusal (src : Nat) (set : Option (Nat × Nat)) (s : State) : Option Nat :=
  let st := s.get Reg.TO_STATE
  if set.any (fun x => 2 < x.1 || (x.1 == 0 && s.get Reg.TO_MODE == 1 && 1024 < x.2)) then some St.badParam
  else if s.modeNow = 0 || s.modeNow = 5 || s.get Reg.TO_MODE = 0 || st = 5 || (set.isNone && st != 3) then some St.badState
  else if !(leaseLive s 2 && (nextThermal s).1 < leaseE s 2 && s.get (Reg.HOLDER 2) == src) then some St.noLease
  else none

/-- THERM_SET: `act` 0 SET, 1 STOP, 2 RETRY. DEDUCED (log entry 57). -/
def thermSet (act src tsSrc demand : Nat) (s : State) : Ans :=
  let o := s.temps.out
  let p := nextThermal s
  let time := stampWord (if p.1 = s.clk.span then s.stampAt p.2 else ⟨p.1, p.2, timeQualified s, false, tstateOf (s.get Reg.STATE)⟩)
  let bad := if act = 1 then none else thermRefusal src (if act = 0 then some (tsSrc, demand) else none) s
  match bad with
  | some st => ⟨st, thermReply (s.get Reg.TO_STATE) 0, s⟩
  | none =>
    let o1 := match act with
      | 0 => { o with newSet := some (tsSrc, demand) }
      | 1 => { o with stop := toRuns s, newSet := none, retryDue := false }
      | _ => { o with retryDue := true }
    ⟨St.ok, thermReply (s.get Reg.TO_STATE) time, s.setTo o1⟩

end Sys2Proof.Machine
end

