-- ==== Sys2Proof/Machine/TierLink.lean ====
section
/-!
DEFINITION. The tier links and the tiers' supplies (R15, R16, R25, R29, R30, R35, R413, R414, R466): lanes, link down and up, the
drain, wake channels, self-calibration and the loss of a tier's supply.
-/

namespace Sys2Proof.Machine

/-- The tier link event (R414). -/
def linkEvent (k cause rest : Nat) (s : State) : State :=
  if s.ready then raise (tierSrc k 7) (cause + 16 * (s.tl k).active + 65536 * rest) (latchNote (tierSrc k 7) s.now false s) else s

/-- A lane of the link of tier `k` works. -/
def laneUp (l : TierLink) (i : Nat) : Bool := if i = 0 then l.lane0 else l.lane1

/-- TIER_LANE_FAIL (R16): one lane fails while the other works; the failure of both is TIER_LINK_DOWN. -/
def execTierLaneFail (k lane : Nat) (s : State) : Out :=
  let l := s.tl k
  if 5 < k || 1 < lane || !laneUp l lane || !laneUp l (1 - lane) then done s
  else
    let l1 := if lane = 0 then { l with lane0 := false, lowSpan := true } else { l with lane1 := false, lowSpan := true }
    if l.active = lane then done (linkEvent k 1 0 (s.setTl k { l1 with active := 1 - lane }))
    else done (s.setTl k l1)

/-- An address of tier `k`'s window. -/
def inTier (k a : Nat) : Bool := 0x10000 + 0x2000 * k ≤ a && a < 0x12000 + 0x2000 * k

/-- The six accumulator words (R176). -/
def chgWords (s : State) : List Nat :=
  let n := unsigned 64 s.cur.net
  [n, n / 2 ^ 32, chgIn s, chgIn s / 2 ^ 32, chgOut s, chgOut s / 2 ^ 32]

/-- The words of a tier in its last status: what its status carried while its link was up (R499). DEDUCED (log entry 42). -/
def lastStatus (s : State) (k : Nat) : Option WordMap :=
  if s.linkUp k then
    let m := s.regs.filter (fun e => inTier k e.1)
    some (if k = 0 then ((List.range 6).zip (chgWords s)).foldl (fun m x => putWord m (Wd.CHG_NET_LO + 4 * x.1) x.2) m else m)
  else (s.tl k).last

/-- Take the link of tier `k` down: what was on it is gone. DEDUCED (log entry 85). -/
def dropLink (k : Nat) (s : State) : State :=
  let l := s.tl k
  let last := lastStatus s k
  let s1 := s.setTl k { l with lane0 := false, lane1 := false, lowSpan := true, up := [], draining := false, last := last }
  { s1 with bal := { s1.bal with recs := kvSet (fun _ => none) s1.bal.recs k none } }

/-- TIER_LINK_DOWN (R16, R414): both lanes have failed. -/
def execTierLinkDown (k : Nat) (s : State) : Out :=
  let l := s.tl k
  if 5 < k || !(l.lane0 || l.lane1) then done s
  else done (linkEvent k (if l.supplyLow then 5 else 2) 0 (dropLink k s))

/-- TIER_LINK_UP (R15, R30, R49): the link trains on the lanes of the mask; the tier sends its status, with `UNSYNC` while its count has
not been set, and begins its drain. -/
def execTierLinkUp (k lanes : Nat) (s : State) : Out :=
  let l := s.tl k
  if 5 < k || !l.supplied || !s.baseUp || l.lane0 || l.lane1 || lanes % 4 = 0 then done s
  else
    let a := if bit lanes 0 then 0 else 1
    let s1 := s.setTl k { l with lane0 := bit lanes 0, lane1 := bit lanes 1, active := a, draining := true, lowSpan := true, upUnsync := l.cold }
    let s2 := { s1 with fab := { s1.fab with estFor := kvSet (fun _ => 0) s1.fab.estFor k 0 } }
    done (linkEvent k 3 0 (applyEffN k s2))

/-! ### The drain (R29, R30, R413) -/

/-- The sources of tier `k`: its cells', and its own. -/
def tierSources (k : Nat) : List Nat := (List.range 72).map (· + 72 * k) ++ (List.range 8).map (· + (432 + 8 * k))

/-- The value of a SUMMARY raise (R413). -/
def summaryValue (e : LatchEntry) : Nat := e.count % 65536 + 65536 * (e.firstSpan % 65536)

/-- The SUMMARY raise of a source with raises that could not be reported one by one. -/
def summaryRaise (src : Nat) (s : State) : State :=
  let e := s.latchAt src
  if e.unreported = 0 then s
  else raiseAt src (summaryValue e) e.last true true (s.setLatch src { e with unreported := 0 })

/-- The SUMMARY raise of a pack current cause (R174). -/
def summaryPack (cause : Nat) (s : State) : State :=
  let e := kvGet (fun _ => LatchEntry.reset) s.cur.latch cause
  if e.unreported = 0 then s
  else
    let s1 := s.setCur (fun c => { c with latch := kvSet (fun _ => LatchEntry.reset) c.latch cause { e with unreported := 0 } })
    raiseAt 504 (summaryValue e) e.last true true s1

/-- The causes of the pack current event that two successive `CUR_FLAGS` tell of, with their details as far as the flags give them (R168, R174).
DEDUCED (log entry 101). -/
def flagCauses (s : State) (old new : Nat) : List (Nat × Nat) :=
  let turned (i : Nat) : Bool := bit old i != bit new i
  (if turned 5 then [(1, b01 (bit new 5))] else []) ++ (if turned 6 then [(2, b01 (bit new 6))] else [])
    ++ (if turned 7 then [(3, b01 (bit new 7) + 2 * s.get Reg.FAULT_KIND)] else [])
    ++ (if bitsOf old 2 2 != bitsOf new 2 2 then [(4, bitsOf new 2 2)] else [])
    ++ (if !bit old 8 && bit new 8 then [(5, if s.flag Reg.SAT_NET then 0 else if s.flag Reg.SAT_IN then 1 else 2)] else [])

/-- The pack current causes that the flags of a drained record tell of are raised late, with its timestamp, and no more from the latch (R174). -/
def drainFlags (r : SpanRec) (s : State) : State :=
  let new := r.cur.getD 4 0
  let s1 := (flagCauses s (s.fab.curOld.getD new) new).foldl (fun t x =>
    let e := kvGet (fun _ => LatchEntry.reset) t.cur.latch x.1
    let t1 := t.setCur (fun c => { c with latch := kvSet (fun _ => LatchEntry.reset) c.latch x.1 { e with unreported := e.unreported - 1 } })
    raiseAt 504 (x.1 + 256 * x.2) r.stamp true false t1) s
  { s1 with fab := { s1.fab with curOld := some new } }

/-- One drained record: into the span history, and its raises (R30, R174). -/
def drainRecord (k : Nat) (r : SpanRec) (s : State) : State :=
  let s1 := deliverEvts r (histAdd r.span (histDrained s k r) ⟨[], 0, sensNow s, diesNow s⟩ s)
  s1.when (k == 0) (drainFlags r)

/-- TIER_DRAIN_DONE (R30): the buffered records are filed oldest first, then the tier event latch; `LOST_SPANS` is reported. Records
that are on the link as live results are none of the drain's. -/
def execTierDrainDone (k : Nat) (s : State) : Out :=
  let l := s.tl k
  if 5 < k || !s.ready || !s.linkUp k || !l.draining then done s
  else
    let live (r : SpanRec) : Bool := l.up.any (fun u => u.isRec && u.span == r.span)
    let s1 := s.setTl k { l with buf := l.buf.filter live, draining := false, lost := 0 }
    let s2 := (l.buf.filter (fun r => !live r)).foldl (fun t r => drainRecord k r t) s1
    let s3 := (tierSources k).foldl (fun t i => summaryRaise i t) s2
    let s4 := if k = 0 then [1, 2, 3, 4, 5].foldl (fun t i => summaryPack i t) s3 else s3
    done (linkEvent k 4 (min 65535 l.lost) s4)

/-! ### Wake, self-calibration, supply -/

/-- TIER_WAKE (R35): on a tier's wake channel the always-on domain asserts WAKE#, while tier 0 supplies it. -/
def execTierWake (k : Nat) (s : State) : Out :=
  if k < 6 && (s.tl 0).supplied && kvGet (fun _ => false) s.pwr.wakeCh k then
    done { s with evt := { s.evt with wake := true }, pwr := { s.pwr with wakeCh := kvSet (fun _ => false) s.pwr.wakeCh k false } }
  else done s

/-- A tier without supply holds nothing but its calibration store, which keeps `CONV_FAULT` (R25, R107). The base die's committed words
of the tier wait for their delivery (R388), and what the base die itself shows in the window of tier 0 stays (R176). -/
def clearTier (k : Nat) (s : State) : State :=
  let mine := s.regs.filter (fun e => inTier k e.1 && e.1 != Wd.CONV_FAULT k && e.1 != Wd.TH_PU k && e.1 != Wd.CB_UNPAIRED_W && e.1 != Wd.CB_LAST)
  let held := mine.foldl (fun m e =>
    let w := restartWord e.1 e.2.toNat
    if w = (resetWord e.1).toNat then m else kvSet (fun _ => none) m e.1 (some (BitVec.ofNat 32 w))) (s.tl k).held
  let s0 := s.setTl k { s.tl k with held := held }
  let s1 := s0.remap (fun a => mine.any (fun e => e.1 == a)) (fun a _ => (resetWord a).toNat)
  let s2 := ((((s1.setPr k TierPrim.reset).setSq k TierSec.reset).setTt k TierTherm.reset).setStrg (2 * k) Strg.reset).setStrg (2 * k + 1)
    Strg.reset
  let s3 := { s2 with evt := { s2.evt with latch := kvDrop (fun i => (tierSources k).contains i) s2.evt.latch } }
  let s4 := (tierChans k).foldl (fun t n => t.setStage n Stage.reset) s3
  if k = 0 then
    let c := s4.cur
    ((s4.put Reg.CB_MISMATCH (s.get Reg.CB_MISMATCH)).put Reg.CB_PAIRING (s.get Reg.CB_PAIRING)).setCur (fun _ =>
      { Cur.reset with cbWords := c.cbWords, cbSums := c.cbSums, cbFrom := c.cbFrom, cbCfg := c.cbCfg, cbTwo := c.cbTwo,
                       cbLostFor := c.cbLostFor, cbLost := c.cbLost, cbGot := c.cbGot, cbDue := c.cbDue, paired := c.paired })
  else s4

/-- TIER_SUPPLY_LOSS (R25): the tier stops, and what it has buffered is lost. Without tier 0, WAKE# does not work (R25); where the
always-on domain ran from it, the domain stops and its retention store is lost (R13, R437). The link goes down with TIER_LINK_DOWN. -/
def execTierSupplyLoss (k : Nat) (s : State) : Out :=
  if 5 < k || !(s.tl k).supplied then done s
  else
    let l := s.tl k
    let s0 := clearTier k s
    let s1 := s0.setTl k { TierLink.reset with lane0 := l.lane0, lane1 := l.lane1, active := l.active, supplied := false,
                                               supplyLow := true, span := l.span, held := (s0.tl k).held,
                                               last := lastStatus s k }
    done (if k = 0 then { aonCheck s1 with evt := { s1.evt with wake := false, wakeSrcs := [] }, pwr := { s1.pwr with wakeCh := [] } } else s1)

/-- TIER_SELF_CAL (R466): the supply has risen above the minimum; `osc0ok`: oscillator 0 passes its first check (R140). The spares go to
the cells of faulty converters (R107). -/
def execTierSelfCal (k : Nat) (osc0ok : Bool) (s : State) : Out :=
  if 5 < k || (s.tl k).supplied then done s
  else
    let l := s.tl k
    let s1 := (s.setTl k { TierLink.reset with lane0 := l.lane0, lane1 := l.lane1, active := l.active, held := l.held, last := l.last }).put
      (Reg.OSC_ACTIVE k) (b01 (!osc0ok))
    let bad := s1.get (Reg.FAULTED k)
    let s2 := [18, 19].foldl (fun t i => if bit bad i then t.put (spareUse k i) 3 else t) s1
    let cells := (List.range 18).filter (fun c => bit bad c && localOn s2 k c)
    let spares := [18, 19].filter (fun i => !bit bad i)
    let s3 := (cells.zip spares).foldl (fun t x =>
      ((t.put (spareCell k x.2) x.1).put (spareUse k x.2) 2).setServe k x.1 ⟨none, some 0, some x.2, some 0⟩) s2
    done ((cells.drop spares.length).foldl (fun t c => needSpare k c (t.setServe k c ⟨none, some 0, none, none⟩)) s3)

/-- TIER_SELF_CAL_DONE (R466, R489, R492): the calibration ends; the tier writes span records from the next span on. The end of a TEST
RECAL is reported. -/
def execTierSelfCalDone (k : Nat) (s : State) : Out :=
  let l := s.tl k
  if 5 < k || !l.supplied then done s
  else if l.calibrating then
    let at_ := (l.span + 1) * 4096
    let s1 := restartAll k at_ (s.setTl k { l with calibrating := false, closed := none })
    done (s1.setSq k { s1.sq k with endAt := (at_, 0), freeAt := (at_, 0) })
  else
    let s1 := s.setPr k { s.pr k with recal := false }
    if s.ready && s.start.testing = some (5, k) then
      done (raise 490 6 { s1 with start := { s1.start with testing := none } })
    else done s1

end Sys2Proof.Machine
end

