-- ==== Sys2Proof/Machine/Tun.lean ====
section
/-!
DEFINITION. The history store (R479 to R485), the images of the committed set (R386), and the records that the base die writes:
SPAN_MARK, ACCUM, CHECKPOINT, CONFIG and HEALTH (R49, R167, R202, R481).
-/

namespace Sys2Proof.Machine

/-! ### Images of a set (R386) -/

/-- The addresses of a row of the register tables. -/
def rowAddrs (r : WordRow) : List Nat :=
  (List.range r.count1).flatMap (fun i => (List.range r.count2).map (fun j => r.base + r.stride1 * i + r.stride2 * j))

/-- Every row of the register tables. -/
def allRows : List WordRow :=
  wordRows_0_0 ++ wordRows_1_0 ++ wordRows_1_1 ++ wordRows_1_2 ++ wordRows_2_0 ++ wordRows_2_1 ++ wordRows_3_0 ++ wordRows_3_1
    ++ wordRows_4_0 ++ wordRows_5_0 ++ wordRows_6_0 ++ wordRows_7_0 ++ wordRows_8_0 ++ wordRows_9_0 ++ wordRows_a_0 ++ wordRows_b_0

/-- The staged fields of the word at an address. -/
def stagedMask (a : Nat) : Nat := (wordRow a).elim 0 (·.staged)

/-- The words that hold a staged field, in ascending address. -/
def stagedAddrs : List Nat :=
  (((allRows.filter (fun r => r.staged != 0)).flatMap rowAddrs).foldl (fun (m : KV Unit) a =>
    if stagedMask a = 0 then m else kvIns a () m) []).map (·.1)

/-- The part of the committed set that an address belongs to: 0 the base die, 1 + k tier k. -/
def partOf (a : Nat) : Nat := if 0x10000 ≤ a && a < 0x1C000 then 1 + (a - 0x10000) / 0x2000 else 0

/-- The CRC-16 image of the words of a set that `p` names. -/
def setImage (p : Nat → Bool) (word : Nat → Nat) : List Byte :=
  (stagedAddrs.filter p).flatMap (fun a => leBytes 4 (word a &&& stagedMask a))

/-! ### The log (R479 to R482) -/

/-- Bytes of a record in the log: header, body and CRC-32, word-aligned. -/
def recSize (len : Nat) : Nat := (16 + len + 4 + 3) / 4 * 4

/-- Bytes in a sector (R479). -/
def sectorBytes : Nat := 4096

/-- Free bytes of the log (R479, R493). -/
def tunFree (t : Startup) : Nat := t.log.sectors * sectorBytes - (t.log.head - t.log.tail)

def tunUsed (rs : List Record) : Nat := (rs.map (fun r => recSize r.len)).foldl (· + ·) 0

/-- The sector at a place of the log, counted in sectors since it began. DESIGN CHOICE (log entry 103). -/
def sectorAt (l : TunLog) (n : Nat) : Nat := kvGet (fun i => i) l.slots (n % l.sectors)

/-- The group within which only the latest record of a kind is kept: slot of a job image, model slot of a pack. -/
def recGroup (r : Record) : Nat := if r.kind = 0x09 then par r.body 0 1 else if r.kind = 0x10 then par r.body 18 1 else 0

/-- A record is kept by R482, given the newer ones. -/
def recKept (r : Record) (newer : List Record) : Bool :=
  let same := newer.filter (fun x => x.kind == r.kind)
  match r.kind with
  | 0x05 => same.length < 64
  | 0x07 => true
  | 0x08 => true
  | 0x09 => same.all (fun x => recGroup x != recGroup r)
  | 0x10 => same.all (fun x => recGroup x != recGroup r)
  | 0x11 => tunUsed (same ++ [r]) ≤ 512 * 1024
  | _ => same.length < 2

/-- The log from its oldest record on: the sectors before it are erased (R479). -/
def moveTail (t : Startup) : Startup :=
  let first := t.tun.foldl (fun n r => min n r.place) t.log.head
  let to_ := first / sectorBytes * sectorBytes
  let n := (to_ - t.log.tail) / sectorBytes
  let erases := (List.range n).foldl (fun m i =>
    let x := sectorAt t.log (t.log.tail / sectorBytes + i)
    kvSet (fun _ => 0) m x (kvGet (fun _ => 0) m x + 1)) t.log.erases
  { t with log := { t.log with tail := max t.log.tail to_, erases := erases } }

/-- A live record is copied to the head of the log (R479, R483). -/
def copyRec (n : Nat) (t : Startup) : Startup :=
  match t.tun.find? (fun r => r.number == n) with
  | some r => { t with tun := t.tun.map (fun x => if x.number = n then { x with place := t.log.head } else x),
                       log := { t.log with head := t.log.head + recSize r.len } }
  | none => t

/-- Give up or copy the record that begins first in the log (R482): whether it is kept depends on the newer ones. -/
def reclaimOne (t : Startup) : Startup :=
  match t.tun.find? (fun r => t.tun.all (fun x => r.place ≤ x.place)) with
  | some r =>
    if recKept r (t.tun.filter (fun x => r.number < x.number)) then
      if recSize r.len ≤ tunFree t then moveTail (copyRec r.number t) else t
    else moveTail { t with tun := t.tun.filter (fun x => x.number != r.number) }
  | none => moveTail t

/-- Reclaim until `need` bytes are free, each record of the log once at most (R479, R482). -/
def reclaimRound (need : Nat) : Nat → Startup → Startup
  | 0, t => t
  | n + 1, t => if need ≤ tunFree t then t else reclaimRound need n (reclaimOne t)

/-- The log once space for a record of `len` body bytes has been made: reclaiming starts where less than 512 KB would remain free (R479). DEDUCED (log entry 58). -/
def reclaim (len : Nat) (t : Startup) : Startup := reclaimRound (recSize len + 512 * 1024) (t.tun.length + 1) t

/-- A record of `len` body bytes finds space after the reclaim (R482). -/
def tunRoom (len : Nat) (t : Startup) : Bool := decide (recSize len ≤ tunFree (reclaim len t))

/-- The words that show the log (R493). -/
def tunShow (s : State) : State :=
  let t := s.start
  let n := t.log.erases.foldl (fun a e => a + e.2) 0
  let top := t.log.erases.foldl (fun a e => max a e.2) 0
  let first := t.tun.foldl (fun a r => min a r.number) (s.get Reg.REC_NEXT)
  (((s.put Reg.REC_FIRST first).put Reg.FREE_KB (tunFree t / 1024)).put Reg.ERASE_MEAN (min 65535 (n / t.log.sectors / 10))).put
    Reg.ERASE_MAX (min 65535 (top / 10))

/-- The history-store wear event (R492). -/
def tunEvent (cause top : Nat) (s : State) : State := raise 491 (cause + 256 * s.get Reg.SPARE_SECT + 2 ^ 20 * top) s

/-- A wear event that is raised once. -/
def tunOnce (cause top : Nat) (s : State) : State :=
  if kvGet (fun _ => false) s.start.log.once cause then s
  else tunEvent cause top { s with start := { s.start with log := { s.start.log with once := kvSet (fun _ => false) s.start.log.once cause true } } }

/-- The mean erase count has reached `pct` percent of the rating of 100,000 cycles (R479, R483). -/
def worn (pct : Nat) (s : State) : Bool :=
  decide (1000 * pct * s.start.log.sectors ≤ s.start.log.erases.foldl (fun a e => a + e.2) 0)

/-- The wear that erases have brought (R483). DESIGN CHOICE (log entry 103). -/
def tunWorn (s : State) : State :=
  let s1 := if worn 50 s then tunOnce 4 0 s else s
  if worn 80 s then tunOnce 5 0 s1 else s1

/-- Append a record (R480, R482): the state, and whether it found space. DEDUCED (log entry 58). -/
def tunAppend (kind : Nat) (body : List Byte) (len : Nat) (ckpt : KV (Option Ckpt)) (s : State) : State × Bool :=
  let t := reclaim len s.start
  if tunRoom len s.start then
    let n := s.get Reg.REC_NEXT
    let r : Record := ⟨n, kind, s.clk.span, body, len, ckpt, t.log.head⟩
    let s1 := { s with start := { t with tun := t.tun ++ [r], log := { t.log with head := t.log.head + recSize len } } }
    (tunWorn (tunShow (((s1.put Reg.REC_NEXT (n + 1)).put (Reg.REC_LAST kind) n).put Reg.TUN_FULL 0)), true)
  else
    (tunEvent 6 kind (tunWorn (tunShow ({ s with start := t }.put Reg.TUN_FULL 1))), false)

/-- A sector of the log whose verify failed is retired (R483): its live records are copied first, and the next spare takes its place; without a
spare the sector leaves the log. DESIGN CHOICE (log entry 103). -/
def retireSector (x : Nat) (s : State) : State :=
  let l := s.start.log
  match (List.range l.sectors).find? (fun i => sectorAt l i == x) with
  | none => s
  | some i =>
    let inIt (r : Record) : Bool :=
      (List.range ((r.place + recSize r.len - 1) / sectorBytes - r.place / sectorBytes + 1)).any (fun j =>
        (r.place / sectorBytes + j) % l.sectors == i)
    let t := (s.start.tun.filter inIt).foldl (fun t r => copyRec r.number t) s.start
    let erases := kvSet (fun _ => 0) t.log.erases x 0
    let left := s.get Reg.SPARE_SECT
    let slots := if left = 0 then
        (List.range (l.sectors - 1 - i)).foldl (fun (m : KV Nat) (j : Nat) => kvSet (fun n => n) m (i + j) (sectorAt l (i + j + 1))) t.log.slots
      else kvSet (fun n => n) t.log.slots i l.spare
    let sectors := if left = 0 then l.sectors - 1 else l.sectors
    let log := { t.log with erases := erases, slots := slots, sectors := sectors, spare := l.spare + min 1 left }
    let s1 := { s with start := { t with log := log } }.put Reg.SPARE_SECT (left - 1)
    let s2 := tunEvent 1 x (tunShow s1)
    if left = 33 then tunOnce 2 x s2 else if left = 1 then tunOnce 3 x s2 else s2

/-- Append a record that the base die writes: one that finds no space is dropped. DEDUCED (log entry 58). -/
def tunWrite (kind : Nat) (body : List Byte) (s : State) : State := (tunAppend kind body body.length [] s).1

/-- The latest record of a kind. -/
def tunLatest (s : State) (kind : Nat) : Option Record := s.start.tun.reverse.find? (fun r => r.kind == kind)

/-- A byte of a record (R480): header, body, CRC-32. What the spec does not lay out is open. -/
def recByte (r : Record) (i : Nat) : Byte :=
  let h := [byte r.kind, 1, 0, 0] ++ leBytes 4 r.number ++ leBytes 4 r.len ++ leBytes 4 (r.span % 2 ^ 32)
  if i < 16 then h.getD i 0
  else if i < 16 + r.len then
    match r.body[i - 16]? with
    | some b => b
    | none => byte (Config.realFn 481 [r.number, i]).toNat
  else if r.body.length = r.len then byte (crc32 (h ++ r.body) / 256 ^ (i - 16 - r.len))
  else byte (Config.realFn 481 [r.number, i]).toNat

/-! ### Records of the base die (R481, R485) -/

/-- SPAN_MARK (R49). -/
def writeSpanMark (s : State) : State := tunWrite 0x01 (leBytes 6 s.clk.span ++ [0, 0]) s

/-- ACCUM (R167). -/
def writeAccum (s : State) : State :=
  tunWrite 0x02 (leBytes 8 s.clk.span ++ leBytes 8 (chgIn s) ++ leBytes 8 (chgOut s) ++ leBytes 8 (unsigned 64 s.cur.netOff)) s

/-- CONFIG (R481): the image of the whole set, then the part CRCs. DEDUCED (log entry 58). -/
def writeConfig (s : State) : State :=
  tunWrite 0x04 (setImage (fun _ => true) s.word ++ (List.range 7).flatMap (fun p => leBytes 2 (s.get (Reg.PART_EXPECT p)))) s

/-- Half a word of the completed bank. -/
def bankHalf (s : State) (off : Nat) : Nat := bitsOf (bankWord s.win.completed (off / 4 * 4)) (8 * (off % 4)) 16

/-- The HEALTH record (R485). DEDUCED (log entry 58). -/
def writeHealth (s : State) : State :=
  let cell (c : Nat) : List Byte :=
    let e := 0x38000 + 64 * c
    let has := bankWord s.win.completed (e + 8) != 0
    let z := 0x21000 + 848 * c
    let cap := bankWord s.win.completed (e + 20)
    let plate := kvGet (fun _ => 0) s.fab.plateMax c
    (if has then leBytes 2 (min 65535 (Config.roundQ cap 160).toNat) ++ leBytes 2 (bankHalf s (e + 26)) else [0xFF, 0xFF, 0xFF, 0xFF])
      ++ leBytes 2 (if plate = 0 then 0xFFFF else plate - 1)
      ++ leBytes 2 (if bankWord s.win.completed (z + 8) = 0 then 0xFFFF else bankHalf s (z + 16))
  let noCur := s.get Reg.I_SRC = 3
  let body := leBytes 8 (stampWord s.now) ++ leBytes 8 (if noCur then 0 else chgIn s) ++ leBytes 8 (if noCur then 0 else chgOut s)
    ++ (List.range 108).flatMap cell
  let s1 := tunWrite 0x07 body s
  { s1 with fab := { s1.fab with plateMax := [] } }

/-- CHECKPOINT (R202), and HEALTH where `HEALTH_DAYS` days of AON time have passed since the last one (R481). DEDUCED (log entry 50). -/
def writeCheckpoint (days : Nat) (s : State) : State :=
  let s1 := (tunAppend 0x03 [] 458752 s.fab.ckpt s).1
  s1.when (s1.get Reg.HEALTH_DAYS ≤ days) writeHealth

/-- The sectors that were programmed or erased between two states of the log. -/
def sectorsTouched (a b : TunLog) : List Nat :=
  (List.range (b.head / sectorBytes - a.head / sectorBytes + 1)).map (fun i => sectorAt a (a.head / sectorBytes + i))
    ++ (List.range ((b.tail - a.tail) / sectorBytes)).map (fun i => sectorAt a (a.tail / sectorBytes + i))

/-- CHECKPOINT_TUN_WRITE (R202): every 2^20 spans; of the sectors that it programs or erases, those whose verify fails are retired (R483).
DESIGN CHOICE (log entry 103). -/
def execCheckpointTunWrite (w : TunWrite) (s : State) : Out :=
  if s.ready && !s.flag Reg.RESCUE then
    let s1 := writeCheckpoint w.days s
    done ((w.fails.filter (fun x => (sectorsTouched s.start.log s1.start.log).contains x)).foldl (fun t x => retireSector x t) s1)
  else done s

/-- SPAN_COUNT_TUN_WRITE (R49): every 2^20 spans. -/
def execSpanCountTunWrite (s : State) : Out := if s.ready then done (writeSpanMark s) else done s

/-- ACC_TUN_WRITE (R167): every 2^16 spans. -/
def execAccTunWrite (s : State) : Out := if s.ready then done (writeAccum s) else done s

end Sys2Proof.Machine
end

