-- ==== Sys2Proof/Machine/TwoWire.lean ====
section
/-!
DEFINITION. The two-wire controller (R449 to R458) and the core supply that it sets (R434 to R436): transfers in their order,
arbitration, the two low-time timeouts, the attention request, the identity read, the pass-through, and the control of the
VCORE regulator.
-/

namespace Sys2Proof.Machine

/-! ### The regulator (R434 to R436) -/

/-- The regulator control event (R440). -/
def vrEvent (cause status : Nat) (s : State) : State :=
  raise 493 (cause + 16 * (status / 16 % 4096) + 65536 * s.get Reg.VCORE_MV) s

/-- A set-point write failed (R436): two retries, then the event. -/
def vrFail (cause : Nat) (s : State) : State :=
  match s.pwr.write with
  | none => s
  | some w =>
    if w.tries < 2 then vcWrite w.mv (w.tries + 1) s
    else vrEvent cause 0 (capFabric { s with pwr := { s.pwr with write := none, vrFailed := true } })

/-- Failed tries in a row of the regulator transfer of a command code. -/
def triesOf (cmd : Nat) (s : State) : Nat := kvGet (fun _ => 0) s.pwr.ctlTries cmd

def setTries (cmd n : Nat) (s : State) : State := { s with pwr := { s.pwr with ctlTries := kvSet (fun _ => 0) s.pwr.ctlTries cmd n } }

/-- What a regulator transfer other than a set-point writes: OPERATION is written 0x80 (R434). -/
def regArg (cmd : Nat) : Nat := if cmd = 0x01 then 0x80 else 0

/-- The transfers that have failed three times and wait for the next second (R436). -/
def spentReads (s : State) : List Nat := [0x01, 0x03, 0x20, 0x8B].filter (fun c => decide (3 ≤ triesOf c s))

/-- A regulator transfer other than a set-point has failed (R436, R449): it is retried twice, and a third failure raises NO_RESPONSE. DEDUCED (log entry 29). -/
def vrMiss (cmd : Nat) (s : State) : State :=
  let n := triesOf cmd s + 1
  if n < 3 then twDue (.regulator cmd (regArg cmd)) (setTries cmd n s) else vrEvent 1 0 (setTries cmd n s)

/-- VR_WRITE_CONFIRM (R436): READ_VOUT and the housekeeping measurement, mV, no later than 2 ms after the write. -/
def execVrWriteConfirm (acked : Bool) (readMv hkMv : Nat) (s : State) : Out :=
  match s.pwr.write with
  | none => done s
  | some w =>
    let near (a b lim : Nat) : Bool := a ≤ b + lim && b ≤ a + lim
    let s1 := s.put Reg.VCORE_MV hkMv
    if !acked || busStuck s then done (vrFail 1 s1)
    else
      let s2 := s1.put Reg.VC_READ readMv
      if near readMv w.mv 15 && near hkMv w.mv 25 then
        let s3 := { s2.put Reg.VC_CONFIRMED 1 with pwr := { s2.pwr with write := none, confirmed := w.mv } }
        done (vcStep (capFabric s3))
      else done (vrFail 2 s2)

/-- VR_RETRY_TICK (R436): after a third failure the base die tries again every 1 s. DEDUCED (log entry 29). -/
def execVrRetryTick (s : State) : Out :=
  if s.ready then
    let t := (spentReads s).foldl (fun t c => twDue (.regulator c (regArg c)) (setTries c 0 t)) s
    done (t.when s.pwr.vrFailed (fun u => vcStep { u with pwr := { u.pwr with vrFailed := false } }))
  else done s

/-- VCORE_ADAPT_TICK (R435): every 16 ms, the lowest path-monitor slack in 0.1 % of the FAB cycle. -/
def execVcoreAdaptTick (slack : Nat) (s : State) : Out :=
  if !s.ready then done s
  else
    let s1 := s.put Reg.SLACK_MIN (min slack 255)
    let s2 := s1.when (slack < 20 && s1.get Reg.VC_SET = 990) (vrEvent 5 0)
    if !s2.flag Reg.VC_ADAPT then done (vcForMode s2)
    else if slack < 50 then done (vcWant (s2.pwr.target + 10) { s2 with pwr := { s2.pwr with slackRun := 0 } })
    else if 120 ≤ slack then
      if s2.pwr.slackRun + 1 < 8 then done { s2 with pwr := { s2.pwr with slackRun := s2.pwr.slackRun + 1 } }
      else done (vcWant (s2.pwr.target - 5) { s2 with pwr := { s2.pwr with slackRun := 0 } })
    else done { s2 with pwr := { s2.pwr with slackRun := 0 } }

/-- The findings of STATUS_WORD that R435 names: VOUT, IOUT, INPUT, TEMPERATURE, at their PMBus places. PRESUMED (log entry 89). -/
def statusFinding (w : Nat) : Bool := bit w 15 || bit w 14 || bit w 13 || bit w 2

/-- STATUS_WORD has been read (R435). -/
def statusRead (status : Nat) (s : State) : State :=
  let s1 := setTries 0x79 0 s
  if statusFinding status then twDue (.regulator 0x03 0) (vrEvent 4 status s1) else s1

/-- VR_STATUS_POLL (R435): every 1 s; on a stuck bus no transfer starts (R458). A poll that fails is retried twice (R436, R449). -/
def execVrStatusPoll (acked : Bool) (status : Nat) (s : State) : Out :=
  if s.ready && s.flag Reg.VR_CTRL && !busStuck s then
    if acked then done (statusRead status s) else done (vrMiss 0x79 (setTries 0x79 0 s))
  else done s

/-- VCORE_RANGE_ALARM (R436): VCORE outside 0.70 to 1.02 V for 100 µs. -/
def execVcoreRangeAlarm (mv : Nat) (s : State) : Out :=
  if s.ready && (mv < 700 || 1020 < mv) then done (vrEvent 6 0 (s.put Reg.VCORE_MV (min mv 2047))) else done s

/-- READ_VOUT or VOUT_COMMAND word `n` in mV, with the exponent of VOUT_MODE. -/
def voutMv (s : State) (n : Nat) : Nat :=
  if s.tw.vrExp < 0 then (Config.roundQ ((n : Int) * 1000) (2 ^ s.tw.vrExp.natAbs)).toNat else n * 1000 * 2 ^ s.tw.vrExp.toNat

/-- The word of a set-point: N = round(V × 2^(−exp)) (R434). -/
def voutWord (s : State) (mv : Nat) : Nat :=
  if s.tw.vrExp < 0 then (divRound ((mv : Int) * 2 ^ s.tw.vrExp.natAbs) 1000).toNat
  else (divRound (mv : Int) (1000 * 2 ^ s.tw.vrExp.toNat)).toNat

/-- A regulator transfer ends well with the bytes read (R434, R435). PRESUMED (log entry 89). -/
def vrDone (cmd : Nat) (data : List Byte) (s0 : State) : State :=
  let s := setTries cmd 0 s0
  if cmd = 0x20 then
    let m := par data 0 1
    if m / 32 = 0 then
      let s1 := { s.put Reg.VR_CTRL 1 with tw := { s.tw with vrExp := signed 5 m }, pwr := { s.pwr with vrLinear := true } }
      vcForMode (twDue (.regulator 0x8B 0) (twDue (.regulator 0x01 0x80) s1))
    else vrEvent 3 0 { s with pwr := { s.pwr with vrLinear := false } }
  else if cmd = 0x8B then s.put Reg.VC_READ (min 1023 (voutMv s (par data 0 2)))
  else if cmd = 0x79 then statusRead (par data 0 2) s
  else s

/-- A regulator transfer fails (R449). -/
def vrBad (cmd : Nat) (s : State) : State := if cmd = 0x21 then vrFail 1 s else vrMiss cmd s

/-! ### Transfers (R449 to R451) -/

/-- The place of a transfer in the order of R449. -/
def TwJob.rank : TwJob → Nat
  | .regulator _ _ => 1
  | .identity => 2
  | .passThrough _ _ _ _ => 3

/-- The target address of a transfer. -/
def jobAddr (s : State) : TwJob → Nat
  | .regulator _ _ => s.get Reg.VR_ADDR
  | .identity => s.get Reg.ID_ADDR
  | .passThrough a _ _ _ => a

/-- The list without the first job of rank `r`, and that job. -/
def takeJob (r : Nat) : List (TwJob × Nat) → Option ((TwJob × Nat) × List (TwJob × Nat))
  | [] => none
  | j :: js =>
    if j.1.rank = r then some (j, js)
    else match takeJob r js with
      | none => none
      | some (x, rest) => some (x, j :: rest)

/-- TW_TRANSFER_START (R444, R449): on an idle bus the highest-ordered due transfer starts. DESIGN CHOICE (log entry 28). -/
def execTwTransferStart (s : State) : Out :=
  if s.ready && s.tw.active.isNone && !busStuck s then
    match [1, 2, 3].findSome? (fun r => takeJob r s.tw.due) with
    | none => done s
    | some (j, rest) => done { s.put Reg.BUS_IDLE 0 with tw := { s.tw with active := some j, due := rest } }
  else done s

/-- Bytes `i` and up of `PACK_ID` or `TWC_BUF`, as words. -/
def putBytes (a : Nat) : Nat → List Byte → State → State
  | 0, _, s => s
  | n + 1, bs, s => putBytes (a + 4) n (bs.drop 4) (s.putW a (leNat (bs.take 4)))

/-- An identity read failed (R450): `PACK_ID` is not valid; two retries, then `ID_FAIL`. -/
def identityFail (s0 : State) : State :=
  let s := s0.put Reg.ID_VALID 0
  if s.tw.idTries < 2 then { s with tw := { s.tw with idTries := s.tw.idTries + 1, idWait := true } }
  else s.put Reg.ID_FAIL 1

/-- An identity read ends (R450). -/
def identityDone (ok : Bool) (data : List Byte) (s : State) : State :=
  let n := s.get Reg.ID_LEN
  if ok && n ≤ data.length then
    let bs := data.take n
    let s1 := putBytes (Wd.PACK_ID 0) 16 bs s
    if !s.flag Reg.ID_CRC || leNat (bs.drop (n - 2)) = crc16 (bs.take (n - 2)) then (s1.put Reg.ID_VALID 1).put Reg.ID_FAIL 0
    else identityFail s1
  else identityFail s

/-- The bytes of `TWC_BUF`. -/
def twcBytes (s : State) : List Byte := (List.range 4).flatMap (fun i => leBytes 4 (s.word (Wd.TWC_BUF i)))

/-- A pass-through ends with a result (R451). -/
def passDone (result count : Nat) (data : List Byte) (rlen : Nat) (s : State) : State :=
  let bs := data.take rlen
  let s1 := putBytes (Wd.TWC_BUF 0) 4 (bs ++ (twcBytes s).drop bs.length) s
  let s2 := (s1.put Reg.TWC_BUSY 0).put Reg.TWC_DONE (1 - s1.get Reg.TWC_DONE)
  (s2.put Reg.TWC_RESULT result).put Reg.TWC_COUNT (min count 255)

/-- TW_TRANSFER_DONE (R449 to R451): the transfer in progress ends. `result`: 0 OK, 1 ADDR_NACK, 2 DATA_NACK, 3 PEC_ERR;
`count` bytes transferred; `data` the bytes read. -/
def execTwTransferDone (result count : Nat) (data : List Byte) (s : State) : Out :=
  match s.tw.active with
  | none => done s
  | some (j, _) =>
    let s1 := { s.put Reg.BUS_IDLE 1 with tw := { s.tw with active := none } }
    match j with
    | .regulator cmd _ => if result = 0 then done (vrDone cmd data s1) else done (vrBad cmd s1)
    | .identity => done (identityDone (result = 0) data s1)
    | .passThrough _ _ _ r => done (passDone (min result 3) count data r s1)

/-- The arbitration error event (R460). -/
def arbEvent (cause : Nat) (j : TwJob) (losses : Nat) (s : State) : State :=
  raise 496 (cause + 16 * j.rank + 256 * jobAddr s j + 65536 * min losses 65535) s

/-- A transfer is abandoned after `ARB_MAX` consecutive losses (R454). DEDUCED (log entry 29). -/
def abandonJob (j : TwJob) (losses result : Nat) (s : State) : State :=
  let s1 := arbEvent 3 j losses s
  match j with
  | .regulator cmd _ => vrBad cmd s1
  | .identity => identityFail s1
  | .passThrough _ _ _ _ => passDone result 0 [] 0 s1

/-- The transfer in progress is to start again, under the count of R454. DEDUCED (log entry 29). -/
def restartJob (result : Nat) (s : State) : State :=
  match s.tw.active with
  | none => s
  | some (j, n) =>
    let s1 := { s with tw := { s.tw with active := none } }
    if s.get Reg.ARB_MAX ≤ n + 1 then abandonJob j (n + 1) result s1
    else { s1 with tw := { s1.tw with due := (j, n + 1) :: s1.tw.due } }

/-- TW_ARB_LOST (R454). -/
def execTwArbLost (s : State) : Out :=
  if s.tw.active.isSome then done (restartJob 6 (s.bump Reg.ARB_LOSS)) else done s

/-- TW_ARB_ERROR (R455): at a STOP, or at a repeated START. A pass-through write is not started again. -/
def execTwArbError (restart : Bool) (s : State) : Out :=
  match s.tw.active with
  | none => done s
  | some (j, n) =>
    let s1 := arbEvent (if restart then 2 else 1) j (n + 1) (s.bump Reg.ARB_LOSS)
    match j with
    | .passThrough _ _ w _ =>
      if 0 < w then done (passDone 4 w [] 0 { s1 with tw := { s1.tw with active := none } }) else done (restartJob 6 s1)
    | _ => done (restartJob 6 s1)

/-- IDENTITY_READ (R450): at READY, or at a commit that changes `ID_CFG`. -/
def execIdentityRead (s : State) : Out :=
  if s.ready && s.tw.idDue then
    done (twDue .identity { s with tw := { s.tw with idDue := false, idTries := 0, idWait := false } })
  else done s

/-- IDENTITY_RETRY (R450): 10 ms after a failed read. -/
def execIdentityRetry (s : State) : Out :=
  if s.ready && s.tw.idWait then done (twDue .identity { s with tw := { s.tw with idWait := false } }) else done s

/-- The instant from which the next attention request may be given: `ATTN_GAP` after the last one (R452). -/
def attnFrom (s : State) : Nat := (s.tw.attnAt.map (· + msGrains s.tb.period (s.get Reg.ATTN_GAP))).getD 0

/-- An attention request falls due (R452, R453): the queue holds a frame not yet called for, and the bus is free of transfers. -/
def attnDue (s : State) : Bool :=
  s.ready && s.flag Reg.TW_ATTN && s.tw.active.isNone && s.tw.due.isEmpty && !busStuck s && decide (s.host.twCalled < s.host.twq.length)

/-- ATTENTION_REQUEST (R452, R453): 50 µs of SDA low on an idle bus; a pulse cut short by SCL is given again later. -/
def execAttentionRequest (sclFell : Bool) (s : State) : Out :=
  if attnDue s then
    match s.passTo (attnFrom s) with
    | none => done s
    | some t =>
      let s1 := { t with tw := { t.tw with attn := t.tw.attn + 1, attnAt := some t.abs } }
      if sclFell then done s1 else done { s1 with host := { s1.host with twCalled := s1.host.twq.length } }
  else done s

/-! ### Timeouts (R456 to R458) -/

/-- The value of the two timeout events (R460). -/
def lowValue (asTarget ended : Bool) (clocks : Nat) (freed : Bool) (lowMs : Nat) : Nat :=
  b01 asTarget + 2 * b01 ended + 16 * min clocks 9 + 256 * b01 freed + 65536 * min lowMs 65535

/-- TW_SCL_TIMEOUT (R456): `partial_` says that a frame was being received. DEDUCED (log entry 29). -/
def execTwSclTimeout (asTarget : Bool) (lowMs : Nat) (partial_ : Bool) (s : State) : Out :=
  if s.ready && !s.flag Reg.SCL_STUCK && s.get Reg.SCL_TO ≤ lowMs then
    let s1 := ((s.put Reg.SCL_STUCK 1).put Reg.BUS_IDLE 0).bump Reg.SCL_TO_COUNT
    let s2 := s1.when partial_ (fun t => t.bump Reg.TW_ERR)
    done (restartJob 5 (raise 494 (lowValue asTarget false 0 false lowMs) s2))
  else done s

/-- TW_SCL_RELEASED (R456): SCL has been high for 1 ms. DEDUCED (log entry 27). -/
def execTwSclReleased (asTarget : Bool) (lowMs : Nat) (s : State) : Out :=
  if s.ready && s.flag Reg.SCL_STUCK then
    done (raise 494 (lowValue asTarget true 0 false lowMs) ((s.put Reg.SCL_STUCK 0).putFlag Reg.BUS_IDLE (!s.flag Reg.SDA_STUCK)))
  else done s

/-- TW_SDA_TIMEOUT (R457): with the recovery clocks given and whether they released SDA. While SCL is stuck too, only the SCL
timeout applies (R458). DEDUCED (log entry 29). -/
def execTwSdaTimeout (asTarget : Bool) (lowMs clocks : Nat) (released : Bool) (s : State) : Out :=
  if s.ready && !s.flag Reg.SDA_STUCK && !s.flag Reg.SCL_STUCK && s.get Reg.SDA_TO ≤ lowMs then
    let r := s.flag Reg.TW_RECOVER
    let n := if r then min clocks 9 else 0
    let s1 := ((s.put Reg.SDA_STUCK 1).put Reg.BUS_IDLE 0).bump Reg.SDA_TO_COUNT
    let s2 := { s1 with tw := { s1.tw with clocks := n, freed := r && released } }
    done (restartJob 5 (raise 495 (lowValue asTarget false n (r && released) lowMs) s2))
  else done s

/-- TW_SDA_RECOVERY_RETRY (R457): every 1 s while SDA stays low; no event. -/
def execTwSdaRecoveryRetry (clocks : Nat) (released : Bool) (s : State) : Out :=
  if s.ready && s.flag Reg.SDA_STUCK && s.flag Reg.TW_RECOVER then
    done { s with tw := { s.tw with clocks := min clocks 9, freed := released } }
  else done s

/-- TW_SDA_RELEASED (R457, R460): the condition ends. DEDUCED (log entry 27). -/
def execTwSdaReleased (asTarget : Bool) (lowMs : Nat) (s : State) : Out :=
  if s.ready && s.flag Reg.SDA_STUCK then
    done (raise 495 (lowValue asTarget true s.tw.clocks s.tw.freed lowMs)
      ((s.put Reg.SDA_STUCK 0).putFlag Reg.BUS_IDLE (!s.flag Reg.SCL_STUCK)))
  else done s

end Sys2Proof.Machine
end

