-- ==== Sys2Proof/Machine/Startup.lean ====
section
/-!
DEFINITION. Starts of the base die (R462 to R469): what every start and restart clears (R23, R36, R67, R345), the start sequence,
READY, the firmware bank that runs, and what is restored from the history store; and the faults that restart it (R415).
-/

namespace Sys2Proof.Machine

/-! ### What every start clears (R23, R36, R345) -/

/-- The words of configuration space outside the base die's own volatile state: identity, tier windows, forwarding path (R345), retained
words (R34), STORE totals, and the words of chapter 15 that stored records rebuild (R493). -/
def keptWord (a : Nat) : Bool :=
  a < 0x10 || (0x10000 ≤ a && a < 0x1C000 && a != Wd.CB_UNPAIRED_W && a != Wd.CB_LAST) || (Wd.CHN_STATUS2 ≤ a && a < 0x50080) || a == Wd.BEACON_COUNT
    || (Wd.SEQ_HSEQ 0 ≤ a && a ≤ Wd.SEQ_INFO) || a == Wd.HO_STATUS || a == Wd.HO_LAST || a == Wd.STORE_LAST
    || (0xA0000 ≤ a && a < 0xB0000)

/-- The other words of the base die: staged fields stay until the configuration is restored; of `CHN_STATUS` the positions and the
topology stay. -/
def clearedWord (a w : Nat) : Nat :=
  if a = Wd.CHN_STATUS then w % 2 ^ 21 else restartWord a w

/-- Every restart of the base die: leases revoked, actions cancelled, memories zeroed, links to the tiers gone; the forwarding path
and what the tiers and the always-on domain hold stay (R23, R34, R36, R67, R345). DEDUCED (log entry 59). -/
def baseReset (s : State) : State :=
  let cut := s.pwr.phase = .shutting && s.start.shutdown.any (·.2)
  let s1 := s.remap (fun a => !keptWord a) clearedWord
  let s2 := ((((s1.put Reg.LC_TARGET 7).put Reg.LC_STEPS_LEFT 0).put Reg.TUN_FULL 0).put Reg.CB_MISMATCH 0).put Reg.CB_PAIRING 0
  let seqs := s2.host.seqs.foldl (fun m e => kvSet (fun _ => SeqState.reset) m e.1 ⟨e.2.valid, []⟩) []
  let ports := s2.chain.ports.map (fun e => (e.1, { e.2 with txq := [] }))
  let s3 := { s2 with
    host := { HostPort.reset with seqs := seqs }, win := .reset, tw := .reset, exc := .reset,
    tb := { TimeBase.reset with period := s2.tb.period, nextPeriod := s2.tb.period },
    fab := .reset, temps := { s2.temps with seen := [], baseOt := false, baseComp := 0x8000, out := .reset },
    bal := { Bal.reset with stages := s2.bal.stages, loopAt := s2.bal.loopAt, sentAt := s2.bal.sentAt, pwmAt := s2.bal.pwmAt },
    evt := { s2.evt with windows := [], fatals := 0, beaconHf := false, queue := [], overflow := 0, loadSpan := none },
    chain := { Chain.reset with ports := ports, enumGen := s2.chain.enumGen, enumPos := s2.chain.enumPos, bcnAt := s2.chain.bcnAt },
    cur := { s2.cur with cbWords := [], cbSums := [], cbFrom := none, cbCfg := none, cbTwo := false, cbLostFor := 0, cbLost := false, cbGot := false, cbDue := [], paired := [] },
    pwr := { s2.pwr with write := none, vrFailed := false, ctlTries := [], target := 900, confirmed := 900, slackRun := 0 },
    start := { s2.start with shutdown := none, testing := none, scan := false, bankEvt := [], recBad := [], calWait := true, booted := false,
                             aborted := s2.start.aborted || cut } }
  s3.each (List.range 6) (fun k t => let u := dropLink k t; u.setTl k { u.tl k with partDiff := false })

/-- The base die starts with a reset cause (R462): POWER_UP where the retention store is lost. -/
def beginStart (cause : Nat) (s : State) : State :=
  let s1 := baseReset s
  { s1 with pwr := { s1.pwr with phase := .starting }, ret := { s1.ret with cause := if s1.ret.ok then cause else 1, swapped := cause = 6 } }

/-- A restart that keeps the forwarding path (R462 codes 0x06 to 0x0B). -/
def restart (cause : Nat) (s : State) : State := beginStart cause s

/-- The base die runs firmware: it can be restarted. -/
def runsBase (s : State) : Bool :=
  match s.pwr.phase with
  | .starting => true
  | .ready => true
  | .shutting => true
  | .storeEntry => true
  | _ => false

/-! ### Firmware banks (R468) -/

def bankValid (b : Nat) : Field := if b = 0 then Reg.BANK_A_VALID else Reg.BANK_B_VALID

/-- A bank loses VALID. -/
def loseBank (b : Nat) (s : State) : State := (s.put (bankValid b) 0).put (Reg.FW_VER b) 0

/-- The candidate bank: the one the retention store names, or, with the store lost, the VALID one with the higher version. -/
def candidateBank (s : State) : Nat :=
  if s.ret.ok then s.ret.bank
  else if s.flag Reg.BANK_B_VALID && (!s.flag Reg.BANK_A_VALID || s.get (Reg.FW_VER 0) < s.get (Reg.FW_VER 1)) then 1 else 0

/-- Select the bank to run; `bad` names the banks whose header or CRC-32C fails (R468, R469). -/
def selectBank (bad : Nat) (s : State) : State :=
  let good (b : Nat) : Bool := s.flag (bankValid b) && !bit bad b
  let c := candidateBank s
  let run (b : Nat) (changed : Bool) (t : State) : State :=
    let u := ((t.put Reg.ACTIVE_BANK b).putFlag Reg.TRIAL t.ret.trial).put Reg.RESCUE 0
    { u with ret := { u.ret with bank := b }, start := { u.start with changed := changed } }
  if good c then run c s.ret.trial s
  else
    let v := s.get (Reg.FW_VER c)
    let s1 := loseBank c { s with ret := { s.ret with trial := false },
                                  start := { s.start with bankEvt := s.start.bankEvt ++ [(3, 0, v)] } }
    if good (1 - c) then run (1 - c) (!s.ret.trial) s1
    else
      let s2 := loseBank (1 - c) s1
      let s3 := (s2.put Reg.TRIAL 0).put Reg.RESCUE 1
      { s3 with start := { s3.start with bankEvt := s3.start.bankEvt ++ [(4, 0, 0)], changed := false } }

/-- The firmware version that runs; 0 under the rescue firmware (R469). -/
def fwVersion (s : State) : Nat := if s.flag Reg.RESCUE then 0 else s.get (Reg.FW_VER (s.get Reg.ACTIVE_BANK))

/-- The firmware bank event (R492). DEDUCED (log entry 61). -/
def bankEvent (cause b5 version : Nat) (s : State) : State :=
  raise 515 (cause + 16 * s.get Reg.ACTIVE_BANK + 32 * b5 + 65536 * (version % 65536)) s

/-! ### Cubits and their repair (R476, R477) -/

/-- The row that spare row `r` of a bank replaces, + 1; 0 = the spare row is not in use. -/
def spareRow (s : State) (j b r : Nat) : Nat := kvGet (fun _ => 0) s.start.repair ((16 * j + b) * 16 + r)

/-- Spare rows in use in a bank. -/
def rowsUsed (s : State) (j b : Nat) : Nat := ((List.range 16).filter (fun r => spareRow s j b r != 0)).length

/-- `ST_CUBIT` of a cubit of the given outcome. -/
def showCubit (j st : Nat) (s : State) : State :=
  let n := (List.range 16).map (rowsUsed s j)
  let top := n.foldl max 0
  (((s.put (Reg.CUBIT_ST j) st).put (Reg.ROWS_MAX j) top).put (Reg.ROWS_MAX_BANK j) (n.findIdx (fun x => x == top))).put (Reg.ROWS_TOTAL j)
    (n.foldl (· + ·) 0)

/-- Cubits that are not UNUSABLE. -/
def showUsable (s : State) : State :=
  s.put Reg.ST_USABLE ((List.range 32).filter (fun j => s.get (Reg.CUBIT_ST j) != 2)).length

/-- The REPAIR_MAP record (R477). -/
def writeRepairMap (s : State) : State :=
  tunWrite 0x06 ((List.range 32).flatMap (fun j => leBytes 4 (s.get (Reg.CUBIT_ST j))) ++
    (List.range 8192).flatMap (fun i => let v := kvGet (fun _ => 0) s.start.repair i; leBytes 2 (if v = 0 then 0 else v - 1 + 32768))) s

/-- CUBIT_FAULT (R201, R477): causes 1 to 4 take the cubit out, which a REPAIR_MAP record keeps; a descriptor fault aborts the
instance of `slot` and is counted. DEDUCED (log entry 49). -/
def execCubitFault (cubit cause bank row slot : Nat) (s : State) : Out :=
  if !s.ready || !cubitPowered s cubit then done s
  else if 1 ≤ cause && cause ≤ 4 then
    let s1 := cubitOut cubit cause (if cause = 1 then bank % 16 else 0) (if cause = 1 then row % 1024 else 0) s
    done (writeRepairMap (s1.put (Reg.CUBIT_ST cubit) 3))
  else if cause = 5 && (slotsOn s cubit).contains slot && (s.job slot).inst.isSome then
    done (jobFault slot cubit s)
  else done s

/-- The repair map and the cubit states of the latest valid REPAIR_MAP record, the summary of the latest SELFTEST record (R493). -/
def restoreRepair (s : State) : State :=
  let s1 := match tunLatest s 0x06 with
    | none => (List.range 32).foldl (fun t j => showCubit j 0 t) { s with start := { s.start with repair := [] } }
    | some r =>
      let map := (List.range 8192).foldl (fun m i =>
        let v := par r.body (128 + 2 * i) 2
        if bit v 15 then kvSet (fun _ => 0) m i (v % 1024 + 1) else m) []
      (List.range 32).foldl (fun t j => showCubit j (par r.body (4 * j) 1 % 4) t) { s with start := { s.start with repair := map } }
  let s2 := match tunLatest s1 0x05 with
    | none => s1
    | some r =>
      (((s1.put Reg.ST_TESTED (par r.body 8 1)).put Reg.ST_REPAIRED (par r.body 9 1)).put Reg.ST_UNUSABLE (par r.body 10 1)).put
        Reg.ST_SPAN r.span
  showUsable (s2.putFlag Reg.ST_ABORTED s2.start.aborted)

/-- The scheduled set and the spares at a start (R194): a cubit taken out at run time stays out until a self-test passes it (R201). -/
def formScheduled (s : State) : State :=
  let ok := (List.range 32).filter (fun j => s.get (Reg.CUBIT_ST j) < 2)
  let s1 := (List.range 32).foldl (fun t j =>
    let st := t.get (Reg.CUBIT_ST j)
    let u := t.put (Reg.CJOB j) 31
    if 2 ≤ st then (u.put (Reg.CSTATE j) 3).put (Reg.OUT_CAUSE j) (if st = 2 then 1 else 2)
    else (u.put (Reg.CSTATE j) (if (ok.take 28).contains j then 1 else 2)).put (Reg.OUT_CAUSE j) 0) s
  fabCounts (s1.put Reg.USABLE ok.length)

/-! ### Restoring from the history store (R467) -/

/-- The staged bits that a CONFIG record holds for each staged address; the Reset values where no record is valid. -/
def configBits (s : State) : List (Nat × Nat) :=
  match tunLatest s 0x04 with
  | some r => ((List.range stagedAddrs.length).zip stagedAddrs).map (fun x => (x.2, par r.body (4 * x.1) 4))
  | none => stagedAddrs.map (fun a => (a, (resetWord a).toNat &&& stagedMask a))

/-- A word with its staged bits replaced. -/
def withStaged (a w bits : Nat) : Nat := (w &&& (0xFFFFFFFF ^^^ stagedMask a)) ||| (bits &&& stagedMask a)

/-- Restore the committed configuration: the base die's part at once; what a tier's store does not hold waits for its delivery
(R36, R388). -/
def restoreConfig (s : State) : State :=
  let s0 := s.each (List.range 6) (fun k t => t.setTl k { t.tl k with held := [] })
  let s1 := (configBits s).foldl (fun t x =>
    let p := partOf x.1
    let w := withStaged x.1 (t.word x.1) x.2
    if p = 0 then t.putW x.1 w
    else if w = t.word x.1 then t
    else t.setTl (p - 1) { t.tl (p - 1) with held := kvSet (fun _ => none) (t.tl (p - 1)).held x.1 (some (BitVec.ofNat 32 w)) }) s0
  match tunLatest s 0x04 with
  | some r => (List.range 7).foldl (fun t p => t.put (Reg.PART_EXPECT p) (par r.body (4 * stagedAddrs.length + 2 * p) 2)) s1
  | none => s1

/-- Put an image into a job slot (R190): LOADED. -/
def loadImage (slot : Nat) (img : List Byte) (persist : Bool) (s : State) : State :=
  let s1 := s.setJob slot { Job.reset with image := img }
  (s1.putW (Wd.JOB_STATUS slot) (1 + 16 * b01 persist)).putW (Wd.JOB_INFO slot) (par img 6 2)

/-- The built-in image of a slot (R189, R190): magic, version and job ID, and what the firmware brings. DESIGN CHOICE (log entry 47). -/
def builtinImage (slot : Nat) : List Byte :=
  let raw := Config.builtinImage slot
  let v (i n : Nat) : Nat := leNat ((raw.drop i).take n ++ [0])
  let code := 8 * (v 0 2 % 4096 + 1)
  let data := v 2 3 % 65537
  let body := leBytes 4 0x424A5853 ++ leBytes 2 1 ++ leBytes 2 (slot + 1) ++ leBytes 4 code ++ leBytes 4 data
    ++ leBytes 4 (max data (v 5 3 % 589825)) ++ leBytes 2 (v 8 1 + 1) ++ [0, byte (v 9 1 % 8)] ++ leBytes 4 (v 10 1 % 8)
    ++ leBytes 2 (16 * (v 11 1 + 1)) ++ leBytes 2 (v 12 1 % 4) ++ leBytes 4 (v 13 4) ++ List.replicate 28 0
    ++ (List.range (code + data)).map (fun i => (raw.getD (17 + i) 0))
  body ++ leBytes 4 (crc32c body)

/-- The built-in jobs and the persisted host images (R190). -/
def restoreJobs (s : State) : State :=
  let s1 := (List.range 5).foldl (fun t j => loadImage j (builtinImage j) false t) s
  s1.start.tun.foldl (fun t r =>
    let slot := par r.body 0 1
    if r.kind = 0x09 && 8 ≤ slot && slot < 16 then loadImage slot (r.body.drop 4) true t else t) s1

/-- The model packs in use (R234). -/
def restorePacks (s : State) : State :=
  s.start.tun.foldl (fun t r =>
    if r.kind = 0x10 then { t with fab := { t.fab with packs := kvSet (fun _ => ([] : List Byte)) t.fab.packs (recGroup r) r.body } } else t) s

/-- The checkpoints, from which the ensembles are seeded (R202, R240). -/
def restoreCkpt (s : State) : State :=
  let s1 := match tunLatest s 0x03 with
    | some r => { s with fab := { s.fab with ckpt := r.ckpt } }
    | none => s
  (cellsList s1).foldl (fun t c => reseed c t) s1

/-- The life-cycle state: the latest record prevails over the mirror (R486). -/
def restoreLc (s : State) : State :=
  match tunLatest s 0x08 with
  | some r => s.put Reg.LC_STATE (par r.body 9 1)
  | none => if s.start.lost then s else s.put Reg.LC_STATE s.ret.lcMirror

/-! ### The start sequence (R463) -/

/-- The retention store is lost (R364): counters not valid, DSEQ and `BOOT_COUNT` from the start. -/
def loseRetention (s : State) : State :=
  let s1 := (List.range 4).foldl (fun t i => (t.put (Reg.LAST_HSEQ i) 0).put (Reg.LAST_BHSEQ i) 0) s
  let s2 := (s1.put Reg.LAST_DSEQ 0xFFFF).put Reg.BOOT_COUNT 0
  let s3 := (s2.putW Wd.HO_STATUS 0).putW Wd.HO_LAST 0
  { s3 with host := { s3.host with seqs := [] }, start := { s3.start with lost := true },
            ret := { Retention.reset with ok := true, bank := s3.ret.bank, lcMirror := s3.get Reg.LC_STATE } }

/-- The index of the history store: records whose CRC-32 fails are skipped (R467, R479). -/
def scanTun (bad : List Nat) (s : State) : State :=
  let rs := s.start.tun
  let kinds := (List.range 32).filter (fun k => match tunLatest s k with
    | some r => bad.contains r.number
    | none => false)
  let s1 := { s with start := { s.start with tun := rs.filter (fun r => !bad.contains r.number), recBad := kinds } }
  let s2 := (List.range 32).foldl (fun t k => t.put (Reg.REC_LAST k) ((tunLatest t k).elim 0 (·.number))) s1
  tunShow (s2.put Reg.BAD_RECORDS (min 65535 (rs.filter (fun r => bad.contains r.number)).length))

/-- START_SEQUENCE (R463): steps 1 to 7. `addr` is the value of the straps TWA (R445), `badBanks` the firmware banks whose check fails,
`badRecs` the numbers of the records whose CRC-32 fails. DEDUCED (log entry 59). DESIGN CHOICE (log entry 87). -/
def execStartSequence (addr badBanks : Nat) (badRecs : List Nat) (s : State) : Out :=
  if s.pwr.phase != .starting || s.start.booted then done s
  else
    let s1 := s.put Reg.TW_ADDR (0x28 + addr % 8)
    let c := candidateBank s1
    let s2 := if s1.ret.ok then { s1 with start := { s1.start with lost := false } }
      else loseRetention { s1 with ret := { s1.ret with bank := c } }
    let s3 := scanTun badRecs (selectBank badBanks s2)
    let s4 := formScheduled (restoreRepair s3)
    let s5 := restoreCkpt (restorePacks (restoreJobs (restoreConfig s4)))
    let s6 := (restoreLc s5).put Reg.RESET_CAUSE s5.ret.cause
    done { s6 with start := { s6.start with booted := true, calWait := true } }

/-- TIER_CAL_WAIT_TIMEOUT (R463 step 5). -/
def execTierCalWaitTimeout (s : State) : Out :=
  if s.pwr.phase = .starting && s.start.booted then done { s with start := { s.start with calWait := false } } else done s

/-! ### READY (R464) -/

/-- The state, period, phase and M that the base die takes from tier `k` at a start (R50 steps 1 and 4); a tier in FREE runs at `FREE_RATE`.
DEDUCED (log entry 52). -/
def clockFromTier (k : Nat) (s : State) : State :=
  let s0 := s.when ((s.tl k).tstate = 0) (tierInternal s.clk.grain k)
  let l := s0.tl k
  let s1 := ({ s0 with tb := { s0.tb with period := l.period, nextPeriod := l.period } }).put Reg.M_LOG2 (s0.pr k).mLog
  if l.tstate = 0 then s1.put Reg.STATE 0
  else (s1.put Reg.STATE 3).put Reg.HOLDOVER_COUNT (if l.tstate = 3 then l.tcount else 0)

/-- The span number and the time-base state at a start (R49, R50). The count that a cold start calls for beyond the highest tier count is
taken by a jump at the next mark (R48). With no tier up the number goes on beyond the latest record, and is written, so that it never
repeats. DEDUCED (log entry 52). -/
def startClock (s : State) : State :=
  let up := (List.range 6).filter s.linkUp
  let top := up.foldl (fun m k => max m (s.tl k).span) 0
  let mark := ((tunLatest s 0x01).map (fun r => par r.body 0 6)).getD 0 + 2 ^ 20
  let cold := up.any (fun k => (s.tl k).cold)
  let jump := if cold && top < mark then some (mark + 1, top + 1) else none
  match up.head? with
  | none => writeSpanMark (enterFree false { s with clk := ⟨mark, 0⟩ })
  | some k => clockFromTier k { s with clk := { s.clk with span := top }, tb := { s.tb with jumpTo := jump } }

/-- The mode after READY (R420). DEDUCED (log entry 61). -/
def startMode (s : State) : Nat :=
  if s.flag Reg.RESCUE then 4
  else if s.ret.mode = 5 then 5
  else if s.ret.swapped then 4
  else 1

/-- Set the mode (R420): the mode change event carries cause RESTART. Under the rescue firmware a HOLD stays recorded. -/
def setStartMode (s : State) : State :=
  let m := startMode s
  let old := s.ret.mode
  let s1 := changeMode raise m 2 0 0 (s.put Reg.MODE_NOW old)
  if s.flag Reg.RESCUE && old = 5 then { s1 with ret := { s1.ret with mode := 5 } } else s1

/-- The RESTART report (R372). -/
def restartReport (s : State) : State :=
  let pre := s.get Reg.LAST_DSEQ
  issueReport 0x07 (reportDests s)
    (leBytes 8 (stampWord s.now) ++ leBytes 2 (s.get Reg.BOOT_COUNT) ++
      [byte s.ret.cause, byte (b01 s.start.lost + 2 * b01 s.start.changed)] ++ leBytes 4 (fwVersion s) ++ leBytes 2 pre) s

/-- The events that the retention store holds (R415, R439). -/
def retentionEvents (absence : Nat) (s : State) : State :=
  let s1 := match s.ret.pend492 with
    | some v =>
      let t := s.put Reg.HO_ABSENCE (min absence (2 ^ 32 - 1))
      raise 492 (v + 128 * b01 (0 < t.pwr.rising) + 256 * min absence (2 ^ 24 - 1)) t
    | none => s
  let s2 := s1.when s1.ret.pend509 (raise 509 1)
  let s3 := match s2.ret.pend510 with
    | some a => raise 510 (2 + 256 * (a % 2 ^ 24)) s2
    | none => s2
  { s3 with ret := { s3.ret with pend492 := none, pend509 := false, pend510 := none } }

/-- The value of the self-test event for an entry of a SELFTEST record (R492). -/
def entryValue (e : Nat) : Nat :=
  1 + bitsOf e 5 2 + 16 * (e % 32) + 2 ^ 9 * bitsOf e 8 4 + 2 ^ 13 * bitsOf e 12 10 + 2 ^ 23 * bitsOf e 22 9

/-- The self-test events of READY (R492). -/
def selftestEvents (s : State) : State :=
  let s1 := match tunLatest s 0x05 with
    | some r =>
      if s.start.reported < r.number then
        let n := par r.body 11 1
        let t := if n = 0 then raise 490 1 s
          else (List.range n).foldl (fun t i => raise 490 (entryValue (par r.body (16 + 8 * i) 4)) t) s
        { t with start := { t.start with reported := r.number } }
      else s
    | none => s
  if s1.start.aborted then raise 490 4 { s1 with start := { s1.start with aborted := false } } else s1

/-- The counters of the tier sources, from the tier event latches (R401). -/
def loadCounters (s : State) : State :=
  let s1 := (s.evt.latch.filter (fun e => e.1 < 480)).foldl (fun t e =>
    (t.put (Reg.COUNT e.1) e.2.count).putFlag (Reg.CNT_SAT e.1) (e.2.count == 65535)) s
  { s1 with evt := { s1.evt with loadSpan := some s1.clk.span } }

/-- The span number that a start comes to (R49): where a jump is due at the next mark, the one before its target. -/
def startSpan (s : State) : Nat :=
  match s.tb.jumpTo with
  | some (n, _) => max s.clk.span (n - 1)
  | none => s.clk.span

/-- The accumulators that tier 0 has lost (R167). -/
def restoreAccum (s : State) : State :=
  match tunLatest s 0x02 with
  | some r => if s.linkUp 0 then
      accRestore (par r.body 8 8) (par r.body 16 8) (signed 64 (par r.body 24 8)) (startSpan s - par r.body 0 8) s else s
  | none => s

/-- READY (R463 step 8, R464), `absence` ms after the loss of a rail where a hand-over ran. DEDUCED (log entry 61). DESIGN CHOICE (log entry 87). -/
def execReady (absence : Nat) (s : State) : Out :=
  let waits := s.start.calWait && (List.range 6).any (fun k => s.linkUp k && (s.tl k).calibrating)
  if s.pwr.phase != .starting || !s.start.booted || waits then done s
  else
    let s0 := startClock { s with pwr := { s.pwr with phase := .ready } }
    let s1 := { s0 with tb := { s0.tb with markNow := s0.stampAt 0, markPrev := s0.stampAt 0 } }
    let s2 := ((s1.put Reg.BOOT_COUNT (s1.get Reg.BOOT_COUNT + 1)).put Reg.HEAD_NOW (s1.get Reg.HEAD_EN))
    let s3 := restartReport s2
    let s4 := setStartMode s3
    let s5 := selftestEvents (retentionEvents absence s4)
    let s6 := s5.start.bankEvt.foldl (fun t e => bankEvent e.1 e.2.1 e.2.2 t) s5
    let s7 := if s6.ret.trial && s6.start.changed then bankEvent 2 0 (fwVersion s6) s6 else s6
    let s8 := s7.start.recBad.foldl (fun t k => tunEvent 7 k t) s7
    let s9 := restoreAccum (loadCounters s8)
    let start := { s9.start with bankEvt := [], recBad := [], lost := false, changed := false, readySpan := s9.clk.span }
    let s10 := { (s9.put Reg.TRIAL 0) with start := start, ret := { s9.ret with trial := false, swapped := false } }
    let s11 := twDue (.regulator 0x20 0) { s10 with tw := { s10.tw with idDue := true }, pwr := { s10.pwr with rising := 0, replug := false } }
    let s12 := { s11 with win := { s11.win with filling := freshBank s11 Bank.zeroed } }
    done (enumStart (releaseWake (s12.each [0, 1] (fun p t => portEnable p t))))

/-! ### Restarts (R415, R462, R468) -/

/-- WATCHDOG_RESET (R462): the firmware has not served its watchdog for 100 ms. DEDUCED (log entry 86). -/
def execWatchdogReset (s : State) : Out := if runsBase s then done (restart 7 s) else done s

/-- LOCKSTEP_MISMATCH (R415). -/
def execLockstepMismatch (s : State) : Out :=
  if runsBase s then let t := restart 8 s; done { t with ret := { t.ret with pend509 := true } } else done s

/-- MEMORY_ERROR (R415): in the tightly coupled memory a restart; in any other memory source 510 at once. -/
def execMemoryError (memory addr : Nat) (s : State) : Out :=
  if memory = 2 then
    if runsBase s then let t := restart 9 s; done { t with ret := { t.ret with pend510 := some (addr % 2 ^ 24) } } else done s
  else if s.ready && 1 ≤ memory && memory ≤ 5 then done (raise 510 (memory + 256 * (addr % 2 ^ 24)) s)
  else done s

/-- TRIAL_TIMEOUT (R468): a bank on trial has not reached READY within 1 s; the base die restarts on the previous bank. -/
def execTrialTimeout (s : State) : Out :=
  if s.pwr.phase = .starting && s.ret.trial then
    let b := s.ret.bank
    let t := loseBank b (restart 0x0B s)
    done { (t.put Reg.TRIAL 0) with ret := { t.ret with bank := 1 - b, trial := false },
                                    start := { t.start with bankEvt := [(3, 1, s.get (Reg.FW_VER b))] } }
  else done s

/-- RESET_PIN (R424, R438, R462, R474): RESET# was low for at least 10 µs and is released. DEDUCED (log entry 86). -/
def execResetPin (s : State) : Out :=
  match s.pwr.phase with
  | .shutWait => if s.pwr.railsOk then done (beginStart 5 (pathStop s)) else done s
  | .store => if s.pwr.railsOk then done (beginStart 4 s) else done s
  | .handover => done s
  | .absent => done s
  | .debounce => done s
  | _ => done (beginStart 2 (pathStop s))

end Sys2Proof.Machine
end

