-- ==== Sys2Proof/Machine/Power.lean ====
section
/-!
DEFINITION. Leases (R425 to R429), the execution of MODE (R421 to R424), STORE (R423, R424, R432, R433), SHUTDOWN with its self-test
(R473 to R477), and the loss and return of the rails (R438, R439).
-/

namespace Sys2Proof.Machine

/-! ### Leases -/

/-- LEASE (R380, R426). A revocation makes the span of acceptance the end span of the lease. DEDUCED (log entry 71). -/
def leaseCmd (src cls d : Nat) (s : State) : Ans :=
  if 2 < cls then refuse St.badParam s
  else if s.modeNow = 5 then refuse St.badState s
  else if d = 0 then
    let s0 := s.when (leaseHeld s cls) (fun t => (t.put (Reg.E_LO cls) t.clk.span).put (Reg.E_HI cls) (t.clk.span / 2 ^ 32))
    answer (leBytes 6 s.clk.span ++ [byte cls]) (endLease raise cls 3 s0)
  else if leaseLive s cls && s.get (Reg.HOLDER cls) != src then refuse St.busy s
  else
    let e := s.clk.span + 1 + d
    let s0 := s.when (leaseHeld s cls && !leaseLive s cls) (endLease raise cls 2)
    let s1 := (((s0.put (Reg.LIVE cls) 1).put (Reg.HOLDER cls) src).put (Reg.E_LO cls) e).put (Reg.E_HI cls) (e / 2 ^ 32)
    answer (leBytes 6 e ++ [byte cls]) s1

/-- LEASE_EXPIRY (R427, R428): at grain 0 of E. -/
def execLeaseExpiry (cls : Nat) (s : State) : Out :=
  if s.ready && cls < 3 && leaseE s cls ≤ s.clk.span then done (endLease raise cls 2 s) else done s

/-- LEASE_WARN (R429). -/
def execLeaseWarn (cls : Nat) (s : State) : Out :=
  let w := s.get Reg.LEASE_WARN
  if s.ready && cls < 3 && w != 0 && leaseLive s cls && s.clk.grain = 0 && s.clk.span + w = leaseE s cls then
    done (raise 486 (leaseValue s cls 1) s)
  else done s

/-! ### MODE (R421, R422) -/

/-- MODE refuses the target from the present mode, by the table of R421. -/
def modeForbidden (now new : Nat) : Bool :=
  match now with
  | 1 => false
  | 4 => new == 2 || new == 3
  | 2 => new == 0 || new == 4
  | 3 => new == 0 || new == 4
  | 5 => new == 2 || new == 3
  | _ => true

/-- MODE is refused with BAD_STATE (R421); `others` are the other schedule entries in use. -/
def modeRefused (new others : Nat) (s : State) : Bool :=
  (new != s.modeNow && modeForbidden s.modeNow new)
    || (new == 0 && (0 < others || s.host.xfer.isSome || s.host.owner.isSome))

/-- MODE STORE executes (R423): every lease ends, and the writes begin. DEDUCED (log entry 62). -/
def enterStore (src hseq : Nat) (s : State) : State :=
  let s1 := s.each [0, 1, 2] (fun c t => endLease raise c 5 t)
  let s2 := changeMode raise 0 0 src hseq s1
  { s2 with pwr := { s2.pwr with phase := .storeEntry } }

/-- MODE executes (R422): a MODE that names the present mode changes nothing. -/
def runMode (new : Nat) (m : Meta) (s : State) : State :=
  if new = s.modeNow then s
  else if new = 0 then enterStore m.src m.hseq s
  else changeMode raise new 0 m.src m.hseq s

/-! ### STORE (R423, R424, R432, R433) -/

/-- Tier `k` takes its STORE entry (R51, R54, R111, R113, R312, R423): it holds no timing from here on, its notch and its ballast are off, and its
strings are unpowered.
The sequencer begins anew with the first record (R136). DEDUCED (log entry 62). -/
def enterStoreTier (k : Nat) (s : State) : State :=
  let u := s.setTl k { s.tl k with store := true, span := s.clk.span, tstate := 0, tcount := 0, marks := 0, jumped := false,
                                   period := internalPeriod s }
  let v := seqRestart k (updateNotch k ((u.put (Reg.BALLAST_UA k) 0).put (Reg.BALLAST_SAT k) 0))
  stringOff k 1 (stringOff k 0 (v.setSq k { v.sq k with storeT := v.tierAt k }))

/-- STORE_WRITES_DONE (R423): the accumulators, the checkpoints and the span number have been written (HEALTH too, where `days` of AON
time call for it); the retention store records STORE, and with grain 0 of the next span the tiers take their STORE entry and the base die
powers down. DEDUCED (log entry 62). -/
def execStoreWritesDone (days : Nat) (s : State) : Out :=
  if s.pwr.phase = .storeEntry then
    let s1 := writeSpanMark (writeCheckpoint days (writeAccum s))
    let links := (List.range 6).filter s1.linkUp
    let s2 := pathStop (baseReset { s1 with clk := ⟨s1.clk.span + 1, 0⟩ })
    let s3 := links.foldl (fun t k => enterStoreTier k t) (s2.putW Wd.STORE_LAST 0)
    let s4 := { s3 with ret := { s3.ret with mode := 0 },
                        pwr := { s3.pwr with phase := .store, storeIt := 90, replug := false, bleedOn := [], bleedMs := [] } }
    done (aonCheck s4)
  else done s

/-- I_t of the interval that begins, 0.1 µA (R433); `q` are the natural charges of the interval just ended, nC. -/
def storeTarget (q : List Nat) (s : State) : Nat :=
  let t := s.get Reg.STORE_INT
  if s.get Reg.STORE_IQ != 0 then s.get Reg.STORE_IQ
  else if s.get Reg.STORE_RECORDS = 0 then 90
  else max (ceilDiv (q.foldl max 0 + 200 * t) (100 * t)) (s.pwr.storeIt - 1)

/-- What an interval shows of a tier when it has ended (R432): natural draw, saturation and bleed time. -/
def showDraw (q : List Nat) (k : Nat) (s : State) : State :=
  let t := s.get Reg.STORE_INT
  let c := q.getD k 0
  let sat := decide (s.pwr.storeIt * 100 * t < c)
  let on := kvGet (fun _ => 0) s.pwr.bleedMs k
  let s1 := ((s.put (Reg.NAT_DRAW k) (min 4095 (Config.roundQ c (10 * t)).toNat)).putFlag (Reg.STORE_SAT k) sat).put (Reg.BLEED_PCT k)
    (min 255 (Config.roundQ on (10 * t)).toNat)
  if sat then s1.put Reg.STORE_SAT_MASK (setBit (s1.get Reg.STORE_SAT_MASK) k true) else s1

/-- STORE_INTERVAL (R424, R433): the interval has passed; the wake channels give the natural charges of the tiers, and every tier is
signalled to take its record. DEDUCED (log entry 43). -/
def execStoreInterval (charges : List Nat) (s : State) : Out :=
  if s.pwr.phase = .store && s.aonPowered && 0 < s.get Reg.STORE_INT then
    let it := storeTarget charges s
    let s1 := if s.get Reg.STORE_RECORDS = 0 then s else (List.range 6).foldl (fun t k => showDraw charges k t) s
    let s2 := (s1.put Reg.STORE_IQ_USED (min 255 it)).bump Reg.STORE_RECORDS
    done { s2 with pwr := { s2.pwr with storeIt := it, bleedOn := [], bleedMs := [] } }
  else done s

/-- STORE_BLEED_DECISION (R432): `ms` after the trigger; `charges` is what each tier has drawn since it, nC. -/
def execStoreBleedDecision (ms : Nat) (charges : List Nat) (s : State) : Out :=
  if s.pwr.phase = .store && s.aonPowered then
    done (s.each ((List.range 6).filter (fun k => (s.tl k).supplied)) (fun k t =>
      let on := decide (10 * charges.getD k 0 < t.pwr.storeIt * ms)
      let had := kvGet (fun _ => 0) t.pwr.bleedMs k
      { t with pwr := { t.pwr with bleedOn := kvSet (fun _ => false) t.pwr.bleedOn k on,
                                   bleedMs := kvSet (fun _ => 0) t.pwr.bleedMs k (if on then had + 1 else had) } }))
  else done s

/-- STORE_EXIT (R424): 0 the rails have returned after being absent; 1 RESET#; 2 a wake, under `STORE_WAKE_EXIT`. -/
def execStoreExit (why : Nat) (s : State) : Out :=
  let may := match why with
    | 0 => s.pwr.replug
    | 1 => true
    | 2 => s.flag Reg.STORE_WAKE_EXIT && s.evt.wake
    | _ => false
  if s.pwr.phase = .store && s.pwr.railsOk && may then done (beginStart 4 s) else done s

/-! ### SHUTDOWN (R473 to R477) -/

/-- The base die enters the shutdown wait (R474): held in reset but for the forwarding path. -/
def enterWait (s : State) : State :=
  let s1 := baseReset { s with pwr := { s.pwr with phase := .shutWait } }
  { s1 with pwr := { s1.pwr with phase := .shutWait, replug := false, vcLow := false, vioLow := false } }

/-- SHUTDOWN_EXEC (R473): at grain 0 of the span after its acceptance: stop, save, and the self-test or the wait. -/
def execShutdownExec (days : Nat) (s : State) : Out :=
  match s.start.shutdown with
  | none => done s
  | some (sp, st) =>
    if s.ready && sp < s.clk.span then
      let s1 := s.each [0, 1, 2] (fun c t => endLease raise c 6 t)
      let s2 := { s1 with host := { s1.host with sched := [] } }
      let s3 := writeCheckpoint days (writeSpanMark (writeAccum s2))
      if st then done (vcWant 900 { s3 with pwr := { s3.pwr with phase := .shutting } })
      else done (enterWait s3)
    else done s

/-- Give the failing rows of a cubit unused spare rows of their banks; none where a bank has too few (R476). -/
def placeRows (j : Nat) : List (Nat × Nat × Nat) → State → Option State
  | [], s => some s
  | (b, row, _) :: rest, s =>
    match (List.range 16).find? (fun r => spareRow s j (b % 16) r == 0) with
    | none => none
    | some r => placeRows j rest
        { s with start := { s.start with repair := kvSet (fun _ => 0) s.start.repair ((16 * j + b % 16) * 16 + r) (row % 1024 + 1) } }

/-- An entry of a SELFTEST record (R477): its first word, and the address of the line. -/
def rowEntry (j outcome : Nat) (r : Nat × Nat × Nat) : List Byte :=
  let (b, row, bit_) := (r.1 % 16, r.2.1 % 1024, r.2.2 % 512)
  let line := 16 * row + (b ^^^ bitsOf row 0 4 ^^^ bitsOf row 4 4 ^^^ bitsOf row 8 2)
  leBytes 4 (j + 32 * outcome + 2 ^ 8 * b + 2 ^ 12 * row + 2 ^ 22 * bit_) ++ leBytes 4 (64 * line)

/-- A cubit that has failed its logic test (R475, R476): the state, its outcome (1 REPAIRED, 2 UNUSABLE), its entries, and whether it
was repaired and tested again. -/
def judgeCubit (f : CubitTest) (s : State) : State × Nat × List (List Byte) × Bool :=
  let j := f.cubit % 32
  if f.rows.isEmpty then (showCubit j 2 s, 2, [leBytes 4 (j + 64 + 128) ++ leBytes 4 0], false)
  else
    match placeRows j f.rows s with
    | none => (showCubit j 2 s, 2, f.rows.map (rowEntry j 2), false)
    | some s1 =>
      let o := if f.retest then 1 else 2
      (showCubit j o s1, o, f.rows.map (rowEntry j o), true)

/-- The outcomes of a test over the cubits `tested` (R475 to R477): states, then the SELFTEST and REPAIR_MAP records. DEDUCED (log entry 49). DEDUCED (log entry 63). -/
def judgeCubits (t : Stamp) (tested : List Nat) (fails : List CubitTest) (s : State) : State :=
  let fs := fails.filter (fun f => tested.contains (f.cubit % 32))
  let good := tested.filter (fun j => !fs.any (fun f => f.cubit % 32 == j))
  let s1 := good.foldl (fun t j => showCubit j 0 t) s
  let (s2, rep, bad, again, es) := fs.foldl (fun (a : State × Nat × Nat × Nat × List (List Byte)) f =>
    let (u, o, e, r) := judgeCubit f a.1
    (u, a.2.1 + b01 (o == 1), a.2.2.1 + b01 (o == 2), a.2.2.2.1 + b01 r, a.2.2.2.2 ++ e)) (s1, 0, 0, 0, [])
  let ms := 12 * ceilDiv tested.length 4 + 1 + 12 * again
  let kept := es.take 255
  let body := leBytes 8 (stampWord t) ++ [byte tested.length, byte rep, byte bad, byte kept.length] ++ leBytes 2 ms ++ [0, 0] ++ kept.flatMap id
  let s3 := ((((s2.put Reg.ST_TESTED tested.length).put Reg.ST_REPAIRED rep).put Reg.ST_UNUSABLE bad).put Reg.ST_SPAN s2.clk.span)
  writeRepairMap (tunWrite 0x05 body ((showUsable s3).put Reg.ST_ABORTED 0))

/-- SELFTEST_DONE (R475 to R477): `tSpan` and `tGrain` are the start of the self-test, `fails` the cubits that failed its logic test. -/
def execSelftestDone (tSpan tGrain : Nat) (fails : List CubitTest) (s : State) : Out :=
  if s.pwr.phase = .shutting then
    let tested := (List.range 32).filter (fun j => s.get (Reg.CUBIT_ST j) != 2)
    let s1 := judgeCubits (stampOf s tSpan tGrain) tested fails s
    done (enterWait { s1 with start := { s1.start with shutdown := none } })
  else done s

/-- SHUTDOWN_WAIT_END (R474): 0 both rails have been absent and then good for 10 ms; 1 RESET#; 2 `SD_HOLD` seconds with both rails good. -/
def execShutdownWaitEnd (why : Nat) (s : State) : Out :=
  if s.pwr.phase = .shutWait && s.pwr.railsOk then
    match why with
    | 0 => if s.pwr.replug then done (beginStart 5 s) else done s
    | 1 => done (beginStart 5 (pathStop s))
    | 2 => if s.get Reg.SD_HOLD != 0 then done (beginStart 5 s) else done s
    | _ => done s
  else done s

/-! ### Rails (R438, R439) -/

/-- RAIL_LOSS (R438, R439): VCORE or VIO has left its range; outside STORE and the shutdown wait the base die is held in reset and the
hand-over begins. A loss during the entry to STORE leads to WATCH (R423). With tier 0 unsupplied too, the always-on domain stops (R437). DEDUCED (log entry 62). -/
def execRailLoss (vcoreLow vioLow : Bool) (s : State) : Out :=
  if !vcoreLow && !vioLow then done s
  else
    let s0 := { s with pwr := { s.pwr with railsOk := false } }
    match s.pwr.phase with
    | .store => done (aonCheck s0)
    | .shutWait =>
      done (aonCheck (pathStop { s0 with pwr := { s0.pwr with vcLow := s.pwr.vcLow || vcoreLow, vioLow := s.pwr.vioLow || vioLow } }))
    | .handover => done (aonCheck s0)
    | .absent => done (aonCheck s0)
    | .debounce => done (aonCheck { s0 with pwr := { s0.pwr with phase := .absent, rising := s0.pwr.rising + 1 } })
    | _ =>
      let s1 := pathStop (baseReset (if s.pwr.phase = .storeEntry then { s0 with ret := { s0.ret with mode := 1 } } else s0))
      done (aonCheck { s1 with pwr := { s1.pwr with phase := .handover, rising := 0, replug := false, vcLow := vcoreLow, vioLow := vioLow } })

/-- HANDOVER_COMPLETE (R438, R439): 1 ms after detection the retention store takes the cause and the counts. -/
def execHandoverComplete (s : State) : Out :=
  if s.pwr.phase = .handover then
    let v := 1 + 16 * b01 s.pwr.vcLow + 32 * b01 s.pwr.vioLow + 64 * b01 s.pwr.replug
    let s1 := if s.ret.ok then
        let t := s.bump Reg.HO_COUNT
        { t with ret := { t.ret with cause := 3, pend492 := some v, swapped := false } }
      else s
    done { s1 with pwr := { s1.pwr with phase := if s1.pwr.railsOk then .debounce else .absent } }
  else done s

/-- RAILS_GOOD (R424, R439, R474): both rails are in their good ranges again. In the shutdown wait it counts once both have been absent. DEDUCED (log entry 62). -/
def execRailsGood (s : State) : Out :=
  if s.pwr.railsOk then done s
  else
    let s0 := { s with pwr := { s.pwr with railsOk := true } }
    match s.pwr.phase with
    | .handover => done { s0 with pwr := { s0.pwr with replug := true } }
    | .store => done { s0 with pwr := { s0.pwr with replug := true } }
    | .shutWait => done { s0 with pwr := { s0.pwr with replug := s.pwr.replug || (s.pwr.vcLow && s.pwr.vioLow) } }
    | .absent =>
      let s1 := if 0 < s0.pwr.rising then s0.bump Reg.BOUNCE_COUNT else s0
      done { s1 with pwr := { s1.pwr with phase := .debounce } }
    | _ => done s0

/-- RAIL_DEBOUNCE_END (R439): the rails have been good for 10 ms, and the start sequence begins. -/
def execRailDebounceEnd (s : State) : Out :=
  if s.pwr.phase = .debounce && s.pwr.railsOk then done (beginStart 3 s) else done s

end Sys2Proof.Machine
end

