-- ==== Sys2Proof/Machine/Transfer.lean ====
section
/-!
DEFINITION. Transfers (R381) with the checks of their targets: job images (R189, R190), records of the history store (R233, R234, R484),
firmware images (R470, R471); NV_READ and JOB_RESULT (R382, R484); the life-cycle (R486 to R488) and TEST (R489).
-/

namespace Sys2Proof.Machine

/-- Bytes `i` to `j` − 1 are 0. -/
def zeros (bs : List Byte) (i j : Nat) : Bool := ((bs.drop i).take (j - i)).all (fun b => b == 0)

/-- The last 4 bytes hold a check value of everything before them. -/
def endCheck (f : List Byte → Nat) (bs : List Byte) : Bool :=
  4 ≤ bs.length && par bs (bs.length - 4) 4 == f (bs.take (bs.length - 4))

/-- The life-cycle state admits TEST (R486). -/
def admitsTest (s : State) : Bool := s.get Reg.LC_STATE == 0 || s.get Reg.LC_STATE == 3

/-- The life-cycle state admits persisted jobs and model packs (R486). -/
def admitsStore (s : State) : Bool := s.get Reg.LC_STATE == 1 || s.get Reg.LC_STATE == 3

/-! ### Job images (R189, R190) -/

/-- The fixed parts of an image: CRC-32C, magic, version, reserved fields (CHECK_FAIL). -/
def imageSound (b : List Byte) : Bool :=
  68 ≤ b.length && endCheck crc32c b && par b 0 4 == 0x424A5853 && par b 4 2 == 1 && par b 23 1 < 8 && par b 24 4 < 8
    && par b 30 2 < 4 && zeros b 36 64

/-- Every field of an image within its range (BAD_PARAM). -/
def imageFits (b : List Byte) : Bool :=
  let code := par b 8 4
  let data := par b 12 4
  let out := par b 28 2
  0x100 ≤ par b 6 2 && code % 8 == 0 && 8 ≤ code && code ≤ 32768 && data ≤ 65536 && data ≤ par b 16 4 && par b 16 4 ≤ 589824
    && 1 ≤ par b 20 2 && par b 20 2 ≤ 256 && 1 ≤ par b 22 1 && par b 22 1 ≤ 8 && out % 16 == 0 && 16 ≤ out && out ≤ 4096
    && b.length == 68 + code + data

/-- The refusal of an image for a slot, in the order of R190. -/
def imageRefusal (slot : Nat) (b : List Byte) (s : State) : Option Nat :=
  let others := ((List.range 8).filter (fun i => 8 + i != slot)).map (fun i => (s.job (8 + i)).image.length)
  if !imageSound b then some St.checkFail
  else if !imageFits b then some St.badParam
  else if 262144 < others.foldl (· + ·) b.length then some St.busy
  else if s.get (Reg.JSTATE slot) = 2 then some St.badState
  else if bit (par b 30 2) 0 && !admitsStore s then some St.lifecycle
  else none

/-- The JOB_IMAGE records of a slot are given up when it is loaded again (R482). -/
def dropImages (slot upto : Nat) (s : State) : State :=
  tunShow { s with start := { s.start with tun := s.start.tun.filter (fun r => !(r.kind == 0x09 && recGroup r == slot && r.number < upto)) } }

/-- An accepted image goes into its slot, and into Tun under PERSIST (R190). -/
def acceptImage (slot : Nat) (b : List Byte) (s : State) : State × Bool :=
  let n := s.get Reg.REC_NEXT
  let persist := bit (par b 30 2) 0
  let body := [byte slot, 0, 0, 0] ++ b
  let (s1, ok) := if persist then tunAppend 0x09 body body.length [] s else (s, true)
  if ok then (loadImage slot b persist (dropImages slot n s1), true) else (s1, false)

/-! ### Model packs (R233, R234) -/

/-- The directory entry of a table. -/
def packTable (b : List Byte) (id : Nat) : Option Nat :=
  ((List.range (par b 6 2)).map (fun i => 64 + 12 * i)).find? (fun o => par b o 1 == id)

/-- Grid points of a directory entry. -/
def tablePoints (b : List Byte) (o : Nat) : Nat := 2 ^ (par b (o + 1) 1 % 16 + par b (o + 1) 1 / 16)

/-- CRC-32, magic, version, reserved bytes, tables within `MP_LEN` (CHECK_FAIL). -/
def packSound (b : List Byte) : Bool :=
  let len := par b 12 4
  64 ≤ b.length && endCheck crc32 b && par b 0 4 == 0x504D5853 && par b 4 2 == 1 && zeros b 37 38 && zeros b 44 64
    && 64 + 12 * par b 6 2 ≤ len
    && (List.range (min 32 (par b 6 2))).all (fun i => par b (64 + 12 * i + 4) 4 + par b (64 + 12 * i + 8) 4 ≤ len)

/-- Values per grid point of a table; tables 1 and 2 have 256 points, tables 8 and 9 one. -/
def tableShape (b : List Byte) (id o : Nat) : Bool :=
  let cols := match id with
    | 1 => 1
    | 2 => 1
    | 3 => 20
    | 4 => 20
    | 5 => 2
    | 6 => 4
    | 7 => 2
    | 8 => 18
    | _ => 4
  let pts := tablePoints b o
  let okPts := if id ≤ 2 then pts == 256 else if 8 ≤ id then pts == 1 else true
  par b (o + 2) 2 == cols && okPts && par b (o + 8) 4 == 4 * pts * cols

/-- Fields in range, every table present and of its length (BAD_PARAM). -/
def packFits (b : List Byte) : Bool :=
  let z := par b 19 1
  let h := par b 34 2
  let q := par b 36 1
  par b 16 1 == 24 && par b 17 1 == 6 && 1 ≤ par b 6 2 && par b 6 2 ≤ 32 && par b 12 4 == b.length && b.length ≤ 131072 && par b 18 1 < 4
    && (z ≤ 100 || z == 255) && 1 ≤ h && h ≤ 600 && 1 ≤ q && q ≤ 128 && 1 ≤ par b 38 2
    && [1, 2, 3, 4, 5, 6, 7, 8, 9].all (fun id => match packTable b id with
      | some o => tableShape b id o
      | none => false)

/-- The refusal of an NV_APPEND body (R234, R484). -/
def appendRefusal (kind : Nat) (b : List Byte) (s : State) : Option Nat :=
  if kind = 0x10 then
    if !packSound b then some St.checkFail
    else if !packFits b then some St.badParam
    else if !admitsStore s then some St.lifecycle
    else none
  else if b.length = 0 || 4096 < b.length then some St.badParam
  else none

/-- An accepted record is appended; a model pack replaces the one in its slot, whose cells are reseeded at the next release (R234). -/
def acceptRecord (kind : Nat) (b : List Byte) (s : State) : State × Bool :=
  let (s1, ok) := tunAppend kind b b.length [] s
  if ok && kind = 0x10 then
    let slot := par b 18 1
    ({ s1 with fab := { s1.fab with packs := kvSet (fun _ => ([] : List Byte)) s1.fab.packs slot b,
                                    newPack := slot :: s1.fab.newPack.filter (fun x => x != slot) } }, true)
  else (s1, ok)

/-! ### Firmware images (R470, R471) -/

/-- The bank that is not active. -/
def inactiveBank (s : State) : Nat := 1 - s.get Reg.ACTIVE_BANK

/-- Magic, format, reserved bytes, CRC-32C (CHECK_FAIL). -/
def fwSound (b : List Byte) : Bool :=
  68 ≤ b.length && par b 0 4 == 0x57465853 && par b 4 2 == 1 && zeros b 17 18 && zeros b 26 64 && endCheck crc32c b

/-- Part, length, silicon revision and version (BAD_PARAM). -/
def fwFits (b : List Byte) (s : State) : Bool :=
  par b 6 2 == 0x6108 && par b 12 4 == b.length && 1024 ≤ b.length && b.length ≤ 2097152 && par b 16 1 ≤ s.get Reg.SI_REV && par b 8 4 != 0

/-- An accepted image makes the inactive bank VALID (R471). -/
def acceptFw (b : List Byte) (s : State) : State :=
  let k := inactiveBank s
  let s1 := (s.put (bankValid k) 1).put (Reg.FW_VER k) (par b 8 4)
  let bank : FwBank := ⟨b, 2097152, par b 16 1⟩
  bankEvent 1 0 (par b 8 4) { s1 with start := { s1.start with banks := kvSet (fun _ => ⟨[], 0, 0⟩) s1.start.banks k bank } }

/-- A FW_SWAP is scheduled. -/
def swapDue (s : State) : Bool :=
  s.host.sched.any (fun e => match e.act with
    | .fwSwap _ => true
    | _ => false)

/-! ### The transfer scheme (R381) -/

def State.setXfer (s : State) (x : Option Transfer) : State := { s with host := { s.host with xfer := x } }

/-- A transfer of another source is open. -/
def xferBusy (src : Nat) (s : State) : Bool := s.host.xfer.any (fun t => t.owner != src)

/-- The target of a BEGIN is one that its opcode admits. -/
def targetOk (x : Xfer) (target : Nat) : Bool :=
  match x with
  | .jobLoad => 8 ≤ target && target ≤ 15
  | .nvAppend => target == 0x10 || target == 0x11
  | .fwStage => target == 0

/-- BEGIN. A FW_STAGE clears the inactive bank, whose erase begins (R471). -/
def txBegin (x : Xfer) (src target length crc : Nat) (s : State) : Ans :=
  if !targetOk x target then refuse St.badParam s
  else if x == .fwStage && swapDue s then refuse St.badState s
  else if xferBusy src s then refuse St.busy s
  else
    let s1 := s.setXfer (some ⟨src, x, target, length, crc, [], s.clk.span⟩)
    if x == .fwStage then
      let k := inactiveBank s1
      let s2 := loseBank k s1
      answer [] { s2 with start := { s2.start with banks := kvSet (fun _ => ⟨[], 0, 0⟩) s2.start.banks k ⟨[], 0, 0⟩ } }
    else answer [] s1

/-- The open transfer of this opcode and source. -/
def openXfer (x : Xfer) (src : Nat) (s : State) : Option Transfer :=
  match s.host.xfer with
  | some t => if t.kind == x && t.owner == src then some t else none
  | none => none

/-- Bytes of the inactive bank that have been erased. -/
def erasedTo (s : State) : Nat := (kvGet (fun _ => (⟨[], 0, 0⟩ : FwBank)) s.start.banks (inactiveBank s)).erased

/-- DATA. Bytes that reach a sector of the firmware bank not yet erased are answered BUSY (R471). DEDUCED (log entry 64). -/
def txData (x : Xfer) (src offset : Nat) (data : List Byte) (s : State) : Ans :=
  if data.isEmpty || 47 < data.length then refuse St.badParam s
  else if xferBusy src s then refuse St.busy s
  else
    match openXfer x src s with
    | none => refuse St.badState s
    | some t =>
      if offset != t.data.length then refuse St.badParam s
      else if x == .fwStage && erasedTo s < offset + data.length then refuse St.busy s
      else answer (leBytes 4 (offset + data.length)) (s.setXfer (some { t with data := t.data ++ data, last := s.clk.span }))

/-- END: the checks of the transfer, then those of its target. A refused END leaves everything as it was. DEDUCED (log entry 64). -/
def txEnd (x : Xfer) (src : Nat) (s : State) : Ans :=
  if xferBusy src s then refuse St.busy s
  else
    match openXfer x src s with
    | none => refuse St.badState s
    | some t =>
      let reply := leBytes 4 t.data.length ++ leBytes 4 (crc32c t.data)
      let s1 := s.setXfer none
      if crc32c t.data != t.crc then refuse St.checkFail s
      else if t.data.length != t.length then refuse St.badParam s
      else
        match x with
        | .jobLoad =>
          match imageRefusal t.target t.data s with
          | some st => refuse st s
          | none =>
            let (s2, ok) := acceptImage t.target t.data s1
            if ok then answer reply s2 else refuse St.busy (s2.setXfer (some t))
        | .nvAppend =>
          match appendRefusal t.target t.data s with
          | some st => refuse st s
          | none =>
            let (s2, ok) := acceptRecord t.target t.data s1
            if ok then answer reply s2 else refuse St.busy (s2.setXfer (some t))
        | .fwStage =>
          if !fwSound t.data then refuse St.checkFail s
          else if !fwFits t.data s then refuse St.badParam s
          else answer reply (acceptFw t.data s1)

/-- ABORT. DEDUCED (log entry 64). -/
def txAbort (x : Xfer) (src : Nat) (s : State) : Ans :=
  if xferBusy src s then refuse St.busy s
  else
    match openXfer x src s with
    | none => refuse St.badState s
    | some _ => answer [] (s.setXfer none)

/-- TRANSFER_TIMEOUT (R381): no DATA for `STAGE_TO` spans. -/
def execTransferTimeout (s : State) : Out :=
  match s.host.xfer with
  | some t => if s.ready && t.last + s.get Reg.STAGE_TO ≤ s.clk.span then done (s.setXfer none) else done s
  | none => done s

/-- FW_BANK_ERASE_DONE (R471): one more sector of the inactive bank has been erased. -/
def execFwBankEraseDone (s : State) : Out :=
  let fw := s.host.xfer.any (fun t => t.kind == .fwStage)
  if s.ready && fw then
    let k := inactiveBank s
    let b := kvGet (fun _ => (⟨[], 0, 0⟩ : FwBank)) s.start.banks k
    done { s with start := { s.start with banks := kvSet (fun _ => ⟨[], 0, 0⟩) s.start.banks k { b with erased := min 2097152 (b.erased + 4096) } } }
  else done s

/-! ### NV_READ and JOB_RESULT (R382, R484) -/

/-- The record that a number of NV_READ names: the top 256 numbers name the latest of a kind. -/
def namedRecord (n : Nat) (s : State) : Option Record :=
  if 0xFFFFFF00 ≤ n then tunLatest s (n - 0xFFFFFF00) else s.start.tun.find? (fun r => r.number == n)

def nvRead (n offset length : Nat) (s : State) : Ans :=
  match namedRecord n s with
  | none => refuse St.badParam s
  | some r =>
    let size := 20 + r.len
    if length = 0 || 1024 < length || size ≤ offset then refuse St.badParam s
    else
      let k := min length (size - offset)
      answer (leBytes 4 r.number ++ leBytes 4 offset ++ leBytes 2 k ++ [0] ++ (List.range k).map (fun i => recByte r (offset + i))) s

def jobResult (slot : Nat) (s : State) : Ans :=
  if slot < 8 || 15 < slot then refuse St.badParam s
  else if s.get (Reg.JSTATE slot) = 0 then refuse St.badState s
  else
    let out := (s.job slot).out
    answer ((if out.isEmpty then leBytes 8 0 else out.take 8) ++ [byte (b01 out.isEmpty), byte slot, 0] ++ out) s

/-! ### Life-cycle (R487, R488) -/

/-- Steps of a transition; none where the table of R487 has none. -/
def lcSteps (from_ dest : Nat) : Option Nat :=
  match from_, dest with
  | 0, 1 => some 1
  | 1, 2 => some 1
  | 2, 3 => some 3
  | 2, 4 => some 3
  | 3, 2 => some 1
  | 3, 4 => some 1
  | 4, 3 => some 3
  | _, _ => none

/-- The confirmation code of a step (R488). -/
def lcCode (target step : Nat) (s : State) : Nat :=
  crc32c (leBytes 4 (s.get Reg.UID_LO) ++ leBytes 4 (s.get Reg.UID_HI) ++ [byte target, byte step] ++ leBytes 2 (s.get Reg.BOOT_COUNT))

/-- The LIFECYCLE record (R481). -/
def writeLifecycle (from_ dest src hseq : Nat) (s : State) : State :=
  let old := s.start.tun.find? (fun r => r.kind == 0x08 && par r.body 9 1 == 4)
  let bound := match old with
    | some r => r.number
    | none => if dest = 4 then s.get Reg.REC_NEXT else 0
  tunWrite 0x08 (leBytes 8 s.clk.span ++ [byte from_, byte dest, byte src, 0] ++ leBytes 2 hseq ++ leBytes 2 (s.get Reg.BOOT_COUNT)
    ++ leBytes 8 (chgIn s) ++ leBytes 8 (chgOut s) ++ leBytes 4 bound ++ List.replicate 12 0) s

/-- The last step of a transition: record, mirror, event; a transfer is abandoned where TEST stops being admitted. -/
def lcChange (dest src hseq : Nat) (s : State) : State :=
  let old := s.get Reg.LC_STATE
  let s1 := writeLifecycle old dest src hseq s
  let s2 := ((s1.put Reg.LC_STATE dest).put Reg.LC_TARGET 7).put Reg.LC_STEPS_LEFT 0
  let s3 := { s2 with ret := { s2.ret with lcMirror := dest }, host := { s2.host with lcSeq := none } }
  let s4 := if admitsTest s && !admitsTest s3 then s3.setXfer none else s3
  raise 514 (dest + 8 * old + 64 * src + 256 + 65536 * hseq) s4

/-- LIFECYCLE (R487, R488). DEDUCED (log entry 17). DEDUCED (log entry 64). -/
def lifecycleCmd (m : Meta) (target step code : Nat) (s : State) : Ans :=
  let here := s.get Reg.LC_STATE
  let expect : Nat := match s.host.lcSeq with
    | some (src, t, n, at_) => if src = m.src && t = target && s.clk.span ≤ at_ + 256 then n else 0
    | none => 1
  match lcSteps here target with
  | none => ⟨St.lifecycle, [], abandonLc raise m.src m.hseq s⟩
  | some n =>
    if step = 0 || step != expect || code != lcCode target step s then ⟨St.lifecycle, [], abandonLc raise m.src m.hseq s⟩
    else if s.modeNow != 4 then refuse St.badState s
    else if step < n then
      let s1 := (s.put Reg.LC_TARGET target).put Reg.LC_STEPS_LEFT (n - step)
      answer [byte here, byte (n - step)] { s1 with host := { s1.host with lcSeq := some (m.src, target, step + 1, s.clk.span) } }
    else answer [byte target, 0] (lcChange target m.src m.hseq s)

/-- LIFECYCLE_STEP_TIMEOUT (R488): 256 spans without the next step. -/
def execLifecycleStepTimeout (s : State) : Out :=
  match s.host.lcSeq with
  | some (src, _, _, at_) => if s.ready && at_ + 256 < s.clk.span then done (abandonLc raise src 0 s) else done s
  | none => done s

/-! ### TEST (R489) -/

/-- Bytes of arguments of a TEST function; none for a function that R489 does not list. -/
def testArgs (fn : Nat) : Option Nat :=
  match fn with
  | 1 => some 4
  | 2 => some 4
  | 3 => some 1
  | 4 => some 4
  | 5 => some 1
  | 6 => some 0
  | 7 => some 1
  | _ => none

def inMask (mask : Nat) : List Nat := (List.range 32).filter (bit mask)

/-- The end of a TEST function (R492). -/
def testEnd (cause cubit : Nat) (s : State) : State :=
  raise 490 (cause + 16 * cubit) { s with start := { s.start with testing := none } }

/-- TEST (R489). `RESTART` takes place at the first grain after the reply. DEDUCED (log entry 63). -/
def testCmd (fn : Nat) (args : List Byte) (s : State) : Ans :=
  let a := par args 0 1
  let mask := par args 0 4
  let start (arg : Nat) : Ans := answer [] { s with start := { s.start with testing := some (fn, arg) } }
  let planned (l : List Nat) : Bool := l.any (fun j => s.get (Reg.CSTATE j) == 0)
  if !(s.get Reg.LC_STATE = 0 || (s.get Reg.LC_STATE = 3 && fn != 7)) then refuse St.lifecycle s
  else if testArgs fn != some args.length then refuse St.badParam s
  else
    match fn with
    | 1 => if mask = 0 then refuse St.badParam s else if s.modeNow != 4 || planned (inMask mask) then refuse St.badState s
      else if s.start.testing.isSome then refuse St.busy s else start mask
    | 2 => if mask = 0 then refuse St.badParam s else if s.modeNow != 4 || planned (inMask mask) then refuse St.badState s
      else if s.start.testing.isSome then refuse St.busy s else start mask
    | 3 => if 31 < a then refuse St.badParam s
      else if s.modeNow != 4 || planned [a] || s.get (Reg.CUBIT_ST a) != 2 then refuse St.badState s
      else if s.start.testing.isSome then refuse St.busy s else start a
    | 4 => if 5 < a || 2 ^ 20 ≤ par args 1 3 then refuse St.badParam s
      else if s.modeNow != 4 then refuse St.badState s
      else
        let had := kvGet (fun _ => 0) s.host.convClear a
        answer [] (testEnd 6 0 { s with host := { s.host with convClear := kvSet (fun _ => 0) s.host.convClear a (had ||| par args 1 3) } })
    | 5 => if 5 < a then refuse St.badParam s
      else if s.modeNow != 4 || !s.linkUp a then refuse St.badState s
      else if s.start.testing.isSome then refuse St.busy s
      else
        let t := s.setPr a { s.pr a with recal := true }
        answer [] { t with start := { t.start with testing := some (5, a) } }
    | 6 => if s.modeNow != 4 then refuse St.badState s else start 0
    | _ => if 1 < a then refuse St.badParam s
      else if s.modeNow != 4 then refuse St.badState s
      else if a = 0 then answer [] (testEnd 6 0 s)
      else
        let t := (List.range 16).foldl (fun u j => u.setJob j { u.job j with inst := none }) s
        answer [] (testEnd 6 0 { t with start := { t.start with scan := true }, fab := { t.fab with planDue := true } })

/-- The restart that TEST RESTART has ordered (R489). DESIGN CHOICE (log entry 3). DEDUCED (log entry 63). -/
def testRestart (s : State) : State :=
  match s.start.testing with
  | some (6, _) => restart 0x0A s
  | _ => s

/-- TEST_DONE (R489, R492): LOGIC, MARCH or READMIT ends; `fails` are the cubits that failed. -/
def execTestDone (fails : List CubitTest) (s : State) : Out :=
  if !s.ready then done s
  else
    match s.start.testing with
    | some (1, mask) =>
      let s1 := (inMask mask).foldl (fun t j =>
        let st := t.get (Reg.CUBIT_ST j)
        if fails.any (fun f => f.cubit == j) then showCubit j 2 t else if st = 2 then t else showCubit j 0 t) s
      done (testEnd 6 ((inMask mask).head?.getD 0) (showUsable s1))
    | some (2, mask) =>
      let tested := (inMask mask).filter (fun j => s.get (Reg.CUBIT_ST j) != 2)
      let s1 := judgeCubits s.now tested (fails.filter (fun f => !f.rows.isEmpty)) s
      done (testEnd 6 ((inMask mask).head?.getD 0) s1)
    | some (3, j) =>
      match fails.find? (fun f => f.cubit == j) with
      | none => done (testEnd 5 j (writeRepairMap (showUsable (showCubit j 0 s))))
      | some f =>
        let (s1, o, _, _) := judgeCubit f s
        if o = 1 then done (testEnd 5 j (writeRepairMap (showUsable s1)))
        else done (testEnd 6 j (showUsable s1))
    | _ => done s

end Sys2Proof.Machine
end

