-- ==== Sys2Proof/Machine/Reads.lean ====
section
/-!
DEFINITION. Reading configuration space (R494 to R499, R501 to R503, R516, R517): the words that show other state, the words of
a tier whose link is down, the capture pairs, the shadow set, CFG_READ (R377) and the fast-path reads (R379).
-/

namespace Sys2Proof.Machine

/-! ### Words that show other state -/

/-- The regions of configuration space (R494). -/
def inRegion (a : Nat) : Bool :=
  a < 0x2000 || (0x10000 ≤ a && a < 0x1C000) || (0x20000 ≤ a && a < 0xC0000) || (0x100000 ≤ a && a < 0x181000)
    || (0x1000000 ≤ a && a < 0x1400000)

/-- The result window (R504). -/
def inWindow (a : Nat) : Bool := 0x100000 ≤ a && a < 0x180000

/-- The sum of the listed flags as bits. -/
def maskOf (n : Nat) (f : Nat → Bool) : Nat := ((List.range n).filter f).foldl (fun m i => m + 2 ^ i) 0

/-- The snapshot blocks of the completed bank hold a capture (R510). -/
def snapValid (s : State) : Bool := bit (bankWord s.win.completed 0x20008) 0

/-- A commit is scheduled (R383). -/
def commitDue (s : State) : Bool := s.host.sched.any (fun e => e.act == .commit)

/-- `WIN_STATUS` shows the completed bank once a swap has taken effect (R517). -/
def winStatus (s : State) : Nat :=
  let b := s.win.completed
  if s.win.swapped then
    1 + 2 * codeOfN b.n + 16 * (bankHalf s 10 % 64) + 2 ^ 10 * b01 (snapValid s) + 2 ^ 16 * (bankWord b 12 % 65536)
  else 0

/-- `GLOBAL_STATUS` (R502). -/
def globalStatus (s : State) : Nat :=
  b01 s.ready + 2 * s.modeNow + 2 ^ 4 * s.get Reg.LC_STATE + 2 ^ 7 * s.get Reg.RESCUE + 2 ^ 8 * s.get Reg.STATE
    + 2 ^ 10 * b01 (timeQualified s) + 2 ^ 11 * maskOf 6 s.linkUp + 2 ^ 17 * b01 (halert s) + 2 ^ 18 * b01 (hfault s)
    + 2 ^ 19 * b01 s.evt.wake + 2 ^ 20 * s.get Reg.LAG_ANY + 2 ^ 21 * s.get Reg.SPARES_OUT
    + 2 ^ 22 * b01 ((List.range 4).any (fun u => s.flag (Reg.CV_MISMATCH u))) + 2 ^ 23 * s.get Reg.HEAD_NOW
    + 2 ^ 24 * s.get Reg.ENUMERATED + 2 ^ 25 * b01 (commitDue s) + 2 ^ 26 * maskOf 3 (leaseLive s)
    + 2 ^ 29 * b01 (snapValid s) + 2 ^ 30 * s.get Reg.ESCALATED

/-- The DSEQ of the oldest frame held for replay; 0 with none held. DEDUCED (log entry 67). -/
def oldestDseq (s : State) : Nat := s.host.replayBuf.head?.elim 0 (·.seq)

/-- The fields of the word at `a` that show state held elsewhere, with what they show. -/
def derived (s : State) (a : Nat) : List (Field × Nat) :=
  let h := s.host
  if a = Wd.TB_STATUS then [(Reg.TQ, b01 (timeQualified s))]
  else if a = Wd.TB_NOW_LO then [(Reg.NOW_SPAN_LO, s.clk.span)]
  else if a = Wd.TB_SCHED then
    [(Reg.SCHED_USED, h.sched.length), (Reg.SCHED_PENDING, (h.sched.filter (·.pending)).length)]
  else if a = Wd.TB_RING && isMaster s then [(Reg.MASTER_DELAY, 0)]
  else if a = 0x10 then [(⟨0x10, 0, 31⟩, globalStatus s)]
  else if a = 0x14 then
    [(Reg.G_USABLE, s.get Reg.USABLE), (Reg.G_CAUSE, s.get Reg.RESET_CAUSE), (Reg.G_BOOT, s.get Reg.BOOT_COUNT)]
  else if 0x20540 ≤ a && a < 0x20560 then
    let m := (a - 0x20540) / 8
    let p := kvGet (fun _ => ([] : List Byte)) s.fab.packs m
    [(Reg.MP_STATE m, b01 (!p.isEmpty)), (Reg.MP_VER m, par p 4 2),
     (Reg.MP_CELLS m, ((cellsList s).filter (fun c => modelSlot s c == m)).length), (Reg.MP_ID_NOW m, par p 8 4)].filter (fun x => x.1.a == a)
  else if 0x30000 ≤ a && a < 0x3D800 && a % 0x200 = 0x1C0 then
    let n := (a - 0x30000) / 0x200
    [(Reg.DIAG_AGE n, diagAge s n)]
  else if 0x30000 ≤ a && a < 0x3D800 && a % 0x200 = 0x1CC then
    let n := (a - 0x30000) / 0x200
    [(Reg.R_SUP n, supCode (supInUse s n))]
  else if 0x40000 ≤ a && a < 0x40360 then [(⟨a, 0, 32⟩, tempWord s ((a - 0x40000) / 4))]
  else if 0x40400 ≤ a && a < 0x40448 then [(⟨a, 0, 32⟩, tempWord s (216 + (a - 0x40400) / 4))]
  else if 0x40480 ≤ a && a < 0x404A0 then [(⟨a, 0, 32⟩, tempWord s (234 + (a - 0x40480) / 4))]
  else if a = Wd.TO_OUT then [(Reg.DUTY_NOW, dutyNow s)]
  else if a = Wd.CHN_STATUS && alone s then [(Reg.POS_UPH, 63), (Reg.POS_DNH, 63), (Reg.TOPOLOGY, 0)]
  else if a = 0x50048 || a = 0x5004C then
    let p := (a - 0x50048) / 4
    [(Reg.CREDITS p, if portUp s p then credits s p else 0), (Reg.TXQ p, (s.pt p).txq.length), (Reg.RXBUF p, (s.pt p).rxbuf.length)]
  else if a = Wd.HP_STATUS then
    [(Reg.HQ_DEPTH, h.hq.length), (Reg.IN_DEPTH, h.inBuf.length), (Reg.STAGE_HELD, b01 h.owner.isSome),
     (Reg.STAGE_OWNER, h.owner.getD 0), (Reg.XFER_OPEN, b01 h.xfer.isSome), (Reg.XFER_OWNER, h.xfer.elim 0 (·.owner)),
     (Reg.COMMIT_SCHED, b01 (commitDue s)), (Reg.FWQ_DEPTH, h.fwq.length)]
  else if a = Wd.SEQ_DSEQ then [(Reg.OLDEST_DSEQ, oldestDseq s)]
  else if a = Wd.SEQ_INFO then [(Reg.HELD, h.replayBuf.length)]
  else if 0x73000 ≤ a && a < 0x73044 then
    let w := (a - 0x73000) / 4
    [(Reg.MASK w, maskOf 32 (fun i => s.flag (Reg.MASKED (32 * w + i))))]
  else if a = Wd.EVT_STATUS then
    [(Reg.HALERT_NOW, b01 (halert s)), (Reg.HFAULT_NOW, b01 (hfault s)), (Reg.WAKE_NOW, b01 s.evt.wake), (Reg.EQ_DEPTH, s.evt.queue.length)]
  else if a = Wd.EVT_WIN then
    [(Reg.WIN_OPEN, maskOf 16 (fun c => (s.window c).isSome)), (Reg.WIN_FATAL, maskOf 16 (fun c => (s.window c).any (fun w => w.sev == 3)))]
  else if 0x80050 ≤ a && a < 0x80068 && a % 8 = 0 then
    [(Reg.RUNNING ((a - 0x80050) / 8), b01 (actRunning s ((a - 0x80050) / 8)))]
  else if a = Wd.TW_STATUS then [(Reg.TWQ_DEPTH, h.twq.length), (Reg.TW_IN, h.twIn.length)]
  else if a = Wd.TUN_STATUS then [(Reg.TUN_LOW, b01 (s.get Reg.SPARE_SECT ≤ 32))]
  else if a = 0x180000 then [(⟨a, 0, 32⟩, winStatus s)]
  else []

/-- The bits of a word that a read shows: not the write-only and not the reserved ones (R11, R497). -/
def shownMask (a : Nat) : Nat := (wordRow a).elim 0 (fun r => r.staged ||| r.live ||| r.w1c ||| r.ro)

/-- The word of a tier window: present while the link is up, else that of the last status before the loss (R499). A tier that has sent no
status yet shows an open value. -/
def tierWindow (s : State) (k a : Nat) : Nat :=
  match lastStatus s k with
  | some m => wordAt m a
  | none => (Config.realFn 499 [a]).toNat

/-- The word at an address as a read finds it (R11, R496, R497). -/
def peekWord (s : State) (a : Nat) : Nat :=
  if inWindow a then bankWord s.win.completed (a - 0x100000)
  else if 0x1000000 ≤ a && a < 0x1400000 then sharedWord s (a - 0x1000000)
  else if 0x10000 ≤ a && a < 0x1C000 then tierWindow s ((a - 0x10000) / 0x2000) a &&& shownMask a
  else (derived s a).foldl (fun w x => putBits w x.1.lo x.1.w x.2) (s.word a) &&& shownMask a

/-! ### The shadow set (R383) -/

/-- The committed staged fields of a word: what a tier has lost counts as the base die keeps it (R388). -/
def committed (s : State) (a : Nat) : Nat :=
  let k := (a - 0x10000) / 0x2000
  let lost : Option Word := if 0x10000 ≤ a && a < 0x1C000 then kvGet (fun _ => none) (s.tl k).held a else none
  (lost.elim (s.word a) (·.toNat)) &&& stagedMask a

/-- The staged fields of a word in the shadow set. -/
def shadowWord (s : State) (a : Nat) : Nat := (kvGet (fun _ => none) s.host.shadow a).elim (committed s a) (·.toNat)

/-- A field of the shadow set. -/
def State.staged (s : State) (f : Field) : Nat := bitsOf (shadowWord s f.a) f.lo f.w

/-! ### Captures (R68, R176, R498) -/

/-- A read of `TB_NOW_LO` by a source captures the timestamp. -/
def captureNow (src : Nat) (s : State) : State :=
  { s with host := { s.host with tbCap := kvSet (fun _ => none) s.host.tbCap src (some s.now) } }

/-- The six accumulator words that a read finds: those of the last status where the link is down. -/
def chgNow (s : State) : List Nat := (List.range 6).map (fun i => tierWindow s 0 (Wd.CHG_NET_LO + 4 * i) % 2 ^ 32)

/-- A read of `CHG_NET_LO` by a source captures the accumulators. -/
def captureChg (src : Nat) (s : State) : State :=
  let w := chgNow s
  let pair (i : Nat) : Nat := w.getD i 0 + 2 ^ 32 * w.getD (i + 1) 0
  { s with host := { s.host with chgCap := kvSet (fun _ => none) s.host.chgCap src (some (pair 0, pair 2, pair 4)) } }

/-- The word at an address as source `src` finds it: the words of a capture pair come from its own capture; with no capture they read
their Reset values. -/
def readWord (src : Nat) (s : State) (a : Nat) : Nat :=
  if a = Wd.TB_NOW_HI then
    match kvGet (fun _ => none) s.host.tbCap src with
    | some t => t.span / 2 ^ 32 % 65536 + 2 ^ 16 * (t.grain % 4096) + 2 ^ 28 * (t.tstate % 4)
    | none => (resetWord a).toNat
  else if Wd.CHG_NET_LO ≤ a && a ≤ Wd.CHG_NET_LO + 20 then
    match kvGet (fun _ => none) s.host.chgCap src with
    | some (n, i, o) =>
      let v := if a < Wd.CHG_NET_LO + 8 then n else if a < Wd.CHG_NET_LO + 16 then i else o
      v / 2 ^ (32 * ((a - Wd.CHG_NET_LO) / 4 % 2)) % 2 ^ 32
    | none => 0
  else peekWord s a

/-- Read one word: the state after any capture, and the word; with `shadow`, staged fields come from the shadow set (R377). -/
def readOne (src : Nat) (shadow : Bool) (a : Nat) (s : State) : State × Nat :=
  let s1 := if a = Wd.TB_NOW_LO then captureNow src s else if a = Wd.CHG_NET_LO then captureChg src s else s
  let w := readWord src s1 a
  (s1, if shadow then (w &&& (0xFFFFFFFF ^^^ stagedMask a)) ||| shadowWord s1 a else w)

/-- Consecutive words, in ascending address. -/
def readMany (src : Nat) (shadow : Bool) : Nat → Nat → State → State × List Byte
  | 0, _, s => (s, [])
  | n + 1, a, s =>
    let (s1, w) := readOne src shadow a s
    let (s2, bs) := readMany src shadow n (a + 4) s1
    (s2, leBytes 4 w ++ bs)

/-- A read of `bytes` bytes of the completed bank from offset `off` by reader `i`: the blocks that it opens and closes, and whether the
reply is torn (R512, R514). -/
def windowRead (i off bytes : Nat) (s : State) : State × Bool :=
  if bytes = 0 then (s, false)
  else
    let torn := isTorn i off bytes s
    (openBlocks i off bytes (s.when torn (fun t => t.bump Reg.TORN_COUNT)), torn)

/-- CFG_READ (R377, R496). DEDUCED (log entry 65). -/
def cfgRead (src a count : Nat) (shadow : Bool) (s : State) : Ans :=
  if count = 0 || 256 < count || a % 4 != 0 || !(List.range count).all (fun i => inRegion (a + 4 * i)) then refuse St.badParam s
  else
    let lo := max a 0x100000
    let hi := min (a + 4 * count) 0x180000
    let (s1, torn) := windowRead src (lo - 0x100000) (hi - lo) s
    let (s2, bs) := readMany src shadow count a s1
    answer (byte (b01 torn + 2 * b01 shadow) :: leBytes 4 a ++ bs) s2

/-! ### Fast-path reads (R379) -/

/-- The head of a fast-path reply: the timestamp of the span read and `RD_FLAGS`. -/
def fastHead (s : State) (snap none_ : Bool) : List Byte :=
  let b := s.win.completed
  bankBytes b (if snap then 0x20000 else 0) 8 ++ [byte (2 * b01 snap + 4 * b01 none_)]

/-- `RD_SRC` asks for a snapshot that no SNAP has filled. -/
def noSnap (s : State) (rdSrc : Nat) : Bool := rdSrc == 1 && !snapValid s

/-- READ_CELLS (R379): the reply data. -/
def cellsData (s : State) (rdSrc kind sub first count : Nat) : List Byte :=
  let b := s.win.completed
  let snap := rdSrc == 1
  let span (c : Nat) : Nat := bankWord b ((if snap then 0x20010 else 0x40) + 4 * c)
  let cell (c : Nat) : List Byte :=
    match kind with
    | 0 => leBytes 4 (span c)
    | 1 => leBytes 2 (if snap then legacyWord (span c) else bankHalf s (0x200 + 2 * c))
    | _ => leBytes 4 (bankWord b (0x1000 + 4 * b.n * c + 4 * sub))
  fastHead s snap false ++ [byte first, byte count] ++ (List.range count).flatMap (fun i => cell (first + i))

/-- READ_CELLS (R379). -/
def readCells (src rdSrc kind sub first count : Nat) (s : State) : Ans :=
  let n := s.win.completed.n
  if 1 < rdSrc || 2 < kind || count = 0 || 108 < first + count || (kind == 2 && (rdSrc == 1 || n ≤ sub)) then refuse St.badParam s
  else if noSnap s rdSrc then refuse St.badState s
  else
    let i := 4 + src
    let s1 :=
      if rdSrc = 1 then (windowRead i (0x20010 + 4 * first) (4 * count) s).1
      else match kind with
        | 0 => (windowRead i (0x40 + 4 * first) (4 * count) s).1
        | 1 =>
          let a := (0x200 + 2 * first) / 4 * 4
          (windowRead i a ((0x200 + 2 * (first + count) + 3) / 4 * 4 - a) s).1
        | _ => (List.range count).foldl (fun t j => openBlocks i (0x1000 + 4 * n * (first + j) + 4 * sub) 4 t) s
    answer (cellsData s rdSrc kind sub first count) s1

/-- READ_CURRENT (R379): the reply data, from the CURRENT block or its copy. -/
def currentData (s : State) (rdSrc : Nat) : List Byte :=
  let b := s.win.completed
  let a := if rdSrc = 1 then 0x20200 else 0x300
  fastHead s (rdSrc == 1) false ++ [0] ++ leBytes 4 (bankWord b a) ++ leBytes 2 (bankWord b (a + 4)) ++ bankBytes b (a + 8) 24

/-- READ_CURRENT (R379). DEDUCED (log entry 65). -/
def readCurrent (src rdSrc : Nat) (s : State) : Ans :=
  if 1 < rdSrc then refuse St.badParam s
  else if s.get Reg.I_SRC = 3 || noSnap s rdSrc then refuse St.badState s
  else answer (currentData s rdSrc) (windowRead (4 + src) (if rdSrc = 1 then 0x20200 else 0x300) 32 s).1

/-- READ_TEMPS (R379): the reply data. -/
def tempsData (s : State) (rdSrc first count : Nat) : List Byte :=
  fastHead s (rdSrc == 1) false ++ [byte first, byte count]
    ++ bankBytes s.win.completed ((if rdSrc = 1 then 0x20400 else 0x800) + 4 * first) (4 * count)

/-- READ_TEMPS (R379). -/
def readTemps (src rdSrc first count : Nat) (s : State) : Ans :=
  if 1 < rdSrc || count = 0 || 242 < first + count then refuse St.badParam s
  else if noSnap s rdSrc then refuse St.badState s
  else answer (tempsData s rdSrc first count) (windowRead (4 + src) ((if rdSrc = 1 then 0x20400 else 0x800) + 4 * first) (4 * count) s).1

/-- READ_ANALYSIS (R379, R509): an entry that has never been filed is answered with `NONE`. -/
def readAnalysis (src slot cell : Nat) (s : State) : Ans :=
  match entryOf slot cell with
  | none => refuse St.badParam s
  | some (off, len) =>
    let rec_ := bankBytes s.win.completed off len
    let none_ := rec_.all (· == 0)
    answer (fastHead s false none_ ++ [byte slot, byte cell] ++ (if none_ then [] else rec_)) (windowRead (4 + src) off len s).1

end Sys2Proof.Machine
end

