-- ==== Sys2Proof/Machine/CommitRules.lean ====
section
/-!
DEFINITION. The refusals of CFG_COMMIT (R384): the shadow set as it would stand committed, against the rules of every chapter (R68,
R110, R114, R122, R142, R165, R169, R176, R207, R249, R251, R285, R314, R315, R351, R392, R393, R418, R441, R461, R493) and the
codes and ranges of the register tables.
-/

namespace Sys2Proof.Machine

/-- A staged field lies outside `lo` to `hi`. -/
def offRange (s : State) (f : Field) (lo hi : Nat) : Bool := s.staged f < lo || hi < s.staged f

/-- The time base (R68, R384). -/
def timeBaseBad (s : State) : Bool :=
  s.staged Reg.ROLE == 3 || offRange s Reg.FREE_RATE 160 6400 || 256 < s.staged Reg.HOLDOVER_SPANS
    || s.staged Reg.PEND_TIMEOUT == 0 || s.staged Reg.MARK_LEAD < 8

/-- `SPARE_FORCE` (R110). -/
def forceBad (s : State) (k : Nat) : Bool :=
  let c := s.staged (Reg.FORCE_CELL k)
  let en := s.staged (Reg.FORCE_EN k) == 1
  let rel := s.staged (Reg.RELEASE k) == 1
  (en && rel) || 17 < c
    || (en && ((spareToHad s k).isNone || !bit (s.staged (Reg.CELL_EN k)) c))
    || (rel && bit (s.get (Reg.FAULTED k)) c)

/-- The primary words of tier `k` (R114). -/
def primaryBad (s : State) (k : Nat) : Bool :=
  4 < s.staged (Reg.SUBWIN k) || offRange s (Reg.NOTCH_FREQ k) 640 32000 || s.staged (Reg.OV_TH k) ≤ s.staged (Reg.UV_TH k)
    || s.staged (Reg.TAP_TH k) == 0 || s.staged (Reg.AUDIT_DWELL k) == 0
    || (List.range 18).any (fun c => !bit (s.staged (Reg.CELL_EN k)) c && (servedBy s k c).isSome)
    || forceBad s k

/-- A sequence entry names a reserved channel or code, or a repeat count for the empty entry (R122). -/
def entryBad (s : State) (k e : Nat) : Bool :=
  let ch := s.staged (Reg.CH k e)
  !chanOk k ch || (ch == 0x7F && s.staged (Reg.REP_M1 k e) != 0)

/-- The secondary words of tier `k` (R142). -/
def secondaryBad (s : State) (k : Nat) : Bool :=
  (List.range 64).any (entryBad s k) || s.staged (Reg.TH_DISC k) == 0 || s.staged (Reg.REF_TOL k) == 0
    || s.staged (Reg.OSC_TOL k) == 0 || s.staged (Reg.REF_READMIT k) == 0

/-- The current words (R169, R176). -/
def currentBad (s : State) : Bool :=
  s.staged Reg.SHUNT_G == 0 || s.staged Reg.REST_SPANS == 0 || 5 < s.staged Reg.SHUNT_T_SRC || s.staged Reg.CB_LOST == 0
    || s.staged Reg.CB_ROLE == 3 || (s.staged Reg.CB_ROLE == 1 && s.staged Reg.I_SRC == 3)
    || (s.staged Reg.CB_ROLE == 2 && s.staged Reg.I_SRC != 3)

/-- The fabric words (R207). -/
def fabricBad (s : State) : Bool :=
  offRange s Reg.ENS_M_MIN_64 1 16 || offRange s Reg.ENS_M_MAX_64 1 16 || s.staged Reg.ENS_M_MAX_64 < s.staged Reg.ENS_M_MIN_64
    || s.staged Reg.ENS_PMAX_LOG2 < s.staged Reg.ENS_PMIN_LOG2 || 6 < s.staged Reg.ENS_PMAX_LOG2
    || offRange s Reg.CONF_WIN_LOG2 16 24 || s.staged Reg.IMP_SHARE == 0
    || (List.range 16).any (fun j => s.staged (Reg.JOB_ACT j) == 1 && s.get (Reg.JSTATE j) == 0)

/-- The impedance, ensemble and sensor words (R249). -/
def impedanceBad (s : State) : Bool :=
  offRange s Reg.COH_TH 1 250 || s.staged Reg.ZL_CYC < 4 || s.staged Reg.ZL_AVG < 8 || offRange s Reg.Z_ROT 1 64
    || s.staged Reg.Z_MAXAGE == 0 || s.staged Reg.EXC_GUARD < 2 || (List.range 216).any (fun j => 432 < s.staged (Reg.MAP_POS j))
    || s.staged Reg.NB_RANGE == 0 || s.staged Reg.PL_TH ≤ s.staged Reg.NB_AGREE

/-- The words of channel `n` (R285). -/
def channelBad (s : State) (n : Nat) : Bool :=
  let m := s.staged (Reg.BAL_MODE (tierOf n))
  (m == 2 && 5000 < s.staged (Reg.CH_CLAMP n)) || (m == 1 && 4095 < s.staged (Reg.CH_CLAMP n)) || s.staged (Reg.SLEW n) == 0
    || (216 ≤ s.staged (Reg.T_SRC n) && s.staged (Reg.T_SRC n) ≤ 253) || s.staged (Reg.SUP_MODE n) == 3

/-- The balancing words of tier `k` (R253, R285). -/
def stageBad (s : State) (k : Nat) : Bool :=
  let m := s.staged (Reg.BAL_MODE k)
  m == 3 || 4 < s.staged (Reg.PASSIVE_PERIOD k) || offRange s (Reg.I_TRIP k) 1000 12000
    || (m == 1 && (s.staged (Reg.R_S k) == 0 || s.staged (Reg.R_BLEED k) == 0))
    || (m == 2 && (10000000 < s.staged (Reg.R_S k) * s.staged (Reg.I_TRIP k)
        || (tierChans k).any (fun n => s.staged (Reg.I_TRIP k) < 2 * s.staged (Reg.CH_CLAMP n) + 1000)))

/-- The global balancing words (R285). -/
def superviseBad (s : State) : Bool :=
  offRange s Reg.SUP_TRIP 1 8 || s.staged Reg.OSC_WIN < 16 || s.staged Reg.SUP_RHI ≤ s.staged Reg.SUP_RLO

/-- The temperature words of tier `k` (R314). -/
def thermalTierBad (s : State) (k : Nat) : Bool :=
  (List.range 4).any (fun i => s.staged (Reg.TH_TYPE k i) == 3
      || (s.staged (Reg.TH_TYPE k i) == 1 && (offRange s (Reg.TH_BETA k i) 1000 10000 || s.staged (Reg.R25 k i) == 0)))
    || (List.range 2).any (fun j => offRange s (Reg.STR_PERIOD k j) 40 1000 || 16 < s.staged (Reg.STR_COUNT k j))
    || s.staged (Reg.DIE_HYST k) == 0

/-- The thermal output words (R315). -/
def thermalOutBad (s : State) : Bool :=
  s.staged Reg.TO_MODE == 3 || s.staged Reg.DUTY_MAX < s.staged Reg.DUTY_MIN || 1024 < s.staged Reg.DUTY_MAX
    || (s.staged Reg.TO_MODE == 2 && (s.staged Reg.RPM_MAX == 0 || s.staged Reg.TO_T_SRC == 255))
    || (216 ≤ s.staged Reg.TO_T_SRC && s.staged Reg.TO_T_SRC ≤ 252) || s.staged Reg.TACH_TO < 50 || s.staged Reg.SPIN_WIN < 50
    || s.staged Reg.TD_HOLD == 0

/-- The chain words (R351). -/
def chainBad (s : State) : Bool :=
  s.staged Reg.RATE_MODE == 3 || s.staged Reg.ERR_FALLBACK == 0 || s.staged Reg.RATE_RETRY == 0 || s.staged Reg.CREDIT_TO < 100

/-- The host port words and the event words (R392, R418). -/
def portBad (s : State) : Bool :=
  s.staged Reg.RPT_DIV == 0 || s.staged Reg.TEMPS_DIV == 0 || s.staged Reg.STAGE_TO == 0 || s.staged Reg.HWIN == 0

/-- A range of bytes lies within configuration space: within one of its runs of adjoining regions (R494). -/
def rangeInSpace (a len : Nat) : Bool :=
  ([(0, 0x2000), (0x10000, 0x1C000), (0x20000, 0xC0000), (0x100000, 0x181000), (0x1000000, 0x1400000)] : List (Nat × Nat)).any
    (fun r => r.1 ≤ a && a + len ≤ r.2)

/-- The words of check-value unit `u` (R393). -/
def unitBad (s : State) (u : Nat) : Bool :=
  let a := s.staged (Reg.CV_BASE u)
  let n := s.staged (Reg.CV_LEN u)
  a % 4 != 0 || n % 4 != 0 || n == 0 || 4194304 < n || s.staged (Reg.CV_PERIOD u) == 0
    || !(if s.staged (Reg.CV_SPACE u) = 1 then decide (a + n ≤ 0x400000) else rangeInSpace a n)

/-- A 7-bit address that is reserved or in the module's own range (R441, R461). -/
def addressBad (a : Nat) : Bool := a < 8 || (0x28 ≤ a && a < 0x30) || 0x78 ≤ a

/-- The mode and power words (R441). -/
def powerBad (s : State) : Bool :=
  offRange s Reg.STORE_INT 1 3600 || (0 < s.staged Reg.STORE_IQ && offRange s Reg.STORE_IQ 20 120) || addressBad (s.staged Reg.VR_ADDR)
    || offRange s Reg.VC_FIXED 720 990

/-- The two-wire words and `SD_CFG` (R461, R493). -/
def twoWireBad (s : State) : Bool :=
  s.staged Reg.TW_SPEED == 3 || s.staged Reg.SCL_TO < 10 || s.staged Reg.SDA_TO == 0 || s.staged Reg.ARB_MAX == 0
    || addressBad (s.staged Reg.ID_ADDR) || offRange s Reg.ID_LEN 1 64 || (s.staged Reg.ID_CRC == 1 && s.staged Reg.ID_LEN < 3)
    || s.staged Reg.HEALTH_DAYS == 0

/-- A rule refuses the set with BAD_PARAM. -/
def commitBadParam (s : State) : Bool :=
  timeBaseBad s || currentBad s || fabricBad s || impedanceBad s || superviseBad s || thermalOutBad s || chainBad s || portBad s
    || powerBad s || twoWireBad s
    || (List.range 6).any (fun k => primaryBad s k || secondaryBad s k || stageBad s k || thermalTierBad s k)
    || (List.range 108).any (channelBad s) || [1, 2, 3].any (unitBad s)

/-- A rule refuses the set with BAD_STATE: a change of `BAL_MODE` under running channels (R251), of the thermal output's mode while it
runs (R315). -/
def commitBadState (s : State) : Bool :=
  let differs (f : Field) : Bool := s.staged f != s.get f
  (List.range 6).any (fun k => differs (Reg.BAL_MODE k) && (tierChans k).any (fun n => [1, 2, 5].contains (s.get (Reg.CH_STATE n))))
    || (s.get Reg.TO_STATE != 0 && (differs Reg.TO_MODE || differs Reg.TO_SENSE || differs Reg.TACH_EN))

/-- The refusal of a commit of the shadow set, in the order of R373. -/
def commitRefusal (s : State) : Option Nat :=
  if s.staged Reg.THRU_CLR = 1 && !admitsTest s then some St.lifecycle
  else if commitBadParam s then some St.badParam
  else if commitBadState s then some St.badState
  else none

end Sys2Proof.Machine
end

