-- ==== Sys2Proof/Machine/Commit.lean ====
section
/-!
DEFINITION. The commit (R383 to R386): which words a shadow set changes, how they enter the committed set of the base die and of the
tiers, what each chapter makes of a changed field (R41, R46, R80, R110, R122, R135, R153, R165, R190, R198, R251, R281, R312, R351,
R389, R435, R450), the delivery of a tier's part again (R388), and CFG_STAGE, CFG_COMMIT, DISCARD (R377, R383, R384).
-/

namespace Sys2Proof.Machine

/-! ### What the shadow set changes -/

/-- The staged words whose fields differ from the committed ones, with the staged fields. -/
def changedWords (s : State) : List (Nat × Nat) :=
  s.host.shadow.filterMap (fun e =>
    match e.2 with
    | some w => if w.toNat = committed s e.1 then none else some (e.1, w.toNat)
    | none => none)

/-- Converter fault bits of tier `k` that the next commit clears (R489). -/
def clearMask (s : State) (k : Nat) : Nat := kvGet (fun _ => 0) s.host.convClear k

/-- The tiers that a commit of the shadow set affects. -/
def affected (s : State) : List Nat :=
  (List.range 6).filter (fun k => (changedWords s).any (fun e => partOf e.1 == 1 + k) || clearMask s k != 0)

/-- The CRC-16 image of the shadow set (R386). -/
def shadowCrc (s : State) : Nat := crc16 (setImage (fun _ => true) (shadowWord s))

/-- The shadow set equals the committed set, and nobody owns it (R383). -/
def dropShadow (s : State) : State := { s with host := { s.host with shadow := [], owner := none } }

/-! ### Words enter the committed set -/

/-- A tier's word waits for its delivery (R388). -/
def holdWord (k a : Nat) (w : Option Word) (s : State) : State :=
  s.setTl k { s.tl k with held := kvSet (fun _ => none) (s.tl k).held a w }

/-- `FORCE_EN` and `RELEASE` of the word at `a` at 0: they act once, and stay at 1 in no set (R110). -/
def actedOnce (a w : Nat) : Nat :=
  if (List.range 6).any (fun k => a == Wd.SPARE_FORCE k) then putBits w 5 2 0 else w

/-- One changed word enters the committed set: a tier that the marked span mark does not reach keeps its old word until it is delivered
again (R385, R388). -/
def commitWord (e : Nat × Nat) (s : State) : State :=
  let a := e.1
  let p := partOf a
  if p = 0 then s.putW a (withStaged a (s.word a) e.2)
  else if s.linkUp (p - 1) then holdWord (p - 1) a none (s.putW a (withStaged a (s.word a) e.2))
  else
    let now := (kvGet (fun _ => none) (s.tl (p - 1)).held a).elim (s.word a) (·.toNat)
    holdWord (p - 1) a (some (BitVec.ofNat 32 (actedOnce a (withStaged a now e.2)))) s

/-! ### What a changed field does -/

/-- The field differs from the words `old`. -/
def fieldChanged (old : WordMap) (s : State) (f : Field) : Bool := fieldAt old f != s.get f

/-- The words at an address differ. -/
def wordChanged (old : WordMap) (s : State) (a : Nat) : Bool := wordAt old a != s.word a

/-- A running channel whose own cell, or in SHUTTLE whose partner cell, is among the cells just disabled stops (R21, R250, R281). -/
def stopDisabled (off : List Nat) (s : State) : State :=
  (listedChannels s).foldl (fun t n =>
    let cut := off.contains n || (t.get (Reg.BAL_MODE (tierOf n)) == 2 && off.contains (partnerOf n))
    if (t.get (Reg.CH_STATE n) = 1 || t.get (Reg.CH_STATE n) = 5) && cut then orderStop n 0 t else t) s

/-- A spare that a cold tier has put in REPLACE for a cell which turns out to be disabled is released (R73, R107). -/
def freeSpares (k : Nat) (s : State) : State :=
  s.each ([18, 19].filter (fun i => s.get (spareUse k i) == 2 && !localOn s k (s.get (spareCell k i)))) (fun i t => orderMove k i none 0 t)

/-- What a commit of tier `k`'s words does (R80, R110, R122, R135, R198, R251, R281, R300, R312). -/
def tierEffects (old : WordMap) (k : Nat) (s : State) : State :=
  let ch := fieldChanged old s
  let was := fieldAt old (Reg.CELL_EN k)
  let on := s.get (Reg.CELL_EN k)
  let s1 := primCommit k (ch (Reg.SUBWIN k) || ch (Reg.SINC_ORDER k)) (ch (Reg.NOTCH_EN k) || ch (Reg.NOTCH_FREQ k))
    (ch (Reg.POST_CORNER k) || ch (Reg.POST_ORDER k)) ((List.range 18).filter (fun c => bit on c && !bit was c)) s
  let s2 := s1.when (s.flag (Reg.FORCE_EN k) || s.flag (Reg.RELEASE k)) (spareForce k)
  let s3 := s2.when ((List.range 64).any (fun e => wordChanged old s (Wd.SEQ_ENTRY k e)) || ch (Reg.SEQ_LAST k) || ch (Reg.SEQ_EN k))
    (fun t => (seqRestart k t).when (k = 0) hallTable)
  let s4 := s3.when (ch (Reg.TH_DISC k) || ch (Reg.D_DISC k)) (endRuns k)
  let s5 := s4.each ((List.range 2).filter (fun j => bitsOf (wordAt old (Reg.STR_EN k j).a) 5 1 == 1 && !s.flag (Reg.STR_EN k j)))
    (fun j t => stringOff k j t)
  let off := ((List.range 18).filter (fun c => bit was c && !bit on c)).map (· + 18 * k)
  let s6 := if was = on then s5 else stopDisabled off { (freeSpares k s5) with fab := { s5.fab with planDue := true } }
  if ch (Reg.BAL_MODE k) then { s6 with bal := { s6.bal with bud := kvSet (fun _ => LoopSt.reset) s6.bal.bud k LoopSt.reset } } else s6

/-- `SRC_USED` under a newly selected `I_SRC` (R153). -/
def sourceChosen (s : State) : State :=
  let used := match s.get Reg.I_SRC with
    | 1 => 1
    | 3 => 3
    | _ => 0
  (s.put Reg.SRC_USED used).setCur (fun c => { c with hallFrom := none, cond := false })

/-- The current words (R149, R153, R165). -/
def currentEffects (old : WordMap) (s : State) : State :=
  let s1 := s.when (fieldChanged old s Reg.I_SRC) sourceChosen
  s1.when (s.flag Reg.ACC_LOAD || s.flag Reg.THRU_CLR) accCommit

/-- The fabric words (R190, R198, R246): a plan where an activation, a share or the ensemble size changes, and the first check of
every sensor where the map does. -/
def fabricEffects (old : WordMap) (s : State) : State :=
  let plan := (List.range 16).any (fun j => fieldChanged old s (Reg.JOB_ACT j)) || fieldChanged old s Reg.IMP_SHARE
    || wordChanged old s Wd.ENS_CFG
  let map := (List.range 216).any (fun i => wordChanged old s (Wd.SENS_MAP i))
  { s with fab := { s.fab with planDue := s.fab.planDue || plan, plDue := if map then 2 ^ 216 - 1 else s.fab.plDue } }

/-- A commit whose staged words activate a slot in FAULT returns it to LOADED (R190). -/
def reviveJobs (staged : List Nat) (s : State) : State :=
  s.each ((List.range 16).filter (fun j => staged.contains (Wd.JOB_CTRL j) && s.get (Reg.JOB_ACT j) == 1 && s.get (Reg.JSTATE j) == 4))
    (fun j t => { t.put (Reg.JSTATE j) 1 with fab := { t.fab with planDue := true } })

/-- The module begins or ceases to be its segment's time master with a commit (R41, R55, R68): whether its source is valid is that of the
source it takes now, and a master has no delay. -/
def sourceKind (s : State) : State :=
  let m := isMaster s
  let s1 := (s.putFlag Reg.INPUT_VALID (m && inputLive s)).put Reg.DELAY_VALID 0
  let s2 := { s1 with tb := { s1.tb with marks := 0, frames := 0, tfPeriod := 0, dirDelay := [] } }
  if m then (s2.put Reg.MASTER_DELAY 0).put Reg.IN_PERIOD s.tb.lastPeriod else s2

/-- The time base (R41, R46). `SOURCE` counts on a master only (R55, R68). -/
def timeBaseEffects (old : WordMap) (s : State) : State :=
  let ch := fieldChanged old s
  let was := isMaster { s with regs := old }
  let s0 := if ch Reg.ROLE then { s with tb := { s.tb with takeover := false, reverted := false } } else s
  let s1 := if was != isMaster s0 then sourceKind s0 else s0
  if s1.get Reg.SOURCE = 1 && isMaster s1 && (ch Reg.SOURCE || ch Reg.ROLE) then enterFree (s1.get Reg.STATE == 3) s1
  else if s1.get Reg.STATE = 2 && (ch Reg.SOURCE || ch Reg.EDGE || ch Reg.ROLE || ch Reg.PRESCALE_M1) then
    if s1.flag Reg.INPUT_VALID then reacquire s1 else enterHoldover 4 0 s1
  else if s1.get Reg.STATE = 0 && ch Reg.FREE_RATE then internalStep s1
  else s1

/-- The head role, the ports and the regulator (R338, R351, R435), the identity memory (R450). -/
def portEffects (old : WordMap) (s : State) : State :=
  let ch := fieldChanged old s
  let s1 := if ch Reg.HEAD_EN then s.put Reg.HEAD_NOW (s.get Reg.HEAD_EN) else s
  let s2 := portsAtCommit (ch Reg.RATE_MODE) s1
  let s3 := s2.when (ch Reg.HEAD_EN && s2.flag Reg.HEAD_NOW) enumStart
  let s4 := if wordChanged old s Wd.ID_CFG then { s3 with tw := { s3.tw with idDue := true } } else s3
  s4.when (ch Reg.VC_ADAPT || ch Reg.VC_FIXED) vcForMode

/-- The words of check-value units 1 to 3 (R389): the next pass is the first after the commit. -/
def unitEffects (old : WordMap) (s : State) : State :=
  s.each ([1, 2, 3].filter (fun u => [Wd.CV_CTRL u, Wd.CV_BASE u, Wd.CV_LEN u, Wd.CV_EXPECT u].any (wordChanged old s)))
    (fun u t =>
      let t1 := t.put (Reg.REF_VALID u) 0
      { t1 with host := { t1.host with cvRun := kvSet (fun _ => 0) t1.host.cvRun u 0, cvEvt := kvSet (fun _ => 0) t1.host.cvEvt u 0 } })

/-- What the changed words of a commit do, chapter by chapter. -/
def commitEffects (old : WordMap) (staged : List Nat) (s : State) : State :=
  let s1 := s.each ((List.range 6).filter (fun k => s.linkUp k)) (fun k t => tierEffects old k t)
  let s2 := unitEffects old (portEffects old (reviveJobs staged (fabricEffects old (currentEffects old s1))))
  let s3 := timeBaseEffects old s2
  let s4 := s3.each ((List.range 6).filter (fun k => clearMask s3 k != 0)) (fun k t => convClear k (clearMask t k) t)
  cbJudge { s4 with host := { s4.host with convClear := [] } }

/-- The part CRCs and the CRC that unit 0 expects, taken at a commit (R386). DEDUCED (log entry 68). -/
def takeCrcs (s : State) : State :=
  let s1 := (List.range 7).foldl (fun t p => t.put (Reg.PART_EXPECT p) (crc16 (setImage (fun a => partOf a == p) (committed s)))) s
  s1.put (Reg.CV_EXPECT 0) (crc16 (setImage (fun _ => true) (committed s)))

/-- The shadow set becomes the committed set (R383, R385, R386, R481). -/
def applyShadow (s : State) : State :=
  let ws := changedWords s
  let staged := s.host.shadow.map (·.1)
  let s1 := ws.foldl (fun t e => commitWord e t) s
  let s2 := takeCrcs (commitEffects s.regs staged (dropShadow s1))
  s2.when (!ws.isEmpty) writeConfig

/-! ### Execution (R384, R385) -/

/-- A commit ends without effect: the shadow set stays with its owner, whose count starts again (R383). -/
def keepShadow (s : State) : State := { s with host := { s.host with acked := [], ownerSpan := s.clk.span } }

/-- A scheduled commit executes: a tier that has not acknowledged its words cancels it, a rule may still refuse it. DEDUCED (log entry 68). -/
def runCommit (m : Meta) (s : State) : State :=
  if !(affected s).all (fun k => s.host.acked.contains k) then complete s.now 0x13 St.timeout m 0 0 (keepShadow s)
  else
    match commitRefusal s with
    | some st => complete s.now 0x13 st m 0 0 (keepShadow s)
    | none =>
      let crc := shadowCrc s
      let s1 := applyShadow s
      complete s1.now 0x13 St.ok m 0 crc { s1 with host := { s1.host with acked := [] } }

/-- Tier `k`'s part is delivered again and applied (R388). DEDUCED (log entry 69). -/
def redeliver (k : Nat) (s : State) : State :=
  let ws := (s.tl k).held
  let s1 := ws.foldl (fun t e =>
    match e.2 with
    | some w => t.putW e.1 (withStaged e.1 (t.word e.1) w.toNat)
    | none => t) s
  let s2 := s1.setTl k { s1.tl k with held := [], partDiff := false }
  let s3 := tierEffects s.regs k s2
  cbJudge (if k = 0 then currentEffects s.regs s3 else s3)

/-! ### CFG_STAGE, CFG_COMMIT, DISCARD (R377, R383, R384) -/

/-- Words that take no write: the result window, the window status words and the shared-store window (R497). -/
def readOnlyRegion (a : Nat) : Bool := (0x100000 ≤ a && a < 0x181000) || (0x1000000 ≤ a && a < 0x1400000)

/-- The row of a word that a CFG_STAGE or CFG_WRITE may name. -/
def writableRow (a : Nat) : Option WordRow := if a % 4 = 0 && !readOnlyRegion a then wordRow a else none

/-- A CFG_STAGE may set the word at `a` to `w`: a word with staged fields, not a live one, with its reserved bits 0. -/
def stageOk (e : Nat × Nat) : Bool :=
  match writableRow e.1 with
  | some r => r.staged != 0 && r.live == 0 && e.2 < 2 ^ 32 && (e.2 &&& r.rsv) == 0
  | none => false

/-- The words of a CFG_STAGE or CFG_WRITE with their addresses. -/
def addressed (addr : Nat) (words : List Nat) : List (Nat × Nat) := ((List.range words.length).map (fun i => addr + 4 * i)).zip words

/-- The count of a CFG_STAGE or CFG_WRITE is 1 to 11. -/
def countOk (words : List Nat) : Bool := !words.isEmpty && words.length ≤ 11

/-- Another source owns the shadow set (R383). -/
def ownedByOther (src : Nat) (s : State) : Bool := s.host.owner.any (fun o => o != src)

/-- CFG_STAGE (R377, R383). -/
def cfgStage (src addr : Nat) (words : List Nat) (s : State) : Ans :=
  let ws := addressed addr words
  if !countOk words || !ws.all stageOk then refuse St.badParam s
  else if commitDue s || ownedByOther src s then refuse St.busy s
  else
    let shadow := ws.foldl (fun m e => kvSet (fun _ => none) m e.1 (some (BitVec.ofNat 32 (e.2 &&& stagedMask e.1)))) s.host.shadow
    answer [byte words.length] { s with host := { s.host with shadow := shadow, owner := some src, ownerSpan := s.clk.span } }

/-- DISCARD (R383). -/
def cfgDiscard (src : Nat) (at_ : Target) (s : State) : Ans :=
  if at_.span != 0 || at_.grain != 0 || at_.reqTq then refuse St.badParam s
  else if commitDue s then refuse St.badState s
  else if ownedByOther src s then refuse St.busy s
  else
    let s1 := dropShadow s
    answer (leBytes 2 (shadowCrc s1)) s1

/-- STAGE_OWNER_TIMEOUT (R383): `STAGE_TO` spans without a CFG_STAGE from the owner; the count does not run while a commit is
scheduled. -/
def execStageOwnerTimeout (s : State) : Out :=
  if s.ready && s.host.owner.isSome && !commitDue s && s.host.ownerSpan + s.get Reg.STAGE_TO ≤ s.clk.span then done (dropShadow s)
  else done s

end Sys2Proof.Machine
end

