-- ==== Sys2Proof/Machine/Schedule.lean ====
section
/-!
DEFINITION. The schedule (R64 to R67, R375): acceptance of the schedulable commands CFG_COMMIT, MODE, SNAP, EXCITE and FW_SWAP, their
execution in the order of R66, pending actions, and cancellation.
-/

namespace Sys2Proof.Machine

/-! ### Acceptance (R64, R65, R67, R375) -/

/-- The order of actions that fall on the same instant (R66). -/
def Action.rank : Action → Nat
  | .commit => 0
  | .mode _ => 1
  | .excite _ _ _ _ _ => 2
  | .snap _ => 3
  | .fwSwap _ => 4

/-- The schedule prefix is refused with BAD_PARAM: a target in a span that has begun or too far ahead, a grain that the action does not
permit, a grain without a target, `SC_REQ_TQ` outside SNAP. -/
def prefixBad (grains snap : Bool) (t : Target) (s : State) : Bool :=
  4096 ≤ t.grain || (t.reqTq && !snap) || (t.grain != 0 && (t.span == 0 || !grains))
    || (t.span != 0 && (t.span ≤ s.clk.span || s.clk.span + 2 ^ 24 < t.span))

/-- The action is time-qualified (R65). -/
def needsTq (a : Action) (bcast : Bool) : Bool :=
  match a with
  | .snap req => bcast || req
  | .excite _ _ _ _ _ => true
  | _ => false

/-- The grain of an EXCITE raised to a multiple of 256, or to the following span (R65). -/
def raiseGrain (span grain : Nat) : Nat × Nat := if 3840 < grain then (span + 1, 0) else (span, (grain + 255) / 256 * 256)

/-- When an immediate action executes (R375). -/
def immediateAt (a : Action) (s : State) : Nat × Nat :=
  match a with
  | .commit => (if s.clk.grain ≤ 3072 then s.clk.span + 1 else s.clk.span + 2, 0)
  | .excite _ _ _ _ _ => raiseGrain s.clk.span (s.clk.grain + 1)
  | _ => (s.clk.span + 1, 0)

/-- An entry with an instant. `since` is the span in which it was accepted, or, for a named target, the span named. -/
def addEntry (a : Action) (m : Meta) (at_ : Nat × Nat) (pend named : Bool) (since : Nat) (s : State) : State :=
  { s with host := { s.host with sched := s.host.sched ++ [⟨a, at_.1, at_.2, pend, named, since, m⟩] } }

/-- Schedule an action whose command has passed its refusals (R64, R67). -/
def schedule (a : Action) (t : Target) (m : Meta) (s : State) : Ans :=
  if 32 ≤ s.host.sched.length then refuse St.busy s
  else if t.span = 0 then
    if needsTq a m.bcast && !timeQualified s then ⟨St.pending, [], addEntry a m (0, 0) true false s.clk.span s⟩
    else answer [] (addEntry a m (immediateAt a s) false false s.clk.span s)
  else answer [] (addEntry a m (raiseGrain t.span t.grain) false true t.span s)

/-- SNAP (R378). -/
def snapCmd (m : Meta) (t : Target) (s : State) : Ans :=
  if prefixBad false true t s then refuse St.badParam s else schedule (.snap t.reqTq) t m s

/-- MODE (R380, R421). -/
def modeCmd (m : Meta) (t : Target) (new : Nat) (s : State) : Ans :=
  if prefixBad false false t s || 5 < new then refuse St.badParam s
  else if modeRefused new s.host.sched.length s then refuse St.badState s
  else schedule (.mode new) t m s

/-- An EXCITE START waits in the schedule. -/
def exciteDue (s : State) : Bool := s.host.sched.any (fun e => e.act.rank == 2)

/-- EXCITE START (R215). -/
def exciteStartCmd (m : Meta) (t : Target) (cells klo khi amp reps : Nat) (s : State) : Ans :=
  if prefixBad true false t s then refuse St.badParam s
  else
    match exciteRefusal m.src cells klo khi amp reps (exciteDue s) s with
    | some st => refuse st s
    | none => schedule (.excite cells klo khi amp reps) t m s

/-- EXCITE STOP (R215): a running sweep ends with cause STOPPED. -/
def exciteStopCmd (s : State) : Ans := answer [] (endSweep St.ok 3 s)

/-- FW_SWAP (R382, R472). -/
def fwSwapCmd (m : Meta) (t : Target) (version : Nat) (s : State) : Ans :=
  let k := inactiveBank s
  if prefixBad false false t s then refuse St.badParam s
  else if s.modeNow != 4 || !s.flag (bankValid k) then refuse St.badState s
  else if version != 0 && version != s.get (Reg.FW_VER k) then refuse St.checkFail s
  else schedule (.fwSwap version) t m s

/-- CFG_COMMIT (R383, R384, R385): the tiers whose links are up acknowledge the words at once, unless the deadline of R385 has passed. DEDUCED (log entry 68). DEDUCED (log entry 69). -/
def cfgCommit (m : Meta) (t : Target) (checkExp : Bool) (expected : Nat) (s : State) : Ans :=
  match (if prefixBad false false t s && commitRefusal s != some St.lifecycle then some St.badParam else commitRefusal s) with
  | some st => refuse st s
  | none =>
    let crc := shadowCrc s
    if checkExp && expected != crc then refuse St.checkFail s
    else if ownedByOther m.src s || commitDue s then refuse St.busy s
    else
      let a := schedule .commit t m s
      if a.status != St.ok then refuse a.status s
      else
        let late := t.span == s.clk.span + 1 && 3840 ≤ s.clk.grain
        let acked := if late then [] else (affected s).filter s.linkUp
        answer (leBytes 2 crc) { a.st with host := { a.st.host with acked := acked } }

/-! ### Execution (R66) -/

/-- An entry comes before another: by instant, then by R66. -/
def before (a b : Entry) : Bool :=
  a.span * 4096 + a.grain < b.span * 4096 + b.grain
    || (a.span * 4096 + a.grain == b.span * 4096 + b.grain && a.act.rank < b.act.rank)

/-- A pending action may run at the present grain. -/
def grainFits (a : Action) (s : State) : Bool := if a.rank = 2 then s.clk.grain % 256 == 0 && s.clk.grain ≤ 3840 else s.clk.grain == 0

/-- The entry comes due now: its instant has come, or it is pending and may run now (R67). -/
def dueNow (s : State) (e : Entry) : Bool :=
  if e.pending then timeQualified s && grainFits e.act s else e.span * 4096 + e.grain ≤ s.abs

/-- The instant of an entry as the order of R66 takes it: of a pending one, the present. -/
def atInstant (s : State) (e : Entry) : Entry :=
  if e.pending then { e with span := s.clk.span, grain := s.clk.grain } else e

/-- The entry that executes next, of those that are due (R66). -/
def nextDue (s : State) : Option Entry :=
  (s.host.sched.filter (dueNow s)).foldl
    (fun best e => match best with
      | none => some e
      | some b => if before (atInstant s e) (atInstant s b) then some e else some b) none

/-- The instant, from now on in the span in progress, at which the entry comes due: of a pending one the next grain at which it may run. -/
def dueAt (s : State) (e : Entry) : Option Nat :=
  if !e.pending then (if e.span = s.clk.span then some (e.span * 4096 + e.grain) else none)
  else if timeQualified s && e.act.rank == 2 && s.clk.grain ≤ 3840 then some ((s.abs + 255) / 256 * 256)
  else none

/-- The grains up to the next instant of the schedule in this span pass, where nothing is due yet. DEDUCED (log entry 4). -/
def toDue (s : State) : State :=
  if (nextDue s).isSome then s
  else
    match (s.host.sched.filterMap (dueAt s)).min? with
    | some t => (s.passTo t).getD s
    | none => s

/-- The schedule without the first entry equal to `e`. -/
def dropEntry (e : Entry) (s : State) : State := { s with host := { s.host with sched := s.host.sched.erase e } }

/-- Take the next entry where it is of the rank `r`. DEDUCED (log entry 70). -/
def takeDue (r : Nat) (s : State) : Option (Entry × State) :=
  match nextDue s with
  | some e => if e.act.rank = r && s.ready && !e.pending then some (e, dropEntry e s) else none
  | none => none

/-- Execute one action now (R216, R378, R384, R422, R472). -/
def runAction (a : Action) (m : Meta) (s : State) : State :=
  match a with
  | .commit => runCommit m s
  | .mode new =>
    if modeRefused new s.host.sched.length s then complete s.now 0x50 St.badState m 0 new s
    else complete s.now 0x50 St.ok m 0 new (runMode new m s)
  | .excite cells klo khi amp reps =>
    match exciteRefusal m.src cells klo khi amp reps false s with
    | some st => complete s.now 0x32 st m 4 0 s
    | none => startSweep m cells klo khi amp reps s
  | .snap _ => { s with win := { s.win with snapArm := s.win.snapArm ++ [(s.now, m)] } }
  | .fwSwap _ =>
    let k := inactiveBank s
    if s.flag (bankValid k) then
      let t := restart 6 s
      { t with ret := { t.ret with bank := k, trial := true } }
    else bankEvent 5 0 (s.get (Reg.FW_VER k)) s

/-- Execute the next entry where it is of the rank `r`. -/
def execRank (r : Nat) (s : State) : Out :=
  match takeDue r (toDue s) with
  | some (e, t) => done (runAction e.act e.who t)
  | none => done s

/-- SCHED_COMMIT_EXEC (R384, R385): at grain 0 of the span. -/
def execSchedCommitExec (s : State) : Out := execRank 0 s

/-- SCHED_MODE_EXEC (R422). -/
def execSchedModeExec (s : State) : Out := execRank 1 s

/-- SCHED_EXCITE_EXEC (R216). -/
def execSchedExciteExec (s : State) : Out := execRank 2 s

/-- SCHED_SNAP_EXEC (R378). -/
def execSchedSnapExec (s : State) : Out := execRank 3 s

/-- SCHED_FW_SWAP_EXEC (R472): last at its instant. -/
def execSchedFwSwapExec (s : State) : Out := execRank 4 s

/-! ### Cancellation (R67, R385) -/

/-- What `CP_DETAIL` tells of a cancelled action: the mode code of MODE (R370). -/
def Action.cancelDetail : Action → Nat
  | .mode new => new
  | _ => 0

/-- Cancel an entry: its completion report carries TIMEOUT; a cancelled commit keeps its shadow set with its owner (R383). -/
def cancelEntry (e : Entry) (s : State) : State :=
  let s1 := dropEntry e s
  let s2 := if e.act = .commit then keepShadow s1 else s1
  complete s2.now e.act.op St.timeout e.who 0 e.act.cancelDetail s2

/-- Cancel every entry that `p` names. -/
def cancelWhere (p : Entry → Bool) (s : State) : State := (s.host.sched.filter p).foldl (fun t e => cancelEntry e t) s

/-- At the beginning of a span a time-qualified action that names it is cancelled where the module is not time-qualified; an EXCITE
raised to this span is tested again (R65, R67, R378). -/
def cancelUnqualified (s : State) : State :=
  if timeQualified s then s
  else cancelWhere (fun e => !e.pending && needsTq e.act e.who.bcast && (e.span == s.clk.span || (e.named && e.since == s.clk.span))) s

/-- The actions whose named target span a jump has skipped (R67). -/
def cancelSkipped (from_ : Nat) (s : State) : State :=
  cancelWhere (fun e => e.named && from_ < e.since && e.since < s.clk.span) s

/-- COMMIT_DELIVERY_DEADLINE (R385): at grain 3,840 of the span before a commit, tiers whose links are up have acknowledged; a commit
that lacks an acknowledgement is cancelled. DEDUCED (log entry 69). -/
def execCommitDeliveryDeadline (s : State) : Out :=
  match s.host.sched.find? (fun e => e.act == .commit && e.span == s.clk.span + 1) with
  | none => done s
  | some e =>
    let missing := (affected s).filter (fun k => !s.host.acked.contains k)
    if !s.ready || s.clk.grain < 3840 || missing.isEmpty then done s
    else if s.clk.grain = 3840 && missing.all s.linkUp then done { s with host := { s.host with acked := s.host.acked ++ missing } }
    else done (cancelEntry e s)

/-- PEND_TIMEOUT (R67): `PEND_TIMEOUT` spans without time qualification. -/
def execPendTimeout (s : State) : Out :=
  if s.ready then done (cancelWhere (fun e => e.pending && e.since + s.get Reg.PEND_TIMEOUT ≤ s.clk.span) s) else done s

/-- PENDING_ACTION_RUN (R67): the module is time-qualified; actions due at the same instant keep the order of R66. DEDUCED (log entry 70). -/
def execPendingActionRun (s : State) : Out :=
  let t := toDue s
  match nextDue t with
  | some e => if s.ready && e.pending then done (runAction e.act e.who (dropEntry e t)) else done s
  | none => done s

end Sys2Proof.Machine
end

