-- ==== Sys2Proof/Machine/Commands.lean ====
section
/-!
DEFINITION. What each host command does (R374 to R382): the session opcodes, CFG_WRITE with the words that act when written (R127, R133,
R351, R401, R403, R451), the event opcodes (R398 to R400), SHUTDOWN, and `runCmd`, which leads every opcode to its meaning.
-/

namespace Sys2Proof.Machine

/-! ### Session and identity (R364, R371, R376) -/

def pingCmd (echo : List Byte) (s : State) : Ans := answer (leBytes 8 (stampWord s.now) ++ echo) s

def identCmd (s : State) : Ans :=
  answer (leBytes 4 (s.get Reg.UID_LO) ++ leBytes 4 (s.get Reg.UID_HI) ++ leBytes 2 0x6108 ++ [byte (s.get Reg.SI_REV), 0]
    ++ leBytes 4 (fwVersion s) ++ [byte (s.get Reg.ACTIVE_BANK + 2 * s.get (bankValid (inactiveBank s))), byte (s.get Reg.LC_STATE),
      byte s.modeNow, 0]
    ++ leBytes 4 (globalStatus s) ++ [byte (s.get Reg.USABLE), byte (s.get Reg.RESET_CAUSE)] ++ leBytes 2 (s.get Reg.BOOT_COUNT)
    ++ leBytes 8 (stampWord s.now) ++ [byte (s.get Reg.POS_UPH), byte (s.get Reg.POS_DNH), 0, 0]) s

/-- The number of a sequence counter among `HostPort.seqs`. -/
def seqIdx (src : Nat) (bcast : Bool) : Nat := 2 * src + b01 bcast

/-- The counter of a source and kind. -/
def seqField (src : Nat) (bcast : Bool) : Field := if bcast then Reg.LAST_BHSEQ src else Reg.LAST_HSEQ src

/-- SEQSTATE (R364): the values before the command; the command then sets the counter of its kind. -/
def seqstateCmd (m : Meta) (s : State) : Ans :=
  answer (leBytes 2 (s.get (Reg.LAST_HSEQ m.src)) ++ leBytes 2 (s.get (Reg.LAST_BHSEQ m.src)) ++ leBytes 2 (s.get Reg.LAST_DSEQ)
    ++ leBytes 2 (oldestDseq s) ++ leBytes 2 s.host.replayBuf.length ++ leBytes 2 (s.get Reg.BOOT_COUNT) ++ leBytes 6 s.start.readySpan
    ++ [byte (b01 (s.seqSt (seqIdx m.src false)).valid + 2 * b01 (s.seqSt (seqIdx m.src true)).valid)])
    (s.put (seqField m.src m.bcast) m.hseq)

/-- The held report frames of a DSEQ range, in order (R371). -/
def heldRange (first count : Nat) (s : State) : List Frame :=
  s.host.replayBuf.filter (fun f => (f.seq + 65536 - first) % 65536 < count)

/-- REPLAY (R371). -/
def replayCmd (m : Meta) (first count : Nat) (s : State) : Ans :=
  if count = 0 || 4096 < count then refuse St.badParam s
  else
    let held := heldRange first count s
    let n := held.length
    let f := (held.head?.map (·.seq)).getD first
    let r : Option Replay := if n = 0 then none else some ⟨f, n, m.port⟩
    ⟨if n = count then St.ok else St.seqGap, leBytes 2 f ++ leBytes 2 n ++ leBytes 2 (oldestDseq s) ++ leBytes 2 (s.get Reg.LAST_DSEQ),
      { s with host := { s.host with replays := kvSet (fun _ => none) s.host.replays m.src r } }⟩

/-! ### CFG_WRITE (R377, R497, R499) -/

/-- CFG_WRITE may name the word at an address with this value. -/
def writeOk (e : Nat × Nat) : Bool :=
  match writableRow e.1 with
  | some r => r.staged == 0 && e.2 < 2 ^ 32 && (e.2 &&& r.rsv) == 0
  | none => false

/-- The tier whose window holds an address. -/
def tierOfWord (a : Nat) : Option Nat := if partOf a = 0 then none else some (partOf a - 1)

/-- The word acts in a tier whose link is down (R499). -/
def writeUnreachable (s : State) (a : Nat) : Bool :=
  match tierOfWord a, wordRow a with
  | some k, some r => !s.linkUp k && (r.wo != 0 || r.w1c != 0)
  | _, _ => false

/-- `CHN_CMD` (R351). -/
def chnCmdWrite (v : Nat) (s : State) : State :=
  let s1 := s.when (bit v 0) enumStart
  s1.when (bit v 1) clearCounters

/-- `EVT_CLR` (R401). -/
def evtClrWrite (v : Nat) (s : State) : State :=
  let first := bitsOf v 0 10
  let count := bitsOf v 10 10
  if bit v 31 && 1 ≤ count && first + count ≤ 544 then
    (List.range count).foldl (fun t i => (t.put (Reg.COUNT (first + i)) 0).put (Reg.CNT_SAT (first + i)) 0) s
  else s

/-- `BCN_ACK` (R403). -/
def bcnAckWrite (v : Nat) (s : State) : State := if bit v 0 then { s with evt := { s.evt with beaconHf := false } } else s

/-- `TWC_CTRL` (R451): the status of the write, and the transfer that `TWC_GO` orders. DEDUCED (log entry 74). -/
def twcCtrlWrite (v : Nat) (s : State) : Nat × State :=
  let w := bitsOf v 8 5
  let r := bitsOf v 13 5
  if s.flag Reg.TWC_BUSY || addressBad (bitsOf v 0 7) || 16 < w || 16 < r then (St.badParam, s)
  else if bit v 31 then (St.ok, twDue (.passThrough (bitsOf v 0 7) (bit v 7) w r) (s.put Reg.TWC_BUSY 1))
  else (St.ok, s)

/-- A word of a position table, `FF_POS[i]` of a channel (R285). -/
def isFfPos (a : Nat) : Bool := 0x30000 ≤ a && a < 0x3D800 && 0x140 ≤ a % 0x200 && a % 0x200 < 0x1C0

/-- The word with its immediate fields written and its W1C bits cleared (R497); a word of a position table comes into use at the next loop
sample (R266). DEDUCED (log entry 72). -/
def plainWrite (a v : Nat) (s : State) : State :=
  match wordRow a with
  | none => s
  | some r =>
    let w := s.word a
    let s1 := if isFfPos a && s.bal.ffOld.all (fun x => x.1 != a) then { s with bal := { s.bal with ffOld := (a, w) :: s.bal.ffOld } } else s
    s1.putW a (((w &&& (0xFFFFFFFF ^^^ r.live)) ||| (v &&& r.live)) &&& (0xFFFFFFFF ^^^ (r.w1c &&& v)))

/-- One word of a CFG_WRITE acts: its status, and the state. DEDUCED (log entry 72). -/
def writeWord (e : Nat × Nat) (s : State) : Nat × State :=
  let a := e.1
  let v := e.2
  let k := partOf a - 1
  if a = Wd.CHN_CMD then (St.ok, chnCmdWrite v s)
  else if a = Wd.EVT_CLR then (St.ok, evtClrWrite v s)
  else if a = Wd.BCN_ACK then (St.ok, bcnAckWrite v s)
  else if a = Wd.TWC_CTRL then twcCtrlWrite v s
  else if partOf a != 0 && a = Wd.SEC_URGENT k then secUrgentWrite k v s
  else if partOf a != 0 && a = Wd.DISC_HW_CLR k then (St.ok, discHwClr k v s)
  else (St.ok, plainWrite a v s)

/-- The words of a CFG_WRITE act in ascending order, up to the first that its chapter answers otherwise. -/
def writeWords : List (Nat × Nat) → State → Nat × State
  | [], s => (St.ok, s)
  | e :: es, s =>
    let (st, s1) := writeWord e s
    if st = St.ok then writeWords es s1 else (st, s1)

/-- CFG_WRITE (R377, R497): one that an owning chapter answers otherwise applies no word. -/
def cfgWrite (addr : Nat) (words : List Nat) (s : State) : Ans :=
  let ws := addressed addr words
  if !countOk words || !ws.all writeOk then refuse St.badParam s
  else if ws.any (fun e => writeUnreachable s e.1) then refuse St.badState s
  else
    let (st, s1) := writeWords ws s
    if st = St.ok then answer [byte words.length] s1 else refuse st s

/-! ### Events (R382, R398 to R400) -/

/-- The sources of a range. -/
def evtRange (first count : Nat) : List Nat := (List.range count).map (first + ·)

/-- EVT_READ (R382). -/
def evtRead (first count : Nat) (s : State) : Ans :=
  if count = 0 || 64 < count || 544 < first + count then refuse St.badParam s
  else
    answer (leBytes 2 first ++ [byte count] ++ (evtRange first count).flatMap (fun i =>
      [byte (s.get (Reg.LATCHED i) + 2 * s.get (Reg.MASKED i) + 4 * s.get (Reg.CNT_SAT i) + 8 * s.get (Reg.ACTIVE i)
        + 16 * s.get (Reg.SEV i)), 0] ++ leBytes 2 (s.get (Reg.COUNT i)) ++ leBytes 4 (s.get (Reg.EVT_LAST_LAST_SPAN i)))) s

/-- EVT_ACK (R400). DEDUCED (log entry 76). -/
def evtAck (first count : Nat) (s : State) : Ans :=
  if count = 0 || 544 < first + count then refuse St.badParam s
  else
    let inR (i : Nat) : Bool := first ≤ i && i < first + count
    let set := (evtRange first count).filter (fun i => s.flag (Reg.LATCHED i))
    let s1 := set.foldl (fun t i => t.put (Reg.LATCHED i) 0) s
    let s2 := { s1 with evt := { s1.evt with
      windows := s1.evt.windows.filter (fun e => !e.2.any (fun (w : Window) => inR w.opener)),
      latch := kvDrop (fun i => i < 480 && inR i) s1.evt.latch } }
    answer (leBytes 2 set.length) (s2.when (s2.evt.wakeSrcs.any inR) releaseWake)

/-- EVT_MASK (R399). -/
def evtMask (first count : Nat) (mask : List Byte) (s : State) : Ans :=
  if count = 0 || 64 < count || 544 < first + count || mask.length != (count + 7) / 8 then refuse St.badParam s
  else answer [] ((List.range count).foldl (fun t i => t.putFlag (Reg.MASKED (first + i)) (bit (leNat mask) i)) s)

/-! ### SHUTDOWN (R380, R473) -/

def shutdownCmd (selftest : Bool) (s : State) : Ans :=
  if swapDue s || s.host.xfer.isSome then refuse St.badState s
  else answer [] { s with start := { s.start with shutdown := some (s.clk.span, selftest) } }

/-! ### Every opcode -/

/-- A command with parameters that break its layout (R359): the reply of BAL_SET and of THERM_SET has its fixed layout in a refusal too. DEDUCED (log entry 77). -/
def badLayout (op : Nat) (s : State) : Ans :=
  if op = 0x7F && !admitsTest s then refuse St.lifecycle s
  else if op = 0x31 then ⟨St.badParam, balReply 0 0, s⟩
  else if op = 0x33 then ⟨St.badParam, thermReply (s.get Reg.TO_STATE) 0, s⟩
  else refuse St.badParam s

/-- What a command answers and does, apart from its sequence number. -/
def runCmd (c : Cmd) (m : Meta) (s : State) : Ans :=
  match c with
  | .ping e => if 43 < e.length then refuse St.badParam s else pingCmd e s
  | .ident => identCmd s
  | .seqstate => seqstateCmd m s
  | .replay f n => replayCmd m f n s
  | .cfgRead a n sh => cfgRead m.src a n sh s
  | .cfgWrite a ws => cfgWrite a ws s
  | .cfgStage a ws => cfgStage m.src a ws s
  | .cfgCommit t ce e => cfgCommit m t ce e s
  | .cfgDiscard t => cfgDiscard m.src t s
  | .snap t => snapCmd m t s
  | .readCells r k sub f n => readCells m.src r k sub f n s
  | .readCurrent r => readCurrent m.src r s
  | .readTemps r f n => readTemps m.src r f n s
  | .readAnalysis sl c => readAnalysis m.src sl c s
  | .lease cl d => if 65535 < d then refuse St.badParam s else leaseCmd m.src cl d s
  | .balRun mask t => balSet 0 m.src mask t s
  | .balStop mask => balSet 1 m.src mask 0 s
  | .balResume mask => balSet 2 m.src mask 0 s
  | .exciteStart t cells klo khi amp reps => exciteStartCmd m t cells klo khi amp reps s
  | .exciteStop => exciteStopCmd s
  | .thermSet src d => thermSet 0 m.src src d s
  | .thermStop => thermSet 1 m.src 0 0 s
  | .thermRetry => thermSet 2 m.src 0 0 s
  | .evtRead f n => evtRead f n s
  | .evtAck f n => evtAck f n s
  | .evtMask f n mask => evtMask f n mask s
  | .mode t new => modeCmd m t new s
  | .shutdown st => shutdownCmd st s
  | .txBegin x tg len crc => txBegin x m.src tg len crc s
  | .txData x off d => txData x m.src off d s
  | .txEnd x => txEnd x m.src s
  | .txAbort x => txAbort x m.src s
  | .jobResult sl => jobResult sl s
  | .nvRead r off len => nvRead r off len s
  | .fwSwap t v => fwSwapCmd m t v s
  | .lifecycle tg st code => lifecycleCmd m tg st code s
  | .test fn args => testCmd fn args s
  | .bad op => badLayout op s
  | .unknown _ => refuse St.badOpcode s

/-- The opcodes that the rescue firmware answers (R469). -/
def rescueAdmits (op : Nat) : Bool := [0x01, 0x02, 0x03, 0x10, 0x40, 0x41, 0x78, 0x79, 0x51].contains op

/-- What a command answers and does under the firmware that runs: the rescue firmware answers the other opcodes with BAD_STATE (R469). DESIGN CHOICE (log entry 19). DEDUCED (log entry 77). -/
def obey (c : Cmd) (m : Meta) (s : State) : Ans :=
  if s.flag Reg.RESCUE && !rescueAdmits c.op then
    let a := runCmd c m s
    if a.status = St.badOpcode || a.status = St.lifecycle || a.status = St.badParam then a else refuse St.badState s
  else runCmd c m s

/-! ### Sequence numbers (R361 to R364) -/

/-- The class of a received HSEQ (R361). -/
inductive HClass where
  | next
  | ahead (d : Nat)
  | again
  | stale (d : Nat)
deriving DecidableEq, Repr

/-- Classify the difference `d` from a counter; a counter that is not valid makes every HSEQ NEXT (R364). -/
def classify (valid : Bool) (d : Nat) : HClass :=
  if !valid || d = 1 then .next
  else if 2 ≤ d && d ≤ 32768 then .ahead d
  else if d = 0 || 65529 ≤ d then .again
  else .stale d

/-- The waiting commands of a source and kind. -/
def waitingOf (src : Nat) (bcast : Bool) (s : State) : List Waiting :=
  s.host.fwq.filter (fun w => w.who.src == src && w.who.bcast == bcast)

/-- The counter that a HSEQ is measured against, and whether it is valid (R361, R364). -/
def lastSeen (src : Nat) (bcast : Bool) (s : State) : Bool × Nat := ((s.seqSt (seqIdx src bcast)).valid, s.get (seqField src bcast))

/-- The host sequence gap event (R391). -/
def gapEvent (m : Meta) (stale : Bool) (detail : Nat) (s : State) : State :=
  raise 485 (m.src % 4 + 4 * b01 m.bcast + 8 * b01 stale + 65536 * detail) (s.bump Reg.GAP_COUNT)

/-- A STALE command, or a REPEAT that is not in the cache: SEQ_GAP with the counter's value (R361, R363). -/
def staleReply (m : Meta) (d : Nat) (s : State) : State :=
  let s1 := gapEvent m true (65536 - d) s
  sendReply m St.seqGap (leBytes 2 (s1.get (seqField m.src m.bcast))) s1

/-- Record an answered HSEQ and cache its reply (R362, R363): an answer that comes after a later one leaves the counter. DEDUCED (log entry 73). -/
def record (c : Cmd) (m : Meta) (status : Nat) (data : List Byte) (s : State) : State :=
  let i := seqIdx m.src m.bcast
  let q := s.seqSt i
  let f := seqField m.src m.bcast
  let back := q.valid && 32768 < (m.hseq + 65536 - s.get f) % 65536 && c != .seqstate
  let cache := q.cache.filter (fun x => x.hseq != m.hseq) ++ [⟨m.hseq, status, data⟩]
  (if back then s else s.put f m.hseq).setSeqSt i ⟨true, cache.drop (cache.length - 8)⟩

/-- The recorded answer of a HSEQ, where the cache of its source and kind still holds it (R363). -/
def cached (m : Meta) (s : State) : Option Cached := (s.seqSt (seqIdx m.src m.bcast)).cache.find? (fun x => x.hseq == m.hseq)

/-- Execute a command, record it unless it is answered BUSY, and reply (R358, R362). DESIGN CHOICE (log entry 19). -/
def carryOut (c : Cmd) (m : Meta) (s : State) : State :=
  let a := obey c m s
  let s1 := if a.status = St.busy then a.st else record c m a.status a.data a.st
  sendReply m a.status a.data s1

/-- Execute a repeated read again: its answer is not recorded again (R363). -/
def carryAgain (c : Cmd) (m : Meta) (s : State) : State :=
  let a := obey c m s
  sendReply m a.status a.data a.st

/-- Execute an executable command, or let it wait: the fast path answers as the command arrives; the firmware path takes the commands in
order, and a command that finds 16 waiting is answered BUSY by hardware (R366). DESIGN CHOICE (log entry 5). -/
def dispatch (queue again : Bool) (c : Cmd) (m : Meta) (s : State) : State :=
  if c.fast || (s.host.fwq.length = 0 && !queue) then (if again then carryAgain c m s else carryOut c m s)
  else if 16 ≤ s.host.fwq.length then sendReply m St.busy [] s
  else { s with host := { s.host with fwq := s.host.fwq ++ [⟨m, c, again⟩] } }

/-- A REPEAT (R361, R363): a read is executed again in its turn (R366). DEDUCED (log entry 73). -/
def repeated (queue : Bool) (c : Cmd) (m : Meta) (d : Nat) (s : State) : State :=
  if m.bcast then s
  else
    match cached m s with
    | none => staleReply m d s
    | some x => if c.isRead then dispatch queue true c m s else sendReply m x.status x.data s

/-- The source, the HSEQ and the port of a command are ones that a module can meet (R360). DEDUCED (log entry 73). -/
def metaOk (m : Meta) : Bool := m.src < 4 && m.hseq < 65536 && m.port < 2

/-- A command arrives (R361). A repeat of one that is still to be executed is not answered (R362); SEQSTATE is answered whatever its class (R364). DESIGN CHOICE (log entry 5). DEDUCED (log entry 73). -/
def receive (queue : Bool) (c : Cmd) (m : Meta) (s : State) : State :=
  if !s.ready || !metaOk m || (waitingOf m.src m.bcast s).any (fun w => w.who.hseq == m.hseq) then s
  else
    let (v, n) := lastSeen m.src m.bcast s
    let d := (m.hseq + 65536 - n) % 65536
    match classify v d with
    | .next => dispatch queue false c m s
    | .ahead d => dispatch queue false c m (gapEvent m false (d - 1) s)
    | .again => if c = .seqstate then dispatch queue false c m s else repeated queue c m d s
    | .stale d => if c = .seqstate then dispatch queue false c m (gapEvent m true (65536 - d) s) else staleReply m d s

/-- The management processor takes the oldest waiting command (R366). DESIGN CHOICE (log entry 3). DESIGN CHOICE (log entry 5). -/
def serveOldest (s : State) : State :=
  match s.host.fwq with
  | [] => s
  | w :: ws =>
    let t := { s with host := { s.host with fwq := ws } }
    if w.again then carryAgain w.cmd w.who t else carryOut w.cmd w.who t

/-! ### The rows of the opcode table -/

/-- A command whose HSEQ is NEXT or AHEAD and that meets an idle management processor executes at once. DESIGN CHOICE (log entry 5). -/
def host (c : Cmd) (m : Meta) (s : State) : Out := done (receive false c m s)

def execPing (m : Meta) (echo : List Byte) (s : State) : Out := host (.ping echo) m s
def execIdent (m : Meta) (s : State) : Out := host .ident m s
def execSeqstate (m : Meta) (s : State) : Out := host .seqstate m s
def execReplay (m : Meta) (first count : Nat) (s : State) : Out := host (.replay first count) m s
def execCfgRead (m : Meta) (addr count : Nat) (shadow : Bool) (s : State) : Out := host (.cfgRead addr count shadow) m s
def execCfgWrite (m : Meta) (addr : Nat) (words : List Nat) (s : State) : Out := host (.cfgWrite addr words) m s
def execCfgStage (m : Meta) (addr : Nat) (words : List Nat) (s : State) : Out := host (.cfgStage addr words) m s
def execCfgCommit (m : Meta) (at_ : Target) (checkExp : Bool) (expected : Nat) (s : State) : Out :=
  host (.cfgCommit at_ checkExp expected) m s
def execCfgDiscard (m : Meta) (at_ : Target) (s : State) : Out := host (.cfgDiscard at_) m s
def execSnap (m : Meta) (at_ : Target) (s : State) : Out := host (.snap at_) m s
def execReadCells (m : Meta) (rdSrc kind sub first count : Nat) (s : State) : Out := host (.readCells rdSrc kind sub first count) m s
def execReadCurrent (m : Meta) (rdSrc : Nat) (s : State) : Out := host (.readCurrent rdSrc) m s
def execReadTemps (m : Meta) (rdSrc first count : Nat) (s : State) : Out := host (.readTemps rdSrc first count) m s
def execReadAnalysis (m : Meta) (slot cell : Nat) (s : State) : Out := host (.readAnalysis slot cell) m s
def execLease (m : Meta) (cls duration : Nat) (s : State) : Out := host (.lease cls duration) m s
def execLeaseRevoke (m : Meta) (cls : Nat) (s : State) : Out := host (.lease cls 0) m s
def execBalSetRun (m : Meta) (mask target : Nat) (s : State) : Out := host (.balRun mask target) m s
def execBalSetStop (m : Meta) (mask : Nat) (s : State) : Out := host (.balStop mask) m s
def execBalSetResume (m : Meta) (mask : Nat) (s : State) : Out := host (.balResume mask) m s
def execExciteStart (m : Meta) (at_ : Target) (cells klo khi amp reps : Nat) (s : State) : Out :=
  host (.exciteStart at_ cells klo khi amp reps) m s
def execExciteStop (m : Meta) (s : State) : Out := host .exciteStop m s
def execThermSetSet (m : Meta) (src demand : Nat) (s : State) : Out := host (.thermSet src demand) m s
def execThermSetStop (m : Meta) (s : State) : Out := host .thermStop m s
def execThermSetRetry (m : Meta) (s : State) : Out := host .thermRetry m s
def execEvtRead (m : Meta) (first count : Nat) (s : State) : Out := host (.evtRead first count) m s
def execEvtAck (m : Meta) (first count : Nat) (s : State) : Out := host (.evtAck first count) m s
def execEvtMask (m : Meta) (first count : Nat) (mask : List Byte) (s : State) : Out := host (.evtMask first count mask) m s
def execMode (m : Meta) (at_ : Target) (mode : Nat) (s : State) : Out := host (.mode at_ mode) m s
def execShutdown (m : Meta) (selftest : Bool) (s : State) : Out := host (.shutdown selftest) m s
def execJobLoadBegin (m : Meta) (target length crc : Nat) (s : State) : Out := host (.txBegin .jobLoad target length crc) m s
def execJobLoadData (m : Meta) (offset : Nat) (data : List Byte) (s : State) : Out := host (.txData .jobLoad offset data) m s
def execJobLoadEnd (m : Meta) (s : State) : Out := host (.txEnd .jobLoad) m s
def execJobLoadAbort (m : Meta) (s : State) : Out := host (.txAbort .jobLoad) m s
def execJobResult (m : Meta) (slot : Nat) (s : State) : Out := host (.jobResult slot) m s
def execNvRead (m : Meta) (record offset length : Nat) (s : State) : Out := host (.nvRead record offset length) m s
def execNvAppendBegin (m : Meta) (target length crc : Nat) (s : State) : Out := host (.txBegin .nvAppend target length crc) m s
def execNvAppendData (m : Meta) (offset : Nat) (data : List Byte) (s : State) : Out := host (.txData .nvAppend offset data) m s
def execNvAppendEnd (m : Meta) (s : State) : Out := host (.txEnd .nvAppend) m s
def execNvAppendAbort (m : Meta) (s : State) : Out := host (.txAbort .nvAppend) m s
def execFwStageBegin (m : Meta) (target length crc : Nat) (s : State) : Out := host (.txBegin .fwStage target length crc) m s
def execFwStageData (m : Meta) (offset : Nat) (data : List Byte) (s : State) : Out := host (.txData .fwStage offset data) m s
def execFwStageEnd (m : Meta) (s : State) : Out := host (.txEnd .fwStage) m s
def execFwStageAbort (m : Meta) (s : State) : Out := host (.txAbort .fwStage) m s
def execFwSwap (m : Meta) (at_ : Target) (version : Nat) (s : State) : Out := host (.fwSwap at_ version) m s
def execLifecycle (m : Meta) (target step code : Nat) (s : State) : Out := host (.lifecycle target step code) m s
def execTestLogic (m : Meta) (mask : Nat) (s : State) : Out := host (.test 1 (leBytes 4 mask)) m s
def execTestMarch (m : Meta) (mask : Nat) (s : State) : Out := host (.test 2 (leBytes 4 mask)) m s
def execTestReadmit (m : Meta) (cubit : Nat) (s : State) : Out := host (.test 3 [byte cubit]) m s
def execTestConvClear (m : Meta) (tier mask : Nat) (s : State) : Out := host (.test 4 (byte tier :: leBytes 3 mask)) m s
def execTestRecal (m : Meta) (tier : Nat) (s : State) : Out := host (.test 5 [byte tier]) m s
def execTestRestart (m : Meta) (s : State) : Out := host (.test 6 []) m s
def execTestScan (m : Meta) (enable : Nat) (s : State) : Out := host (.test 7 [byte enable]) m s

/-- SEC_URGENT_WRITE (R127): a CFG_WRITE of `SEC_URGENT`. -/
def execSecUrgentWrite (m : Meta) (tier value : Nat) (s : State) : Out := host (.cfgWrite (Wd.SEC_URGENT tier) [value]) m s

/-- DISC_HW_CLR_WRITE (R133). -/
def execDiscHwClrWrite (m : Meta) (tier value : Nat) (s : State) : Out := host (.cfgWrite (Wd.DISC_HW_CLR tier) [value]) m s

/-- ENUM_GO (R351): on a module that is not a head it has no effect. -/
def execEnumGo (m : Meta) (s : State) : Out := host (.cfgWrite Wd.CHN_CMD [1]) m s

/-- CNT_CLR (R351). -/
def execCntClr (m : Meta) (s : State) : Out := host (.cfgWrite Wd.CHN_CMD [2]) m s

/-- EVT_CLR (R401). -/
def execEvtClr (m : Meta) (first count : Nat) (s : State) : Out :=
  host (.cfgWrite Wd.EVT_CLR [first % 1024 + 1024 * (count % 1024) + 2 ^ 31]) m s

/-- BCN_ACK (R403). -/
def execBcnAck (m : Meta) (s : State) : Out := host (.cfgWrite Wd.BCN_ACK [1]) m s

/-- TWC_GO (R451). -/
def execTwcGo (m : Meta) (addr : Nat) (pec : Bool) (wlen rlen : Nat) (s : State) : Out :=
  host (.cfgWrite Wd.TWC_CTRL [addr % 128 + 128 * b01 pec + 256 * (wlen % 32) + 8192 * (rlen % 32) + 2 ^ 31]) m s

/-- TB_NOW_CAPTURE (R68): a CFG_READ of `TB_NOW_LO`. -/
def execTbNowCapture (m : Meta) (s : State) : Out := host (.cfgRead Wd.TB_NOW_LO 1 false) m s

/-- CHG_NET_CAPTURE (R176): a CFG_READ of `CHG_NET_LO`. -/
def execChgNetCapture (m : Meta) (s : State) : Out := host (.cfgRead Wd.CHG_NET_LO 1 false) m s

end Sys2Proof.Machine
end

