-- ==== Sys2Proof/Machine/Marks.lean ====
section
/-!
DEFINITION. The span mark (R43, R48, R54): what ends with a span and begins with the next; the forward jump (R48, R62, R67); unit 0's
check at grain 0 (R388); the swap of the result banks with the header, the snapshot copy and the span reports (R369, R378, R505 to R513).
-/

namespace Sys2Proof.Machine

/-! ### Unit 0 (R388) -/

/-- The CRC of a part as its holder computes it now. -/
def partCrc (s : State) (p : Nat) : Nat := crc16 (setImage (fun a => partOf a == p) s.word)

/-- A committed set to compare with exists: a commit or a CONFIG record has given the part CRCs. -/
def setKnown (s : State) : Bool := (tunLatest s 0x04).isSome || (List.range 7).any (fun p => s.get (Reg.PART_EXPECT p) != 0)

/-- A mismatch of unit 0 (R388, R391), reported once until the part matches again. DEDUCED (log entry 18). -/
def partMismatch (p : Nat) (told : Bool) (s : State) : State :=
  let s1 := s.put (Reg.CV_MISMATCH 0) 1
  if told then s1 else raise 505 (p + 65536 * s.get (Reg.PART_NOW p)) s1

/-- Unit 0 and the base die's part. DEDUCED (log entry 18). -/
def checkBase (s : State) : State :=
  let bad := s.get (Reg.PART_NOW 0) != s.get (Reg.PART_EXPECT 0)
  let told := kvGet (fun _ => 0) s.host.cvEvt 0 != 0
  let s1 := if bad then partMismatch 0 told s else s
  { s1 with host := { s1.host with cvEvt := kvSet (fun _ => 0) s1.host.cvEvt 0 (b01 bad) } }

/-- Unit 0 and the part of tier `k`: a part delivered again is applied first. DEDUCED (log entry 18). -/
def checkTier (k : Nat) (s : State) : State :=
  let told := (s.tl k).partDiff
  let s1 := if told && !(s.tl k).held.isEmpty then redeliver k s else s
  let s2 := s1.put (Reg.PART_NOW (1 + k)) (partCrc s1 (1 + k))
  let bad := s2.get (Reg.PART_NOW (1 + k)) != s2.get (Reg.PART_EXPECT (1 + k))
  let s3 := if bad then partMismatch (1 + k) told s2 else s2
  s3.setTl k { s3.tl k with partDiff := bad }

/-- Unit 0 at grain 0 of a span. DEDUCED (log entry 18). -/
def unitZero (s : State) : State :=
  if !setKnown s then s
  else
    let s1 := checkBase (s.put (Reg.PART_NOW 0) (partCrc s 0))
    let s2 := s1.each ((List.range 6).filter (fun k => s1.linkUp k && !(s1.tl k).calibrating)) checkTier
    let s3 := s2.put (Reg.CV_RESULT 0) (crc16 (setImage (fun _ => true) s2.word))
    s3.when ((List.range 7).any (fun p => s3.get (Reg.PART_NOW p) != s3.get (Reg.PART_EXPECT p))) (fun t => t.bump (Reg.MISMATCH_COUNT 0))

/-! ### The mark in a tier (R54) -/

/-- The instants that tier `k` holds move with its count over a forward jump by `d` spans (R48): what lies between them stays. -/
def shiftTier (k d : Nat) (s : State) : State :=
  let q := s.pr k
  let up (m : KV Nat) : KV Nat := m.map (fun e => (e.1, e.2 + 4096 * d))
  s.setPr k { q with rawTo := q.rawTo + 4096 * d, subDone := q.subDone + 4096 * d, sincFrom := q.sincFrom + 4096 * d,
                     notchFrom := q.notchFrom + 4096 * d, postFrom := q.postFrom + 4096 * d, cellFrom := up q.cellFrom, cellPost := up q.cellPost,
                     post := q.post.map (fun e => (e.1, { e.2 with upTo := e.2.upTo + 4096 * d })),
                     taps := q.taps.map (fun e => (e.1, e.2 + 4096 * d)),
                     audit := q.audit.map (fun a => { a with from_ := a.from_.map (· + d), next := a.next.map (fun x => (x.1, x.2 + d)) }),
                     moves := q.moves.map (fun m => { m with span := m.span + d }),
                     serve := q.serve.map (fun e => (e.1, { e.2 with down := e.2.down.map (· + 4096 * d), from_ := e.2.from_.map (· + d) })),
                     drawAt := q.drawAt + d, mAt := q.mAt + 4096 * d }

/-- So do those of its sequencer. -/
def shiftSeq (k d : Nat) (s : State) : State :=
  let up (t : SubTime) : SubTime := (t.1 + 4096 * d, t.2)
  let conv (v : Conv) : Conv := { v with parts := v.parts.map (fun g => { g with at_ := up g.at_ }) }
  let q := s.sq k
  s.setSq k { q with endAt := up q.endAt, freeAt := up q.freeAt, cycleFrom := q.cycleFrom.map up, run := q.run.map conv,
                     serving := q.serving.map conv, refAt := q.refAt + d }

/-- Runs that STORE counted in records go on in grains, with the time that has elapsed in them (R130, R136). -/
def leaveStoreRuns (k : Nat) (s : State) : State :=
  let q := s.sq k
  let d := s.tierAt k - q.storeT
  s.setSq k { q with runs := q.runs.map (fun e => (e.1, { e.2 with first := e.2.first + d, last := e.2.last + d, sFirst := e.2.sFirst + d,
                                                                   lastT := e.2.lastT.map (· + d) })) }

/-- The instants that tier `k` holds move with its count over a forward jump by `d` spans. -/
def shiftSpans (k d : Nat) (s : State) : State := shiftSeq k d (shiftTier k d s)

/-- A forward jump over `d` span numbers is reported and counted (R48, R69). -/
def jumpEvent (d : Nat) (s : State) : State := tbEvent 4 (min d (2 ^ 24 - 1)) (s.bump Reg.JUMP_COUNT)

/-- Tier `k` takes the number `n` after its span: its count never goes back (R48, R50). A tier that jumps forward by itself raises SPAN_JUMP.
DEDUCED (log entry 13). -/
def numberTier (k n : Nat) (s : State) : State :=
  let old := (s.tl k).span
  let s1 := s.setTl k { s.tl k with span := max old n, jumped := decide (old + 1 < n) }
  s1.when (old + 1 < n) (fun t => jumpEvent (n - (old + 1)) (shiftSpans k (n - (old + 1)) t))

/-- The span of tier `k` closes at the mark, and the tier takes the number. DEDUCED (log entry 13). -/
def countTier (k : Nat) (s : State) : State :=
  let l := s.tl k
  let closes := l.span < s.clk.span && !l.store && !l.calibrating
  let s1 := (s.setTl k { l with closed := if closes then some (closeNow s k) else none, evts := if closes then l.evts.filter (fun e => l.span < e.stamp.span) else [],
                                cold := false, store := false, lowSpan := !(l.lane0 && l.lane1) }).setPr k { s.pr k with stepG := 0, before := 0 }
  let s2 := numberTier k s.clk.span s1
  s2.when l.store (fun u => seqRestart k (leaveStoreRuns k (restartAll k (u.tierAt k) (updateNotch k u))))

/-- The time base of tier `k` at a mark of which its own mark is `e` late, 1/16 grain (R42, R44, R50, R54): the marks stand for the source,
and the period of the span that begins came with the mark. DEDUCED (log entry 13). -/
def followMark (k : Nat) (e : Int) (s : State) : State :=
  let l := s.tl k
  let src := s.tb.period
  match l.tstate with
  | 2 => if 1024 < e.natAbs then tierLoses k s else pullTier (followed src e) k s
  | 1 =>
    let p := pulled src e
    pullTier p k (s.setTl k { l with tstate := if e.natAbs ≤ 1 && near100 p src then 2 else 1 })
  | _ =>
    if 1 ≤ l.marks then changeTier src 0 k (s.setTl k { l with tstate := 1, tcount := 0, marks := 0 })
    else s.setTl k { l with marks := l.marks + 1 }

/-- The tier takes the base die's state and count with the mark. DEDUCED (log entry 13). -/
def markState (k : Nat) (s : State) : State :=
  s.setTl k { s.tl k with mstate := s.get Reg.STATE, mcount := s.get Reg.HOLDOVER_COUNT, mtq := timeQualified s }

/-! ### The mark -/

/-- The span number goes up by one, and the grains start again. DEDUCED (log entry 78). -/
def nextSpan (s : State) : State :=
  { s with clk := ⟨s.clk.span + 1, 0⟩,
           tb := { s.tb with jumped := false, markPrev := s.tb.markNow, stepPrev := s.tb.stepNow.isSome, stepNow := none } }

/-- The stamp of the span in progress is taken. -/
def takeMark (s : State) : State := { s with tb := { s.tb with markNow := s.stampAt 0 } }

/-- The measured rails, mV (R441). -/
def showRails (vcore vio aux : Nat) (s : State) : State :=
  ((s.put Reg.VCORE_MV (min 2047 vcore)).put Reg.VIO_MV (min 2047 vio)).put Reg.AUX_MV (min 2047 aux)

/-- The mark of a module whose base die runs the time base: the tiers count and close their spans, the time base takes the mark, and
the tiers follow it with the period and the state that the mark brings. -/
def markBase (phase : MarkPhase) (vcore vio aux : Nat) (temps : List Int) (s : State) : State :=
  let links := (List.range 6).filter s.linkUp
  let s1 := (nextSpan s).each links countTier
  let s2 := takeMark (((tbAtMark phase.base s1).each links (fun k t => followMark k (phase.tiers.getD k 0) t)).each links markState)
  let s3 := excGuard (noteCalTemp <| baseTemps temps (cbAtMark (showRails vcore vio aux s2)))
  let s4 := if s.get Reg.EXC_STATE = 3 then s3.put Reg.EXC_STATE 0 else s3
  cancelUnqualified (unitZero s4)

/-- SPAN_MARK (R43, R48, R54): the
rails and the base die's temperatures are its housekeeping results. The grains of the span that are left pass with the mark (R43). While the base die does not run the time base the tiers close their own spans (R54), and in STORE the grains
stand (R51). DEDUCED (log entry 78). -/
def execSpanMark (phase : MarkPhase) (vcore vio aux : Nat) (temps : List Int) (s : State) : Out :=
  if s.tbUp then done (markBase phase vcore vio aux temps s)
  else if s.pwr.phase = .store then done s
  else done (nextSpan s)

/-- Instants of the time base and of the schedule that are counted in spans that pass, and not by number, move over a jump (R44, R67). -/
def shiftBase (d : Nat) (s : State) : State :=
  { s with tb := { s.tb with preAt := s.tb.preAt + 4096 * d },
           host := { s.host with sched := s.host.sched.map (fun e => if e.pending && !e.named then { e with since := e.since + d } else e) } }

/-- The periodic write of the span number is due (R49): 2^20 spans beyond the latest record. -/
def spanWriteDue (s : State) : Bool := ((tunLatest s 0x01).map (fun r => par r.body 0 6)).getD 0 + 2 ^ 20 ≤ s.clk.span

/-- SPAN_JUMP (R48, R49, R62, R67): at the mark, the number that an increment by one gave is replaced by the higher one. A jump to a number at
which the periodic write of R49 is due brings it. DEDUCED (log entry 52). DEDUCED (log entry 78). -/
def execSpanJump (s : State) : Out :=
  match s.tb.jumpTo with
  | none => done s
  | some (n, from_) =>
    if !s.tbUp || s.clk.grain != 0 || s.clk.span < from_ then done s
    else if n ≤ s.clk.span then done { s with tb := { s.tb with jumpTo := none } }
    else
      let old := s.clk.span
      let s1 := { s with clk := ⟨n, 0⟩, tb := { s.tb with jumpTo := none, jumped := true } }
      let s2 := s1.each ((List.range 6).filter (fun k => s1.linkUp k && (s1.tl k).span == old)) (fun k t =>
        shiftSpans k (n - old) (t.setTl k { t.tl k with span := n, jumped := true }))
      let s3 := jumpEvent (n - old) (takeMark (shiftBase (n - old) s2))
      let s4 := cancelUnqualified (cancelSkipped (old - 1) s3)
      done (s4.when (spanWriteDue s4) writeSpanMark)

/-! ### The swap (R504 to R513) -/

/-- The temperature words as at the end of the span (R506). -/
def fileTemps (s : State) (b : Bank) : Bank := (List.range 242).foldl (fun b i => bankPut (0x800 + 4 * i) (tempWord s i) b) b

/-- The stamp of the span that a bank holds, and whether a frequency step fell in it. -/
def spanStamp (s : State) (span : Nat) : Stamp × Bool :=
  if s.tb.markNow.span = span then (s.tb.markNow, s.tb.stepNow.isSome)
  else ({ s.tb.markPrev with span := span }, s.tb.stepPrev)

/-- The HEADER block of the bank that completes (R507). -/
def fileHeader (s : State) (gen defer : Nat) (b : Bank) : Bank :=
  let (t, step) := spanStamp s b.span
  let w := stampWord { t with grain := 0 }
  let flags := b.tiers % 64 + 64 * b01 t.tq + 128 * b01 step + 256 * b01 (!s.win.swapped)
  bankPut 16 (defer % 65536) (bankPut 12 (gen % 2 ^ 32) (bankPut 8 (b.n + 65536 * flags) (bankPut 4 (w / 2 ^ 32) (bankPut 0 (w % 2 ^ 32) b))))

/-- A block of a bank is copied within it. -/
def copyBlock (from_ to_ words : Nat) (b : Bank) : Bank :=
  (List.range words).foldl (fun b i => bankPut (to_ + 4 * i) (bankWord b (from_ + 4 * i)) b) b

/-- The results of the span enter the snapshot blocks (R378, R510). -/
def fileSnap (b : Bank) : Bank :=
  copyBlock 0x800 0x20400 242 (copyBlock 0x300 0x20200 12 (copyBlock 0x40 0x20010 108 (bankPut 0x20008 1 (copyBlock 0 0x20000 2 b))))

/-- The deferral that the swap shows, 10 ns: the whole grain where a block is still open, else until the last block closed (R513). DEDUCED (log entry 79). -/
def deferral (given : Nat) (s : State) : Nat :=
  let grain := min 65535 (s.tb.period / 16384)
  let open_ := s.win.holds.any (fun e => e.2.any (fun h => h.isOpen && s.clk.span * 4096 ≤ h.opened))
  if open_ then grain else min given grain

/-- Results of the new span that waited for the swap are filed (R505). DEDUCED (log entry 79). -/
def fileEarly (s : State) : State :=
  let l := s.win.early
  l.foldl (fun t e => fileItem e.1 { e.2 with temps := [] } t) { s with win := { s.win with early := [] } }

/-- The span reports (R368, R369). -/
def spanReports (s : State) : State :=
  let p := s.win.completed.span
  let due := p % s.get Reg.RPT_DIV = 0
  let s1 := if s.flag Reg.RPT_CELLS && due then issueReport 0x03 (reportDests s) (cellsData s 0 (s.get Reg.CELL_FMT) 0 0 108) s else s
  let s2 := if s.flag Reg.RPT_CUR && due && s.get Reg.I_SRC != 3 then issueReport 0x04 (reportDests s1) (currentData s1 0) s1 else s1
  if s.flag Reg.RPT_TEMPS && p % s.get Reg.TEMPS_DIV = 0 then issueReport 0x05 (reportDests s2) (tempsData s2 0 0 242) s2 else s2

/-- The swap of the banks: the filling bank becomes the completed one, and the other is preset. -/
def swapBanks (given : Nat) (s : State) : State :=
  let d := deferral given s
  let gen := (s.win.gen + 1) % 2 ^ 32
  let span := s.win.filling.span
  let b := fileHeader s gen d (fileTemps s s.win.filling)
  let snaps := s.win.snapArm.filter (fun e => e.1.span == span)
  let b1 := if snaps.isEmpty then b else fileSnap b
  let s1 := { s with win := { s.win with completed := b1, filling := freshBank s b1, swapped := true, gen := gen,
                                         snapArm := s.win.snapArm.filter (fun e => e.1.span != span) } }
  let s2 := s1.when (d != 0) (fun t => t.bump Reg.DEFER_COUNT)
  let s3 := snaps.foldl (fun t e => complete e.1 0x20 St.ok e.2 0 span t) (fileEarly s2)
  s3.when s3.ready spanReports

/-- BANK_SWAP (R505, R513): at grain 32 of the new span or later, once per span; `given` is the time in 10 ns by which an open block
deferred the swap. DEDUCED (log entry 4). DEDUCED (log entry 79). -/
def execBankSwap (given : Nat) (s : State) : Out :=
  if s.tbUp && s.win.filling.preset && s.win.filling.span < s.clk.span then done (swapBanks given (s.passGrain 32)) else done s

end Sys2Proof.Machine
end

