-- ==== Sys2Proof/Machine/EventRows.lean ====
section
/-!
DEFINITION. The event system's own rows (R397, R398, R407, R412, R416) and the passes of check-value units 1 to 3 (R389).
-/

namespace Sys2Proof.Machine

/-! ### Raises, windows, latches (R397, R398, R407) -/

/-- The stamp of a raise by its maker (R52): its tier, or the base die. -/
def makerStamp (src span grain : Nat) (s : State) : Stamp :=
  if src < 480 then tierStamp s (tierOfSource src) span grain else stampOf s span grain

/-- EVENT_RAISE (R397): the base die processes a raise that reaches it, stamped by its maker; one of a tier source stands in its tier's
event latch (R29). Sources 516 to 543 are never raised (R394). DEDUCED (log entry 76). -/
def execEventRaise (src value span grain : Nat) (late summary : Bool) (s : State) : Out :=
  if s.ready && src < 516 then
    let t := makerStamp src span (grain % 4096) s
    done (raiseAt src (value % 2 ^ 32) t late summary (s.when (src < 480 && !summary) (latchNote src t false)))
  else done s

/-- EVENT_WINDOW_EXPIRY (R407): a window closes `HWIN` spans after it opened. -/
def execEventWindowExpiry (s : State) : Out :=
  let lapsed (c : Nat) : Bool := (s.window c).any (fun w => w.opened + s.get Reg.HWIN ≤ s.clk.span)
  if s.ready then done (s.each ((List.range 16).filter lapsed) (fun c t => t.setWindow c none)) else done s

/-- The latch of a source clears by itself now: it does not latch, has no end raises, and its last raise is of a span before. -/
def clearsItself (s : State) (i : Nat) : Bool :=
  s.flag (Reg.LATCHED i) && s.get (Reg.LATCH_EN i) == 0 && !hasEnds i && s.get (Reg.EVT_LAST_LAST_SPAN i) != s.clk.span % 2 ^ 32

/-- LATCH_AUTO_CLEAR (R398). -/
def execLatchAutoClear (s : State) : Out :=
  if s.ready then done (s.each ((listedSources s).filter (clearsItself s)) (fun i t => t.put (Reg.LATCHED i) 0)) else done s

/-! ### Records (R412, R416) -/

/-- The 16 bytes of an event record. -/
def recordBytes (d : Nat) (r : EvtRec) : List Byte :=
  leBytes 2 d
    ++ leBytes 2 (r.src % 1024 + 2 ^ 10 * (r.sev % 4) + 2 ^ 12 * b01 r.late + 2 ^ 13 * b01 r.summary + 2 ^ 14 * b01 r.inWindow
      + 2 ^ 15 * b01 r.cntSat)
    ++ leBytes 4 r.stamp.span
    ++ leBytes 4 (r.stamp.grain % 4096 + 2 ^ 12 * (r.pos % 64) + 2 ^ 18 * b01 r.stamp.tq + 2 ^ 19 * b01 r.stamp.jumped
      + 2 ^ 20 * (r.stamp.tstate % 4))
    ++ leBytes 4 r.value

/-- Source 511, once the queue has room (R415, R416). -/
def overflowRaise (s : State) : State :=
  if s.evt.overflow != 0 && s.evt.queue.length < 256 then
    raise 511 s.evt.overflow { s with evt := { s.evt with overflow := 0 } }
  else s

/-- EVENT_RECORD_ISSUE (R416): the oldest record takes its DSEQ once every destination has room. -/
def execEventRecordIssue (s : State) : Out :=
  match s.evt.queue with
  | [] => done (s.when s.ready overflowRaise)
  | r :: rest =>
    let dests := reportDests s
    if s.ready && dests.all (hasRoom s) then
      done (overflowRaise (issueFrame 0x01 dests (fun d => byte 0x80 :: recordBytes d r) { s with evt := { s.evt with queue := rest } }))
    else done s

/-! ### Check-value passes (R389, R391) -/

/-- A source without a capture of its own: a pass finds the captured words at their Reset values. -/
def noCapture : Nat := 9

/-- The bytes that a pass of unit `u` reads. DEDUCED (log entry 84). -/
def passBytes (u : Nat) (s : State) : List Byte :=
  let base := s.get (Reg.CV_BASE u)
  (List.range (s.get (Reg.CV_LEN u) / 4)).flatMap (fun i =>
    leBytes 4 (if s.get (Reg.CV_SPACE u) = 1 then sharedWord s (base + 4 * i) else readWord noCapture s (base + 4 * i)))

/-- Units 1 to 3 run passes. -/
def isUnit (u : Nat) : Bool := 1 ≤ u && u ≤ 3

/-- CV_PASS_START (R389): at grain 0 of a span whose number is a multiple of `CV_PERIOD`; a pass that still runs goes on. -/
def execCvPassStart (u : Nat) (s : State) : Out :=
  if s.ready && isUnit u && s.flag (Reg.CV_EN u) && s.clk.grain = 0 && s.clk.span % s.get (Reg.CV_PERIOD u) = 0
      && kvGet (fun _ => 0) s.host.cvRun u = 0 then
    done { s with host := { s.host with cvRun := kvSet (fun _ => 0) s.host.cvRun u (s.clk.span + 1) } }
  else done s

/-- The result of a pass is compared with `want` (R389). DEDUCED (log entry 84). -/
def passCompare (u got want : Nat) (s : State) : State :=
  if got = want then { s with host := { s.host with cvEvt := kvSet (fun _ => 0) s.host.cvEvt u 0 } }
  else
    let at_ := kvGet (fun _ => 0) s.host.cvEvt u
    let s1 := (s.put (Reg.CV_MISMATCH u) 1).bump (Reg.MISMATCH_COUNT u)
    if at_ = 0 || at_ + 63 ≤ s.clk.span then
      raise (505 + u) (got % 65536 + 65536 * (want % 65536))
        { s1 with host := { s1.host with cvEvt := kvSet (fun _ => 0) s1.host.cvEvt u (s.clk.span + 1) } }
    else s1

/-- CV_PASS_DONE (R389): the result of the pass, and its comparison; under `CV_CAPTURE` the first one is the reference. DEDUCED (log entry 84). -/
def execCvPassDone (u : Nat) (s : State) : Out :=
  if !s.ready || !isUnit u || kvGet (fun _ => 0) s.host.cvRun u = 0 then done s
  else
    let got := crcBy (s.get (Reg.CV_POLY u)) (passBytes u s)
    let s1 := { s.put (Reg.CV_RESULT u) got with host := { s.host with cvRun := kvSet (fun _ => 0) s.host.cvRun u 0 } }
    if s.flag (Reg.CV_CAPTURE u) then
      if s.flag (Reg.REF_VALID u) then done (passCompare u got (s.get (Reg.CV_REF u)) s1)
      else done ((s1.put (Reg.CV_REF u) got).put (Reg.REF_VALID u) 1)
    else done (passCompare u got (s.get (Reg.CV_EXPECT u)) s1)

end Sys2Proof.Machine
end

