-- ==== Sys2Proof/Machine/HostPort.lean ====
section
/-!
DEFINITION. The host ports (R353 to R356, R446 to R448), what a head does with a frame of its host (R331), the frames that a chain port
receives for this module (R329, R360), and the replay of report frames (R371).
-/

namespace Sys2Proof.Machine

/-! ### Frames of the host (R331, R353) -/

/-- The frame that the bytes of a host spell, if R353 accepts it. -/
def hostFrame (exact : Bool) (bs : List Byte) : Option Frame :=
  match checkFrame exact bs with
  | .good f => if f.ver = 1 && f.ftype = 1 && f.origin = 0 && f.ohead && !f.away then some f else none
  | _ => none

/-- The module's own path out of port `p` for a target `h` hops away: the link is up or may come up, and no known break lies before the
target. In a dual-head ring the other head is a target too (R328, R331). -/
def pathOk (s : State) (p h : Nat) : Bool :=
  let n := s.get Reg.RING_N + b01 (s.get Reg.TOPOLOGY == 3)
  let b := s.get Reg.BREAK_POS
  portLive s p && (!s.flag Reg.ENUMERATED || (1 ≤ h && h ≤ n && (!s.flag Reg.BREAK_KNOWN || (if p = 0 then h ≤ b else b + h < s.get Reg.RING_N + 1))))

/-- Where a head sends an addressed frame of its host: the port and the frame; none where no path exists (R331). -/
def headRoute (f : Frame) (s : State) : Option (Nat × Frame) :=
  let p := b01 f.up
  let turned := { f with hops := s.get Reg.RING_N + 1 - f.hops, up := !f.up }
  if !isHead s then none
  else if pathOk s p f.hops then some (p, f)
  else if s.flag Reg.AUTO_ROUTE && s.get Reg.TOPOLOGY = 2 && pathOk s (1 - p) turned.hops then some (1 - p, turned)
  else none

/-- Execute a host's frame here, as the source `src`. -/
def ownCommand (src : Nat) (f : Frame) (s : State) : State := receive true (parseCmd f.op f.payload) ⟨src, f.bcast, f.seq, 0⟩ s

/-- An accepted frame of a host: hops-to-go 0 and broadcasts are executed here; what goes to the chain waits in an input buffer. -/
def hostTakes (src : Nat) (f : Frame) (s : State) : State :=
  let s1 := s.when (f.bcast || f.hops = 0) (ownCommand src f)
  if f.hops = 0 || (f.bcast && !isHead s) then s1
  else if src = 0 then { s1 with host := { s1.host with inBuf := s1.host.inBuf ++ [f] } }
  else { s1 with host := { s1.host with twIn := s1.host.twIn ++ [f] } }

/-- A head answers a COMMAND for which no path exists (R331). -/
def noPath (src : Nat) (f : Frame) (s : State) : State := sendReply ⟨src, false, f.seq, 0⟩ St.badState [] s

/-- Try to move a frame of an input buffer on: the state, and whether the buffer is free. -/
def moveOn (src : Nat) (f : Frame) (s : State) : State × Bool :=
  if f.bcast then
    let up := portsUp s
    if up.all (fun p => hasRoom s (.port p)) then (s.each up (fun p t => txAdd p { f with up := p == 1 } t), true) else (s, false)
  else
    match headRoute f s with
    | none => (noPath src f s, true)
    | some (p, g) => if hasRoom s (.port p) then (txAdd p g s, true) else (s, false)

/-- HOST_FRAME_FORWARD (R331, R356): the oldest frame of each port's input buffers moves to a chain port once its transmit queue has an
unreserved place. -/
def execHostFrameForward (s : State) : Out :=
  if !s.ready then done s
  else
    let s1 := match s.host.inBuf with
      | f :: fs =>
        let (t, gone) := moveOn 0 f s
        if gone then { t with host := { t.host with inBuf := fs } } else t
      | [] => s
    done (match s1.host.twIn with
      | f :: fs =>
        let (t, gone) := moveOn 1 f s1
        if gone then { t with host := { t.host with twIn := fs } } else t
      | [] => s1)

/-! ### The SPI port (R353 to R356) -/

/-- A status byte (R354) over a queue and its input buffers. -/
def statusByte (s : State) (queue inUse buffers : Nat) : Nat :=
  if s.ready then min 63 queue + 64 * b01 (inUse < buffers) + 128 else 0

/-- What HMISO drives after the status byte: the oldest frame of the host queue. -/
def oldestBytes (q : List Frame) : List Byte := (q.head?.map frameBytes).getD []

/-- What a transaction of `n` bytes reads on HMISO. -/
def misoBytes (s : State) (n : Nat) : List Byte :=
  let out := if s.ready then oldestBytes s.host.hq else []
  ((byte (statusByte s s.host.hq.length s.host.inBuf.length 4) :: out) ++ List.replicate n 0).take n

/-- SPI_TRANSACTION (R353 to R356): the bytes on HMOSI while HCS# is low; a frame of the host queue leaves when all of it has been
clocked. DEDUCED (log entry 74). -/
def execSpiTransaction (mosi : List Byte) (s : State) : Out :=
  let n := mosi.length
  let s1 := { s with host := { s.host with miso := misoBytes s n } }
  if !s.ready then done s1
  else
    let whole := !s.host.hq.isEmpty && 1 + (oldestBytes s.host.hq).length ≤ n
    let s2 := if whole then { s1 with host := { s1.host with hq := s1.host.hq.drop 1 } } else s1
    if n = 0 || mosi.head? = some 0 then done s2
    else if 4 ≤ s.host.inBuf.length then done (s2.bump Reg.SPI_DROP)
    else
      match hostFrame false mosi with
      | none => done (s2.bump Reg.SPI_ERR)
      | some f => done (hostTakes 0 f s2)

/-! ### The two-wire target (R445 to R448) -/

/-- The PEC of an SMBus transfer: CRC-8 of polynomial 0x07 over every byte after the START (PRESUMED: SMBus). PRESUMED (log entry 75). -/
def smbusPec (bs : List Byte) : Nat := crcMsb 8 0x07 0 bs

/-- The address byte of a transfer with this target. -/
def addrByte (s : State) (read : Bool) : Byte := byte (2 * s.get Reg.TW_ADDR + b01 read)

/-- What a target read gives: the bytes, and their PEC under `TW_PEC`. -/
def targetBytes (s : State) (code : Nat) (bs : List Byte) : List Byte :=
  if s.flag Reg.TW_PEC then bs ++ [byte (smbusPec ([addrByte s false, byte code, addrByte s true] ++ bs))] else bs

/-- TWB_READ_STATUS (R446): while the base die is not READY the target does not acknowledge its address. -/
def execTwbReadStatus (s : State) : Out :=
  if !s.ready then done s
  else
    let b := byte (statusByte s s.host.twq.length s.host.twIn.length 2)
    done { s with host := { s.host with twOut := targetBytes s 0x01 [b] } }

/-- TWB_BLOCK_WRITE (R447): byte count, the bytes that arrived, and the PEC byte where the host sent one. With both input buffers in use
the address is not acknowledged. DEDUCED (log entry 74). -/
def execTwbBlockWrite (count : Nat) (data : List Byte) (pec : Option Nat) (s : State) : Out :=
  if !s.ready || 2 ≤ s.host.twIn.length then done s
  else
    let pecOk := !s.flag Reg.TW_PEC || pec == some (smbusPec ([addrByte s false, 0x02, byte count] ++ data))
    match (if 12 ≤ count && count ≤ 64 && data.length = count && pecOk then hostFrame true data else none) with
    | none => done (s.bump Reg.TW_ERR)
    | some f => done (hostTakes 1 f s)

/-- TWB_BLOCK_READ (R446, R448): a frame leaves its queue when the host has read all of it. -/
def execTwbBlockRead (complete : Bool) (s : State) : Out :=
  if !s.ready then done s
  else
    let bs := oldestBytes s.host.twq
    let s1 := { s with host := { s.host with twOut := targetBytes s 0x03 (byte bs.length :: bs) } }
    if complete then done { s1 with host := { s1.host with twq := s1.host.twq.drop 1, twCalled := s1.host.twCalled - 1 } } else done s1

/-! ### Chain frames for this module (R329, R360) -/

/-- The source of a command that arrives on a chain port (R360). -/
def chainSource (s : State) (p : Nat) : Nat := if p = 1 || s.get Reg.TOPOLOGY = 2 then 2 else 3

/-- A frame that the module consumes: a COMMAND counts only with `O_HEAD` (R359). -/
def consume (p : Nat) (f : Frame) (s : State) : State :=
  match f.ftype with
  | 1 => if f.ohead then receive true (parseCmd f.op f.payload) ⟨chainSource s p, f.bcast, f.seq, p⟩ s else s.bump (Reg.RX_DROP p)
  | 4 => timeFrameIn p f.payload s
  | 5 => cbReceive (f.origin + 64 * b01 f.up + 128 * b01 f.away) f.payload s
  | 6 => ringIn p f s
  | _ => s

/-- CHAIN_FRAME_RECEIVED (R329, R334, R336): the frame bytes between SOF and EOF on a port, and how they ended: 0 EOF, 1 EOFA, 2 a code
violation, 3 another SOF; and how many frames stand in the management queue, whose pace is not stated. DESIGN CHOICE (log entry 24). -/
def execChainFrameReceived (port : Nat) (data : List Byte) (fin : FrameEnd) (s : State) : Out :=
  if 1 < port then done s
  else
    match chainRx port data fin.how fin.waiting s with
    | (s1, some f) => done (consume port f s1)
    | (s1, none) => done s1

/-! ### Replay (R371) -/

/-- REPLAY_FRAME_SEND (R371): the next held frame of a source's range goes out when its queue has an unreserved place; bytes 1 and 7 are
those of the route. -/
def execReplayFrameSend (src : Nat) (s : State) : Out :=
  match kvGet (fun _ => none) s.host.replays src with
  | none => done s
  | some r =>
    let d := destOf ⟨src, false, 0, r.port⟩
    let rest : Option Replay := if r.left ≤ 1 then none else some { r with next := (r.next + 1) % 65536, left := r.left - 1 }
    let go (t : State) : State := { t with host := { t.host with replays := kvSet (fun _ => none) t.host.replays src rest } }
    if !s.ready then done s
    else
      match s.host.replayBuf.find? (fun f => f.seq == r.next) with
      | none => done (go s)
      | some f => if hasRoom s d then done (go (sendTo d f s)) else done s

end Sys2Proof.Machine
end

