-- ==== Sys2Proof/Machine/Dispatch.lean ====
section
/-!
DEFINITION. The dispatch from a command to its meaning: one arm per constructor of Instr.
-/

namespace Sys2Proof.Machine

def exec (i : Instr) (s : State) : Host.Outcome State Fault Refusal :=
  match i with
  | .ping m echo => Sys2Proof.Machine.execPing m echo s
  | .ident m => Sys2Proof.Machine.execIdent m s
  | .seqstate m => Sys2Proof.Machine.execSeqstate m s
  | .replay m first count => Sys2Proof.Machine.execReplay m first count s
  | .replayFrameSend src => Sys2Proof.Machine.execReplayFrameSend src s
  | .cfgRead m addr count shadow => Sys2Proof.Machine.execCfgRead m addr count shadow s
  | .cfgWrite m addr words => Sys2Proof.Machine.execCfgWrite m addr words s
  | .cfgStage m addr words => Sys2Proof.Machine.execCfgStage m addr words s
  | .cfgCommit m at_ checkExp expected => Sys2Proof.Machine.execCfgCommit m at_ checkExp expected s
  | .cfgDiscard m at_ => Sys2Proof.Machine.execCfgDiscard m at_ s
  | .snap m at_ => Sys2Proof.Machine.execSnap m at_ s
  | .readCells m rdSrc kind sub first count => Sys2Proof.Machine.execReadCells m rdSrc kind sub first count s
  | .readCurrent m rdSrc => Sys2Proof.Machine.execReadCurrent m rdSrc s
  | .readTemps m rdSrc first count => Sys2Proof.Machine.execReadTemps m rdSrc first count s
  | .readAnalysis m slot cell => Sys2Proof.Machine.execReadAnalysis m slot cell s
  | .lease m cls duration => Sys2Proof.Machine.execLease m cls duration s
  | .leaseRevoke m cls => Sys2Proof.Machine.execLeaseRevoke m cls s
  | .balSetRun m mask target => Sys2Proof.Machine.execBalSetRun m mask target s
  | .balSetStop m mask => Sys2Proof.Machine.execBalSetStop m mask s
  | .balSetResume m mask => Sys2Proof.Machine.execBalSetResume m mask s
  | .exciteStart m at_ cells klo khi amp reps => Sys2Proof.Machine.execExciteStart m at_ cells klo khi amp reps s
  | .exciteStop m => Sys2Proof.Machine.execExciteStop m s
  | .thermSetSet m src demand => Sys2Proof.Machine.execThermSetSet m src demand s
  | .thermSetStop m => Sys2Proof.Machine.execThermSetStop m s
  | .thermSetRetry m => Sys2Proof.Machine.execThermSetRetry m s
  | .evtRead m first count => Sys2Proof.Machine.execEvtRead m first count s
  | .evtAck m first count => Sys2Proof.Machine.execEvtAck m first count s
  | .evtMask m first count mask => Sys2Proof.Machine.execEvtMask m first count mask s
  | .mode m at_ mode => Sys2Proof.Machine.execMode m at_ mode s
  | .shutdown m selftest => Sys2Proof.Machine.execShutdown m selftest s
  | .jobLoadBegin m target length crc => Sys2Proof.Machine.execJobLoadBegin m target length crc s
  | .jobLoadData m offset data => Sys2Proof.Machine.execJobLoadData m offset data s
  | .jobLoadEnd m => Sys2Proof.Machine.execJobLoadEnd m s
  | .jobLoadAbort m => Sys2Proof.Machine.execJobLoadAbort m s
  | .jobResult m slot => Sys2Proof.Machine.execJobResult m slot s
  | .nvRead m record offset length => Sys2Proof.Machine.execNvRead m record offset length s
  | .nvAppendBegin m target length crc => Sys2Proof.Machine.execNvAppendBegin m target length crc s
  | .nvAppendData m offset data => Sys2Proof.Machine.execNvAppendData m offset data s
  | .nvAppendEnd m => Sys2Proof.Machine.execNvAppendEnd m s
  | .nvAppendAbort m => Sys2Proof.Machine.execNvAppendAbort m s
  | .fwStageBegin m target length crc => Sys2Proof.Machine.execFwStageBegin m target length crc s
  | .fwStageData m offset data => Sys2Proof.Machine.execFwStageData m offset data s
  | .fwStageEnd m => Sys2Proof.Machine.execFwStageEnd m s
  | .fwStageAbort m => Sys2Proof.Machine.execFwStageAbort m s
  | .fwSwap m at_ version => Sys2Proof.Machine.execFwSwap m at_ version s
  | .lifecycle m target step code => Sys2Proof.Machine.execLifecycle m target step code s
  | .testLogic m mask => Sys2Proof.Machine.execTestLogic m mask s
  | .testMarch m mask => Sys2Proof.Machine.execTestMarch m mask s
  | .testReadmit m cubit => Sys2Proof.Machine.execTestReadmit m cubit s
  | .testConvClear m tier mask => Sys2Proof.Machine.execTestConvClear m tier mask s
  | .testRecal m tier => Sys2Proof.Machine.execTestRecal m tier s
  | .testRestart m => Sys2Proof.Machine.execTestRestart m s
  | .testScan m enable => Sys2Proof.Machine.execTestScan m enable s
  | .schedCommitExec => Sys2Proof.Machine.execSchedCommitExec s
  | .commitDeliveryDeadline => Sys2Proof.Machine.execCommitDeliveryDeadline s
  | .schedModeExec => Sys2Proof.Machine.execSchedModeExec s
  | .schedExciteExec => Sys2Proof.Machine.execSchedExciteExec s
  | .schedSnapExec => Sys2Proof.Machine.execSchedSnapExec s
  | .schedFwSwapExec => Sys2Proof.Machine.execSchedFwSwapExec s
  | .pendTimeout => Sys2Proof.Machine.execPendTimeout s
  | .pendingActionRun => Sys2Proof.Machine.execPendingActionRun s
  | .secUrgentWrite m tier value => Sys2Proof.Machine.execSecUrgentWrite m tier value s
  | .discHwClrWrite m tier value => Sys2Proof.Machine.execDiscHwClrWrite m tier value s
  | .enumGo m => Sys2Proof.Machine.execEnumGo m s
  | .cntClr m => Sys2Proof.Machine.execCntClr m s
  | .evtClr m first count => Sys2Proof.Machine.execEvtClr m first count s
  | .bcnAck m => Sys2Proof.Machine.execBcnAck m s
  | .twcGo m addr pec wlen rlen => Sys2Proof.Machine.execTwcGo m addr pec wlen rlen s
  | .tbNowCapture m => Sys2Proof.Machine.execTbNowCapture m s
  | .chgNetCapture m => Sys2Proof.Machine.execChgNetCapture m s
  | .blockCloseTimeout src => Sys2Proof.Machine.execBlockCloseTimeout src s
  | .spiTransaction mosi => Sys2Proof.Machine.execSpiTransaction mosi s
  | .hostFrameForward => Sys2Proof.Machine.execHostFrameForward s
  | .twbReadStatus => Sys2Proof.Machine.execTwbReadStatus s
  | .twbBlockWrite count data pec => Sys2Proof.Machine.execTwbBlockWrite count data pec s
  | .twbBlockRead complete => Sys2Proof.Machine.execTwbBlockRead complete s
  | .attentionRequest sclFell => Sys2Proof.Machine.execAttentionRequest sclFell s
  | .twTransferStart => Sys2Proof.Machine.execTwTransferStart s
  | .twTransferDone result count data => Sys2Proof.Machine.execTwTransferDone result count data s
  | .identityRead => Sys2Proof.Machine.execIdentityRead s
  | .identityRetry => Sys2Proof.Machine.execIdentityRetry s
  | .twArbLost => Sys2Proof.Machine.execTwArbLost s
  | .twArbError restart => Sys2Proof.Machine.execTwArbError restart s
  | .twSclTimeout asTarget lowMs partial_ => Sys2Proof.Machine.execTwSclTimeout asTarget lowMs partial_ s
  | .twSclReleased asTarget lowMs => Sys2Proof.Machine.execTwSclReleased asTarget lowMs s
  | .twSdaTimeout asTarget lowMs clocks released => Sys2Proof.Machine.execTwSdaTimeout asTarget lowMs clocks released s
  | .twSdaRecoveryRetry clocks released => Sys2Proof.Machine.execTwSdaRecoveryRetry clocks released s
  | .vcoreAdaptTick slack => Sys2Proof.Machine.execVcoreAdaptTick slack s
  | .vrStatusPoll acked status => Sys2Proof.Machine.execVrStatusPoll acked status s
  | .vrWriteConfirm acked readMv hkMv => Sys2Proof.Machine.execVrWriteConfirm acked readMv hkMv s
  | .vrRetryTick => Sys2Proof.Machine.execVrRetryTick s
  | .vcoreRangeAlarm mv => Sys2Proof.Machine.execVcoreRangeAlarm mv s
  | .chainFrameReceived port data fin => Sys2Proof.Machine.execChainFrameReceived port data fin s
  | .chainFrameTransmit port => Sys2Proof.Machine.execChainFrameTransmit port s
  | .creditReceived port data => Sys2Proof.Machine.execCreditReceived port data s
  | .creditRelease port => Sys2Proof.Machine.execCreditRelease port s
  | .creditRefresh port => Sys2Proof.Machine.execCreditRefresh port s
  | .creditTimeout port => Sys2Proof.Machine.execCreditTimeout port s
  | .creditRetrain port => Sys2Proof.Machine.execCreditRetrain port s
  | .trainSetReceived port data fallback count => Sys2Proof.Machine.execTrainSetReceived port data fallback count s
  | .linkTrainTimeout => Sys2Proof.Machine.execLinkTrainTimeout s
  | .miswiredRetry port => Sys2Proof.Machine.execMiswiredRetry port s
  | .rateFallback port errs => Sys2Proof.Machine.execRateFallback port errs s
  | .rateRetryExpiry => Sys2Proof.Machine.execRateRetryExpiry s
  | .portCalStart port => Sys2Proof.Machine.execPortCalStart port s
  | .portCalDone port => Sys2Proof.Machine.execPortCalDone port s
  | .calHoldExpiry port => Sys2Proof.Machine.execCalHoldExpiry port s
  | .symbolLockLoss port => Sys2Proof.Machine.execSymbolLockLoss port s
  | .codeErrorBurst port errs => Sys2Proof.Machine.execCodeErrorBurst port errs s
  | .beaconReceived port data codeError => Sys2Proof.Machine.execBeaconReceived port data codeError s
  | .beaconSetSend => Sys2Proof.Machine.execBeaconSetSend s
  | .markReceived port data phase => Sys2Proof.Machine.execMarkReceived port data phase s
  | .probeSend port => Sys2Proof.Machine.execProbeSend port s
  | .probeReceived port data => Sys2Proof.Machine.execProbeReceived port data s
  | .echoSend => Sys2Proof.Machine.execEchoSend s
  | .echoReceived port data roundNs => Sys2Proof.Machine.execEchoReceived port data roundNs s
  | .enumStart => Sys2Proof.Machine.execEnumStart s
  | .enumReceived port data => Sys2Proof.Machine.execEnumReceived port data s
  | .enumEndReceived port data => Sys2Proof.Machine.execEnumEndReceived port data s
  | .enumTimeout => Sys2Proof.Machine.execEnumTimeout s
  | .topoReceived data => Sys2Proof.Machine.execTopoReceived data s
  | .breakReceived data => Sys2Proof.Machine.execBreakReceived data s
  | .linkUpReceived data => Sys2Proof.Machine.execLinkUpReceived data s
  | .delaySetReceived data => Sys2Proof.Machine.execDelaySetReceived data s
  | .spanReportReceived data => Sys2Proof.Machine.execSpanReportReceived data s
  | .timeFrameSend => Sys2Proof.Machine.execTimeFrameSend s
  | .timeFrameReceived port data => Sys2Proof.Machine.execTimeFrameReceived port data s
  | .currentBroadcastSend => Sys2Proof.Machine.execCurrentBroadcastSend s
  | .currentBroadcastReceived origin data => Sys2Proof.Machine.execCurrentBroadcastReceived origin data s
  | .bcastLost => Sys2Proof.Machine.execBcastLost s
  | .spanInEdge rising t phase => Sys2Proof.Machine.execSpanInEdge rising t phase s
  | .frequencyStep => Sys2Proof.Machine.execFrequencyStep s
  | .spanMark phase vcore vio aux temps => Sys2Proof.Machine.execSpanMark phase vcore vio aux temps s
  | .edgeMissingTimeout => Sys2Proof.Machine.execEdgeMissingTimeout s
  | .holdoverLimit => Sys2Proof.Machine.execHoldoverLimit s
  | .spanJump => Sys2Proof.Machine.execSpanJump s
  | .tierMarkTimeout k => Sys2Proof.Machine.execTierMarkTimeout k s
  | .subwindowEnd k j cells cur => Sys2Proof.Machine.execSubwindowEnd k j cells cur s
  | .tierSpanEnd k cells spares cur chk => Sys2Proof.Machine.execTierSpanEnd k cells spares cur chk s
  | .notchFilled k => Sys2Proof.Machine.execNotchFilled k s
  | .tapTestStart k => Sys2Proof.Machine.execTapTestStart k s
  | .tapTestEnd k waves => Sys2Proof.Machine.execTapTestEnd k waves s
  | .auditDwellEnd k => Sys2Proof.Machine.execAuditDwellEnd k s
  | .crossbarMove k => Sys2Proof.Machine.execCrossbarMove k s
  | .modulatorStuck k st => Sys2Proof.Machine.execModulatorStuck k st s
  | .seqEntryStart k => Sys2Proof.Machine.execSeqEntryStart k s
  | .seqEntryDone k r => Sys2Proof.Machine.execSeqEntryDone k r s
  | .urgentRequestStart k => Sys2Proof.Machine.execUrgentRequestStart k s
  | .oscStop k => Sys2Proof.Machine.execOscStop k s
  | .shuntStuck => Sys2Proof.Machine.execShuntStuck s
  | .shuntCmFault => Sys2Proof.Machine.execShuntCmFault s
  | .shuntFaultClear => Sys2Proof.Machine.execShuntFaultClear s
  | .drawMatch ua => Sys2Proof.Machine.execDrawMatch ua s
  | .tierLaneFail k lane => Sys2Proof.Machine.execTierLaneFail k lane s
  | .tierLinkDown k => Sys2Proof.Machine.execTierLinkDown k s
  | .tierLinkUp k lanes => Sys2Proof.Machine.execTierLinkUp k lanes s
  | .tierDrainDone k => Sys2Proof.Machine.execTierDrainDone k s
  | .tierResultReceived k => Sys2Proof.Machine.execTierResultReceived k s
  | .setpointReceived k => Sys2Proof.Machine.execSetpointReceived k s
  | .setpointApply k => Sys2Proof.Machine.execSetpointApply k s
  | .setpointRefreshTimeout k => Sys2Proof.Machine.execSetpointRefreshTimeout k s
  | .tierWake k => Sys2Proof.Machine.execTierWake k s
  | .tierSelfCal k osc0ok => Sys2Proof.Machine.execTierSelfCal k osc0ok s
  | .tierSelfCalDone k => Sys2Proof.Machine.execTierSelfCalDone k s
  | .tierSupplyLoss k => Sys2Proof.Machine.execTierSupplyLoss k s
  | .storeRecord k cells cur chk => Sys2Proof.Machine.execStoreRecord k cells cur chk s
  | .spanHistoryWrite => Sys2Proof.Machine.execSpanHistoryWrite s
  | .jobRelease slot => Sys2Proof.Machine.execJobRelease slot s
  | .instanceComplete slot flags => Sys2Proof.Machine.execInstanceComplete slot flags s
  | .instanceAbort slot => Sys2Proof.Machine.execInstanceAbort slot s
  | .planTakeEffect => Sys2Proof.Machine.execPlanTakeEffect s
  | .cubitFault cubit cause bank row slot => Sys2Proof.Machine.execCubitFault cubit cause bank row slot s
  | .scrubLine cubit corrected => Sys2Proof.Machine.execScrubLine cubit corrected s
  | .conflictWindowEnd cubit stalls busy => Sys2Proof.Machine.execConflictWindowEnd cubit stalls busy s
  | .checkpointTunWrite w => Sys2Proof.Machine.execCheckpointTunWrite w s
  | .spanCountTunWrite => Sys2Proof.Machine.execSpanCountTunWrite s
  | .accTunWrite => Sys2Proof.Machine.execAccTunWrite s
  | .excPeriodStart k => Sys2Proof.Machine.execExcPeriodStart k s
  | .excPeriodRecord k volt cur => Sys2Proof.Machine.execExcPeriodRecord k volt cur s
  | .excResume => Sys2Proof.Machine.execExcResume s
  | .excLeaseEnd => Sys2Proof.Machine.execExcLeaseEnd s
  | .loopIntervalEnd k r => Sys2Proof.Machine.execLoopIntervalEnd k r s
  | .loopSample => Sys2Proof.Machine.execLoopSample s
  | .loopTempLost ch => Sys2Proof.Machine.execLoopTempLost ch s
  | .pwmPeriodStart k ioff => Sys2Proof.Machine.execPwmPeriodStart k ioff s
  | .pulseEnd ch meas => Sys2Proof.Machine.execPulseEnd ch meas s
  | .undiagnosed ch => Sys2Proof.Machine.execUndiagnosed ch s
  | .peakCurrentTrip ch meas => Sys2Proof.Machine.execPeakCurrentTrip ch meas s
  | .stopRampDone ch => Sys2Proof.Machine.execStopRampDone ch s
  | .thermalSample auxUv => Sys2Proof.Machine.execThermalSample auxUv s
  | .tachEdge t => Sys2Proof.Machine.execTachEdge t s
  | .thdInEdge rising t => Sys2Proof.Machine.execThdInEdge rising t s
  | .demandLost => Sys2Proof.Machine.execDemandLost s
  | .demandHoldExpiry => Sys2Proof.Machine.execDemandHoldExpiry s
  | .spinWindowEnd => Sys2Proof.Machine.execSpinWindowEnd s
  | .tachTimeout => Sys2Proof.Machine.execTachTimeout s
  | .thermalTempLost => Sys2Proof.Machine.execThermalTempLost s
  | .thermalRampDone => Sys2Proof.Machine.execThermalRampDone s
  | .stringCycleStart k j => Sys2Proof.Machine.execStringCycleStart k j s
  | .conversionPhaseEnd k j => Sys2Proof.Machine.execConversionPhaseEnd k j s
  | .satelliteFrame k j gap pulses => Sys2Proof.Machine.execSatelliteFrame k j gap pulses s
  | .dataPhaseSilence k j => Sys2Proof.Machine.execDataPhaseSilence k j s
  | .stringShort k j => Sys2Proof.Machine.execStringShort k j s
  | .shortBackoffEnd k j => Sys2Proof.Machine.execShortBackoffEnd k j s
  | .countLowCheck k j => Sys2Proof.Machine.execCountLowCheck k j s
  | .eventRaise src value span grain late summary => Sys2Proof.Machine.execEventRaise src value span grain late summary s
  | .eventWindowExpiry => Sys2Proof.Machine.execEventWindowExpiry s
  | .latchAutoClear => Sys2Proof.Machine.execLatchAutoClear s
  | .eventRecordIssue => Sys2Proof.Machine.execEventRecordIssue s
  | .railLoss vcoreLow vioLow => Sys2Proof.Machine.execRailLoss vcoreLow vioLow s
  | .handoverComplete => Sys2Proof.Machine.execHandoverComplete s
  | .railDebounceEnd => Sys2Proof.Machine.execRailDebounceEnd s
  | .resetPin => Sys2Proof.Machine.execResetPin s
  | .storeWritesDone days => Sys2Proof.Machine.execStoreWritesDone days s
  | .storeInterval charges => Sys2Proof.Machine.execStoreInterval charges s
  | .storeBleedDecision ms charges => Sys2Proof.Machine.execStoreBleedDecision ms charges s
  | .storeExit why => Sys2Proof.Machine.execStoreExit why s
  | .leaseExpiry cls => Sys2Proof.Machine.execLeaseExpiry cls s
  | .leaseWarn cls => Sys2Proof.Machine.execLeaseWarn cls s
  | .startSequence addr badBanks badRecs => Sys2Proof.Machine.execStartSequence addr badBanks badRecs s
  | .tierCalWaitTimeout => Sys2Proof.Machine.execTierCalWaitTimeout s
  | .ready absence => Sys2Proof.Machine.execReady absence s
  | .trialTimeout => Sys2Proof.Machine.execTrialTimeout s
  | .watchdogReset => Sys2Proof.Machine.execWatchdogReset s
  | .lockstepMismatch => Sys2Proof.Machine.execLockstepMismatch s
  | .memoryError memory addr => Sys2Proof.Machine.execMemoryError memory addr s
  | .shutdownExec days => Sys2Proof.Machine.execShutdownExec days s
  | .selftestDone tSpan tGrain fails => Sys2Proof.Machine.execSelftestDone tSpan tGrain fails s
  | .shutdownWaitEnd why => Sys2Proof.Machine.execShutdownWaitEnd why s
  | .stageOwnerTimeout => Sys2Proof.Machine.execStageOwnerTimeout s
  | .transferTimeout => Sys2Proof.Machine.execTransferTimeout s
  | .lifecycleStepTimeout => Sys2Proof.Machine.execLifecycleStepTimeout s
  | .cvPassStart u => Sys2Proof.Machine.execCvPassStart u s
  | .cvPassDone u => Sys2Proof.Machine.execCvPassDone u s
  | .bankSwap given => Sys2Proof.Machine.execBankSwap given s
  | .spanMarkSetSend => Sys2Proof.Machine.execSpanMarkSetSend s
  | .railsGood => Sys2Proof.Machine.execRailsGood s
  | .testDone fails => Sys2Proof.Machine.execTestDone fails s
  | .fwBankEraseDone => Sys2Proof.Machine.execFwBankEraseDone s
  | .twSdaReleased asTarget lowMs => Sys2Proof.Machine.execTwSdaReleased asTarget lowMs s
  | .rateBackoffReset => Sys2Proof.Machine.execRateBackoffReset s

end Sys2Proof.Machine
end

