-- ==== Sys2Proof/Machine/Idle.lean ====
section
/-!
DEFINITION. What the block does when no command waits (log entry 3): a grain passes (R43), and the management processor takes the oldest
command of its queue (R366).
-/

namespace Sys2Proof.Machine

/-- A grain passes. The last grain of a span lasts until the mark; in STORE the grains stand (R51). DESIGN CHOICE (log entry 3). -/
def grainTick (s : State) : State :=
  if s.pwr.phase = .store then s else { s with clk := { s.clk with grain := min 4095 (s.clk.grain + 1) } }

/-- The block with no command waiting: the grain, a restart that TEST RESTART has ordered (R489), the oldest waiting host command. DESIGN CHOICE (log entry 3). -/
def idle (s : State) : State :=
  let t := testRestart (grainTick s)
  t.when t.ready serveOldest

end Sys2Proof.Machine
end

