-- ==== Sys2Proof/Safety.lean ====
section
/-!
DEFINITION. What counts as a safe run, and the terms in which the claims about single commands are put: when a host command is the
next one of its source and meets an idle management processor, what its answer leaves at the host ports, and what a command leaves
unchanged.
-/

namespace Sys2Proof

open Machine

/-- The word map of configuration space is in its one canonical form: addresses strictly rising, no entry equal to what an unlisted
address reads as. -/
def regsWf (s : State) : Prop := kvWf resetWord s.regs = true

/-- The run of `k` steps from `s` meets no fault and no refusal. -/
def safeRun (k : Nat) (s : State) : Prop := ∃ t, Host.Core.run core k s = .next t

/-- A host command of `m` is executable now: the base die is READY under its full firmware, no command waits, and the HSEQ of `m`
is the next one of its source and kind (R361, R366). -/
def accepts (m : Meta) (s : State) : Prop :=
  s.ready = true ∧ metaOk m = true ∧ s.host.fwq = [] ∧ s.flag Reg.RESCUE = false ∧
    ((s.seqSt (seqIdx m.src m.bcast)).valid = false ∨ m.hseq = (s.get (seqField m.src m.bcast) + 1) % 65536)

/-- The host command that a row of the table stands for, with where it comes from; none for a row that is no host command. -/
def hostCommand (i : Instr) : Option (Meta × Cmd) :=
  match i with
  | .ping m echo => some (m, .ping echo)
  | .ident m => some (m, .ident)
  | .seqstate m => some (m, .seqstate)
  | .replay m first count => some (m, .replay first count)
  | .cfgRead m addr count shadow => some (m, .cfgRead addr count shadow)
  | .cfgWrite m addr words => some (m, .cfgWrite addr words)
  | .cfgStage m addr words => some (m, .cfgStage addr words)
  | .cfgCommit m at_ checkExp expected => some (m, .cfgCommit at_ checkExp expected)
  | .cfgDiscard m at_ => some (m, .cfgDiscard at_)
  | .snap m at_ => some (m, .snap at_)
  | .readCells m rdSrc kind sub first count => some (m, .readCells rdSrc kind sub first count)
  | .readCurrent m rdSrc => some (m, .readCurrent rdSrc)
  | .readTemps m rdSrc first count => some (m, .readTemps rdSrc first count)
  | .readAnalysis m slot cell => some (m, .readAnalysis slot cell)
  | .lease m cls duration => some (m, .lease cls duration)
  | .leaseRevoke m cls => some (m, .lease cls 0)
  | .balSetRun m mask target => some (m, .balRun mask target)
  | .balSetStop m mask => some (m, .balStop mask)
  | .balSetResume m mask => some (m, .balResume mask)
  | .exciteStart m at_ cells klo khi amp reps => some (m, .exciteStart at_ cells klo khi amp reps)
  | .exciteStop m => some (m, .exciteStop)
  | .thermSetSet m src demand => some (m, .thermSet src demand)
  | .thermSetStop m => some (m, .thermStop)
  | .thermSetRetry m => some (m, .thermRetry)
  | .evtRead m first count => some (m, .evtRead first count)
  | .evtAck m first count => some (m, .evtAck first count)
  | .evtMask m first count mask => some (m, .evtMask first count mask)
  | .mode m at_ mode => some (m, .mode at_ mode)
  | .shutdown m selftest => some (m, .shutdown selftest)
  | .jobLoadBegin m target length crc => some (m, .txBegin .jobLoad target length crc)
  | .jobLoadData m offset data => some (m, .txData .jobLoad offset data)
  | .jobLoadEnd m => some (m, .txEnd .jobLoad)
  | .jobLoadAbort m => some (m, .txAbort .jobLoad)
  | .jobResult m slot => some (m, .jobResult slot)
  | .nvRead m record offset length => some (m, .nvRead record offset length)
  | .nvAppendBegin m target length crc => some (m, .txBegin .nvAppend target length crc)
  | .nvAppendData m offset data => some (m, .txData .nvAppend offset data)
  | .nvAppendEnd m => some (m, .txEnd .nvAppend)
  | .nvAppendAbort m => some (m, .txAbort .nvAppend)
  | .fwStageBegin m target length crc => some (m, .txBegin .fwStage target length crc)
  | .fwStageData m offset data => some (m, .txData .fwStage offset data)
  | .fwStageEnd m => some (m, .txEnd .fwStage)
  | .fwStageAbort m => some (m, .txAbort .fwStage)
  | .fwSwap m at_ version => some (m, .fwSwap at_ version)
  | .lifecycle m target step code => some (m, .lifecycle target step code)
  | .testLogic m mask => some (m, .test 1 (leBytes 4 mask))
  | .testMarch m mask => some (m, .test 2 (leBytes 4 mask))
  | .testReadmit m cubit => some (m, .test 3 [byte cubit])
  | .testConvClear m tier mask => some (m, .test 4 (byte tier :: leBytes 3 mask))
  | .testRecal m tier => some (m, .test 5 [byte tier])
  | .testRestart m => some (m, .test 6 [])
  | .testScan m enable => some (m, .test 7 [byte enable])
  | .secUrgentWrite m tier value => some (m, .cfgWrite (Wd.SEC_URGENT tier) [value])
  | .discHwClrWrite m tier value => some (m, .cfgWrite (Wd.DISC_HW_CLR tier) [value])
  | .enumGo m => some (m, .cfgWrite Wd.CHN_CMD [1])
  | .cntClr m => some (m, .cfgWrite Wd.CHN_CMD [2])
  | .evtClr m first count => some (m, .cfgWrite Wd.EVT_CLR [first % 1024 + 1024 * (count % 1024) + 2 ^ 31])
  | .bcnAck m => some (m, .cfgWrite Wd.BCN_ACK [1])
  | .twcGo m addr pec wlen rlen =>
    some (m, .cfgWrite Wd.TWC_CTRL [addr % 128 + 128 * b01 pec + 256 * (wlen % 32) + 8192 * (rlen % 32) + 2 ^ 31])
  | .tbNowCapture m => some (m, .cfgRead Wd.TB_NOW_LO 1 false)
  | .chgNetCapture m => some (m, .cfgRead Wd.CHG_NET_LO 1 false)
  | _ => none

/-- The frames of a reply as its module sends them. -/
def replyFrames (m : Meta) (status : Nat) (data : List Byte) (s : State) : List Frame :=
  (payloads data).map (fun p => ownFrame s 2 m.hseq status p)

/-- The command of `m` has been answered once, with this status and data: its HSEQ is recorded, its reply is the latest of the cache,
and, for a command of the SPI port whose queue has room, the frames of the reply are the last of the host queue. -/
def answered (m : Meta) (status : Nat) (data : List Byte) (s t : State) : Prop :=
  t.get (seqField m.src m.bcast) = m.hseq ∧ (t.seqSt (seqIdx m.src m.bcast)).valid = true ∧
    (t.seqSt (seqIdx m.src m.bcast)).cache.getLast? = some ⟨m.hseq, status, data⟩ ∧
    (m.src = 0 → s.host.hq.length + (payloads data).length ≤ 64 → t.host.hq = s.host.hq ++ replyFrames m status data s)

/-- The command of `m` has been recorded with this status and data: its HSEQ stands in the counter of its source, and its reply is the
latest of the cache. -/
def recorded (m : Meta) (status : Nat) (data : List Byte) (t : State) : Prop :=
  t.get (seqField m.src m.bcast) = m.hseq ∧ (t.seqSt (seqIdx m.src m.bcast)).valid = true ∧
    (t.seqSt (seqIdx m.src m.bcast)).cache.getLast? = some ⟨m.hseq, status, data⟩

/-- The words that a reply itself may write: the sequence counter of its source, and the count of frames that a chain port drops. -/
def replyWord (m : Meta) (a : Nat) : Prop := a = (seqField m.src m.bcast).a ∨ a = (Reg.TXQ_DROP m.port).a

/-- The words that act when they are written (R127, R133, R351, R401, R403, R451). -/
def actingWord (a : Nat) : Prop :=
  a = Wd.CHN_CMD ∨ a = Wd.EVT_CLR ∨ a = Wd.BCN_ACK ∨ a = Wd.TWC_CTRL ∨ ∃ k, k < 6 ∧ (a = Wd.SEC_URGENT k ∨ a = Wd.DISC_HW_CLR k)

/-- Every word of configuration space but the excepted ones is unchanged. -/
def wordsSame (except : Nat → Prop) (s t : State) : Prop := ∀ a, ¬ except a → t.word a = s.word a

/-- Every field of configuration space that lies apart from the excepted ones is unchanged, the other fields of their words included. -/
def fieldsSame (except : List Field) (s t : State) : Prop :=
  ∀ f : Field, (∀ g ∈ except, g.a ≠ f.a ∨ (g.lo + g.w ≤ 32 ∧ (f.lo + f.w ≤ g.lo ∨ g.lo + g.w ≤ f.lo))) → t.get f = s.get f

/-- Everything that lies beyond the host ports, the chain queues, the result windows and configuration space is unchanged: the clock
and time base, the events, the power and start state, the tiers and what they measure, the fabric, balancing and the pack current. -/
def coreSame (s t : State) : Prop := t = { s with host := t.host, win := t.win, chain := t.chain, regs := t.regs }

/-- Everything but configuration space is unchanged. -/
def restSame (s t : State) : Prop := t = { s with regs := t.regs }

end Sys2Proof
end

