-- ==== Sys2Proof/WellFormed.lean ====
section
/-!
DEFINITION. Which commands are well formed: their operands name a part that the module has, and the parameters of a host command fit the
words that carry them. `exec` takes every command, well formed or not; a command that is not well formed names nothing of the hardware.
-/

namespace Sys2Proof

/-- The source of R360, a 16-bit HSEQ (R361), a chain port. -/
def metaWf (m : Meta) : Bool := m.src < 4 && m.hseq < 65536 && m.port < 2

/-- The schedule prefix of R375: a 48-bit span number and a grain. -/
def targetWf (t : Target) : Bool := t.span < 2 ^ 48 && t.grain < 4096

/-- A parameter fits the widest parameter field. -/
def isWord (n : Nat) : Bool := n < 2 ^ 48

/-- A mask of the 108 cells, in its 14 bytes (R278, R214). -/
def isCellMask (n : Nat) : Bool := n < 2 ^ 112

/-- A tier (R4). -/
def isTier (k : Nat) : Bool := k < 6

/-- A chain port, a lane, a string of a tier. -/
def isPair (n : Nat) : Bool := n < 2

/-- A cell or its balancing channel (R4). -/
def isCell (n : Nat) : Bool := n < 108

/-- A cubit (R4). -/
def isCubit (n : Nat) : Bool := n < 32

/-- A job slot (R190). -/
def isSlot (n : Nat) : Bool := n < 16

/-- A check-value unit that runs passes (R389). -/
def isPassUnit (n : Nat) : Bool := 1 ≤ n && n ≤ 3

/-- Readings name no converter beyond the shunt (R74, R147). -/
def isWaves (w : List Wave) : Bool := w.length ≤ 21

/-- Samples of one result: at most 256, each within 14 bits (R115, R119). -/
def isSamples (l : List Int) : Bool := l.length ≤ 256 && l.all (fun c => decide (-8192 ≤ c) && decide (c ≤ 8191))

/-- A converter of a tier, spares included (R4). -/
def isConverter (n : Nat) : Bool := n < 20

/-- An event source that is not reserved (R394). -/
def isSource (n : Nat) : Bool := n < 516

/-- A reader of the result window: a source, or the fast path of one (R512). -/
def isReader (n : Nat) : Bool := n < 8

/-- A lease class (R425). -/
def isClass (n : Nat) : Bool := n < 3

/-- The command is well formed. -/
def instrWf (i : Instr) : Bool :=
  match i with
  | .ping m _ => metaWf m
  | .ident m => metaWf m
  | .seqstate m => metaWf m
  | .replay m first count => metaWf m && isWord first && isWord count
  | .replayFrameSend src => isReader src
  | .cfgRead m addr count _ => metaWf m && isWord addr && isWord count
  | .cfgWrite m addr words => metaWf m && isWord addr && words.all isWord
  | .cfgStage m addr words => metaWf m && isWord addr && words.all isWord
  | .cfgCommit m at_ _ expected => metaWf m && targetWf at_ && isWord expected
  | .cfgDiscard m at_ => metaWf m && targetWf at_
  | .snap m at_ => metaWf m && targetWf at_
  | .readCells m rdSrc kind sub first count => metaWf m && isWord rdSrc && isWord kind && isWord sub && isWord first && isWord count
  | .readCurrent m rdSrc => metaWf m && isWord rdSrc
  | .readTemps m rdSrc first count => metaWf m && isWord rdSrc && isWord first && isWord count
  | .readAnalysis m slot cell => metaWf m && isWord slot && isWord cell
  | .lease m cls duration => metaWf m && isWord cls && isWord duration
  | .leaseRevoke m cls => metaWf m && isWord cls
  | .balSetRun m mask target => metaWf m && isCellMask mask && isWord target
  | .balSetStop m mask => metaWf m && isCellMask mask
  | .balSetResume m mask => metaWf m && isCellMask mask
  | .exciteStart m at_ cells klo khi amp reps => metaWf m && targetWf at_ && isCellMask cells && isWord klo && isWord khi && isWord amp && isWord reps
  | .exciteStop m => metaWf m
  | .thermSetSet m src demand => metaWf m && isWord src && isWord demand
  | .thermSetStop m => metaWf m
  | .thermSetRetry m => metaWf m
  | .evtRead m first count => metaWf m && isWord first && isWord count
  | .evtAck m first count => metaWf m && isWord first && isWord count
  | .evtMask m first count _ => metaWf m && isWord first && isWord count
  | .mode m at_ mode => metaWf m && targetWf at_ && isWord mode
  | .shutdown m _ => metaWf m
  | .jobLoadBegin m target length crc => metaWf m && isWord target && isWord length && isWord crc
  | .jobLoadData m offset _ => metaWf m && isWord offset
  | .jobLoadEnd m => metaWf m
  | .jobLoadAbort m => metaWf m
  | .jobResult m slot => metaWf m && isWord slot
  | .nvRead m record offset length => metaWf m && isWord record && isWord offset && isWord length
  | .nvAppendBegin m target length crc => metaWf m && isWord target && isWord length && isWord crc
  | .nvAppendData m offset _ => metaWf m && isWord offset
  | .nvAppendEnd m => metaWf m
  | .nvAppendAbort m => metaWf m
  | .fwStageBegin m target length crc => metaWf m && isWord target && isWord length && isWord crc
  | .fwStageData m offset _ => metaWf m && isWord offset
  | .fwStageEnd m => metaWf m
  | .fwStageAbort m => metaWf m
  | .fwSwap m at_ version => metaWf m && targetWf at_ && isWord version
  | .lifecycle m target step code => metaWf m && isWord target && isWord step && isWord code
  | .testLogic m mask => metaWf m && isWord mask
  | .testMarch m mask => metaWf m && isWord mask
  | .testReadmit m cubit => metaWf m && isWord cubit
  | .testConvClear m tier mask => metaWf m && isWord tier && isWord mask
  | .testRecal m tier => metaWf m && isWord tier
  | .testRestart m => metaWf m
  | .testScan m enable => metaWf m && isWord enable
  | .schedCommitExec => true
  | .commitDeliveryDeadline => true
  | .schedModeExec => true
  | .schedExciteExec => true
  | .schedSnapExec => true
  | .schedFwSwapExec => true
  | .pendTimeout => true
  | .pendingActionRun => true
  | .secUrgentWrite m tier value => metaWf m && isWord tier && isWord value
  | .discHwClrWrite m tier value => metaWf m && isWord tier && isWord value
  | .enumGo m => metaWf m
  | .cntClr m => metaWf m
  | .evtClr m first count => metaWf m && isWord first && isWord count
  | .bcnAck m => metaWf m
  | .twcGo m addr _ wlen rlen => metaWf m && isWord addr && isWord wlen && isWord rlen
  | .tbNowCapture m => metaWf m
  | .chgNetCapture m => metaWf m
  | .blockCloseTimeout src => isReader src
  | .spiTransaction _ => true
  | .hostFrameForward => true
  | .twbReadStatus => true
  | .twbBlockWrite _ _ _ => true
  | .twbBlockRead _ => true
  | .attentionRequest _ => true
  | .twTransferStart => true
  | .twTransferDone _ _ _ => true
  | .identityRead => true
  | .identityRetry => true
  | .twArbLost => true
  | .twArbError _ => true
  | .twSclTimeout _ _ _ => true
  | .twSclReleased _ _ => true
  | .twSdaTimeout _ _ _ _ => true
  | .twSdaRecoveryRetry _ _ => true
  | .vcoreAdaptTick _ => true
  | .vrStatusPoll _ _ => true
  | .vrWriteConfirm _ _ _ => true
  | .vrRetryTick => true
  | .vcoreRangeAlarm _ => true
  | .chainFrameReceived port _ fin => isPair port && fin.how < 4
  | .chainFrameTransmit port => isPair port
  | .creditReceived port _ => isPair port
  | .creditRelease port => isPair port
  | .creditRefresh port => isPair port
  | .creditTimeout port => isPair port
  | .creditRetrain port => isPair port
  | .trainSetReceived port _ _ _ => isPair port
  | .linkTrainTimeout => true
  | .miswiredRetry port => isPair port
  | .rateFallback port _ => isPair port
  | .rateRetryExpiry => true
  | .portCalStart port => isPair port
  | .portCalDone port => isPair port
  | .calHoldExpiry port => isPair port
  | .symbolLockLoss port => isPair port
  | .codeErrorBurst port _ => isPair port
  | .beaconReceived port _ _ => isPair port
  | .beaconSetSend => true
  | .markReceived port _ _ => isPair port
  | .probeSend port => isPair port
  | .probeReceived port _ => isPair port
  | .echoSend => true
  | .echoReceived port _ _ => isPair port
  | .enumStart => true
  | .enumReceived port _ => isPair port
  | .enumEndReceived port _ => isPair port
  | .enumTimeout => true
  | .topoReceived _ => true
  | .breakReceived _ => true
  | .linkUpReceived _ => true
  | .delaySetReceived _ => true
  | .spanReportReceived _ => true
  | .timeFrameSend => true
  | .timeFrameReceived port _ => isPair port
  | .currentBroadcastSend => true
  | .currentBroadcastReceived _ _ => true
  | .bcastLost => true
  | .spanInEdge _ _ _ => true
  | .frequencyStep => true
  | .spanMark _ _ _ _ _ => true
  | .edgeMissingTimeout => true
  | .holdoverLimit => true
  | .spanJump => true
  | .tierMarkTimeout k => isTier k
  | .subwindowEnd k _ cells _ => isTier k && isWaves cells
  | .tierSpanEnd k cells spares _ _ => isTier k && isWaves cells && isWaves spares
  | .notchFilled k => isTier k
  | .tapTestStart k => isTier k
  | .tapTestEnd k waves => isTier k && isWaves waves
  | .auditDwellEnd k => isTier k
  | .crossbarMove k => isTier k
  | .modulatorStuck k st => isTier k && isConverter st.conv && isWaves st.waves
  | .seqEntryStart k => isTier k
  | .seqEntryDone k r => isTier k && isSamples r.codes && isWaves r.waves
  | .urgentRequestStart k => isTier k
  | .oscStop k => isTier k
  | .shuntStuck => true
  | .shuntCmFault => true
  | .shuntFaultClear => true
  | .drawMatch _ => true
  | .tierLaneFail k lane => isTier k && isPair lane
  | .tierLinkDown k => isTier k
  | .tierLinkUp k _ => isTier k
  | .tierDrainDone k => isTier k
  | .tierResultReceived k => isTier k
  | .setpointReceived k => isTier k
  | .setpointApply k => isTier k
  | .setpointRefreshTimeout k => isTier k
  | .tierWake k => isTier k
  | .tierSelfCal k _ => isTier k
  | .tierSelfCalDone k => isTier k
  | .tierSupplyLoss k => isTier k
  | .storeRecord k cells _ _ => isTier k && isWaves cells
  | .spanHistoryWrite => true
  | .jobRelease slot => isSlot slot
  | .instanceComplete slot _ => isSlot slot
  | .instanceAbort slot => isSlot slot
  | .planTakeEffect => true
  | .cubitFault cubit _ _ _ slot => isCubit cubit && isSlot slot
  | .scrubLine cubit _ => isCubit cubit
  | .conflictWindowEnd cubit _ _ => isCubit cubit
  | .checkpointTunWrite _ => true
  | .spanCountTunWrite => true
  | .accTunWrite => true
  | .excPeriodStart k => isTier k
  | .excPeriodRecord k _ _ => isTier k
  | .excResume => true
  | .excLeaseEnd => true
  | .loopIntervalEnd k r => isTier k && isWaves r.waves
  | .loopSample => true
  | .loopTempLost ch => isCell ch
  | .pwmPeriodStart k _ => isTier k
  | .pulseEnd ch _ => isCell ch
  | .undiagnosed ch => isCell ch
  | .peakCurrentTrip ch _ => isCell ch
  | .stopRampDone ch => isCell ch
  | .thermalSample _ => true
  | .tachEdge _ => true
  | .thdInEdge _ _ => true
  | .demandLost => true
  | .demandHoldExpiry => true
  | .spinWindowEnd => true
  | .tachTimeout => true
  | .thermalTempLost => true
  | .thermalRampDone => true
  | .stringCycleStart k j => isTier k && isPair j
  | .conversionPhaseEnd k j => isTier k && isPair j
  | .satelliteFrame k j _ _ => isTier k && isPair j
  | .dataPhaseSilence k j => isTier k && isPair j
  | .stringShort k j => isTier k && isPair j
  | .shortBackoffEnd k j => isTier k && isPair j
  | .countLowCheck k j => isTier k && isPair j
  | .eventRaise src _ _ _ _ _ => isSource src
  | .eventWindowExpiry => true
  | .latchAutoClear => true
  | .eventRecordIssue => true
  | .railLoss _ _ => true
  | .handoverComplete => true
  | .railDebounceEnd => true
  | .resetPin => true
  | .storeWritesDone _ => true
  | .storeInterval _ => true
  | .storeBleedDecision _ _ => true
  | .storeExit _ => true
  | .leaseExpiry cls => isClass cls
  | .leaseWarn cls => isClass cls
  | .startSequence _ _ _ => true
  | .tierCalWaitTimeout => true
  | .ready _ => true
  | .trialTimeout => true
  | .watchdogReset => true
  | .lockstepMismatch => true
  | .memoryError _ _ => true
  | .shutdownExec _ => true
  | .selftestDone _ _ _ => true
  | .shutdownWaitEnd _ => true
  | .stageOwnerTimeout => true
  | .transferTimeout => true
  | .lifecycleStepTimeout => true
  | .cvPassStart u => isPassUnit u
  | .cvPassDone u => isPassUnit u
  | .bankSwap _ => true
  | .spanMarkSetSend => true
  | .railsGood => true
  | .testDone _ => true
  | .fwBankEraseDone => true
  | .twSdaReleased _ _ => true
  | .rateBackoffReset => true

end Sys2Proof
end

