-- ==== Sys2Proof/Certificates/Slice0/Obligations.lean ====
section
/-!
DEFINITION. The statements for the provers: what the numbered rules of spec/ say the block does, family by family.
-/

open Sys2Proof Sys2Proof.Machine

/-! ### The step and the host port -/

/-- One step takes the command at the front of the queue and is exec of it on the state with the queue's rest. With no command waiting in
the queue, none in the firmware path and no test running, a step is one grain of time: the grain number rises by one and stands at the
last grain of the span until the mark; in STORE the grains stand; nothing else changes. The tick is the model's choice (log entry 3). -/
def Obligations.StepRunsFrontCommand : Prop :=
  (∀ (c : Instr) (rest : List Instr) (s : State), step { s with pending := c :: rest } = exec c { s with pending := rest }) ∧
  ∀ s : State, s.pending = [] → s.host.fwq = [] → s.start.testing = none →
    ∃ t, step s = .next t ∧ t = { s with clk := { s.clk with grain := t.clk.grain } } ∧
      (s.pwr.phase = .store → t.clk.grain = s.clk.grain) ∧
      (s.pwr.phase ≠ .store → s.clk.grain < 4095 → t.clk.grain = s.clk.grain + 1) ∧
      (s.pwr.phase ≠ .store → s.clk.grain = 4095 → t.clk.grain = 4095)

/-- Whatever command a step runs, and also on an idle step: the word map of configuration space keeps its canonical form, addresses
strictly rising and no entry at its Reset value, so that two machines whose words read the same hold the same map. -/
def Obligations.StepsKeepTheWordMapCanonical : Prop :=
  ∀ s t : State, regsWf s → step s = .next t → regsWf t

/-- The frame encoding loses nothing: a frame whose fields fit their places and whose broadcast flag agrees with its hop count is read
back from its bytes with both check fields good. -/
def Obligations.FrameBytesReadBack : Prop :=
  ∀ f : Frame, f.ftype < 16 → f.ver < 16 → f.hops < 64 → f.seq < 65536 → f.op < 256 → f.origin < 64 → f.payload.length ≤ 52 →
    (f.bcast = true ↔ f.hops = 63) → checkFrame true (frameBytes f) = .good f

/-- Both check fields are tested: frame bytes whose byte 7 is not the CRC-8 of bytes 0 to 6 are refused as a header error whatever follows,
and bytes with a sound header and length whose last four bytes are not the CRC-32C are refused as a check error. A message is cut into
parts of at most 51 bytes of data: the data of the parts joined are the data of the message, the last part and only the last carries
bit 7 of its part byte, and the parts are numbered from 0. -/
def Obligations.FramesAreCheckedAndMessagesCut : Prop :=
  (∀ f : Frame, f.ftype < 16 → f.ver < 16 → f.hops < 64 → f.seq < 65536 → f.op < 256 → f.origin < 64 → f.payload.length ≤ 52 →
     (f.bcast = true ↔ f.hops = 63) →
     (∀ (x : Byte) (rest : List Byte), x ≠ byte (crc8 (headerBytes f)) → checkFrame true (headerBytes f ++ [x] ++ rest) = .header) ∧
     (∀ y : List Byte, y.length = 4 → leNat y ≠ frameCrc (headerBytes f) f.payload →
       checkFrame true (headerBytes f ++ [byte (crc8 (headerBytes f))] ++ f.payload ++ y) = .crc)) ∧
  (∀ d : List Byte, d.length ≤ 51 * 128 →
     ((payloads d).map (fun p => p.drop 1)).flatten = d ∧
     (∀ p ∈ payloads d, p.length ≤ 52) ∧
     ∀ (i : Nat) (p : List Byte), (payloads d)[i]? = some p →
       p.head? = some (byte (i % 128 + if i + 1 = (payloads d).length then 128 else 0)))

/-- Every host-command row reaches the block as its command: before READY, or from a source, port or HSEQ that no module has, it
changes nothing and is not answered. -/
def Obligations.CommandsBeforeReadyAreIgnored : Prop :=
  ∀ (i : Instr) (m : Meta) (c : Cmd) (s : State), hostCommand i = some (m, c) → s.ready = false → exec i s = .next s

/-- A repeat of a command that is no read and is in the cache of its source is answered from the cache and not executed again: the
configuration words, the time base, the events and every other part of the block stay as they are. A host command whose HSEQ lies 8 to
32,767 behind the counter of its source is stale: it is not executed, GAP_COUNT counts it, and it is answered SEQ_GAP with the counter. -/
def Obligations.RepeatedAndStaleCommandsAreNotExecuted : Prop :=
  (∀ (i : Instr) (m : Meta) (c : Cmd) (s : State) (x : Cached), hostCommand i = some (m, c) → s.ready = true → metaOk m = true →
     m.bcast = false → c ≠ .seqstate → c.isRead = false → s.host.fwq = [] → (s.seqSt (seqIdx m.src false)).valid = true →
     (m.hseq + 65536 - s.get (seqField m.src false)) % 65536 = 0 →
     (s.seqSt (seqIdx m.src false)).cache.find? (fun y => y.hseq == m.hseq) = some x →
     ∃ t, exec i s = .next t ∧ t = sendReply m x.status x.data s ∧ coreSame s t ∧ t.win = s.win ∧
       wordsSame (fun a => a = (Reg.TXQ_DROP m.port).a) s t) ∧
  (∀ (i : Instr) (m : Meta) (c : Cmd) (s : State), hostCommand i = some (m, c) → s.ready = true → metaOk m = true → c ≠ .seqstate →
     s.host.fwq = [] → (s.seqSt (seqIdx m.src m.bcast)).valid = true →
     32769 ≤ (m.hseq + 65536 - s.get (seqField m.src m.bcast)) % 65536 →
     (m.hseq + 65536 - s.get (seqField m.src m.bcast)) % 65536 ≤ 65528 →
     ∃ t u, exec i s = .next t ∧ u = gapEvent m true (65536 - (m.hseq + 65536 - s.get (seqField m.src m.bcast)) % 65536) s ∧
       t = sendReply m 0x21 (leBytes 2 (u.get (seqField m.src m.bcast))) u)

/-! ### Session, reads and captures -/

/-- PING answers with the timestamp and its own bytes, IDENT with its 40 bytes of identity, firmware, state and positions, SEQSTATE with the
counters and the frames that were held before it, REPLAY with the range that is still held; each is answered OK (REPLAY with a gap in
the range: SEQ_GAP) and leaves the rest of the block as it was, but for the replay that REPLAY starts. -/
def Obligations.SessionCommandsAnswer : Prop :=
  ∀ (m : Meta) (s : State), accepts m s →
    (∀ echo : List Byte, echo.length ≤ 43 →
      ∃ t, exec (.ping m echo) s = .next t ∧ answered m 0x00 (leBytes 8 (stampWord s.now) ++ echo) s t ∧ coreSame s t ∧
        wordsSame (replyWord m) s t) ∧
    (∃ t, exec (.ident m) s = .next t ∧ coreSame s t ∧ wordsSame (replyWord m) s t ∧
      answered m 0x00 (leBytes 4 (s.get Reg.UID_LO) ++ leBytes 4 (s.get Reg.UID_HI) ++ leBytes 2 0x6108 ++ [byte (s.get Reg.SI_REV), 0] ++
        leBytes 4 (fwVersion s) ++ [byte (s.get Reg.ACTIVE_BANK + 2 * s.get (bankValid (inactiveBank s))), byte (s.get Reg.LC_STATE),
          byte s.modeNow, 0] ++ leBytes 4 (globalStatus s) ++ [byte (s.get Reg.USABLE), byte (s.get Reg.RESET_CAUSE)] ++
        leBytes 2 (s.get Reg.BOOT_COUNT) ++ leBytes 8 (stampWord s.now) ++ [byte (s.get Reg.POS_UPH), byte (s.get Reg.POS_DNH), 0, 0]) s t) ∧
    (∃ t, exec (.seqstate m) s = .next t ∧ coreSame s t ∧ wordsSame (replyWord m) s t ∧
      answered m 0x00 (leBytes 2 (s.get (Reg.LAST_HSEQ m.src)) ++ leBytes 2 (s.get (Reg.LAST_BHSEQ m.src)) ++ leBytes 2 (s.get Reg.LAST_DSEQ) ++
        leBytes 2 (oldestDseq s) ++ leBytes 2 s.host.replayBuf.length ++ leBytes 2 (s.get Reg.BOOT_COUNT) ++ leBytes 6 s.start.readySpan ++
        [byte (b01 (s.seqSt (seqIdx m.src false)).valid + 2 * b01 (s.seqSt (seqIdx m.src true)).valid)]) s t) ∧
    (∀ first count : Nat, 1 ≤ count → count ≤ 4096 →
      let held := heldRange first count s
      let from_ := (held.head?.map (·.seq)).getD first
      ∃ t, exec (.replay m first count) s = .next t ∧ coreSame s t ∧ wordsSame (replyWord m) s t ∧
        answered m (if held.length = count then 0x00 else 0x21)
          (leBytes 2 from_ ++ leBytes 2 held.length ++ leBytes 2 (oldestDseq s) ++ leBytes 2 (s.get Reg.LAST_DSEQ)) s t ∧
        kvGet (fun _ => none) t.host.replays m.src = (if held.length = 0 then none else some ⟨from_, held.length, m.port⟩))

/-- REPLAY_FRAME_SEND puts the next held frame of a replay, as it was issued, into the queue of the source that asked, and counts it off;
no word of configuration space, no replay frame and no other part of the block changes. -/
def Obligations.ReplayFramesAreSentAgain : Prop :=
  ∀ (src : Nat) (s : State) (r : Replay) (f : Frame), s.ready = true → kvGet (fun _ => none) s.host.replays src = some r → 2 ≤ r.left →
    s.host.replayBuf.find? (fun x => x.seq == r.next) = some f → hasRoom s (destOf ⟨src, false, 0, r.port⟩) = true →
    ∃ t, exec (.replayFrameSend src) s = .next t ∧ coreSame s t ∧ t.regs = s.regs ∧ t.win = s.win ∧ t.host.replayBuf = s.host.replayBuf ∧
      kvGet (fun _ => none) t.host.replays src = some ⟨(r.next + 1) % 65536, r.left - 1, r.port⟩ ∧
      (src = 0 → t.host.hq = s.host.hq ++ [f]) ∧ (src = 1 → t.host.twq = s.host.twq ++ [f]) ∧
      (2 ≤ src → (t.pt r.port).txq = (s.pt r.port).txq ++ [routeTo s r.port f])

/-- A read is answered OK with the data that the state holds, and changes nothing in the block but the blocks that it opens: the words of
configuration space (but the sequence counter and TORN_COUNT), the time base, the tiers and every other part stay as they are. -/
def Obligations.ReadsChangeNothing : Prop :=
  ∀ (m : Meta) (s : State), accepts m s →
    let keeps (t : State) : Prop := coreSame s t ∧ wordsSame (fun a => replyWord m a ∨ a = Reg.TORN_COUNT.a) s t
    (∀ rdSrc kind sub first count : Nat, rdSrc ≤ 1 → kind ≤ 2 → 1 ≤ count → first + count ≤ 108 →
      (kind = 2 → rdSrc = 0 ∧ sub < s.win.completed.n) → noSnap s rdSrc = false →
      ∃ t, exec (.readCells m rdSrc kind sub first count) s = .next t ∧ answered m 0x00 (cellsData s rdSrc kind sub first count) s t ∧ keeps t) ∧
    (∀ rdSrc : Nat, rdSrc ≤ 1 → s.get Reg.I_SRC ≠ 3 → noSnap s rdSrc = false →
      ∃ t, exec (.readCurrent m rdSrc) s = .next t ∧ answered m 0x00 (currentData s rdSrc) s t ∧ keeps t) ∧
    (∀ rdSrc first count : Nat, rdSrc ≤ 1 → 1 ≤ count → first + count ≤ 242 → noSnap s rdSrc = false →
      ∃ t, exec (.readTemps m rdSrc first count) s = .next t ∧ answered m 0x00 (tempsData s rdSrc first count) s t ∧ keeps t) ∧
    (∀ slot cell off len : Nat, entryOf slot cell = some (off, len) →
      let filed := (bankBytes s.win.completed off len).any (fun b => b != 0)
      ∃ t, exec (.readAnalysis m slot cell) s = .next t ∧ keeps t ∧ answered m 0x00 (fastHead s false (!filed) ++ [byte slot, byte cell] ++
        if filed = true then bankBytes s.win.completed off len else []) s t) ∧
    (∀ first count : Nat, 1 ≤ count → count ≤ 64 → first + count ≤ 544 →
      ∃ t d, exec (.evtRead m first count) s = .next t ∧ answered m 0x00 d s t ∧ coreSame s t ∧ wordsSame (replyWord m) s t ∧
        d.take 3 = leBytes 2 first ++ [byte count] ∧ d.length = 3 + 8 * count ∧
        ∀ i, i < count → (d.drop (3 + 8 * i)).take 8 = [byte (s.get (Reg.LATCHED (first + i)) + 2 * s.get (Reg.MASKED (first + i)) +
            4 * s.get (Reg.CNT_SAT (first + i)) + 8 * s.get (Reg.ACTIVE (first + i)) + 16 * s.get (Reg.SEV (first + i))), 0] ++
          leBytes 2 (s.get (Reg.COUNT (first + i))) ++ leBytes 4 (s.get (Reg.EVT_LAST_LAST_SPAN (first + i)))) ∧
    (∀ slot : Nat, 8 ≤ slot → slot ≤ 15 → s.get (Reg.JSTATE slot) ≠ 0 →
      let out := (s.job slot).out
      ∃ t, exec (.jobResult m slot) s = .next t ∧ coreSame s t ∧ wordsSame (replyWord m) s t ∧
        answered m 0x00 ((if out = [] then leBytes 8 0 else out.take 8) ++ [byte (b01 (decide (out = []))), byte slot, 0] ++ out) s t) ∧
    (∀ (record offset length : Nat) (r : Record), namedRecord record s = some r → 1 ≤ length → length ≤ 1024 → offset < 20 + r.len →
      let n := min length (20 + r.len - offset)
      ∃ t, exec (.nvRead m record offset length) s = .next t ∧ coreSame s t ∧ wordsSame (replyWord m) s t ∧
        answered m 0x00 (leBytes 4 r.number ++ leBytes 4 offset ++ leBytes 2 n ++ [0] ++ (List.range n).map (fun i => recByte r (offset + i))) s t)

/-- CFG_READ of 1 to 256 words that all lie in a region of configuration space is answered OK with each word as it stands for its source, in
ascending order: a read that includes TB_NOW_LO or CHG_NET_LO captures the timestamp or the three accumulators first, SHADOW shows the
staged fields of the shadow set, and TORN is set where the held block has been swapped. Nothing changes in the block but the captures
of its source, the blocks that it opens, the sequence counter and TORN_COUNT. -/
def Obligations.CfgReadShowsTheWords : Prop :=
  ∀ (m : Meta) (s : State), accepts m s →
    (∀ addr : Nat, addr % 4 = 0 → inRegion addr = true → inWindow addr = false → addr ≠ Wd.TB_NOW_LO → addr ≠ Wd.CHG_NET_LO →
      ∃ t, exec (.cfgRead m addr 1 false) s = .next t ∧
        answered m 0x00 (0 :: leBytes 4 addr ++ leBytes 4 (readWord m.src s addr)) s t ∧ coreSame s t ∧ t.win = s.win ∧
        wordsSame (replyWord m) s t ∧ t.host.tbCap = s.host.tbCap ∧ t.host.chgCap = s.host.chgCap) ∧
    (∀ (addr count : Nat) (shadow : Bool), 1 ≤ count → count ≤ 256 → addr % 4 = 0 → (∀ i, i < count → inRegion (addr + 4 * i) = true) →
      let lo := max addr 0x100000
      let w := windowRead m.src (lo - 0x100000) (min (addr + 4 * count) 0x180000 - lo) s
      let u := if addr ≤ Wd.TB_NOW_LO ∧ Wd.TB_NOW_LO < addr + 4 * count then captureNow m.src w.1 else w.1
      let v := if addr ≤ Wd.CHG_NET_LO ∧ Wd.CHG_NET_LO < addr + 4 * count then captureChg m.src u else u
      let word (a : Nat) : Nat := if shadow then (readWord m.src v a &&& (0xFFFFFFFF ^^^ stagedMask a)) ||| shadowWord v a else readWord m.src v a
      ∃ t, exec (.cfgRead m addr count shadow) s = .next t ∧ coreSame s t ∧ wordsSame (fun a => replyWord m a ∨ a = Reg.TORN_COUNT.a) s t ∧
        answered m 0x00 (byte (b01 w.2 + 2 * b01 shadow) :: leBytes 4 addr ++ (List.range count).flatMap (fun i => leBytes 4 (word (addr + 4 * i)))) s t) ∧
    (∃ t, exec (.tbNowCapture m) s = .next t ∧ coreSame s t ∧ wordsSame (replyWord m) s t ∧
      kvGet (fun _ => none) t.host.tbCap m.src = some s.now ∧
      answered m 0x00 (0 :: leBytes 4 Wd.TB_NOW_LO ++ leBytes 4 (s.clk.span)) s t) ∧
    (∃ t n i o, exec (.chgNetCapture m) s = .next t ∧ coreSame s t ∧ wordsSame (replyWord m) s t ∧
      kvGet (fun _ => none) t.host.chgCap m.src = some (n, i, o) ∧ n = leNat (leBytes 4 (chgNow s)[0]! ++ leBytes 4 (chgNow s)[1]!) ∧
      answered m 0x00 (0 :: leBytes 4 Wd.CHG_NET_LO ++ leBytes 4 n) s t)

/-! ### The time base -/

/-- SPAN_IN_EDGE: an edge of the selected polarity, at least 1 µs after the last one, is counted by the prescaler; one of the other polarity
only dates the last edge. On the time master the edge that completes the count gives the input period, which is valid from 1 to 40
million units of 2.5 ns (400 Hz to 10 Hz), and two such periods in a row that agree within 1 % make the input valid and, in FREE with
SOURCE = 0, start the acquisition. EDGE_MISSING_TIMEOUT declares a loss: the input is no longer valid, and in LOCKED and ACQUIRING the loss
waits for the next mark; a follower that has marks of the other direction is to turn to it at the next mark instead, and while it is to turn
a missing mark changes nothing (log entry 14). -/
def Obligations.EdgesAreMeasuredAndMissed : Prop :=
  (∀ (rising : Bool) (t : Nat) (phase : Int) (s : State), s.tbUp = true → (∀ u, s.tb.lastEdge = some u → u + 400 ≤ t) →
     (rising = s.flag Reg.EDGE → exec (.spanInEdge rising t phase) s = .next { s with tb := { s.tb with lastEdge := some t } }) ∧
     (rising ≠ s.flag Reg.EDGE → s.tb.edges < s.get Reg.PRESCALE_M1 →
       exec (.spanInEdge rising t phase) s = .next { s with tb := { s.tb with lastEdge := some t, edges := s.tb.edges + 1 } }) ∧
     (∀ v : Nat, isMaster s = true → rising ≠ s.flag Reg.EDGE → s.get Reg.PRESCALE_M1 ≤ s.tb.edges → s.tb.lastPre = some v →
       v + 1000000 ≤ t → t ≤ v + 40000000 →
       let p := t - v
       let near := s.tb.lastPeriod ≠ 0 ∧ 100 * (if p < s.tb.lastPeriod then s.tb.lastPeriod - p else p - s.tb.lastPeriod) ≤ s.tb.lastPeriod
       ∃ w, exec (.spanInEdge rising t phase) s = .next w ∧ w.get Reg.IN_PERIOD = p ∧ w.tb.lastPeriod = p ∧ w.tb.lastPre = some t ∧
         w.tb.edges = 0 ∧ w.clk = s.clk ∧ w.evt = s.evt ∧
         (s.tb.valids ≠ 0 → near → w.tb.valids = s.tb.valids + 1 ∧ w.flag Reg.INPUT_VALID = true) ∧
         (s.tb.valids = 0 ∨ ¬ near → w.tb.valids = 1 ∧ w.flag Reg.INPUT_VALID = false) ∧
         (s.tb.valids ≠ 0 → near → s.get Reg.STATE = 0 → s.get Reg.SOURCE = 0 → w.get Reg.STATE = 1 ∧ w.tb.acqFrom = .free ∧
           w.tb.qualified = true))) ∧
  (∀ s : State, s.tbUp = true →
     (isMaster s = true ∨ (s.tb.otherDir = false ∧ s.tb.dirDue = false) → ∃ t, exec .edgeMissingTimeout s = .next t ∧ t.flag Reg.INPUT_VALID = false ∧
       t.get Reg.STATE = s.get Reg.STATE ∧ t.clk = s.clk ∧ t.evt = s.evt ∧ (isMaster s = true → t.tb.valids = 0) ∧
       (isMaster s = false → t.tb.marks = 0 ∧ t.tb.frames = 0) ∧
       (s.get Reg.STATE = 2 ∨ s.get Reg.STATE = 1 → s.tb.loss = 0 → t.tb.loss = 1) ∧
       (s.get Reg.STATE = 0 ∨ s.get Reg.STATE = 3 → t.tb.loss = s.tb.loss)) ∧
     (isMaster s = false → s.tb.dirDue = true → exec .edgeMissingTimeout s = .next s) ∧
     (isMaster s = false → s.tb.dirDue = false → s.tb.otherDir = true → exec .edgeMissingTimeout s =
       .next { s with tb := { s.tb with dirDue := true, otherDir := false, dirFailed := some (s.get Reg.MARK_DIR) } }))

/-- HOLDOVER_LIMIT at a mark: a holdover that has reached HOLDOVER_SPANS falls back to FREE with the internal span, and the event FALLBACK
carries the count, or 0 where HOLDOVER_SPANS is 0; a head that stands by takes over its segment instead, raises TAKEOVER with its tag, keeps the held period and acquires
SPAN_IN where that is valid. Below the limit, in another state or within a span nothing happens. -/
def Obligations.HoldoverLimitFallsBackToFree : Prop :=
  ∀ s : State, s.tbUp = true →
    (s.clk.grain = 0 → s.get Reg.STATE = 3 → s.get Reg.HOLDOVER_SPANS ≤ s.get Reg.HOLDOVER_COUNT → takesOver s = false →
      ∃ u, exec .holdoverLimit s = .next (raise 480 (3 + 256 * (if s.get Reg.HOLDOVER_SPANS = 0 then 0 else s.get Reg.HOLDOVER_COUNT)) u) ∧ u.get Reg.STATE = 0 ∧
        u.get Reg.HOLDOVER_COUNT = 0 ∧ u.clk = s.clk ∧
        u.tb.period = internalPeriod s ∧ u.tb.nextPeriod = internalPeriod s) ∧
    (s.clk.grain = 0 → s.get Reg.STATE = 3 → s.get Reg.HOLDOVER_SPANS ≤ s.get Reg.HOLDOVER_COUNT → takesOver s = true →
      ∃ u : State, u.tb.takeover = true ∧ u.tb.period = s.tb.period ∧ u.clk = s.clk ∧ u.get Reg.STATE = 3 ∧
        let v := raise 480 (5 + 256 * (128 + (s.tb.takeovers + 1) % 128)) u
        exec .holdoverLimit s = .next (if v.get Reg.SOURCE = 0 ∧ inputLive v = true then
          acquire .holdover v.tb.mean (v.put Reg.IN_PERIOD v.tb.lastPeriod) else enterFree true v)) ∧
    (s.get Reg.STATE ≠ 3 ∨ s.get Reg.HOLDOVER_COUNT < s.get Reg.HOLDOVER_SPANS ∨ s.clk.grain ≠ 0 → exec .holdoverLimit s = .next s)

/-- SPAN_MARK: without a base die that runs the time base the module's clock goes to grain 0 of the next span and nothing else moves but the
memory of the mark; in STORE the grains stand. With one, the mark opens the next span: the clock stands at its grain 0, and every tier
whose link is up counts the new span, or keeps a higher count. The time base of a master at a mark: LOCKED gives the span that begins
the corrected input period, within 1 % of the period before, and keeps its state; a declared loss ends LOCKED in HOLDOVER on the period
in force; ACQUIRING becomes LOCKED within 1/16 grain and 100 ppm, and not otherwise; HOLDOVER counts its spans. -/
def Obligations.SpanMarkMovesTheTimeBase : Prop :=
  (∀ (phase : MarkPhase) (vcore vio aux : Nat) (temps : List Int) (s : State),
     (s.pwr.phase = .store → exec (.spanMark phase vcore vio aux temps) s = .next s) ∧
     (s.pwr.phase ≠ .store → s.tbUp = false → ∃ t, exec (.spanMark phase vcore vio aux temps) s = .next t ∧
       t.clk = ⟨s.clk.span + 1, 0⟩ ∧ t = { s with clk := t.clk, tb := t.tb } ∧ t.tb.jumped = false) ∧
     (s.tbUp = true → ∃ t, exec (.spanMark phase vcore vio aux temps) s = .next t ∧ t.clk = ⟨s.clk.span + 1, 0⟩ ∧
       ∀ k, k < 6 → s.linkUp k = true → (t.tl k).span = max (s.tl k).span (s.clk.span + 1))) ∧
  (∀ (phase : Int) (s : State), isMaster s = true →
     (s.get Reg.STATE = 2 → s.tb.loss = 0 → s.tb.step = none → s.get Reg.IN_PERIOD ≠ 0 →
       (tbAtMark phase s).get Reg.STATE = 2 ∧
       (tbAtMark phase s).tb.period = tracked s.tb.period (s.get Reg.IN_PERIOD) phase ∧
       (tbAtMark phase s).tb.period ≤ s.tb.period + s.tb.period / 100 ∧ s.tb.period ≤ (tbAtMark phase s).tb.period + s.tb.period / 100) ∧
     (s.get Reg.STATE = 2 → s.tb.loss ≠ 0 → s.get Reg.HOLDOVER_SPANS ≠ 0 → ∃ u, tbAtMark phase s = tbEvent 2 s.tb.loss u ∧ u.get Reg.STATE = 3 ∧
       u.get Reg.HOLDOVER_COUNT = 0 ∧ u.tb.period = s.tb.period ∧ u.tb.nextPeriod = s.tb.period) ∧
     (s.get Reg.STATE = 1 → s.tb.loss = 0 → s.tb.step = none → s.tb.qualified = true → s.get Reg.IN_PERIOD ≠ 0 →
       let p := pulled (s.get Reg.IN_PERIOD) phase
       (phase.natAbs ≤ 1 → near100 p (s.get Reg.IN_PERIOD) = true → ∃ u, tbAtMark phase s = tbEvent 1 (s.tb.sinceEdge + 1) u ∧
         u.get Reg.STATE = 2 ∧ u.get Reg.HOLDOVER_COUNT = 0 ∧ u.tb.period = p) ∧
       (1 < phase.natAbs ∨ near100 p (s.get Reg.IN_PERIOD) = false →
         (tbAtMark phase s).get Reg.STATE = 1 ∧ (tbAtMark phase s).tb.period = p)) ∧
     (s.get Reg.STATE = 3 → (tbAtMark phase s).get Reg.HOLDOVER_COUNT = min 256 (s.get Reg.HOLDOVER_COUNT + 1) ∧
       (tbAtMark phase s).get Reg.STATE = 3 ∧ (tbAtMark phase s).tb.period = s.tb.period))

/-- FREQUENCY_STEP at its grain, up to which the grains of its span pass: the span takes the new period and M its new value, and STEP is raised
with them, but not for the internal step of a master that a follower makes with it; a step of a later span waits. SPAN_JUMP at grain 0 of the span that its master has named, or a later one: the span number
becomes the higher one and JUMP_COUNT counts it, and the periodic write of R49 follows where the jump reaches it; a number that is not higher
is dropped. TIER_MARK_TIMEOUT puts a tier that follows marks
into HOLDOVER when its last mark showed LOCKED or HOLDOVER, and into FREE on the internal span otherwise; a tier that already holds or
runs free goes on. -/
def Obligations.StepsJumpsAndLostMarks : Prop :=
  (∀ (s : State) (g p : Nat), s.tb.step = some (g, p) → s.tbUp = true →
    (g ≤ s.abs ∨ g / 4096 = s.clk.span →
      let at_ := if g / 4096 = s.clk.span then g % 4096 else s.clk.grain
      ∃ u, exec .frequencyStep s = .next (if s.tb.stepQuiet = true then u else raise 480 (9 + 256 * mLog2 p + 4096 * at_) u) ∧ u.tb.period = p ∧
        u.tb.nextPeriod = p ∧ u.tb.step = none ∧ u.get Reg.M_LOG2 = mLog2 p ∧
        u.clk = ⟨s.clk.span, if g ≤ s.abs then s.clk.grain else g % 4096⟩ ∧ u.evt = s.evt ∧ u.get Reg.STATE = s.get Reg.STATE) ∧
    (s.abs < g → g / 4096 ≠ s.clk.span → exec .frequencyStep s = .next s)) ∧
  (∀ (s : State) (n g : Nat), s.tb.jumpTo = some (n, g) → s.tbUp = true → s.clk.grain = 0 → g ≤ s.clk.span →
    (n ≤ s.clk.span → exec .spanJump s = .next { s with tb := { s.tb with jumpTo := none } }) ∧
    (s.clk.span < n → ∃ u : State,
        let v := cancelUnqualified (cancelSkipped (s.clk.span - 1) (tbEvent 4 (min (n - s.clk.span) (2 ^ 24 - 1)) u))
        exec .spanJump s = .next (if spanWriteDue v = true then writeSpanMark v else v) ∧ u.clk = ⟨n, 0⟩ ∧ u.tb.jumped = true ∧ u.tb.jumpTo = none ∧
        u.get Reg.JUMP_COUNT = min (s.get Reg.JUMP_COUNT + 1) (2 ^ Reg.JUMP_COUNT.w - 1))) ∧
  (∀ (k : Nat) (s : State), k ≤ 5 →
    ((s.tl k).tstate = 1 ∨ (s.tl k).tstate = 2 →
      ((s.tl k).mstate = 2 → exec (.tierMarkTimeout k) s = .next (s.setTl k { s.tl k with tstate := 3, tcount := 0, marks := 0 })) ∧
      ((s.tl k).mstate = 3 →
        exec (.tierMarkTimeout k) s = .next (s.setTl k { s.tl k with tstate := 3, tcount := (s.tl k).mcount, marks := 0 })) ∧
      ((s.tl k).mstate < 2 → ∃ t, exec (.tierMarkTimeout k) s = .next t ∧ (t.tl k).tstate = 0 ∧ (t.tl k).tcount = 0 ∧
        (t.tl k).period = internalPeriod s ∧ (t.tl k).span = (s.tl k).span ∧ t.clk = s.clk ∧ t.evt = s.evt)) ∧
    ((s.tl k).tstate = 0 ∨ (s.tl k).tstate = 3 → exec (.tierMarkTimeout k) s = .next s))

/-- The ordered sets of the time base: the master sends MARK with the number of the span to come out of both ports, at the grain that leaves
it MARK_LEAD, and probes one follower position per span in turn, the second head of a dual-head ring among them, not within 10 µs of a MARK;
every module forwards the MARK, PROBE and ECHO sets that are not addressed to it, the master too; a module answers a PROBE of its own position
with an ECHO, and the master averages 16 round trips, less the 800 ns that the follower waits, into the delay of a position and direction. A
set that arrives ends the hold of a far calibration (relock, log entry 22). -/
def Obligations.TimeSetsTravelTheChain : Prop :=
  ∀ s : State, s.ready = true →
    (isMaster s = true → s.get (Reg.PSTATE 0) = 2 → s.get (Reg.PSTATE 1) = 2 → ∃ t, exec .spanMarkSetSend s = .next t ∧
      (t.pt 0).lastSet = some (.mark ((s.clk.span + 1) % 256)) ∧ (t.pt 1).lastSet = some (.mark ((s.clk.span + 1) % 256)) ∧
      (t.pt 0).markAt = some t.abs ∧ t.clk.span = s.clk.span ∧ t.regs = s.regs ∧ t.tb = s.tb) ∧
    (∀ port : Nat, port ≤ 1 → isMaster s = true →
      let top := s.get Reg.RING_N + (if s.get Reg.TOPOLOGY = 3 then 1 else 0)
      let pos := if s.tb.probeAt = s.clk.span + 1 then s.tb.probeNext else if top ≤ s.tb.probeNext then 1 else s.tb.probeNext + 1
      let hops := if s.get Reg.TOPOLOGY = 2 ∧ port = 1 then s.get Reg.RING_N + 1 - pos else pos
      (0 < top → s.get (Reg.PSTATE port) = 2 → nearMark s port = false → ∃ t, exec (.probeSend port) s = .next t ∧
        (t.pt port).lastSet = some (.probe (hops % 64)) ∧ t.regs = s.regs ∧
        t.tb = { s.tb with probeOut := some (port, hops), probeNext := pos, probeAt := s.clk.span + 1 }) ∧
      (top = 0 ∨ nearMark s port = true → exec (.probeSend port) s = .next s)) ∧
    (∀ port data : Nat, port ≤ 1 → isMaster s = false →
      (data % 64 = posOf s port → data % 64 ≠ 63 →
        exec (.probeReceived port data) s = .next (relock port { s with tb := { s.tb with echoDue := some (port, data % 64) } })) ∧
      (data % 64 ≠ posOf s port → s.get (Reg.PSTATE (1 - port)) = 2 →
        exec (.probeReceived port data) s = .next ((relock port s).setPt (1 - port) { s.pt (1 - port) with lastSet := some (.probe data) }))) ∧
    (∀ port h : Nat, s.tb.echoDue = some (port, h) → s.get (Reg.PSTATE port) = 2 → ∃ t, exec .echoSend s = .next t ∧
      (t.pt port).lastSet = some (.echo h) ∧ t.tb.echoDue = none ∧ t.regs = s.regs) ∧
    (∀ (port data ns : Nat) (n sum x : Nat), port ≤ 1 → isMaster s = true → s.get (Reg.PSTATE (1 - port)) = 2 → s.tb.probeOut = some (port, data % 64) →
      kvGet (fun _ => (0, 0, 0)) s.tb.probes (64 * port + data % 64) = (n, sum, x) →
      (n < 15 → ∃ t, exec (.echoReceived port data ns) s = .next t ∧
        kvGet (fun _ => (0, 0, 0)) t.tb.probes (64 * port + data % 64) = (n + 1, sum + (ns - 800), 0) ∧ t.tb.probeOut = none ∧ t.regs = s.regs ∧
        (t.pt (1 - port)).lastSet = some (.echo data)) ∧
      (n = 15 → ∃ t, exec (.echoReceived port data ns) s = .next t ∧ t.tb.probeOut = none ∧ (t.pt (1 - port)).lastSet = some (.echo data) ∧
        kvGet (fun _ => (0, 0, 0)) t.tb.probes (64 * port + data % 64) = (0, 0, 0) ∧
        kvGet (fun _ => 0) t.tb.delays (64 * port + data % 64) = (Config.roundQ (sum + (ns - 800)) 32).toNat % 2 ^ 18)) ∧
    (∀ (port data ns : Nat), port ≤ 1 → isMaster s = false ∨ s.tb.probeOut ≠ some (port, data % 64) → s.get (Reg.PSTATE (1 - port)) = 2 →
      exec (.echoReceived port data ns) s = .next ((relock port s).setPt (1 - port) { s.pt (1 - port) with lastSet := some (.echo data) })) ∧
    (∀ (port data : Nat) (phase : Int), port ≤ 1 → isMaster s = true → s.get (Reg.PSTATE (1 - port)) = 2 →
      exec (.markReceived port data phase) s =
        .next ((relock port s).setPt (1 - port) { s.pt (1 - port) with lastSet := some (.mark data), markAt := some s.abs }))

/-- The frames of the time base on a follower: a time frame of the direction in use gives the master tag, the direction, the hops to the master
and the period of the source, which is that of the next span while the follower is LOCKED or ACQUIRING; DELAY_SET gives the delay to the
master; MARK of the direction in use makes the input valid. The master queues one time frame per span for every port that is UP, and
takes a SPAN_REPORT as an order to jump to the reported count plus 8 at the first mark at least 2 spans later; further reports raise the
number and keep the mark. -/
def Obligations.TimeFramesGuideTheFollower : Prop :=
  ∀ s : State, s.ready = true →
    (∀ (port : Nat) (d : List Byte), port ≤ 1 → isMaster s = false → s.tb.takeover = false →
      (port = s.get Reg.MARK_DIR ∨ s.get Reg.INPUT_VALID = 0) → par d 0 6 = s.clk.span → ∃ t, exec (.timeFrameReceived port d) s = .next t ∧
        t.get Reg.MASTER_TAG = par d 12 1 ∧ t.get Reg.MARK_DIR = port ∧ t.flag Reg.INPUT_VALID = true ∧
        t.get Reg.HOPS_TO_MASTER = posOf s port ∧ t.tb.tfPeriod = par d 8 4 ∧ t.tb.frames = s.tb.frames + 1 ∧ t.clk = s.clk ∧
        (port = s.get Reg.MARK_DIR → t.evt = s.evt) ∧
        t.get Reg.STATE = s.get Reg.STATE ∧ t.tb.period = s.tb.period ∧
        t.tb.nextPeriod = (if s.get Reg.STATE = 1 ∨ s.get Reg.STATE = 2 then par d 8 4 else s.tb.nextPeriod)) ∧
    (∀ d : List Byte, isMaster s = false → par d 4 1 % 2 = s.get Reg.MARK_DIR → par d 0 3 < 2 ^ 18 →
      par d 0 3 ≤ (s.get Reg.MARK_LEAD - 2) * 1000 → ∃ t, exec (.delaySetReceived d) s = .next t ∧
        t = { s with regs := t.regs, tb := { s.tb with dirDelay := t.tb.dirDelay } } ∧
        kvGet (fun _ => 0) t.tb.dirDelay (s.get Reg.MARK_DIR) = par d 0 3 + 1 ∧
        t.get Reg.MASTER_DELAY = par d 0 3 ∧ t.flag Reg.DELAY_VALID = true) ∧
    (∀ d : List Byte, isMaster s = true →
      (s.tb.jumpTo = none → exec (.spanReportReceived d) s = .next { s with tb := { s.tb with
        jumpTo := some (par d 0 6 + 8, s.clk.span + if s.clk.grain = 0 then 2 else 3) } }) ∧
      (∀ n g, s.tb.jumpTo = some (n, g) → exec (.spanReportReceived d) s = .next { s with tb := { s.tb with
        jumpTo := some (max n (par d 0 6 + 8), g) } })) ∧
    (∀ (port data : Nat) (phase : Int), port ≤ 1 → isMaster s = false → port = s.get Reg.MARK_DIR → s.get Reg.STATE = 1 →
      ∃ t, exec (.markReceived port data phase) s = .next t ∧ t.flag Reg.INPUT_VALID = true ∧ t.get Reg.MARK_DIR = port ∧
        t.tb.marks = s.tb.marks + 1 ∧ t.get Reg.STATE = 1 ∧ t.clk = s.clk ∧ t.evt = s.evt) ∧
    (∀ p : Nat, isMaster s = true → p ≤ 1 → (∀ q, q ≤ 1 → (portUp s q = true ↔ q = p)) → (s.pt p).txq.length < 32 → frameDue s = true →
      ∃ t, exec .timeFrameSend s = .next t ∧ (t.pt p).txq = (s.pt p).txq ++
          [routeAll s p (ownFrame s 4 (kvGet (fun _ => 0) s.chain.txSeq 4) 0 (timePayload s))] ∧ t.regs = s.regs ∧
        t.tb = { s.tb with frameAt := s.clk.span + 1, stepTold := (stepThisSpan s).isSome }) ∧
    (isMaster s = true → frameDue s = false → exec .timeFrameSend s = .next s)

/-! ### The Rinsa chain -/

/-- A port trains: TRAIN sets of the far end are counted, those at another rate than before anew, and when 64 have been received and 64 sent the
link is up with fresh credit counts and the rate on trial (the up port sends its 64 from its 64th on: log entry 22); sets with the port's own name show a miswired chain; a training that
times out begins to count anew, and tries the other rate on the down port where RATE_MODE is AUTO; a miswired port trains again. -/
def Obligations.PortsTrain : Prop :=
  ∀ (port : Nat) (s : State), port ≤ 1 →
    (∀ (fallback : Bool) (count : Nat), (s.get (Reg.PSTATE port) = 1 ∨ s.get (Reg.PSTATE port) = 4) → 1 ≤ count →
      (port = 1 ∨ (s.pt port).trialFull = !fallback) →
      let n := (if (s.pt port).trialFull = !fallback then (s.pt port).trainRx else 0) + count
      (n < trainSets port → ∃ t, exec (.trainSetReceived port (1 - port) fallback count) s = .next t ∧
        t.get (Reg.PSTATE port) = 1 ∧ (t.pt port).trainRx = n ∧ (t.pt port).trialFull = !fallback ∧
        (64 ≤ n → (t.pt port).lastSet = some (.train port))) ∧
      (trainSets port ≤ n → ∃ u, exec (.trainSetReceived port (1 - port) fallback count) s = .next (linkUpNow port u) ∧
        coreSame s u ∧ (u.pt port).trialFull = !fallback) ∧
      (trainSets port ≤ n → s.ready = false → ∃ t, exec (.trainSetReceived port (1 - port) fallback count) s = .next t ∧
        t.get (Reg.PSTATE port) = 2 ∧ t.get (Reg.FALLBACK port) = b01 fallback ∧ (t.pt port).sent = 0 ∧ (t.pt port).released = 0 ∧
        (t.pt port).freed = 0 ∧ credits t port = 8)) ∧
    (∀ (fallback : Bool) (count : Nat), (s.get (Reg.PSTATE port) = 1 ∨ s.get (Reg.PSTATE port) = 4) → 1 ≤ count → s.ready = false →
      ∃ t, exec (.trainSetReceived port port fallback count) s = .next t ∧ t.get (Reg.PSTATE port) = 5 ∧ restSame s t) ∧
    ((s.get (Reg.PSTATE 0) = 1 ∨ s.get (Reg.PSTATE 0) = 4) →
      exec .linkTrainTimeout s = .next (s.setPt 0 { s.pt 0 with
        trialFull := (if s.get Reg.RATE_MODE = 0 then !(s.pt 0).trialFull else (s.pt 0).trialFull), trainRx := 0 })) ∧
    (s.get (Reg.PSTATE port) = 5 → ∃ t, exec (.miswiredRetry port) s = .next t ∧ t.get (Reg.PSTATE port) = 1 ∧
      (t.pt port).rxbuf = [] ∧ (t.pt port).trainRx = 0 ∧ (t.pt port).trialFull = startFull s ∧ coreSame s t)

/-- Calibration and change of rate: a port whose calibration is due sends one CAL set and shows CAL, and UP again at its end, when the sets that
fell due go out, MARK, ECHO, PROBE, BEACON and CREDIT in this order; a port of which none is due goes on; a CAL set of the far end holds the
port. On a link at full rate ERR_FALLBACK errors or more in a second make the down port train at fallback rate, with a back-off longer by one, up
to 6, where its return to full rate is not a second old, and the chain port event carries the errors; the up port asks for it with TRAIN sets; fewer
errors change nothing. The retry trains at full rate, with an event; one second at full rate below that count resets the back-off. -/
def Obligations.PortsCalibrateAndChangeRate : Prop :=
  ∀ (port : Nat) (s : State), port ≤ 1 →
    (s.get (Reg.PSTATE port) = 2 → calNow s port = true → ∃ t, exec (.portCalStart port) s = .next t ∧ t.get (Reg.PSTATE port) = 3 ∧
      (t.pt port).lastSet = some (.cal (port + 4)) ∧ (t.pt port).calDue = false ∧ coreSame s t) ∧
    (calNow s port = false → exec (.portCalStart port) s = .next s) ∧
    (s.get (Reg.PSTATE port) = 3 → ∃ t, exec (.portCalDone port) s = .next t ∧ t.get (Reg.PSTATE port) = 2 ∧ (t.pt port).held = [] ∧
      (t.pt port).lastSet = (((List.range 7).flatMap (fun r => (s.pt port).held.filter (fun o => o.rank == r))).getLast?).or (s.pt port).lastSet ∧
      coreSame s t) ∧
    (s.get (Reg.PSTATE port) ≠ 3 → exec (.portCalDone port) s = .next s) ∧
    (∀ (fallback : Bool) (count : Nat), (s.get (Reg.PSTATE port) = 2 ∨ s.get (Reg.PSTATE port) = 3) → 1 ≤ count →
      exec (.trainSetReceived port (4 + port) fallback count) s = .next (s.setPt port { s.pt port with calHold := true })) ∧
    (∀ errs : Nat, s.get (Reg.PSTATE 0) = 2 → s.get (Reg.FALLBACK 0) = 0 → s.get Reg.RATE_MODE = 0 → s.get Reg.ERR_FALLBACK ≤ errs → ∃ u,
      exec (.rateFallback 0 errs) s = .next (if s.ready = true then raise 481 (3 + 256 + 65536 * min errs 65535) u else u) ∧ coreSame s u ∧
        u.get (Reg.FALLBACK 0) = 1 ∧ u.get (Reg.PSTATE 0) = 1 ∧ (u.pt 0).trialFull = false ∧ (u.pt 0).trainRx = 0 ∧ (u.pt 0).calDue = true ∧
        u.get (Reg.RATE_BACKOFF 0) = (if (s.pt 0).firstSec = true then min 6 (s.get (Reg.RATE_BACKOFF 0) + 1) else s.get (Reg.RATE_BACKOFF 0))) ∧
    (∀ errs : Nat, s.get (Reg.PSTATE 1) = 2 → s.get (Reg.FALLBACK 1) = 0 → s.get Reg.RATE_MODE = 0 → s.get Reg.ERR_FALLBACK ≤ errs →
      exec (.rateFallback 1 errs) s =
        .next (s.setPt 1 { s.pt 1 with askFall := true, fallErrs := some errs, lastSet := some (.train 3) })) ∧
    (∀ errs : Nat, errs < s.get Reg.ERR_FALLBACK → exec (.rateFallback port errs) s = .next s) ∧
    (s.get (Reg.PSTATE 0) = 2 → s.get (Reg.FALLBACK 0) = 1 → s.get Reg.RATE_MODE = 0 → ∃ u,
      exec .rateRetryExpiry s = .next (if s.ready = true then raise 481 (4 + 65536 * min (s.get (Reg.RATE_BACKOFF 0)) 65535) u else u) ∧
        coreSame s u ∧ u.get (Reg.FALLBACK 0) = 0 ∧ u.get (Reg.PSTATE 0) = 1 ∧ (u.pt 0).trialFull = true ∧ (u.pt 0).trainRx = 0 ∧
        (u.pt 0).calDue = true ∧ (u.pt 0).firstSec = true) ∧
    (s.get (Reg.PSTATE 0) = 2 → s.get (Reg.FALLBACK 0) = 0 → ∃ t, exec .rateBackoffReset s = .next t ∧ t.get (Reg.RATE_BACKOFF 0) = 0 ∧
      (t.pt 0).firstSec = false ∧ coreSame s t)

/-- A link goes DOWN for the loss of symbol lock, an overlong calibration of the far end, more than 64 code errors in 1 ms, or an exhausted
credit: before READY the port shows DOWN, trains again from fresh counts and has flushed its receive buffers; within a calibration of the
far end the loss of symbol lock changes nothing. Every code error counts in CODE_ERR, and 64 of them or fewer leave the link UP. The causes are given by the row that names them (linkDown's second argument is R350's reason). -/
def Obligations.LinksGoDown : Prop :=
  ∀ (port : Nat) (s : State), port ≤ 1 → portUp s port = true →
    let down (o : Out) : Prop := s.ready = false → ∃ t, o = .next t ∧ t.get (Reg.PSTATE port) = 4 ∧ (t.pt port).rxbuf = [] ∧ (t.pt port).sent = 0 ∧
      (t.pt port).released = 0 ∧ (t.pt port).freed = 0 ∧ (t.pt port).txq = [] ∧ coreSame s t
    ((s.pt port).calHold = false → exec (.symbolLockLoss port) s = .next (linkDown port 1 s) ∧ down (exec (.symbolLockLoss port) s)) ∧
    ((s.pt port).calHold = true → exec (.symbolLockLoss port) s = .next s ∧ exec (.calHoldExpiry port) s = .next (linkDown port 5 s) ∧
      down (exec (.calHoldExpiry port) s)) ∧
    (∀ errs : Nat, 64 < errs → (∃ u, exec (.codeErrorBurst port errs) s = .next (linkDown port 2 u) ∧ portUp u port = true) ∧
      down (exec (.codeErrorBurst port errs) s)) ∧
    (∀ errs : Nat, 1 ≤ errs → errs ≤ 64 →
      (s.ready = true → exec (.codeErrorBurst port errs) s = .next (checkNote port 3 errs (s.bumpBy (Reg.CODE_ERR port) errs))) ∧
      (s.ready = false → ∃ t, exec (.codeErrorBurst port errs) s = .next t ∧ restSame s t ∧ portUp t port = true ∧
        t.get (Reg.CODE_ERR port) = min (s.get (Reg.CODE_ERR port) + errs) (2 ^ (Reg.CODE_ERR port).w - 1))) ∧
    (exec (.codeErrorBurst port 0) s = .next s) ∧
    (credits s port = 0 → frameWaits s port = true → exec (.creditRetrain port) s = .next (linkDown port 3 s) ∧ down (exec (.creditRetrain port) s))

/-- Credits: a CREDIT set whose halves agree gives the far end's released count, one whose halves do not changes nothing; buffers whose frames
have left are released together and the count is sent; a refresh sends the count as it is; the wait without credit is reported once. -/
def Obligations.CreditsFollowTheSets : Prop :=
  ∀ (port : Nat) (s : State), port ≤ 1 →
    (∀ data : Nat, portUp s port = true → data < 256 → data % 16 + data / 16 = 15 → ∃ t, exec (.creditReceived port data) s = .next t ∧
      (t.pt port).released = data % 16 ∧ credits t port = 8 - ((s.pt port).sent + 16 - data % 16) % 16 ∧ t.regs = s.regs ∧ coreSame s t) ∧
    (∀ data : Nat, data % 16 + data / 16 ≠ 15 → exec (.creditReceived port data) s = .next s) ∧
    (s.get (Reg.PSTATE port) = 2 → (s.pt port).rxbuf.any (fun r => !r.fwd) = true → ∃ t, exec (.creditRelease port) s = .next t ∧
      (t.pt port).freed = ((s.pt port).freed + ((s.pt port).rxbuf.filter (fun r => !r.fwd)).length) % 16 ∧
      (t.pt port).rxbuf = (s.pt port).rxbuf.filter (fun r => r.fwd) ∧
      (t.pt port).lastSet = some (.credit ((t.pt port).freed + 16 * (15 - (t.pt port).freed))) ∧ t.regs = s.regs) ∧
    (s.get (Reg.PSTATE port) = 2 →
      exec (.creditRefresh port) s = .next (s.setPt port { s.pt port with lastSet := some (creditSet s port) })) ∧
    (s.ready = true → portUp s port = true → credits s port = 0 → frameWaits s port = true →
      ((s.pt port).creditRaised = false → ∃ v, exec (.creditTimeout port) s = .next (raise 484 v (s.setPt port { s.pt port with creditRaised := true })) ∧
        v % 256 = 16 * port) ∧
      ((s.pt port).creditRaised = true → exec (.creditTimeout port) s = .next s))

/-- At a frame boundary of an UP port with credit, a frame that waits to be forwarded leaves before every local frame, and takes one credit; with
none, the local frame of the best class leaves, unless no TOPO has been received and it is neither a RING nor a TIME frame; without credit nothing
leaves. -/
def Obligations.ForwardedFramesLeaveFirst : Prop :=
  ∀ (port : Nat) (s : State), port ≤ 1 → s.get (Reg.PSTATE port) = 2 →
    (credits s port = 0 → exec (.chainFrameTransmit port) s = .next s) ∧
    (∀ r : RxSlot, credits s port ≠ 0 → (s.pt (1 - port)).rxbuf.find? (fun x => x.fwd) = some r →
      ∃ t, exec (.chainFrameTransmit port) s = .next t ∧ (t.pt port).lastTx = some (r.frame, r.abort) ∧ (t.pt port).txq = (s.pt port).txq ∧
        (t.pt port).sent = ((s.pt port).sent + 1) % 16 ∧ (t.pt (1 - port)).rxbuf.length = (s.pt (1 - port)).rxbuf.length ∧ t.regs = s.regs) ∧
    (∀ f : Frame, credits s port ≠ 0 → (s.pt (1 - port)).rxbuf.find? (fun x => x.fwd) = none → s.ready = true →
      pickLocal (s.flag Reg.ENUMERATED) (s.pt port).txq = some f → ∃ t, exec (.chainFrameTransmit port) s = .next t ∧
        (t.pt port).lastTx = some (f, false) ∧ (t.pt port).txq.length + 1 = (s.pt port).txq.length ∧
        (t.pt port).sent = ((s.pt port).sent + 1) % 16 ∧ t.regs = s.regs ∧ (s.flag Reg.ENUMERATED = false → f.ftype = 6 ∨ f.ftype = 4))

/-- CHAIN_FRAME_RECEIVED on a port that is UP: a good addressed frame with hops to go waits in a receive buffer with one hop less where the other
port is UP, and counts in FWD_DROP of the other port where that is not; a REPLY with no hops to go enters the host queue of a head and counts
in RX_DROP elsewhere, as does any frame for the module that finds 32 waiting (an operand of the row: log entry 24); a frame whose header check fails counts in HDR_ERR. A port that is not
UP takes nothing. -/
def Obligations.ReceivedFramesAreHandled : Prop :=
  ∀ (port : Nat) (f : Frame) (s : State), port ≤ 1 → f.ftype < 16 → f.ver = 1 → f.hops < 63 → f.seq < 65536 → f.op < 256 → f.origin < 64 →
    f.payload.length ≤ 52 → f.bcast = false →
    (portUp s port = false → ∀ (d : List Byte) (fin : FrameEnd), exec (.chainFrameReceived port d fin) s = .next s) ∧
    (∀ waiting : Nat, portUp s port = true → (s.pt port).rxbuf.length < 8 → 1 ≤ f.hops → portUp s (1 - port) = false →
      ∃ t, exec (.chainFrameReceived port (frameBytes f) ⟨0, waiting⟩) s = .next t ∧ t.host = s.host ∧ coreSame s t ∧
        t.get (Reg.FWD_DROP (1 - port)) = min (s.get (Reg.FWD_DROP (1 - port)) + 1) (2 ^ (Reg.FWD_DROP (1 - port)).w - 1)) ∧
    (∀ waiting : Nat, portUp s port = true → (s.pt port).rxbuf.length < 8 → f.hops = 0 → 32 ≤ waiting →
      ∃ t, exec (.chainFrameReceived port (frameBytes f) ⟨0, waiting⟩) s = .next t ∧ t.host = s.host ∧ coreSame s t ∧
        t.get (Reg.RX_DROP port) = min (s.get (Reg.RX_DROP port) + 1) (2 ^ (Reg.RX_DROP port).w - 1)) ∧
    (∀ waiting : Nat, portUp s port = true → (s.pt port).rxbuf.length < 8 → 1 ≤ f.hops → portUp s (1 - port) = true →
      ∃ t, exec (.chainFrameReceived port (frameBytes f) ⟨0, waiting⟩) s = .next t ∧
        (t.pt port).rxbuf = (s.pt port).rxbuf ++ [⟨{ f with hops := f.hops - 1 }, true, false⟩] ∧ t.regs = s.regs ∧ t.host = s.host ∧ coreSame s t) ∧
    (∀ waiting : Nat, waiting < 32 → portUp s port = true → (s.pt port).rxbuf.length < 8 → f.hops = 0 → f.ftype = 2 → s.ready = true → isHead s = true → s.host.hq.length < 64 →
      ∃ t, exec (.chainFrameReceived port (frameBytes f) ⟨0, waiting⟩) s = .next t ∧ t.host.hq = s.host.hq ++ [f] ∧ t.regs = s.regs) ∧
    (∀ waiting : Nat, waiting < 32 → portUp s port = true → (s.pt port).rxbuf.length < 8 → f.hops = 0 → f.ftype = 2 → s.ready = true → isHead s = false →
      ∃ t, exec (.chainFrameReceived port (frameBytes f) ⟨0, waiting⟩) s = .next t ∧ t.host = s.host ∧
        t.get (Reg.RX_DROP port) = min (s.get (Reg.RX_DROP port) + 1) (2 ^ (Reg.RX_DROP port).w - 1)) ∧
    (∀ (x : Byte) (waiting : Nat), portUp s port = true → s.ready = false → x ≠ byte (crc8 (headerBytes f)) →
      ∃ t, exec (.chainFrameReceived port (headerBytes f ++ [x]) ⟨0, waiting⟩) s = .next t ∧ t.host = s.host ∧
        t.get (Reg.HDR_ERR port) = min (s.get (Reg.HDR_ERR port) + 1) (2 ^ (Reg.HDR_ERR port).w - 1))

/-- Enumeration: a head that starts one takes the next generation and is no longer enumerated; a module takes its generation with the ENUM and keeps
the position that it gives until the TOPO; a module takes its positions, topology, size and break from the TOPO of the generation it holds, and only
from that one, with position 63 on a side that leads to no head (log entry 25); a head
that hears of a break records it and raises the ring break event; before READY none of these rows does anything. -/
def Obligations.EnumerationGivesPositions : Prop :=
  ∀ s : State,
    (s.ready = true → isHead s = true → portUp s 0 = true → portUp s 1 = false → ∃ t, exec .enumStart s = .next t ∧
      t.get Reg.ENUM_GEN = (s.get Reg.ENUM_GEN + 1) % 256 ∧ t.flag Reg.ENUMERATED = false ∧ t.chain.enumEnds = some [] ∧ t.evt = s.evt) ∧
    (isHead s = false → exec .enumStart s = .next s) ∧
    (∀ (p : Nat) (d : List Byte), p ≤ 1 → s.ready = true → isHead s = false →
      kvGet (fun _ => none) s.chain.enumGen p ≠ some (par d 1 1, par d 2 4) → ∃ t, exec (.enumReceived p d) s = .next t ∧
        kvGet (fun _ => 0) t.chain.enumPos p = par d 0 1 % 64 ∧ (∀ q, q ≤ 1 → t.get (posField q) = s.get (posField q)) ∧
        t.get Reg.ENUM_GEN = par d 1 1 ∧ t.flag Reg.ENUMERATED = false ∧
        kvGet (fun _ => none) t.chain.enumGen p = some (par d 1 1, par d 2 4)) ∧
    (∀ d : List Byte, s.ready = true → isHead s = false →
      (kvGet (fun _ => none) s.chain.enumGen 0 = some (par d 2 1, par d 5 4) → ∃ t, exec (.topoReceived d) s = .next t ∧ restSame s t ∧
        t.get Reg.TOPOLOGY = par d 0 1 % 4 ∧ t.get Reg.RING_N = par d 1 1 % 64 ∧ t.get Reg.BREAK_KNOWN = par d 3 1 % 2 ∧
        t.get Reg.BREAK_POS = par d 4 1 % 64 ∧ t.flag Reg.ENUMERATED = true ∧
        t.get (posField 0) = kvGet (fun _ => 0) s.chain.enumPos 0 % 64 ∧
        t.get (posField 1) = (if kvGet (fun _ => none) s.chain.enumGen 1 = some (par d 2 1, par d 5 4) then kvGet (fun _ => 0) s.chain.enumPos 1 % 64
          else if par d 0 1 = 3 then s.get (posField 1) else 63)) ∧
      (kvGet (fun _ => none) s.chain.enumGen 0 ≠ some (par d 2 1, par d 5 4) →
        kvGet (fun _ => none) s.chain.enumGen 1 ≠ some (par d 2 1, par d 5 4) → exec (.topoReceived d) s = .next s)) ∧
    (∀ d : List Byte, s.ready = true → isHead s = true → s.flag Reg.BREAK_KNOWN = false → par d 2 1 ≠ 1 → par d 0 1 < 64 →
      ∃ u v, exec (.breakReceived d) s = .next (sendTopo (raise 482 v u)) ∧ u.flag Reg.BREAK_KNOWN = true ∧ u.get Reg.BREAK_POS = par d 0 1 ∧
        v % 16 = 1 ∧ u.evt = s.evt) ∧
    (∀ d : List Byte, s.ready = true → isHead s = true → s.flag Reg.BREAK_KNOWN = false → ∃ u, exec (.linkUpReceived d) s = .next (enumStart u) ∧
      u = { s with chain := { s.chain with retopo := true } }) ∧
    (∀ d : List Byte, s.ready = true → isHead s = true → par d 2 1 = s.get Reg.ENUM_GEN → par d 0 1 = 1 → s.chain.enumEnds = none →
      ∃ t, exec (.enumEndReceived 0 d) s = .next t ∧ kvGet (fun _ => 0) t.chain.modules (par d 1 1) = par d 3 4 ∧ t.regs = s.regs) ∧
    (∀ e : Nat × Nat × Nat, s.ready = true → s.chain.enumEnds = some [e] → e.2.1 = 1 → portUp s 0 = true → portUp s 1 = false → e.2.2 < 64 →
      ∃ u v, exec .enumTimeout s = .next (raise 482 v u) ∧ v % 16 = 5 ∧ u.chain.enumEnds = none) ∧
    (s.ready = false → ∀ (p : Nat) (d : List Byte), exec .enumStart s = .next s ∧ exec (.enumReceived p d) s = .next s ∧
      exec (.enumEndReceived p d) s = .next s ∧ exec .enumTimeout s = .next s ∧ exec (.topoReceived d) s = .next s ∧
      exec (.breakReceived d) s = .next s ∧ exec (.linkUpReceived d) s = .next s)

/-- Fault beacons: a module that is no head forwards a BEACON set out of its other port; a head records its origin, port and time, counts the first
copy of an origin and asserts the beacon term of HFAULT#; a set with a code error is dropped; the sets of a beacon go out one by one. -/
def Obligations.BeaconsReachTheHead : Prop :=
  ∀ (port data : Nat) (s : State), port ≤ 1 → data < 128 →
    (exec (.beaconReceived port data true) s = .next s) ∧
    (portUp s port = true → isHead s = false → s.get (Reg.PSTATE (1 - port)) = 2 →
      exec (.beaconReceived port data false) s = .next ((relock port s).setPt (1 - port) { s.pt (1 - port) with lastSet := some (.beacon data) })) ∧
    (portUp s port = true → isHead s = true → s.ready = true → s.chain.bcnAt = [] → ∃ t, exec (.beaconReceived port data false) s = .next t ∧
      t.get Reg.BCN_ORIGIN = data % 64 ∧ t.get Reg.BCN_AWAY = data / 64 ∧ t.get Reg.BCN_PORT = port ∧ t.get Reg.BCN_GRAIN = s.clk.grain % 4096 ∧
      t.get Reg.BCN_COUNT = min (s.get Reg.BCN_COUNT + 1) (2 ^ Reg.BCN_COUNT.w - 1) ∧ t.evt.beaconHf = true ∧ t.clk = s.clk) ∧
    (∀ n : Nat, s.ready = true → s.chain.beacons = [(port, n + 2)] → ∃ t, exec .beaconSetSend s = .next t ∧ t.chain.beacons = [(port, n + 1)] ∧
      t.regs = s.regs ∧ (s.get (Reg.PSTATE port) = 2 → ∃ b, (t.pt port).lastSet = some (.beacon b)))

/-! ### Configuration -/

/-- CFG_WRITE of words with no effect of their own: the immediate fields of each take the value written, its W1C bits clear where 1 is written, and
no other word changes; in general its words act in ascending order, and the reply is that of the first that its chapter answers otherwise. A
count outside 1 to 11, a word with a staged field or none at all, or a reserved bit set is BAD_PARAM, and a word that acts in a tier
whose link is down is BAD_STATE, and neither changes anything. -/
def Obligations.CfgWriteActsAtOnce : Prop :=
  ∀ (m : Meta) (s : State) (addr : Nat) (words : List Nat), accepts m s →
    let ws := addressed addr words
    let ok := countOk words = true ∧ ws.all writeOk = true
    let reached := ws.any (fun e => writeUnreachable s e.1) = false
    (ok → reached → (∀ e ∈ ws, ¬ actingWord e.1) →
      ∃ t, exec (.cfgWrite m addr words) s = .next t ∧ recorded m 0x00 [byte words.length] t ∧ coreSame s t ∧ t.win = s.win ∧
        wordsSame (fun a => (∃ e ∈ ws, a = e.1) ∨ replyWord m a) s t ∧
        ∀ e ∈ ws, ∀ r : WordRow, writableRow e.1 = some r → ¬ replyWord m e.1 →
          t.word e.1 = ((s.word e.1 &&& (0xFFFFFFFF ^^^ r.live)) ||| (e.2 &&& r.live)) &&& (0xFFFFFFFF ^^^ (r.w1c &&& e.2))) ∧
    (∀ (st : Nat) (u : State), ok → reached → writeWords ws s = (st, u) →
      (st = 0x00 → exec (.cfgWrite m addr words) s = .next (sendReply m 0x00 [byte words.length]
        (record (.cfgWrite addr words) m 0x00 [byte words.length] u))) ∧
      (st = 0x02 → exec (.cfgWrite m addr words) s = .next (sendReply m 0x02 [] s)) ∧
      (st ≠ 0x00 → st ≠ 0x02 → ∃ t, exec (.cfgWrite m addr words) s = .next t ∧ recorded m st [] t ∧ coreSame s t ∧ wordsSame (replyWord m) s t)) ∧
    (¬ ok → ∃ t, exec (.cfgWrite m addr words) s = .next t ∧ recorded m 0x11 [] t ∧ coreSame s t ∧ wordsSame (replyWord m) s t) ∧
    (ok → ¬ reached → ∃ t, exec (.cfgWrite m addr words) s = .next t ∧ recorded m 0x12 [] t ∧ coreSame s t ∧ wordsSame (replyWord m) s t)

/-- The words that act when they are written: SEC_URGENT with URG_GO queues a request for the sequencer of its tier, is BUSY when four wait, and
BAD_PARAM for a code that is no channel; without URG_GO it queues none. DISC_HW_CLR clears the high-water record of the cells named and of no
other; either is BAD_PARAM with a reserved bit and BAD_STATE in a tier whose link is down. CHN_CMD starts an enumeration on a head and
clears the counters of both ports; EVT_CLR clears the counters of a range; BCN_ACK clears the beacon term; TWC_GO makes a pass-through due, or
is BAD_PARAM while one is, for an address of the module or a reserved one, and for more than 16 bytes. -/
def Obligations.ActingWordsAct : Prop :=
  ∀ (m : Meta) (s : State), accepts m s →
    let answers (i : Instr) (st : Nat) (d : List Byte) : Prop := ∃ t, exec i s = .next t ∧ recorded m st d t ∧ coreSame s t ∧
      wordsSame (replyWord m) s t
    (∀ k v : Nat, k < 6 →
      (writeOk (Wd.SEC_URGENT k, v) = false → answers (.secUrgentWrite m k v) 0x11 []) ∧
      (writeOk (Wd.SEC_URGENT k, v) = true → s.linkUp k = false → answers (.secUrgentWrite m k v) 0x12 []) ∧
      (writeOk (Wd.SEC_URGENT k, v) = true → s.linkUp k = true →
        (bit v 31 = false → answers (.secUrgentWrite m k v) 0x00 [1]) ∧
        (bit v 31 = true → (chanOk k (bitsOf v 0 7) = false ∨ bitsOf v 0 7 = 0x7F) → answers (.secUrgentWrite m k v) 0x11 []) ∧
        (bit v 31 = true → chanOk k (bitsOf v 0 7) = true → bitsOf v 0 7 ≠ 0x7F →
          ((s.sq k).hostQ.length < 4 → ∃ t, exec (.secUrgentWrite m k v) s = .next t ∧ recorded m 0x00 [1] t ∧
            (t.sq k).hostQ = (s.sq k).hostQ ++ [(bitsOf v 0 7, bitsOf v 8 8 + 1)] ∧ t.get (Reg.HOST_Q k) = (s.sq k).hostQ.length + 1 ∧
            t = { s with host := t.host, chain := t.chain, regs := t.regs, sec := t.sec } ∧
            wordsSame (fun a => a = (Reg.HOST_Q k).a ∨ replyWord m a) s t) ∧
          (4 ≤ (s.sq k).hostQ.length → exec (.secUrgentWrite m k v) s = .next (sendReply m 0x02 [] s))))) ∧
    (∀ k v : Nat, k < 6 →
      (writeOk (Wd.DISC_HW_CLR k, v) = false → answers (.discHwClrWrite m k v) 0x11 []) ∧
      (writeOk (Wd.DISC_HW_CLR k, v) = true → s.linkUp k = false → answers (.discHwClrWrite m k v) 0x12 []) ∧
      (writeOk (Wd.DISC_HW_CLR k, v) = true → s.linkUp k = true → ∃ t, exec (.discHwClrWrite m k v) s = .next t ∧
        recorded m 0x00 [1] t ∧ coreSame s t ∧ (∀ c, c < 18 → bit v c = true → t.word (Wd.DISC_HW k c) = 0 ∧ t.word (Wd.DISC_HW_SPAN k c) = 0) ∧
        wordsSame (fun a => replyWord m a ∨ ∃ c, c < 18 ∧ bit v c = true ∧ (a = Wd.DISC_HW k c ∨ a = Wd.DISC_HW_SPAN k c)) s t)) ∧
    (exec (.enumGo m) s = .next (sendReply m 0x00 [1] (record (.cfgWrite Wd.CHN_CMD [1]) m 0x00 [1] (enumStart s))) ∧
      (isHead s = false → enumStart s = s)) ∧
    (∃ t, exec (.cntClr m) s = .next t ∧ recorded m 0x00 [1] t ∧ coreSame s t ∧
      wordsSame (fun a => replyWord m a ∨ ∃ p, p ≤ 1 ∧ (a = Wd.PC_RX p ∨ a = Wd.PC_LINE p ∨ a = Wd.PC_DROP p ∨ a = Wd.PC_DEST p)) s t ∧
      ∀ p, p ≤ 1 → ∀ f ∈ [Reg.HDR_ERR p, Reg.CRC_ERR p, Reg.CODE_ERR p, Reg.ABORT_RX p, Reg.FWD_DROP p, Reg.RX_DROP p, Reg.NO_DEST p], t.get f = 0) ∧
    (∀ first count : Nat, first < 1024 → count < 1024 → (count = 0 ∨ 544 < first + count) → answers (.evtClr m first count) 0x00 [1]) ∧
    (∀ first count : Nat, 1 ≤ count → first + count ≤ 544 → ∃ t, exec (.evtClr m first count) s = .next t ∧ recorded m 0x00 [1] t ∧
      coreSame s t ∧ (∀ i, first ≤ i → i < first + count → t.get (Reg.COUNT i) = 0 ∧ t.get (Reg.CNT_SAT i) = 0 ∧
        t.get (Reg.LATCHED i) = s.get (Reg.LATCHED i) ∧ t.get (Reg.MASKED i) = s.get (Reg.MASKED i)) ∧
      wordsSame (fun a => replyWord m a ∨ ∃ i, first ≤ i ∧ i < first + count ∧ a = (Reg.COUNT i).a) s t) ∧
    (∃ t, exec (.bcnAck m) s = .next t ∧ recorded m 0x00 [1] t ∧ t.evt = { s.evt with beaconHf := false } ∧ t.clk = s.clk ∧ t.tb = s.tb ∧
      wordsSame (replyWord m) s t) ∧
    (∀ (addr : Nat) (pec : Bool) (w r : Nat), addr < 128 → w < 32 → r < 32 →
      (s.flag Reg.TWC_BUSY = false → addressBad addr = false → w ≤ 16 → r ≤ 16 → ∃ t, exec (.twcGo m addr pec w r) s = .next t ∧
        recorded m 0x00 [1] t ∧ t.tw = { s.tw with due := s.tw.due ++ [(.passThrough addr pec w r, 0)] } ∧ t.flag Reg.TWC_BUSY = true ∧
        t.evt = s.evt ∧ t.clk = s.clk ∧ wordsSame (fun a => a = Reg.TWC_BUSY.a ∨ replyWord m a) s t) ∧
      (s.flag Reg.TWC_BUSY = true ∨ addressBad addr = true ∨ 16 < w ∨ 16 < r → answers (.twcGo m addr pec w r) 0x11 []))

/-- CFG_STAGE changes the shadow set only, in the words it names, and makes its source the owner; another source finds it BUSY, as does every source
while a commit is scheduled; words that are not staged are BAD_PARAM. DISCARD and the time-out of the owner drop the shadow set; a
DISCARD with a target is BAD_PARAM, and one while a commit is scheduled BAD_STATE. CFG_COMMIT is scheduled for the span it names, or
else for the next, or the one after it in the last quarter of a span, and answers the CRC-16 of the shadow set; one that a rule refuses, that
expects another CRC, or finds another owner or a scheduled commit, is answered so and scheduled not. -/
def Obligations.StagingAndCommit : Prop :=
  ∀ (m : Meta) (s : State), accepts m s →
    let answers (i : Instr) (st : Nat) (d : List Byte) : Prop := ∃ t, exec i s = .next t ∧ recorded m st d t ∧ coreSame s t ∧
      wordsSame (replyWord m) s t ∧ t.host.sched = s.host.sched ∧ t.host.shadow = s.host.shadow ∧ t.host.owner = s.host.owner
    (∀ (addr : Nat) (words : List Nat),
      let ws := addressed addr words
      let ok := countOk words = true ∧ ws.all stageOk = true
      (ok → commitDue s = false → ownedByOther m.src s = false → ∃ t, exec (.cfgStage m addr words) s = .next t ∧
        recorded m 0x00 [byte words.length] t ∧ coreSame s t ∧ t.win = s.win ∧ wordsSame (replyWord m) s t ∧ t.host.owner = some m.src ∧
        t.host.ownerSpan = s.clk.span ∧ t.host.sched = s.host.sched ∧
        (∀ e ∈ ws, kvGet (fun _ => none) t.host.shadow e.1 = some (BitVec.ofNat 32 (e.2 &&& stagedMask e.1))) ∧
        (∀ a, (∀ e ∈ ws, e.1 ≠ a) → kvGet (fun _ => none) t.host.shadow a = kvGet (fun _ => none) s.host.shadow a)) ∧
      (ok → (commitDue s = true ∨ ownedByOther m.src s = true) → exec (.cfgStage m addr words) s = .next (sendReply m 0x02 [] s)) ∧
      (¬ ok → answers (.cfgStage m addr words) 0x11 [])) ∧
    (∀ at_ : Target,
      (at_.span ≠ 0 ∨ at_.grain ≠ 0 ∨ at_.reqTq = true → answers (.cfgDiscard m at_) 0x11 []) ∧
      (at_ = ⟨0, 0, false⟩ → commitDue s = true → answers (.cfgDiscard m at_) 0x12 []) ∧
      (at_ = ⟨0, 0, false⟩ → commitDue s = false → ownedByOther m.src s = true → exec (.cfgDiscard m at_) s = .next (sendReply m 0x02 [] s)) ∧
      (at_ = ⟨0, 0, false⟩ → commitDue s = false → ownedByOther m.src s = false → ∃ t, exec (.cfgDiscard m at_) s = .next t ∧
        recorded m 0x00 (leBytes 2 (shadowCrc (dropShadow s))) t ∧ coreSame s t ∧ wordsSame (replyWord m) s t ∧ t.host.shadow = [] ∧
        t.host.owner = none)) ∧
    (s.host.owner.isSome = true → commitDue s = false →
      (s.host.ownerSpan + s.get Reg.STAGE_TO ≤ s.clk.span →
        exec .stageOwnerTimeout s = .next { s with host := { s.host with shadow := [], owner := none } }) ∧
      (s.clk.span < s.host.ownerSpan + s.get Reg.STAGE_TO → exec .stageOwnerTimeout s = .next s)) ∧
    (∀ (at_ : Target) (chk : Bool) (expected : Nat),
      (∀ st : Nat, commitRefusal s = some st → (prefixBad false false at_ s = false ∨ st = 0x14) → answers (.cfgCommit m at_ chk expected) st []) ∧
      (prefixBad false false at_ s = true → commitRefusal s ≠ some 0x14 → answers (.cfgCommit m at_ chk expected) 0x11 []) ∧
      (prefixBad false false at_ s = false → commitRefusal s = none →
        (chk = true → expected ≠ shadowCrc s → answers (.cfgCommit m at_ chk expected) 0x20 []) ∧
        (chk = false ∨ expected = shadowCrc s →
          (ownedByOther m.src s = true ∨ commitDue s = true ∨ 32 ≤ s.host.sched.length →
            exec (.cfgCommit m at_ chk expected) s = .next (sendReply m 0x02 [] s)) ∧
          (ownedByOther m.src s = false → commitDue s = false → s.host.sched.length < 32 → ∃ t, exec (.cfgCommit m at_ chk expected) s = .next t ∧
            recorded m 0x00 (leBytes 2 (shadowCrc s)) t ∧ coreSame s t ∧ wordsSame (replyWord m) s t ∧ t.host.shadow = s.host.shadow ∧
            t.host.sched = s.host.sched ++ [if at_.span = 0 then ⟨.commit, s.clk.span + (if s.clk.grain ≤ 3072 then 1 else 2), 0, false, false, s.clk.span, m⟩
              else ⟨.commit, at_.span, 0, false, true, at_.span, m⟩]))))

/-! ### The schedule -/

/-- Schedulable commands wait for their instant: an immediate SNAP, MODE or FW_SWAP executes at grain 0 of the next span, an immediate EXCITE at the
next grain raised to a multiple of 256, and one that names a span there; a time-qualified one (EXCITE, and a SNAP that is broadcast or
asks for it) without a target and without time qualification is answered PENDING and has no instant; a prefix that is not permitted is
BAD_PARAM, a refused MODE or FW_SWAP is answered so, and with 32 entries in the schedule each is BUSY; nothing else of the block changes.
EXCITE STOP ends the sweep in progress with cause STOPPED. -/
def Obligations.ActionsAreScheduled : Prop :=
  ∀ (m : Meta) (s : State), accepts m s →
    let answers (i : Instr) (st : Nat) : Prop := ∃ t, exec i s = .next t ∧ recorded m st [] t ∧ coreSame s t ∧ wordsSame (replyWord m) s t ∧
      t.host.sched = s.host.sched
    let takes (i : Instr) (status : Nat) (e : Entry) : Prop := ∃ t, exec i s = .next t ∧ recorded m status [] t ∧ coreSame s t ∧ t.win = s.win ∧
      wordsSame (replyWord m) s t ∧ t.host.sched = s.host.sched ++ [e]
    let waits (i : Instr) (a : Action) (tq : Bool) (at_ : Target) (now : Nat × Nat) : Prop :=
      (32 ≤ s.host.sched.length → exec i s = .next (sendReply m 0x02 [] s)) ∧
      (s.host.sched.length < 32 →
        (at_.span = 0 → (tq = false ∨ timeQualified s = true) → takes i 0x00 ⟨a, now.1, now.2, false, false, s.clk.span, m⟩) ∧
        (at_.span = 0 → tq = true → timeQualified s = false → takes i 0x01 ⟨a, 0, 0, true, false, s.clk.span, m⟩) ∧
        (at_.span ≠ 0 → takes i 0x00 ⟨a, (raiseGrain at_.span at_.grain).1, (raiseGrain at_.span at_.grain).2, false, true, at_.span, m⟩))
    (∀ at_ : Target,
      (prefixBad false true at_ s = true → answers (.snap m at_) 0x11) ∧
      (prefixBad false true at_ s = false → waits (.snap m at_) (.snap at_.reqTq) (m.bcast || at_.reqTq) at_ (s.clk.span + 1, 0))) ∧
    (∀ (at_ : Target) (new : Nat),
      (prefixBad false false at_ s = true ∨ 5 < new → answers (.mode m at_ new) 0x11) ∧
      (prefixBad false false at_ s = false → new ≤ 5 →
        (modeRefused new s.host.sched.length s = true → answers (.mode m at_ new) 0x12) ∧
        (modeRefused new s.host.sched.length s = false → waits (.mode m at_ new) (.mode new) false at_ (s.clk.span + 1, 0)))) ∧
    (∀ (at_ : Target) (cells klo khi amp reps : Nat),
      (prefixBad true false at_ s = true → answers (.exciteStart m at_ cells klo khi amp reps) 0x11) ∧
      (∀ st : Nat, prefixBad true false at_ s = false → exciteRefusal m.src cells klo khi amp reps (exciteDue s) s = some st →
        (st = 0x02 → exec (.exciteStart m at_ cells klo khi amp reps) s = .next (sendReply m 0x02 [] s)) ∧
        (st ≠ 0x02 → answers (.exciteStart m at_ cells klo khi amp reps) st)) ∧
      (prefixBad true false at_ s = false → exciteRefusal m.src cells klo khi amp reps (exciteDue s) s = none →
        waits (.exciteStart m at_ cells klo khi amp reps) (.excite cells klo khi amp reps) true at_ (raiseGrain s.clk.span (s.clk.grain + 1)))) ∧
    (∀ (at_ : Target) (version : Nat),
      (prefixBad false false at_ s = true → answers (.fwSwap m at_ version) 0x11) ∧
      (prefixBad false false at_ s = false →
        (s.modeNow ≠ 4 ∨ s.flag (bankValid (inactiveBank s)) = false → answers (.fwSwap m at_ version) 0x12) ∧
        (s.modeNow = 4 → s.flag (bankValid (inactiveBank s)) = true →
          (version ≠ 0 → version ≠ s.get (Reg.FW_VER (inactiveBank s)) → answers (.fwSwap m at_ version) 0x20) ∧
          (version = 0 ∨ version = s.get (Reg.FW_VER (inactiveBank s)) →
            waits (.fwSwap m at_ version) (.fwSwap version) false at_ (s.clk.span + 1, 0))))) ∧
    (∃ t, exec (.exciteStop m) s = .next t ∧ recorded m 0x00 [] t ∧ t.exc.sweep = none ∧
      (s.exc.sweep.isSome = true → t.exc.tiers = [] ∧ t.get Reg.EXC_STATE = if s.get Reg.EXC_STATE = 1 then 3 else 0))

/-- The entry that is due executes in its row and leaves the schedule; the grains up to its instant in the span pass first; a row of another rank
does nothing. A commit whose tiers have acknowledged replaces the committed set by the shadow set, and another is answered TIMEOUT; SNAP
arms a snapshot; EXCITE starts its sweep, and FW_SWAP the other bank, unless they are refused at their instant; a pending action runs once
the module is time-qualified, and is cancelled with TIMEOUT after PEND_TIMEOUT spans; a commit whose tiers have not acknowledged by grain
3,840 of the span before is cancelled with TIMEOUT and keeps its shadow set. -/
def Obligations.ScheduledActionsExecute : Prop :=
  ∀ (s : State) (e : Entry), s.ready = true →
    (nextDue s = some e → e.pending = false →
      (e.act = .commit → (affected s).all (fun k => s.host.acked.contains k) = true → commitRefusal s = none → ∃ u,
        exec .schedCommitExec s = .next (complete u.now 0x13 0x00 e.who 0 (shadowCrc s) { u with host := { u.host with acked := [] } }) ∧
        u = applyShadow (dropEntry e s)) ∧
      (e.act = .commit → (affected s).all (fun k => s.host.acked.contains k) = false → ∃ t, exec .schedCommitExec s = .next t ∧
        t.host.shadow = s.host.shadow ∧ t.host.owner = s.host.owner ∧ t.host.sched = s.host.sched.erase e ∧ t.clk = s.clk ∧ t.evt = s.evt) ∧
      (∀ new : Nat, e.act = .mode new → modeRefused new (s.host.sched.erase e).length s = false → ∃ u,
        exec .schedModeExec s = .next (complete s.now 0x50 0x00 e.who 0 new u) ∧ (new = s.modeNow → u = dropEntry e s) ∧
        (new ≠ s.modeNow → new ≠ 0 → u = changeMode raise new 0 e.who.src e.who.hseq (dropEntry e s)) ∧
        (new ≠ s.modeNow → new = 0 → u = enterStore e.who.src e.who.hseq (dropEntry e s))) ∧
      (∀ new : Nat, e.act = .mode new → modeRefused new (s.host.sched.erase e).length s = true →
        exec .schedModeExec s = .next (complete s.now 0x50 0x12 e.who 0 new (dropEntry e s))) ∧
      (∀ cells klo khi amp reps : Nat, e.act = .excite cells klo khi amp reps →
        (exciteRefusal e.who.src cells klo khi amp reps false s = none → ∃ t, exec .schedExciteExec s = .next t ∧
          t.exc.sweep = some (e.who, klo, khi, amp, reps) ∧ t.get Reg.EXC_STATE = 1 ∧ t.get Reg.EXC_COMPLETE = 0 ∧ t.exc.begun = some s.now ∧
          t.host.sched = s.host.sched.erase e ∧ t.evt = s.evt) ∧
        (∀ st : Nat, exciteRefusal e.who.src cells klo khi amp reps false s = some st →
          exec .schedExciteExec s = .next (complete s.now 0x32 st e.who 4 0 (dropEntry e s)))) ∧
      (∀ req : Bool, e.act = .snap req → exec .schedSnapExec s = .next { s with
        host := { s.host with sched := s.host.sched.erase e }, win := { s.win with snapArm := s.win.snapArm ++ [(s.now, e.who)] } }) ∧
      (∀ v : Nat, e.act = .fwSwap v →
        (s.flag (bankValid (inactiveBank s)) = true → ∃ t, exec .schedFwSwapExec s = .next t ∧ t.pwr.phase = .starting ∧
          t.ret.bank = inactiveBank s ∧ t.ret.trial = true ∧ t.ret.cause = (if s.ret.ok then 6 else 1) ∧ t.host.sched = []) ∧
        (s.flag (bankValid (inactiveBank s)) = false → exec .schedFwSwapExec s =
          .next (bankEvent 5 0 (s.get (Reg.FW_VER (inactiveBank s))) (dropEntry e s)))) ∧
      (e.act.rank ≠ 0 → exec .schedCommitExec s = .next s) ∧ (e.act.rank ≠ 1 → exec .schedModeExec s = .next s) ∧
      (e.act.rank ≠ 2 → exec .schedExciteExec s = .next s) ∧ (e.act.rank ≠ 3 → exec .schedSnapExec s = .next s) ∧
      (e.act.rank ≠ 4 → exec .schedFwSwapExec s = .next s)) ∧
    (∀ req : Bool, nextDue s = none → s.host.sched = [e] → e.pending = false → e.act = .snap req → e.span = s.clk.span → e.grain < 4096 →
      exec .schedSnapExec s = .next { s with
        clk := ⟨s.clk.span, e.grain⟩, host := { s.host with sched := [] }, win := { s.win with snapArm := s.win.snapArm ++ [(s.stampAt e.grain, e.who)] } }) ∧
    (∀ req : Bool, s.host.sched = [e] → e.pending = true → e.act = .snap req →
      (timeQualified s = true → s.clk.grain = 0 → exec .pendingActionRun s = .next { s with
        host := { s.host with sched := [] }, win := { s.win with snapArm := s.win.snapArm ++ [(s.now, e.who)] } }) ∧
      (timeQualified s = false → exec .pendingActionRun s = .next s) ∧
      (e.since + s.get Reg.PEND_TIMEOUT ≤ s.clk.span → ∃ u, exec .pendTimeout s = .next (complete s.now 0x20 0x30 e.who 0 0 u) ∧
        u = { s with host := { s.host with sched := [] } }) ∧
      (s.clk.span < e.since + s.get Reg.PEND_TIMEOUT → exec .pendTimeout s = .next s)) ∧
    (s.host.sched = [e] → e.act = .commit → e.span = s.clk.span + 1 →
      (s.clk.grain = 3840 → (affected s).all s.linkUp = true → ∃ t, exec .commitDeliveryDeadline s = .next t ∧
        (∀ k ∈ affected s, t.host.acked.contains k = true) ∧ t = { s with host := { s.host with acked := t.host.acked } }) ∧
      ((3840 < s.clk.grain ∨ (s.clk.grain = 3840 ∧ (affected s).any (fun k => !s.host.acked.contains k && !s.linkUp k) = true)) →
        (affected s).any (fun k => !s.host.acked.contains k) = true → ∃ u,
        exec .commitDeliveryDeadline s = .next (complete s.now 0x13 0x30 e.who 0 0 u) ∧ u.host.sched = [] ∧
        u.host.shadow = s.host.shadow ∧ u.regs = s.regs) ∧
      (s.clk.grain < 3840 → exec .commitDeliveryDeadline s = .next s))

/-- A changed word of the shadow set enters the committed set of the base die, or of a tier whose link is up, with every other field of the
word as it was; a tier whose link is down keeps its word and takes the new one with its next delivery. -/
def Obligations.CommittedWordsEnterTheSet : Prop :=
  ∀ (s : State) (a v : Nat), v < 2 ^ 32 →
    (partOf a = 0 ∨ s.linkUp (partOf a - 1) = true →
      (commitWord (a, v) s).word a = (s.word a &&& (0xFFFFFFFF ^^^ stagedMask a)) ||| (v &&& stagedMask a) ∧
      wordsSame (fun b => b = a) s (commitWord (a, v) s)) ∧
    (partOf a ≠ 0 → s.linkUp (partOf a - 1) = false → (commitWord (a, v) s).regs = s.regs ∧
      ∃ w, kvGet (fun _ => none) ((commitWord (a, v) s).tl (partOf a - 1)).held a = some w ∧
        w.toNat &&& stagedMask a = actedOnce a (v &&& stagedMask a) &&& stagedMask a)

/-! ### Leases and actuation -/

/-- R426: LEASE with a duration d of 1 to 65,535 in span S sets E = S + 1 + d. Where no lease of the class is live its source becomes the
holder; the holder itself moves E, earlier or later; for another source it is BUSY, and nothing changes. With d = 0 it ends the lease,
from every source, and the reply gives E = S. In HOLD it is BAD_STATE, for another class or a longer duration BAD_PARAM, and changes nothing; in every other mode every class is
accepted, and outside CHARGE no excitation is. The span that a revoked lease shows as its E is the model's reading (log entry 71). -/
def Obligations.LeaseSetsItsEndSpan : Prop :=
  ∀ (m : Meta) (s : State) (cls : Nat), accepts m s → cls ≤ 2 →
    (s.modeNow ≠ 5 →
      (∀ d : Nat, 1 ≤ d → d ≤ 65535 → s.clk.span + 1 + d < 2 ^ 48 →
        let e := s.clk.span + 1 + d
        let given (t : State) : Prop := exec (.lease m cls d) s = .next t ∧ recorded m 0x00 (leBytes 6 e ++ [byte cls]) t ∧
          leaseLive t cls = true ∧ leaseE t cls = e ∧ t.get (Reg.HOLDER cls) = m.src
        (leaseLive s cls = false → ∃ t, given t) ∧
        (leaseLive s cls = true → s.get (Reg.HOLDER cls) = m.src → ∃ t, given t) ∧
        (leaseHeld s cls = false ∨ (leaseLive s cls = true ∧ s.get (Reg.HOLDER cls) = m.src) → ∃ t, given t ∧ coreSame s t ∧
          wordsSame (fun a => a = (Reg.LIVE cls).a ∨ a = (Reg.E_LO cls).a ∨ replyWord m a) s t) ∧
        (leaseLive s cls = true → s.get (Reg.HOLDER cls) ≠ m.src → exec (.lease m cls d) s = .next (sendReply m 0x02 [] s))) ∧
      (s.clk.span < 2 ^ 48 →
        (∃ t, exec (.leaseRevoke m cls) s = .next t ∧ recorded m 0x00 (leBytes 6 s.clk.span ++ [byte cls]) t ∧ leaseHeld t cls = false) ∧
        (leaseHeld s cls = true → ∃ u v, exec (.leaseRevoke m cls) s = .next (sendReply m 0x00 (leBytes 6 s.clk.span ++ [byte cls])
            (record (.lease cls 0) m 0x00 (leBytes 6 s.clk.span ++ [byte cls]) (raise 486 v u))) ∧
          u.flag (Reg.LIVE cls) = false ∧ leaseE u cls = s.clk.span ∧ v % 256 = 3 + 16 * cls + 64 * s.get (Reg.HOLDER cls)))) ∧
    (s.modeNow = 5 → ∀ d : Nat, d ≤ 65535 → ∃ t, exec (.lease m cls d) s = .next t ∧ recorded m 0x12 [] t ∧
      coreSame s t ∧ wordsSame (replyWord m) s t) ∧
    (∀ c d : Nat, 2 < c ∨ 65535 < d → ∃ t, exec (.lease m c d) s = .next t ∧ recorded m 0x11 [] t ∧ coreSame s t ∧ wordsSame (replyWord m) s t) ∧
    (s.modeNow ≠ 3 → ∀ (src cells klo khi amp reps : Nat) (b : Bool), (exciteRefusal src cells klo khi amp reps b s).isSome = true)

/-- A lease ends by itself at grain 0 of E with cause 2, and a warning with cause 1 comes LEASE_WARN spans before; before E it does not end. -/
def Obligations.LeasesEndAtTheirSpan : Prop :=
  ∀ (s : State) (cls : Nat), cls ≤ 2 →
    (s.ready = true → leaseHeld s cls = true → leaseE s cls ≤ s.clk.span → ∃ u v, exec (.leaseExpiry cls) s = .next (raise 486 v u) ∧
      u.flag (Reg.LIVE cls) = false ∧ v % 256 = 2 + 16 * cls + 64 * s.get (Reg.HOLDER cls)) ∧
    (s.clk.span < leaseE s cls → exec (.leaseExpiry cls) s = .next s) ∧
    (s.ready = true → leaseLive s cls = true → s.clk.grain = 0 → s.get Reg.LEASE_WARN ≠ 0 → s.clk.span + s.get Reg.LEASE_WARN = leaseE s cls →
      ∃ v, exec (.leaseWarn cls) s = .next (raise 486 v s) ∧ v % 256 = 1 + 16 * cls + 64 * s.get (Reg.HOLDER cls))

/-- BAL_SET and THERM_SET are requests for the next sample: RUN, STOP and RESUME wait in every channel named and in no other, SET, STOP and
RETRY in the thermal output; a refused RUN, RESUME, SET or RETRY is answered with its refusal (NO_LEASE without the lease) and nothing waits. No channel, duty or event changes
before the sample. -/
def Obligations.ActuationWaitsForTheSample : Prop :=
  ∀ (m : Meta) (s : State), accepts m s →
    let waits (i : Instr) (r : Nat × Nat) (mask : Nat) : Prop := ∃ t d, exec i s = .next t ∧ recorded m 0x00 d t ∧ wordsSame (replyWord m) s t ∧
      (∀ n, n < 108 → (t.chan n).req = (s.chan n).req ++ (if bit mask n then [r] else []) ∧ (t.chan n).cmd = (s.chan n).cmd) ∧
      t = { s with host := t.host, chain := t.chain, regs := t.regs, bal := { s.bal with chans := t.bal.chans } }
    (∀ mask target : Nat, balRefusal m.src mask (some target) s = none → waits (.balSetRun m mask target) (0, target) mask) ∧
    (∀ mask : Nat, waits (.balSetStop m mask) (1, 0) mask) ∧
    (∀ mask : Nat, balRefusal m.src mask none s = none → waits (.balSetResume m mask) (2, 0) mask) ∧
    (∀ (mask target st : Nat), balRefusal m.src mask (some target) s = some st → ∃ t, exec (.balSetRun m mask target) s = .next t ∧
      recorded m st (0 :: leBytes 8 0) t ∧ coreSame s t ∧ wordsSame (replyWord m) s t) ∧
    (∀ (mask st : Nat), balRefusal m.src mask none s = some st → ∃ t, exec (.balSetResume m mask) s = .next t ∧
      recorded m st (0 :: leBytes 8 0) t ∧ coreSame s t ∧ wordsSame (replyWord m) s t) ∧
    (∀ st : Nat, thermRefusal m.src none s = some st → ∃ t d, exec (.thermSetRetry m) s = .next t ∧ recorded m st d t ∧ coreSame s t ∧
      wordsSame (replyWord m) s t) ∧
    (∀ src demand : Nat, thermRefusal m.src (some (src, demand)) s = none → ∃ t d, exec (.thermSetSet m src demand) s = .next t ∧
      recorded m 0x00 d t ∧ wordsSame (replyWord m) s t ∧ t.temps = { s.temps with out := { s.temps.out with newSet := some (src, demand) } }) ∧
    (∀ src demand st : Nat, thermRefusal m.src (some (src, demand)) s = some st → ∃ t d, exec (.thermSetSet m src demand) s = .next t ∧
      recorded m st d t ∧ coreSame s t ∧ wordsSame (replyWord m) s t) ∧
    (∃ t d, exec (.thermSetStop m) s = .next t ∧ recorded m 0x00 d t ∧ wordsSame (replyWord m) s t ∧
      t.temps = { s.temps with out := { s.temps.out with stop := toRuns s, newSet := none, retryDue := false } }) ∧
    (thermRefusal m.src none s = none → ∃ t d, exec (.thermSetRetry m) s = .next t ∧ recorded m 0x00 d t ∧ wordsSame (replyWord m) s t ∧
      t.temps = { s.temps with out := { s.temps.out with retryDue := true } })

/-! ### Events -/

/-- A raise counts its source (a LATE one that the load at READY has counted is not counted again), marks its span and sets or ends the condition; a
raise of a tier source, unless a SUMMARY one, enters its tier's event latch; a masked source does no more. An unmasked start latches its source
and is recorded where reports ask for it; one of alarm or above that is not LATE is handled: it opens the window of its class, or counts in the
window open there; a fatal one that opens it while the window of another class is fatal escalates: the module enters HOLD and raises source
512, or raises it in HOLD. A masked, LATE, info or warning raise and an end change no word but those of their source. -/
def Obligations.RaisesFollowTheirSource : Prop :=
  ∀ (src value span grain : Nat) (late summary : Bool) (s : State), s.ready = true → src < 516 →
    let i : Instr := .eventRaise src value span grain late summary
    let fin := isEndRaise src (value % 2 ^ 32) summary
    let sev := s.get (Reg.SEV src)
    let again := late && decide (src < 480) && s.evt.loadSpan.any (fun r => decide (span < r))
    let one (t : State) : Prop := t.get (Reg.COUNT src) = (if again then s.get (Reg.COUNT src) else min (s.get (Reg.COUNT src) + 1) 65535) ∧
      t.get (Reg.EVT_LAST_LAST_SPAN src) = span % 2 ^ 32 ∧ t.get (Reg.MASKED src) = s.get (Reg.MASKED src) ∧
      t.get (Reg.ACTIVE src) = (if hasEnds src && !summary then b01 (!fin) else s.get (Reg.ACTIVE src)) ∧
      t.latchAt src = (if src < 480 ∧ summary = false then (s.latchAt src).add (makerStamp src span (grain % 4096) s) false else s.latchAt src) ∧
      (∀ j, j ≠ src → t.latchAt j = s.latchAt j)
    let own (a : Nat) : Prop := a = (Reg.COUNT src).a ∨ a = (Reg.EVT_LAST_LAST_SPAN src).a
    let opens : Bool := (s.window (evtClass src)).all (fun w => sev == 3 && decide (w.sev < 3))
    let other := if sev = 3 ∧ s.flag Reg.ESC_EN = true then fatalElsewhere s (evtClass src) else none
    (s.flag (Reg.MASKED src) = true → ∃ t, exec i s = .next t ∧ one t ∧ t = { s with regs := t.regs, evt := { s.evt with latch := t.evt.latch } } ∧
      wordsSame own s t ∧ t.get (Reg.LATCHED src) = s.get (Reg.LATCHED src)) ∧
    (s.flag (Reg.MASKED src) = false → fin = false →
      (sev < 2 ∨ late = true → ∃ t, exec i s = .next t ∧ one t ∧ wordsSame own s t ∧ t.get (Reg.LATCHED src) = 1 ∧
        t = { s with regs := t.regs, evt := { s.evt with latch := t.evt.latch, queue := t.evt.queue, overflow := t.evt.overflow } } ∧
        ((s.flag Reg.RPT_EVENT = false ∨ sev < s.get Reg.RPT_SEV) → t.evt.queue = s.evt.queue ∧ t.evt.overflow = s.evt.overflow) ∧
        (s.flag Reg.RPT_EVENT = true → s.get Reg.RPT_SEV ≤ sev → s.evt.queue.length < 256 → t.evt.overflow = s.evt.overflow ∧
          ∃ r, t.evt.queue = s.evt.queue ++ [r] ∧ r.src = src ∧ r.sev = sev ∧ r.value = value % 2 ^ 32 ∧ r.stamp.span = span ∧
            r.stamp.grain = grain % 4096 ∧ r.late = late ∧ r.summary = summary ∧ r.inWindow = false)) ∧
      (2 ≤ sev → late = false → opens = true → (other = none ∨ src = 512) → ∃ t, exec i s = .next t ∧ one t ∧ t.get (Reg.LATCHED src) = 1 ∧
        t.window (evtClass src) = some ⟨src, sev, s.clk.span, s.evt.fatals⟩ ∧ t.modeNow = s.modeNow ∧
        t.evt.fatals = s.evt.fatals + (if sev = 3 then 1 else 0)) ∧
      (2 ≤ sev → late = false → opens = false → ∃ t, exec i s = .next t ∧ one t ∧ t.get (Reg.LATCHED src) = 1 ∧ t.evt.windows = s.evt.windows ∧
        t.modeNow = s.modeNow ∧ t.get (Reg.CLASS_COUNT (evtClass src)) =
          min (s.get (Reg.CLASS_COUNT (evtClass src)) + 1) (2 ^ (Reg.CLASS_COUNT (evtClass src)).w - 1)) ∧
      (∀ first : Nat × Nat, late = false → opens = true → other = some first → src ≠ 512 → ∃ u,
        u.get Reg.ESC_COUNT = min (s.get Reg.ESC_COUNT + 1) (2 ^ Reg.ESC_COUNT.w - 1) ∧ u.get (Reg.LATCHED src) = 1 ∧
        (s.modeNow ≠ 5 → exec i s = .next (raise512 first src false (enterHold u)) ∧ u.flag Reg.ESCALATED = true) ∧
        (s.modeNow = 5 → exec i s = .next (raise512 first src true u)))) ∧
    (s.flag (Reg.MASKED src) = false → fin = true →
      ∃ t, exec i s = .next t ∧ one t ∧ wordsSame own s t ∧ t.evt.windows = s.evt.windows ∧
        t.get (Reg.LATCHED src) = if s.get (Reg.LATCH_EN src) = 0 then 0 else s.get (Reg.LATCHED src))

/-- R400: EVT_ACK clears the latches of its range, also of a source that is ACTIVE, and no other word; it closes every window that a source of
the range has opened, and no other; it clears the tier event latch entries of the tier sources of the range; it releases WAKE# when the
range covers a source that has caused the wake, and only then; the reply counts the latches that were set. EVT_READ returns ACTIVE. An empty
range, or one beyond source 543, is BAD_PARAM and changes nothing. -/
def Obligations.AcknowledgeClearsItsRange : Prop :=
  ∀ (m : Meta) (s : State), accepts m s →
    (∀ first count : Nat, 1 ≤ count → first + count ≤ 544 → ∃ t d, exec (.evtAck m first count) s = .next t ∧
      recorded m 0x00 d t ∧ d = leBytes 2 (((List.range count).filter (fun i => s.flag (Reg.LATCHED (first + i)))).length) ∧
      (∀ i, first ≤ i → i < first + count → t.get (Reg.LATCHED i) = 0 ∧ t.get (Reg.ACTIVE i) = s.get (Reg.ACTIVE i) ∧
        t.get (Reg.MASKED i) = s.get (Reg.MASKED i) ∧ t.get (Reg.COUNT i) = s.get (Reg.COUNT i)) ∧
      wordsSame (fun a => replyWord m a ∨ ∃ i, first ≤ i ∧ i < first + count ∧ a = (Reg.LATCHED i).a) s t ∧
      (∀ c w, (c, some w) ∈ t.evt.windows ↔ (c, some w) ∈ s.evt.windows ∧ ¬ (first ≤ w.opener ∧ w.opener < first + count)) ∧
      (∀ i, i < 480 → t.latchAt i = if first ≤ i ∧ i < first + count then LatchEntry.reset else s.latchAt i) ∧
      ((∃ i ∈ s.evt.wakeSrcs, first ≤ i ∧ i < first + count) → t.evt.wake = false) ∧
      ((∀ i ∈ s.evt.wakeSrcs, ¬ (first ≤ i ∧ i < first + count)) → t.evt.wake = s.evt.wake)) ∧
    (∀ first count : Nat, (count = 0 ∨ 544 < first + count) → ∃ t, exec (.evtAck m first count) s = .next t ∧ recorded m 0x11 [] t ∧
      coreSame s t ∧ wordsSame (replyWord m) s t) ∧
    (∀ i : Nat, i < 544 → ∃ t d, exec (.evtRead m i 1) s = .next t ∧ answered m 0x00 d s t ∧
      leNat ((d.drop 3).take 1) / 8 % 2 = s.get (Reg.ACTIVE i))

/-- EVT_MASK sets the mask of each source of its range from its bit, and nothing else; a range of no or more than 64 sources, one beyond source 543,
or a mask of another length is BAD_PARAM and changes nothing; a window closes HWIN spans after it opened; a source that
does not latch clears at the span after its last raise. -/
def Obligations.MasksAndWindowsEnd : Prop :=
  ∀ (s : State), s.ready = true →
    (∀ (m : Meta) (first count : Nat) (mask : List Byte), accepts m s → 1 ≤ count → count ≤ 64 → first + count ≤ 544 →
      mask.length = (count + 7) / 8 → ∃ t, exec (.evtMask m first count mask) s = .next t ∧ recorded m 0x00 [] t ∧ coreSame s t ∧
        (∀ i, i < count → t.get (Reg.MASKED (first + i)) = b01 (bit (leNat mask) i) ∧
          t.get (Reg.LATCHED (first + i)) = s.get (Reg.LATCHED (first + i))) ∧
        wordsSame (fun a => replyWord m a ∨ ∃ i, i < count ∧ a = (Reg.MASKED (first + i)).a) s t) ∧
    (∀ (m : Meta) (first count : Nat) (mask : List Byte), accepts m s →
      (count = 0 ∨ 64 < count ∨ 544 < first + count ∨ mask.length ≠ (count + 7) / 8) → ∃ t, exec (.evtMask m first count mask) s = .next t ∧
        recorded m 0x11 [] t ∧ coreSame s t ∧ wordsSame (replyWord m) s t) ∧
    (∃ t, exec .eventWindowExpiry s = .next t ∧ t = { s with evt := { s.evt with windows := t.evt.windows } } ∧
      ∀ c, c < 16 → t.window c = match s.window c with
        | some w => if w.opened + s.get Reg.HWIN ≤ s.clk.span then none else some w
        | none => none) ∧
    (∃ t, exec .latchAutoClear s = .next t ∧ restSame s t ∧
      ∀ i, i < 544 → t.get (Reg.LATCHED i) = if clearsItself s i then 0 else s.get (Reg.LATCHED i))

/-- The oldest event record is issued as one report frame once every destination has room: it takes the next DSEQ and enters the replay
buffer with its 16 bytes; until then nothing changes. Records discarded before are then reported by source 511, as soon as the queue has
room, and on an empty queue at once; with none discarded an empty queue changes nothing. -/
def Obligations.EventRecordsAreIssuedInOrder : Prop :=
  ∀ s : State, s.ready = true →
    (s.evt.queue = [] → s.evt.overflow = 0 → exec .eventRecordIssue s = .next s) ∧
    (s.evt.queue = [] → s.evt.overflow ≠ 0 →
      exec .eventRecordIssue s = .next (raise 511 s.evt.overflow { s with evt := { s.evt with overflow := 0 } })) ∧
    (∀ (r : EvtRec) (rest : List EvtRec), s.evt.queue = r :: rest →
      ((reportDests s).all (hasRoom s) = false → exec .eventRecordIssue s = .next s) ∧
      ((reportDests s).all (hasRoom s) = true → ∃ t, t.evt = { s.evt with queue := rest } ∧
        t.get Reg.LAST_DSEQ = (s.get Reg.LAST_DSEQ + 1) % 65536 ∧ t.clk = s.clk ∧ t.tb = s.tb ∧
        (∃ f, t.host.replayBuf.getLast? = some f ∧ f.ftype = 3 ∧ f.op = 1 ∧ f.seq = (s.get Reg.LAST_DSEQ + 1) % 65536 ∧
          f.payload = 0x80 :: recordBytes f.seq r) ∧
        (s.evt.overflow = 0 → exec .eventRecordIssue s = .next t) ∧
        (s.evt.overflow ≠ 0 → rest.length < 256 →
          exec .eventRecordIssue s = .next (raise 511 s.evt.overflow { t with evt := { t.evt with overflow := 0 } }))))

/-! ### Shutdown, transfers, life-cycle and tests -/

/-- SHUTDOWN is accepted unless a firmware swap or a transfer is open, and executes in the next span: the base die enters the shutdown wait
with an empty schedule, or the self-test at 900 mV; the self-test ends in the wait; the wait ends in a start with cause 5. -/
def Obligations.ShutdownLeadsToTheWait : Prop :=
  ∀ s : State,
    (∀ (m : Meta) (st : Bool), accepts m s →
      (swapDue s = false → s.host.xfer = none → ∃ t, exec (.shutdown m st) s = .next t ∧ recorded m 0x00 [] t ∧ wordsSame (replyWord m) s t ∧
        t.start = { s.start with shutdown := some (s.clk.span, st) } ∧ t.pwr = s.pwr ∧ t.evt = s.evt) ∧
      (swapDue s = true ∨ s.host.xfer.isSome = true → ∃ t, exec (.shutdown m st) s = .next t ∧ recorded m 0x12 [] t ∧ coreSame s t ∧
        wordsSame (replyWord m) s t)) ∧
    (∀ sp days : Nat, s.ready = true → sp < s.clk.span →
      (s.start.shutdown = some (sp, false) → ∃ t, exec (.shutdownExec days) s = .next t ∧ t.pwr.phase = .shutWait ∧ t.pwr.replug = false ∧
        t.host.sched = [] ∧ t.start.shutdown = none ∧ t.exc = .reset ∧ t.win = .reset) ∧
      (s.start.shutdown = some (sp, true) → ∃ t, exec (.shutdownExec days) s = .next t ∧ t.pwr.phase = .shutting ∧ t.pwr.target = 900)) ∧
    (∀ sp days : Nat, s.start.shutdown.isNone = true ∨ (∃ b, s.start.shutdown = some (sp, b)) ∧ s.clk.span ≤ sp →
      exec (.shutdownExec days) s = .next s) ∧
    (∀ (p g : Nat) (fails : List CubitTest), (s.pwr.phase = .shutting → ∃ t, exec (.selftestDone p g fails) s = .next t ∧
        t.pwr.phase = .shutWait ∧ t.host.sched = [] ∧ t.start.shutdown = none) ∧
      (s.pwr.phase ≠ .shutting → exec (.selftestDone p g fails) s = .next s)) ∧
    (s.pwr.phase = .shutWait → s.pwr.railsOk = true → ∀ why : Nat,
      ((why = 0 ∧ s.pwr.replug = true) ∨ why = 1 ∨ (why = 2 ∧ s.get Reg.SD_HOLD ≠ 0) → ∃ t, exec (.shutdownWaitEnd why) s = .next t ∧
        t.pwr.phase = .starting ∧ t.ret.cause = (if s.ret.ok then 5 else 1) ∧ t.ret.swapped = false) ∧
      ((why = 0 ∧ s.pwr.replug = false) ∨ (why = 2 ∧ s.get Reg.SD_HOLD = 0) ∨ 2 < why → exec (.shutdownWaitEnd why) s = .next s))

/-- The three transfers: BEGIN opens the one transfer, with a target that its opcode admits; BEGIN of a firmware image takes the inactive bank its
VALID, and is refused while a swap is scheduled; DATA of 1 to 47 bytes appends at its offset, that of a firmware image once the sectors it
reaches are erased; ABORT and the time-out close the transfer without effect. Another source finds it BUSY, and without an open
transfer of the opcode DATA, END and ABORT are BAD_STATE. -/
def Obligations.TransfersCollectTheirData : Prop :=
  ∀ (m : Meta) (s : State) (x : Xfer), accepts m s →
    let beginI (target length crc : Nat) : Instr := match x with
      | .jobLoad => .jobLoadBegin m target length crc
      | .nvAppend => .nvAppendBegin m target length crc
      | .fwStage => .fwStageBegin m target length crc
    let dataI (offset : Nat) (data : List Byte) : Instr := match x with
      | .jobLoad => .jobLoadData m offset data
      | .nvAppend => .nvAppendData m offset data
      | .fwStage => .fwStageData m offset data
    let endI : Instr := match x with
      | .jobLoad => .jobLoadEnd m
      | .nvAppend => .nvAppendEnd m
      | .fwStage => .fwStageEnd m
    let abortI : Instr := match x with
      | .jobLoad => .jobLoadAbort m
      | .nvAppend => .nvAppendAbort m
      | .fwStage => .fwStageAbort m
    let keeps (i : Instr) (st : Nat) (d : List Byte) (y : Option Transfer) : Prop := ∃ t, exec i s = .next t ∧ recorded m st d t ∧ coreSame s t ∧
      wordsSame (replyWord m) s t ∧ t.host.xfer = y
    let busy (i : Instr) : Prop := exec i s = .next (sendReply m 0x02 [] s)
    (∀ target length crc : Nat,
      let ok := match x with
        | .jobLoad => 8 ≤ target ∧ target ≤ 15
        | .nvAppend => target = 0x10 ∨ target = 0x11
        | .fwStage => target = 0
      (¬ ok → keeps (beginI target length crc) 0x11 [] s.host.xfer) ∧
      (ok → x = .fwStage → swapDue s = true → keeps (beginI target length crc) 0x12 [] s.host.xfer) ∧
      (ok → (x = .fwStage → swapDue s = false) →
        (xferBusy m.src s = true → busy (beginI target length crc)) ∧
        (xferBusy m.src s = false → ∃ t, exec (beginI target length crc) s = .next t ∧ recorded m 0x00 [] t ∧
          t.host.xfer = some ⟨m.src, x, target, length, crc, [], s.clk.span⟩ ∧ t.evt = s.evt ∧ t.fab = s.fab ∧
          (x ≠ .fwStage → coreSame s t) ∧
          (x = .fwStage → t.flag (bankValid (inactiveBank s)) = false ∧ t.get (Reg.FW_VER (inactiveBank s)) = 0 ∧ erasedTo t = 0)))) ∧
    (∀ (offset : Nat) (data : List Byte),
      (data = [] ∨ 47 < data.length → keeps (dataI offset data) 0x11 [] s.host.xfer) ∧
      (data ≠ [] → data.length ≤ 47 →
        (xferBusy m.src s = true → busy (dataI offset data)) ∧
        (xferBusy m.src s = false → openXfer x m.src s = none → keeps (dataI offset data) 0x12 [] s.host.xfer) ∧
        (∀ y : Transfer, s.host.xfer = some y → y.kind = x → y.owner = m.src →
          (offset ≠ y.data.length → keeps (dataI offset data) 0x11 [] (some y)) ∧
          (offset = y.data.length → x = .fwStage → erasedTo s < offset + data.length → busy (dataI offset data)) ∧
          (offset = y.data.length → (x = .fwStage → offset + data.length ≤ erasedTo s) →
            keeps (dataI offset data) 0x00 (leBytes 4 (offset + data.length)) (some { y with data := y.data ++ data, last := s.clk.span }))))) ∧
    (xferBusy m.src s = true → busy endI ∧ busy abortI) ∧
    (xferBusy m.src s = false → openXfer x m.src s = none → keeps endI 0x12 [] s.host.xfer ∧ keeps abortI 0x12 [] s.host.xfer) ∧
    (∀ y : Transfer, s.host.xfer = some y → y.kind = x → y.owner = m.src → keeps abortI 0x00 [] none) ∧
    (∀ y : Transfer, s.host.xfer = some y →
      (y.last + s.get Reg.STAGE_TO ≤ s.clk.span → exec .transferTimeout s = .next { s with host := { s.host with xfer := none } }) ∧
      (s.clk.span < y.last + s.get Reg.STAGE_TO → exec .transferTimeout s = .next s) ∧
      (y.kind = .fwStage → ∃ t, exec .fwBankEraseDone s = .next t ∧ erasedTo t = min 2097152 (erasedTo s + 4096) ∧ t.host = s.host ∧
        t.regs = s.regs) ∧
      (y.kind ≠ .fwStage → exec .fwBankEraseDone s = .next s))

/-- END of an open transfer tests CRC-32C, then length, before anything else, and then what its target asks: a transfer that fails is answered so
and stays open. A job image that its rules accept goes into its slot, which becomes LOADED, and into the history store where it asks for that;
a host record or a model pack is appended to the history store with the next number, and a pack goes into its slot; one that finds no
space is BUSY. A sound firmware image makes the inactive bank VALID with its version and raises the bank event. -/
def Obligations.TransfersEndInTheirTarget : Prop :=
  ∀ (m : Meta) (s : State) (x : Transfer), accepts m s → s.host.xfer = some x → x.owner = m.src →
    let endI : Instr := match x.kind with
      | .jobLoad => .jobLoadEnd m
      | .nvAppend => .nvAppendEnd m
      | .fwStage => .fwStageEnd m
    let fails (st : Nat) : Prop := ∃ t, exec endI s = .next t ∧ recorded m st [] t ∧ coreSame s t ∧ t.host.xfer = some x ∧ wordsSame (replyWord m) s t
    let d := leBytes 4 x.data.length ++ leBytes 4 (crc32c x.data)
    (crc32c x.data ≠ x.crc → fails 0x20) ∧
    (crc32c x.data = x.crc → x.data.length ≠ x.length → fails 0x11) ∧
    (crc32c x.data = x.crc → x.data.length = x.length →
      (x.kind = .jobLoad → 8 ≤ x.target → x.target ≤ 15 →
        (∀ st : Nat, imageRefusal x.target x.data s = some st →
          (st ≠ 0x02 → fails st) ∧ (st = 0x02 → exec endI s = .next (sendReply m 0x02 [] s))) ∧
        (imageRefusal x.target x.data s = none → (bit (par x.data 30 2) 0 = true → tunRoom (4 + x.data.length) s.start = true) →
          ∃ t, exec endI s = .next t ∧ recorded m 0x00 d t ∧ t.host.xfer = none ∧ (t.job x.target).image = x.data ∧
            t.get (Reg.JSTATE x.target) = 1 ∧ (bit (par x.data 30 2) 0 = false → t.evt = s.evt) ∧
            (bit (par x.data 30 2) 0 = true → ∃ r ∈ t.start.tun, r.kind = 0x09 ∧ r.number = s.get Reg.REC_NEXT ∧
              r.body = [byte x.target, 0, 0, 0] ++ x.data))) ∧
      (x.kind = .nvAppend → x.target = 0x10 ∨ x.target = 0x11 →
        (∀ st : Nat, appendRefusal x.target x.data s = some st → fails st) ∧
        (appendRefusal x.target x.data s = none → tunRoom x.data.length s.start = true →
          ∃ t, exec endI s = .next t ∧ recorded m 0x00 d t ∧ t.host.xfer = none ∧
            t.get Reg.REC_NEXT = (s.get Reg.REC_NEXT + 1) % 2 ^ 32 ∧
            (∃ place, t.start.tun.getLast? = some ⟨s.get Reg.REC_NEXT, x.target, s.clk.span, x.data, x.data.length, [], place⟩) ∧
            (x.target = 0x10 → kvGet (fun _ => ([] : List Byte)) t.fab.packs (par x.data 18 1) = x.data)) ∧
        (appendRefusal x.target x.data s = none → tunRoom x.data.length s.start = false → ∃ u,
          exec endI s = .next (sendReply m 0x02 [] u) ∧ u.host.xfer = some x ∧ u.get Reg.REC_NEXT = s.get Reg.REC_NEXT)) ∧
      (x.kind = .fwStage →
        (fwSound x.data = false → fails 0x20) ∧
        (fwSound x.data = true → fwFits x.data s = false → fails 0x11) ∧
        (fwSound x.data = true → fwFits x.data s = true →
          ∃ u v, exec endI s = .next (sendReply m 0x00 d (record (.txEnd .fwStage) m 0x00 d (raise 515 v u))) ∧ v % 16 = 1 ∧
            u.flag (bankValid (inactiveBank s)) = true ∧ u.get (Reg.FW_VER (inactiveBank s)) = par x.data 8 4 ∧ u.host.xfer = none)))

/-- LIFECYCLE in SERVICE: the right step of a transition notes target and steps left, and waits for the next of the same source within 256 spans;
the last step changes the state and its mirror and raises the life-cycle event; a wrong code, step, target or transition is answered LIFECYCLE
and changes no state, and a sequence in progress is abandoned with it; outside SERVICE a right step is BAD_STATE; 256 spans without the
next step abandon the sequence. -/
def Obligations.LifeCycleMovesStepByStep : Prop :=
  ∀ s : State,
    (∀ (m : Meta) (target step code : Nat), accepts m s →
      let i : Instr := .lifecycle m target step code
      let here := s.get Reg.LC_STATE
      let next : Nat := match s.host.lcSeq with
        | none => 1
        | some (src, to_, n, at_) => if src = m.src ∧ to_ = target ∧ s.clk.span ≤ at_ + 256 then n else 0
      let right (n : Nat) : Prop := lcSteps here target = some n ∧ 1 ≤ step ∧ step = next ∧ code = lcCode target step s
      (∀ n : Nat, right n → s.modeNow = 4 → step < n → ∃ t, exec i s = .next t ∧ recorded m 0x00 [byte here, byte (n - step)] t ∧
        t.get Reg.LC_STATE = here ∧ t.get Reg.LC_TARGET = target ∧ t.get Reg.LC_STEPS_LEFT = n - step ∧
        t.host.lcSeq = some (m.src, target, step + 1, s.clk.span) ∧ coreSame s t) ∧
      (∀ n : Nat, right n → s.modeNow = 4 → n ≤ step → ∃ u v, exec i s =
          .next (sendReply m 0x00 [byte target, 0] (record (.lifecycle target step code) m 0x00 [byte target, 0] (raise 514 v u))) ∧
        u.get Reg.LC_STATE = target ∧ u.ret.lcMirror = target ∧ u.get Reg.LC_TARGET = 7 ∧ u.host.lcSeq = none ∧ v % 64 = target + 8 * here) ∧
      (∀ n : Nat, right n → s.modeNow ≠ 4 → ∃ t, exec i s = .next t ∧ recorded m 0x12 [] t ∧ coreSame s t ∧ wordsSame (replyWord m) s t) ∧
      ((∀ n, ¬ right n) → s.host.lcSeq = none → ∃ t, exec i s = .next t ∧ recorded m 0x14 [] t ∧ coreSame s t ∧ wordsSame (replyWord m) s t) ∧
      ((∀ n, ¬ right n) → s.host.lcSeq.isSome = true → ∃ u v, exec i s =
          .next (sendReply m 0x14 [] (record (.lifecycle target step code) m 0x14 [] (raise 514 v u))) ∧ u.host.lcSeq = none ∧
        u.get Reg.LC_STATE = here ∧ u.get Reg.LC_TARGET = 7)) ∧
    (∀ src target step at_ : Nat, s.host.lcSeq = some (src, target, step, at_) → s.ready = true →
      (at_ + 256 < s.clk.span → ∃ u v, exec .lifecycleStepTimeout s = .next (raise 514 v u) ∧ u.host.lcSeq = none ∧
        u.get Reg.LC_STATE = s.get Reg.LC_STATE) ∧
      (s.clk.span ≤ at_ + 256 → exec .lifecycleStepTimeout s = .next s)) ∧
    (s.host.lcSeq = none → exec .lifecycleStepTimeout s = .next s)

/-- TEST functions are admitted in the life-cycle states FACTORY and WORKSHOP only, SCAN in FACTORY only; in SERVICE a sound one begins, LOGIC, MARCH and
READMIT on cubits that no plan uses and with no other test in progress; a converter fault waits for the next commit; an argument out of range is
BAD_PARAM, and anything else BAD_STATE or BUSY, and changes nothing. The end of LOGIC, MARCH and READMIT raises the self-test event and
shows each cubit tested as it has passed or failed. -/
def Obligations.TestsRunInService : Prop :=
  ∀ (m : Meta) (s : State), accepts m s →
    let keeps (i : Instr) (st : Nat) : Prop := ∃ t, exec i s = .next t ∧ recorded m st [] t ∧ coreSame s t ∧ wordsSame (replyWord m) s t
    let busy (i : Instr) : Prop := exec i s = .next (sendReply m 0x02 [] s)
    let starts (i : Instr) (fn arg : Nat) : Prop := ∃ t, exec i s = .next t ∧ recorded m 0x00 [] t ∧ wordsSame (replyWord m) s t ∧
      t.start = { s.start with testing := some (fn, arg) } ∧ t.evt = s.evt ∧ t.fab = s.fab
    let ends (i : Instr) (c : Cmd) (u : State) : Prop := ∃ v, exec i s = .next (sendReply m 0x00 [] (record c m 0x00 [] (raise 490 v u))) ∧ v % 16 = 6
    let used (mask : Nat) : Bool := (inMask mask).any (fun j => s.get (Reg.CSTATE j) == 0)
    let open_ : Prop := s.get Reg.LC_STATE = 0 ∨ s.get Reg.LC_STATE = 3
    let free (i : Instr) (fn arg : Nat) : Prop := (s.start.testing.isSome = true → busy i) ∧ (s.start.testing = none → starts i fn arg)
    (open_ → ∀ (march : Bool) (mask : Nat), mask < 2 ^ 32 →
      let i : Instr := if march then .testMarch m mask else .testLogic m mask
      (mask = 0 → keeps i 0x11) ∧
      (mask ≠ 0 → (s.modeNow ≠ 4 ∨ used mask = true) → keeps i 0x12) ∧
      (mask ≠ 0 → s.modeNow = 4 → used mask = false → free i (if march then 2 else 1) mask)) ∧
    (open_ → ∀ j : Nat, j < 256 →
      (31 < j → keeps (.testReadmit m j) 0x11) ∧
      (j ≤ 31 → (s.modeNow ≠ 4 ∨ s.get (Reg.CSTATE j) = 0 ∨ s.get (Reg.CUBIT_ST j) ≠ 2) → keeps (.testReadmit m j) 0x12) ∧
      (j ≤ 31 → s.modeNow = 4 → s.get (Reg.CSTATE j) ≠ 0 → s.get (Reg.CUBIT_ST j) = 2 → free (.testReadmit m j) 3 j)) ∧
    (open_ → ∀ k mask : Nat, k < 256 → mask < 2 ^ 24 →
      (5 < k ∨ 2 ^ 20 ≤ mask → keeps (.testConvClear m k mask) 0x11) ∧
      (k ≤ 5 → mask < 2 ^ 20 → s.modeNow ≠ 4 → keeps (.testConvClear m k mask) 0x12) ∧
      (k ≤ 5 → mask < 2 ^ 20 → s.modeNow = 4 → ∃ u, ends (.testConvClear m k mask) (.test 4 (byte k :: leBytes 3 mask)) u ∧
        kvGet (fun _ => 0) u.host.convClear k = kvGet (fun _ => 0) s.host.convClear k ||| mask)) ∧
    (open_ → ∀ k : Nat, k < 256 →
      (5 < k → keeps (.testRecal m k) 0x11) ∧
      (k ≤ 5 → (s.modeNow ≠ 4 ∨ s.linkUp k = false) → keeps (.testRecal m k) 0x12) ∧
      (k ≤ 5 → s.modeNow = 4 → s.linkUp k = true → free (.testRecal m k) 5 k ∧
        (s.start.testing = none → ∀ t, exec (.testRecal m k) s = .next t → (t.pr k).recal = true))) ∧
    (open_ → (s.modeNow ≠ 4 → keeps (.testRestart m) 0x12) ∧ (s.modeNow = 4 → starts (.testRestart m) 6 0)) ∧
    (s.get Reg.LC_STATE = 0 → ∀ a : Nat, a < 256 →
      (1 < a → keeps (.testScan m a) 0x11) ∧ (a ≤ 1 → s.modeNow ≠ 4 → keeps (.testScan m a) 0x12) ∧
      (a = 0 → s.modeNow = 4 → ∃ u, ends (.testScan m 0) (.test 7 [0]) u ∧ u.start.scan = s.start.scan) ∧
      (a = 1 → s.modeNow = 4 → ∃ u, ends (.testScan m 1) (.test 7 [1]) u ∧ u.start.scan = true ∧ ∀ j, j < 16 → (u.job j).inst = none)) ∧
    (s.get Reg.LC_STATE ≠ 0 → ∀ a b : Nat, keeps (.testScan m a) 0x14 ∧ (s.get Reg.LC_STATE ≠ 3 → ∀ i : Instr,
      i ∈ [Instr.testLogic m a, .testMarch m a, .testReadmit m a, .testConvClear m a b, .testRecal m a, .testRestart m] → keeps i 0x14)) ∧
    (∀ fails : List CubitTest,
      (∀ mask : Nat, s.start.testing = some (1, mask) → ∃ u v, exec (.testDone fails) s = .next (raise 490 v u) ∧ v % 16 = 6 ∧
        u.start.testing = none ∧ ∀ j, j < 32 → bit mask j = true → u.get (Reg.CUBIT_ST j) =
          if (fails.any (fun f => f.cubit == j)) = true then 2 else if s.get (Reg.CUBIT_ST j) = 2 then 2 else 0) ∧
      (∀ mask : Nat, s.start.testing = some (2, mask) → ∃ u v, exec (.testDone fails) s = .next (raise 490 v u) ∧ v % 16 = 6 ∧
        u.start.testing = none ∧ ∀ j, j < 32 → bit mask j = true → s.get (Reg.CUBIT_ST j) ≠ 2 →
          (∀ f ∈ fails, f.cubit % 32 = j → f.rows = []) → u.get (Reg.CUBIT_ST j) = 0) ∧
      (∀ j : Nat, j < 32 → s.start.testing = some (3, j) →
        ((∀ f ∈ fails, f.cubit ≠ j) → ∃ u v, exec (.testDone fails) s = .next (raise 490 v u) ∧ v % 16 = 5 ∧ u.start.testing = none ∧
          u.get (Reg.CUBIT_ST j) = 0) ∧
        (∀ rest : List CubitTest, ∀ retest : Bool, fails = ⟨j, [], retest⟩ :: rest → ∃ u v, exec (.testDone fails) s = .next (raise 490 v u) ∧
          v % 16 = 6 ∧ u.start.testing = none ∧ u.get (Reg.CUBIT_ST j) = 2)) ∧
      (s.start.testing = none → exec (.testDone fails) s = .next s))

/-! ### The host ports -/

/-- The SPI port: a transaction reads the status byte and the oldest frame, which leaves when all of it has been clocked; a first byte of 0
sends nothing; bytes that are no sound frame of a host count in SPI_ERR, and a frame that finds no buffer in SPI_DROP; a sound frame of a
head for another module waits in an input buffer, and moves to its chain port once that has room, and one for the module itself or for all is
executed here. Before READY only zeros are read. -/
def Obligations.SpiPortTakesAndGivesFrames : Prop :=
  ∀ (s : State) (mosi : List Byte),
    (s.ready = false → exec (.spiTransaction mosi) s = .next { s with host := { s.host with miso := List.replicate mosi.length 0 } }) ∧
    (s.ready = true → mosi.head? = some 0 → ∀ (f : Frame) (q : List Frame), s.host.hq = f :: q →
      (1 + (frameBytes f).length ≤ mosi.length → ∃ t, exec (.spiTransaction mosi) s = .next t ∧ t.host.hq = q ∧ t.regs = s.regs ∧
        (t.host.miso.drop 1).take (frameBytes f).length = frameBytes f ∧ t.host.miso.length = mosi.length ∧
        t.host.miso.head? = some (byte (min 63 (q.length + 1) + 64 * b01 (s.host.inBuf.length < 4) + 128))) ∧
      (mosi.length < 1 + (frameBytes f).length → ∃ t, exec (.spiTransaction mosi) s = .next t ∧ t.host.hq = s.host.hq ∧ t.regs = s.regs)) ∧
    (s.ready = true → mosi = [] ∨ mosi.head? = some 0 → s.host.hq = [] → ∃ t, exec (.spiTransaction mosi) s = .next t ∧ coreSame s t ∧
      t.regs = s.regs ∧ t.host = { s.host with miso := t.host.miso }) ∧
    (s.ready = true → mosi ≠ [] → mosi.head? ≠ some 0 →
      (4 ≤ s.host.inBuf.length → ∃ t, exec (.spiTransaction mosi) s = .next t ∧ coreSame s t ∧ t.host.inBuf = s.host.inBuf ∧
        t.get Reg.SPI_DROP = min (s.get Reg.SPI_DROP + 1) (2 ^ Reg.SPI_DROP.w - 1)) ∧
      (s.host.inBuf.length < 4 → hostFrame false mosi = none → ∃ t, exec (.spiTransaction mosi) s = .next t ∧ coreSame s t ∧
        t.host.inBuf = s.host.inBuf ∧ t.get Reg.SPI_ERR = min (s.get Reg.SPI_ERR + 1) (2 ^ Reg.SPI_ERR.w - 1)) ∧
      (∀ f : Frame, s.host.inBuf.length < 4 → hostFrame false mosi = some f → f.bcast = false → f.hops ≠ 0 →
        ∃ t, exec (.spiTransaction mosi) s = .next t ∧ coreSame s t ∧ t.host.inBuf = s.host.inBuf ++ [f] ∧ t.regs = s.regs) ∧
      (∀ f : Frame, s.host.inBuf.length < 4 → hostFrame false mosi = some f → (f.bcast = true ∨ f.hops = 0) → ∃ u w, coreSame s u ∧
        u.regs = s.regs ∧ u.host.inBuf = s.host.inBuf ∧ w = receive true (parseCmd f.op f.payload) ⟨0, f.bcast, f.seq, 0⟩ u ∧
        (f.hops = 0 ∨ isHead w = false → exec (.spiTransaction mosi) s = .next w) ∧
        (f.hops ≠ 0 → isHead w = true →
          exec (.spiTransaction mosi) s = .next { w with host := { w.host with inBuf := w.host.inBuf ++ [f] } }))) ∧
    (∀ (f : Frame) (fs : List Frame), s.ready = true → s.host.inBuf = f :: fs → s.host.twIn = [] → f.bcast = false →
      (∀ (p : Nat) (g : Frame), headRoute f s = some (p, g) → p ≤ 1 → g.ftype = 1 →
        (hasRoom s (.port p) = true → ∃ t, exec .hostFrameForward s = .next t ∧ t.host.inBuf = fs ∧ (t.pt p).txq = (s.pt p).txq ++ [g] ∧
          t.regs = s.regs) ∧
        (hasRoom s (.port p) = false → exec .hostFrameForward s = .next s)) ∧
      (headRoute f s = none → s.host.hq.length < 64 → ∃ t g, exec .hostFrameForward s = .next t ∧ t.host.inBuf = fs ∧
        t.host.hq = s.host.hq ++ [g] ∧ g.ftype = 2 ∧ g.op = 0x12 ∧ g.seq = f.seq ∧ t.regs = s.regs))

/-- The two-wire target: READ_STATUS gives the status byte, BLOCK_READ the oldest frame with its length, which leaves once all of it has been
read; under TW_PEC each of them carries its PEC, and a BLOCK_WRITE whose PEC is missing or wrong counts in TW_ERR; BLOCK_WRITE of a sound
frame waits in an input buffer, and anything else counts in TW_ERR; a full pair of buffers, or a base die that is not READY, does not
acknowledge. The attention request calls once for the frames that wait, no earlier than ATTN_GAP after the one before, the grains up to then
passing within the span. The form of the PEC is SMBus's (log entry 75). -/
def Obligations.TwoWireTargetTakesAndGivesFrames : Prop :=
  ∀ s : State,
    (s.ready = false → ∀ (n : Nat) (d : List Byte) (pec : Option Nat) (b : Bool), exec .twbReadStatus s = .next s ∧
      exec (.twbBlockWrite n d pec) s = .next s ∧ exec (.twbBlockRead b) s = .next s ∧ exec (.attentionRequest b) s = .next s) ∧
    (s.ready = true →
      let gives (code : Nat) (bs : List Byte) : List Byte :=
        if s.flag Reg.TW_PEC then bs ++ [byte (smbusPec ([addrByte s false, byte code, addrByte s true] ++ bs))] else bs
      exec .twbReadStatus s = .next { s with host := { s.host with
        twOut := gives 0x01 [byte (min 63 s.host.twq.length + 64 * b01 (s.host.twIn.length < 2) + 128)] } } ∧
      (∀ (f : Frame) (q : List Frame), s.host.twq = f :: q →
        (∃ t, exec (.twbBlockRead true) s = .next t ∧ t.host.twq = q ∧ t.host.twOut = gives 0x03 (byte (frameBytes f).length :: frameBytes f) ∧
          t.regs = s.regs) ∧
        (∃ t, exec (.twbBlockRead false) s = .next t ∧ t.host.twq = s.host.twq ∧
          t.host.twOut = gives 0x03 (byte (frameBytes f).length :: frameBytes f) ∧ t.regs = s.regs)) ∧
      (s.host.twq = [] → ∀ b : Bool, ∃ t, exec (.twbBlockRead b) s = .next t ∧ t.host.twq = [] ∧ t.host.twOut = gives 0x03 [0] ∧ t.regs = s.regs) ∧
      (s.host.twIn.length < 2 → ∀ (n : Nat) (d : List Byte) (pec : Option Nat), n < 12 ∨ 64 < n ∨ d.length ≠ n →
        ∃ t, exec (.twbBlockWrite n d pec) s = .next t ∧ restSame s t ∧ t.get Reg.TW_ERR = min (s.get Reg.TW_ERR + 1) (2 ^ Reg.TW_ERR.w - 1)) ∧
      (s.flag Reg.TW_PEC = true → s.host.twIn.length < 2 → ∀ (d : List Byte) (pec : Option Nat),
        pec ≠ some (smbusPec ([addrByte s false, 0x02, byte d.length] ++ d)) → ∃ t, exec (.twbBlockWrite d.length d pec) s = .next t ∧
          restSame s t ∧ t.get Reg.TW_ERR = min (s.get Reg.TW_ERR + 1) (2 ^ Reg.TW_ERR.w - 1)) ∧
      (∀ (d : List Byte) (pec : Option Nat), s.host.twIn.length < 2 →
        s.flag Reg.TW_PEC = false ∨ pec = some (smbusPec ([addrByte s false, 0x02, byte d.length] ++ d)) →
        (hostFrame true d = none → ∃ t, exec (.twbBlockWrite d.length d pec) s = .next t ∧ restSame s t ∧
          t.get Reg.TW_ERR = min (s.get Reg.TW_ERR + 1) (2 ^ Reg.TW_ERR.w - 1)) ∧
        (∀ f : Frame, hostFrame true d = some f → 12 ≤ d.length → d.length ≤ 64 → f.bcast = false → f.hops ≠ 0 →
          ∃ t, exec (.twbBlockWrite d.length d pec) s = .next t ∧ coreSame s t ∧ t.host.twIn = s.host.twIn ++ [f] ∧ t.regs = s.regs) ∧
        (∀ f : Frame, hostFrame true d = some f → 12 ≤ d.length → d.length ≤ 64 → f.hops = 0 →
          exec (.twbBlockWrite d.length d pec) s = .next (receive true (parseCmd f.op f.payload) ⟨1, f.bcast, f.seq, 0⟩ s)))) ∧
    (∀ (n : Nat) (d : List Byte) (pec : Option Nat), 2 ≤ s.host.twIn.length → exec (.twbBlockWrite n d pec) s = .next s) ∧
    (attnDue s = false → ∀ b : Bool, exec (.attentionRequest b) s = .next s) ∧
    (s.ready = true → s.flag Reg.TW_ATTN = true → s.tw.active = none → s.tw.due = [] → busStuck s = false → s.host.twCalled < s.host.twq.length →
      (attnFrom s ≤ s.abs →
        exec (.attentionRequest true) s = .next { s with tw := { s.tw with attn := s.tw.attn + 1, attnAt := some s.abs } } ∧
        exec (.attentionRequest false) s = .next { s with
          tw := { s.tw with attn := s.tw.attn + 1, attnAt := some s.abs }, host := { s.host with twCalled := s.host.twq.length } }) ∧
      (s.abs < attnFrom s → attnFrom s / 4096 = s.clk.span → ∃ t, exec (.attentionRequest false) s = .next t ∧ t.clk.grain = attnFrom s % 4096 ∧
        t.tw.attn = s.tw.attn + 1 ∧ t.tw.attnAt = some (attnFrom s) ∧ t.host.twCalled = s.host.twq.length ∧ t.regs = s.regs) ∧
      (s.abs < attnFrom s → attnFrom s / 4096 ≠ s.clk.span → ∀ b : Bool, exec (.attentionRequest b) s = .next s))

/-! ### The two-wire controller and the core supply -/

/-- The controller: on an idle bus the due transfer of the best rank starts; its end frees the bus; one of the regulator leads to what R434 to R436 say of
it; a pass-through toggles TWC_DONE with its
result; a good identity read is VALID, and a failed one is tried again 10 ms later, twice, before ID_FAIL; a lost arbitration puts the
transfer in front again until ARB_MAX losses; an arbitration error ends a pass-through write. -/
def Obligations.ControllerTransfersInOrder : Prop :=
  ∀ s : State,
    (∀ (j : TwJob) (n : Nat) (rest : List (TwJob × Nat)), s.ready = true → s.tw.active = none → busStuck s = false →
      s.tw.due = (j, n) :: rest → (∀ x ∈ rest, j.rank ≤ x.1.rank) → ∃ t, exec .twTransferStart s = .next t ∧ t.tw.active = some (j, n) ∧
        t.tw.due = rest ∧ t.flag Reg.BUS_IDLE = false ∧ t.evt = s.evt) ∧
    (s.tw.due = [] ∨ s.tw.active.isSome = true ∨ busStuck s = true → exec .twTransferStart s = .next s) ∧
    (∀ (result count a w r n : Nat) (pec : Bool) (d : List Byte), s.tw.active = some (.passThrough a pec w r, n) → result ≤ 3 → ∃ t,
      exec (.twTransferDone result count d) s = .next t ∧ t.tw.active = none ∧ t.flag Reg.BUS_IDLE = true ∧ t.flag Reg.TWC_BUSY = false ∧
        t.get Reg.TWC_DONE = 1 - s.get Reg.TWC_DONE ∧ t.get Reg.TWC_RESULT = result ∧ t.get Reg.TWC_COUNT = min count 255 ∧ t.evt = s.evt) ∧
    (∀ (n count : Nat) (d : List Byte), s.tw.active = some (.identity, n) →
      (s.get Reg.ID_LEN ≤ d.length → s.flag Reg.ID_CRC = false → ∃ t, exec (.twTransferDone 0 count d) s = .next t ∧
        t.flag Reg.ID_VALID = true ∧ t.flag Reg.ID_FAIL = false ∧ t.word (Wd.PACK_ID 0) = leNat ((d.take (s.get Reg.ID_LEN)).take 4)) ∧
      (s.tw.idTries < 2 → ∃ t, exec (.twTransferDone 1 count d) s = .next t ∧ t.tw.idTries = s.tw.idTries + 1 ∧ t.tw.idWait = true) ∧
      (2 ≤ s.tw.idTries → ∃ t, exec (.twTransferDone 1 count d) s = .next t ∧ t.flag Reg.ID_FAIL = true)) ∧
    (∀ (cmd n count result w : Nat) (d : List Byte), s.tw.active = some (.regulator cmd w, n) → ∃ u, restSame { s with tw := { s.tw with active := none } } u ∧
      u.flag Reg.BUS_IDLE = true ∧ exec (.twTransferDone 0 count d) s = .next (vrDone cmd d u) ∧
      (result ≠ 0 → exec (.twTransferDone result count d) s = .next (vrBad cmd u))) ∧
    (∀ (count result : Nat) (d : List Byte), s.tw.active = none → exec (.twTransferDone result count d) s = .next s) ∧
    (s.ready = true → (s.tw.idDue = true → ∃ t, exec .identityRead s = .next t ∧ t.tw.due = s.tw.due ++ [(.identity, 0)] ∧
        t.tw.idDue = false ∧ t.tw.idTries = 0 ∧ t.regs = s.regs) ∧
      (s.tw.idWait = true → ∃ t, exec .identityRetry s = .next t ∧ t.tw.due = s.tw.due ++ [(.identity, 0)] ∧ t.tw.idWait = false ∧
        t.tw.idTries = s.tw.idTries ∧ t.regs = s.regs)) ∧
    (∀ (j : TwJob) (n : Nat), s.tw.active = some (j, n) →
      (n + 1 < s.get Reg.ARB_MAX → ∃ t, exec .twArbLost s = .next t ∧ t.tw.active = none ∧ t.tw.due = (j, n + 1) :: s.tw.due ∧
        t.get Reg.ARB_LOSS = min (s.get Reg.ARB_LOSS + 1) (2 ^ Reg.ARB_LOSS.w - 1) ∧ t.evt = s.evt) ∧
      (s.get Reg.ARB_MAX ≤ n + 1 → j = .identity → ∃ u v, exec .twArbLost s = .next (identityFail (raise 496 v u)) ∧ u.tw.active = none ∧
        v % 256 = 3 + 16 * 2)) ∧
    (∀ (a w r n : Nat) (pec b : Bool), s.tw.active = some (.passThrough a pec w r, n) → 0 < w → ∃ u v x,
      exec (.twArbError b) s = .next (passDone 4 w [] 0 x) ∧ x = { raise 496 v u with tw := { (raise 496 v u).tw with active := none } } ∧
        v % 256 = (if b then 2 else 1) + 16 * 3 ∧ u.get Reg.ARB_LOSS = min (s.get Reg.ARB_LOSS + 1) (2 ^ Reg.ARB_LOSS.w - 1)) ∧
    (s.tw.active = none → exec .twArbLost s = .next s ∧ ∀ b, exec (.twArbError b) s = .next s)

/-- Stuck lines: a low time of SCL_TO or SDA_TO marks the line stuck, counts it and raises its event, and the transfer in progress starts
again; a line that is released ends the condition with its own event, and the bus is idle again unless the other line is stuck; recovery clocks are noted while SDA stays low; below the
limit, before READY, and for a line that is stuck already nothing happens. -/
def Obligations.StuckLinesAreReported : Prop :=
  ∀ (s : State) (asTarget : Bool) (lowMs clocks : Nat) (released : Bool), s.ready = true →
    (s.flag Reg.SCL_STUCK = false → s.get Reg.SCL_TO ≤ lowMs → ∀ b : Bool, ∃ u v,
      exec (.twSclTimeout asTarget lowMs b) s = .next (restartJob 5 (raise 494 v u)) ∧ restSame s u ∧
      u.get Reg.TW_ERR = (if b then min (s.get Reg.TW_ERR + 1) (2 ^ Reg.TW_ERR.w - 1) else s.get Reg.TW_ERR) ∧
      u.flag Reg.SCL_STUCK = true ∧ u.flag Reg.BUS_IDLE = false ∧
      u.get Reg.SCL_TO_COUNT = min (s.get Reg.SCL_TO_COUNT + 1) (2 ^ Reg.SCL_TO_COUNT.w - 1) ∧
      v = b01 asTarget + 65536 * min lowMs 65535) ∧
    (s.flag Reg.SCL_STUCK = true ∨ lowMs < s.get Reg.SCL_TO → ∀ b, exec (.twSclTimeout asTarget lowMs b) s = .next s) ∧
    (s.flag Reg.SCL_STUCK = true → ∃ u v, exec (.twSclReleased asTarget lowMs) s = .next (raise 494 v u) ∧ u.flag Reg.SCL_STUCK = false ∧
      u.flag Reg.BUS_IDLE = (!s.flag Reg.SDA_STUCK) ∧ restSame s u ∧ v % 4 = b01 asTarget + 2) ∧
    (s.flag Reg.SCL_STUCK = false → exec (.twSclReleased asTarget lowMs) s = .next s) ∧
    (s.flag Reg.SDA_STUCK = false → s.flag Reg.SCL_STUCK = false → s.get Reg.SDA_TO ≤ lowMs → ∃ u v,
      exec (.twSdaTimeout asTarget lowMs clocks released) s = .next (restartJob 5 (raise 495 v u)) ∧ u.flag Reg.SDA_STUCK = true ∧
      u.get Reg.SDA_TO_COUNT = min (s.get Reg.SDA_TO_COUNT + 1) (2 ^ Reg.SDA_TO_COUNT.w - 1) ∧
      u.tw.clocks = (if s.flag Reg.TW_RECOVER then min clocks 9 else 0) ∧ v % 16 = b01 asTarget) ∧
    (s.flag Reg.SDA_STUCK = true ∨ s.flag Reg.SCL_STUCK = true ∨ lowMs < s.get Reg.SDA_TO →
      exec (.twSdaTimeout asTarget lowMs clocks released) s = .next s) ∧
    (s.flag Reg.SDA_STUCK = true → s.flag Reg.TW_RECOVER = true →
      exec (.twSdaRecoveryRetry clocks released) s = .next { s with tw := { s.tw with clocks := min clocks 9, freed := released } }) ∧
    (s.flag Reg.SDA_STUCK = false ∨ s.flag Reg.TW_RECOVER = false → exec (.twSdaRecoveryRetry clocks released) s = .next s) ∧
    (s.flag Reg.SDA_STUCK = true → ∃ u v, exec (.twSdaReleased asTarget lowMs) s = .next (raise 495 v u) ∧ u.flag Reg.SDA_STUCK = false ∧
      u.flag Reg.BUS_IDLE = (!s.flag Reg.SCL_STUCK) ∧ restSame s u ∧ v % 16 = b01 asTarget + 2) ∧
    (s.flag Reg.SDA_STUCK = false → exec (.twSdaReleased asTarget lowMs) s = .next s)

/-- The core supply: a little slack asks for 10 mV more and eight ticks of much slack for 5 mV less, within the floor and 990 mV; a write that
both readings confirm sets the confirmed value, one that fails is tried again twice and then raises the regulator event with the fabric
capped below its floor, and is tried again a second later; another regulator transfer that fails, a poll among them, is tried again twice before
it raises it; VCORE out of range and the lack of slack at 990 mV raise it too. -/
def Obligations.CoreSupplyFollowsTheSlack : Prop :=
  ∀ s : State, s.ready = true →
    (∀ slack : Nat, s.flag Reg.VC_ADAPT = true →
      (slack < 50 → (s.get Reg.VC_SET ≠ 990 ∨ 20 ≤ slack) → ∃ t, exec (.vcoreAdaptTick slack) s = .next t ∧ t.get Reg.SLACK_MIN = slack ∧
        t.pwr.slackRun = 0 ∧ t.pwr.target = min 990 (max (s.pwr.target + 10) (floorNow s)) ∧ t.evt = s.evt) ∧
      (slack < 20 → s.get Reg.VC_SET = 990 → ∃ u v w, v % 16 = 5 ∧ restSame s u ∧ u.get Reg.SLACK_MIN = slack ∧ w = raise 493 v u ∧
        exec (.vcoreAdaptTick slack) s = .next (vcWant (w.pwr.target + 10) { w with pwr := { w.pwr with slackRun := 0 } })) ∧
      (120 ≤ slack → s.pwr.slackRun + 1 < 8 → ∃ t, exec (.vcoreAdaptTick slack) s = .next t ∧ t.pwr.slackRun = s.pwr.slackRun + 1 ∧
        t.pwr.target = s.pwr.target ∧ t.get Reg.SLACK_MIN = min slack 255) ∧
      (120 ≤ slack → 8 ≤ s.pwr.slackRun + 1 → ∃ t, exec (.vcoreAdaptTick slack) s = .next t ∧ t.pwr.slackRun = 0 ∧
        t.pwr.target = min 990 (max (s.pwr.target - 5) (floorNow s))) ∧
      (50 ≤ slack → slack < 120 → ∃ t, exec (.vcoreAdaptTick slack) s = .next t ∧ t.pwr = { s.pwr with slackRun := 0 })) ∧
    (∀ slack : Nat, s.flag Reg.VC_ADAPT = false → (s.get Reg.VC_SET ≠ 990 ∨ 20 ≤ slack) → ∃ u, exec (.vcoreAdaptTick slack) s = .next (vcForMode u) ∧
      restSame s u ∧ u.get Reg.SLACK_MIN = min slack 255) ∧
    (∀ (w : VrWrite) (acked : Bool) (readMv hkMv : Nat), s.pwr.write = some w → hkMv < 2048 → readMv < 1024 →
      let heard := acked = true ∧ busStuck s = false
      let near := readMv ≤ w.mv + 15 ∧ w.mv ≤ readMv + 15 ∧ hkMv ≤ w.mv + 25 ∧ w.mv ≤ hkMv + 25
      (heard → near → ∃ t, exec (.vrWriteConfirm acked readMv hkMv) s = .next t ∧ t.pwr.confirmed = w.mv ∧ t.get Reg.VC_READ = readMv ∧
        t.get Reg.VCORE_MV = hkMv ∧ t.evt = s.evt) ∧
      ((¬ heard ∨ ¬ near) →
        (w.tries < 2 → ∃ t, exec (.vrWriteConfirm acked readMv hkMv) s = .next t ∧ t.pwr.write = some ⟨w.mv, w.tries + 1⟩ ∧
          t.pwr.confirmed = s.pwr.confirmed ∧ t.evt = s.evt) ∧
        (2 ≤ w.tries → ∃ u v, exec (.vrWriteConfirm acked readMv hkMv) s = .next (raise 493 v u) ∧ (¬ heard → v % 16 = 1) ∧ (heard → v % 16 = 2) ∧
          u.pwr.write = none ∧ u.pwr.vrFailed = true ∧ u.flag Reg.FAB_CAPPED = decide (s.pwr.confirmed < floorMv s.fabMode)))) ∧
    (∀ (acked : Bool) (readMv hkMv : Nat), s.pwr.write = none → exec (.vrWriteConfirm acked readMv hkMv) s = .next s) ∧
    (s.pwr.vrFailed = true → ∃ t, exec .vrRetryTick s = .next t ∧ t.pwr.vrFailed = false ∧ t.pwr.target = s.pwr.target ∧ t.evt = s.evt) ∧
    (s.pwr.vrFailed = false → ∃ t, exec .vrRetryTick s = .next t ∧ t.regs = s.regs ∧ t.evt = s.evt ∧
      t.tw = { s.tw with due := s.tw.due ++ (spentReads s).map (fun c => (.regulator c (regArg c), 0)) } ∧
      (∀ c, triesOf c t = if c ∈ spentReads s then 0 else triesOf c s)) ∧
    (∀ cmd : Nat, cmd ≠ 0x21 →
      (triesOf cmd s < 2 → (vrBad cmd s).tw.due = s.tw.due ++ [(.regulator cmd (regArg cmd), 0)] ∧ (vrBad cmd s).evt = s.evt ∧
        triesOf cmd (vrBad cmd s) = triesOf cmd s + 1) ∧
      (2 ≤ triesOf cmd s → ∃ v, vrBad cmd s = raise 493 v (setTries cmd (triesOf cmd s + 1) s) ∧ v % 16 = 1)) ∧
    (s.flag Reg.VR_CTRL = false ∨ busStuck s = true → ∀ (acked : Bool) (status : Nat), exec (.vrStatusPoll acked status) s = .next s) ∧
    (s.flag Reg.VR_CTRL = true → busStuck s = false → ∀ status : Nat,
      (∃ t, exec (.vrStatusPoll false status) s = .next t ∧ t.regs = s.regs ∧ t.evt = s.evt ∧ triesOf 0x79 t = 1 ∧
        t.tw = { s.tw with due := s.tw.due ++ [(.regulator 0x79 0, 0)] }) ∧
      (statusFinding status = false → exec (.vrStatusPoll true status) s = .next (setTries 0x79 0 s)) ∧
      (statusFinding status = true → ∃ v, exec (.vrStatusPoll true status) s =
        .next (twDue (.regulator 0x03 0) (raise 493 v (setTries 0x79 0 s))) ∧ v % 16 = 4)) ∧
    (∀ mv : Nat, (mv < 700 ∨ 1020 < mv → ∃ u v, exec (.vcoreRangeAlarm mv) s = .next (raise 493 v u) ∧ v % 16 = 6 ∧
        u.get Reg.VCORE_MV = min mv 2047 ∧ restSame s u) ∧
      (700 ≤ mv → mv ≤ 1020 → exec (.vcoreRangeAlarm mv) s = .next s))

/-! ### Pack current -/

/-- Shunt faults and the current broadcast: STUCK, unless a reading beyond the range restarted its count, and CM_RANGE set SHUNT_FAULT with their kind and
raise cause 3 of the pack current event with its start, once; after 64 good spans each condition ends, and with the last of them the fault,
raised with its end. A SOURCE sends the words of one span, eleven to a frame or fewer at their end, and the summary after them; a SINK follows
one SOURCE, shows the last span received and whether it pairs, pairs the words in time, reports a second SOURCE or other settings with
cause 9, and a summary that stays away with cause 7, once, and its return with cause 8. -/
def Obligations.CurrentFaultsAndBroadcast : Prop :=
  ∀ s : State,
    let now := s.tierAt 0
    let beyondRange := waveAny (beyond 20) (rawWin (bring 0 now [] s) 0 20 (now - 4096 / 2 ^ (s.pr 0).mLog) now)
    let faulted (i : Instr) (kind : Nat) (c : Cur) : Prop :=
      (s.flag Reg.SHUNT_FAULT = false → ∃ u, exec i s = .next (packTier 3 (1 + 2 * kind) (s.tl 0).span s.clk.grain u) ∧
        u = { s with regs := u.regs, cur := c } ∧ u.flag Reg.SHUNT_FAULT = true ∧ u.get Reg.FAULT_KIND = kind ∧
        fieldsSame [Reg.SHUNT_FAULT, Reg.FAULT_KIND] s u) ∧
      (s.flag Reg.SHUNT_FAULT = true → exec i s = .next { s with cur := c })
    ((s.tl 0).supplied = true →
      ((s.tl 0).calibrating = false → beyondRange = false → faulted .shuntStuck 1 { s.cur with cond1 := true, good1 := 0 }) ∧
      ((s.tl 0).calibrating = false → beyondRange = true → exec .shuntStuck s = .next s) ∧
      faulted .shuntCmFault 2 { s.cur with cond2 := true, good2 := 0 }) ∧
    (s.flag Reg.SHUNT_FAULT = true →
      let c1 := s.cur.cond1 && decide (s.cur.good1 < 64)
      let c2 := s.cur.cond2 && decide (s.cur.good2 < 64)
      ∃ u, u = { s with regs := u.regs, cur := { s.cur with cond1 := c1, cond2 := c2 } } ∧ fieldsSame [Reg.SHUNT_FAULT, Reg.FAULT_KIND] s u ∧
        u.get Reg.FAULT_KIND = (if c1 then 1 else if c2 then 2 else 0) ∧ u.flag Reg.SHUNT_FAULT = (c1 || c2) ∧
        ((c1 || c2) = true → exec .shuntFaultClear s = .next u) ∧
        ((c1 || c2) = false → exec .shuntFaultClear s = .next (packTier 3 (2 * s.get Reg.FAULT_KIND) (s.tl 0).span s.clk.grain u))) ∧
    (s.flag Reg.SHUNT_FAULT = false → exec .shuntFaultClear s = .next s) ∧
    (s.ready = true → s.get Reg.CB_ROLE = 1 →
      (∀ (run rest : List (Nat × Nat × Nat)) (p i : Nat), s.cur.cbWords = run ++ rest → run.length ≤ 11 → (run.head?.map (fun w => (w.1, w.2.1))) = some (p, i) →
        (∀ w ∈ run, w.1 = p) → (run.length = 11 ∨ rest.head?.all (fun w => w.1 != p) = true) →
        s.cur.cbSums.head?.all (fun x => s.cur.cbWords.any (fun w => w.1 == x.1)) = true →
        let whole := run.length = 11 ∨ (∃ w ∈ run, nOfCode (s.get (Reg.EFF_SUBWIN 0)) - 1 ≤ w.2.1) ∨ (∃ w ∈ s.cur.cbWords, w.1 ≠ p) ∨
          ∃ x ∈ s.cur.cbSums, p ≤ x.1
        (whole → exec .currentBroadcastSend s = .next (castFrame 5 0 (cbHead s p i (run.length - 1) ++ run.flatMap (fun w => leBytes 4 w.2.2))
          { s with cur := { s.cur with cbWords := rest } })) ∧
        (¬ whole → exec .currentBroadcastSend s = .next s)) ∧
      (∀ (p : Nat) (d : List Byte) (rest : List (Nat × List Byte)), s.cur.cbSums = (p, d) :: rest → (∀ w ∈ s.cur.cbWords, w.1 ≠ p) →
        exec .currentBroadcastSend s = .next (castFrame 5 0 (cbHead s p 0 128 ++ d) { s with cur := { s.cur with cbSums := rest } })) ∧
      (s.cur.cbWords = [] → s.cur.cbSums = [] → exec .currentBroadcastSend s = .next s)) ∧
    (∀ (origin : Nat) (d : List Byte), (s.get Reg.CB_ROLE ≠ 2 ∨ d.length < 8) → exec (.currentBroadcastReceived origin d) s = .next s) ∧
    (s.ready = true → s.get Reg.CB_ROLE = 2 → ∀ (origin : Nat) (d : List Byte), 8 ≤ d.length →
      let i : Instr := .currentBroadcastReceived origin d
      let p := completeSpan s (par d 0 4)
      let mask := cbFailing s (par d 6 2 % 1024)
      let keep := timeQualified s = true ∧ bit (par d 6 2) 6 = true ∧ (s.clk.span ≤ p ∨ (s.clk.span = p + 1 ∧ s.clk.grain < 2048))
      (s.cur.cbFrom = none ∨ s.cur.cbFrom = some origin → mask = s.get Reg.CB_MISMATCH →
        (bit (par d 5 1) 7 = true → ∃ u, u.get Reg.CB_LAST_SPAN = p % 2 ^ 32 ∧ u.flag Reg.CB_PAIRING = timeQualified s ∧
          u.cur.cbFrom = some origin ∧ u.cur.cbLostFor = 0 ∧ u.cur.cbLost = false ∧ u = { s with cur := u.cur, fab := u.fab, regs := u.regs } ∧
          fieldsSame [Reg.CB_LAST_SPAN, Reg.CB_PAIRING] s u ∧ (s.cur.cbLost = false → exec i s = .next u) ∧
          (s.cur.cbLost = true → exec i s = .next (packBase 8 (min s.cur.cbLostFor (2 ^ 24 - 1)) u))) ∧
        (bit (par d 5 1) 7 = false → ∃ t, exec i s = .next t ∧ t = { s with cur := t.cur } ∧ t.cur.cbFrom = some origin ∧
          (keep → mask ≠ 63 → t.cur.paired = s.cur.paired ++
            (cbWordsOf (par d 5 1 % 16 + 1) (par d 4 1) (d.drop 8)).map (fun w => (p, w.1, w.2, mask))) ∧
          (¬ keep ∨ mask = 63 → t.cur.paired = s.cur.paired))) ∧
      (∀ o : Nat, s.cur.cbFrom = some o → o ≠ origin →
        (s.cur.cbTwo = false → exec i s = .next (packBase 9 (s.get Reg.CB_MISMATCH + 64) { s with cur := { s.cur with cbTwo := true } })) ∧
        (s.cur.cbTwo = true → exec i s = .next s)) ∧
      (s.cur.cbFrom = none ∨ s.cur.cbFrom = some origin → mask ≠ s.get Reg.CB_MISMATCH → ∃ u v t, v = packBase 9 mask u ∧
        u = { s with cur := u.cur, regs := u.regs } ∧ u.get Reg.CB_MISMATCH = mask ∧ fieldsSame [Reg.CB_MISMATCH] s u ∧ t.cur.cbFrom = some origin ∧
        (bit (par d 5 1) 7 = false → exec i s = .next t ∧ t = { v with cur := t.cur }) ∧
        (bit (par d 5 1) 7 = true → t = { v with cur := t.cur, fab := t.fab, regs := t.regs } ∧ t.get Reg.CB_LAST_SPAN = p % 2 ^ 32 ∧
          (s.cur.cbLost = false → exec i s = .next t) ∧
          (s.cur.cbLost = true → exec i s = .next (packBase 8 (min s.cur.cbLostFor (2 ^ 24 - 1)) t))))) ∧
    (s.ready = true → s.get Reg.CB_ROLE = 2 → (s.modeNow = 2 ∨ s.modeNow = 3 ∨ s.modeNow = 5) → s.cur.cbLost = false →
      s.get Reg.CB_LOST ≤ s.cur.cbLostFor → ∃ u, exec .bcastLost s = .next (packBase 7 (min s.cur.cbLostFor (2 ^ 24 - 1)) u) ∧
        u.cur.cbLost = true ∧ u.flag Reg.CB_PAIRING = false ∧ u = { s with cur := u.cur, regs := u.regs } ∧
        fieldsSame [Reg.CB_PAIRING] s u) ∧
    (s.cur.cbLost = true ∨ s.cur.cbLostFor < s.get Reg.CB_LOST ∨ (s.modeNow ≠ 2 ∧ s.modeNow ≠ 3 ∧ s.modeNow ≠ 5) ∨ s.get Reg.CB_ROLE ≠ 2 → exec .bcastLost s = .next s)

/-! ### Balancing -/

/-- The power stages: the tier takes the word of each channel of a loop sample, once, and at the apply grain it takes effect; a stop ramps a SHUTTLE
command down and ends a PASSIVE pulse; 512 grains without a word do the same. A PASSIVE period starts a pulse where the duty calls for one,
and its end leaves the carry of the computed length. Eight trips in an interval, or 64 spans without a diagnosed pulse, are reported. A ramp
that has run leaves its channel in the state after. The end of an interval gives one record of its readings, and the record is in use for one
sample, at which every waiting request is taken. A row passes the grains up to its instant in the span, and does nothing where that lies beyond. -/
def Obligations.StagesFollowTheirSetPoints : Prop :=
  ∀ (s : State) (k : Nat), drives s k = true →
    let mine (n : Nat) : Prop := 18 * k ≤ n ∧ n < 18 * k + 18
    let when (d : Nat) (u : State) : Prop :=
      (d ≤ s.abs ∧ u = s) ∨ (s.abs < d ∧ d / 4096 = s.clk.span ∧ u = { s with clk := ⟨s.clk.span, d % 4096⟩ })
    let never (d : Nat) : Prop := s.abs < d ∧ d / 4096 ≠ s.clk.span
    let onlyStages (u t : State) : Prop := t = { u with bal := { s.bal with stages := t.bal.stages } } ∧ ∀ n, ¬ mine n → t.stage n = s.stage n
    let stopped (u : State) (n : Nat) (t : State) : Prop :=
      (t.stage n).now = ⟨0, 0, true, false, false⟩ ∧ (t.stage n).next = none ∧
      (s.get (Reg.BAL_MODE k) = 1 → (t.stage n).pulse = none ∧ (t.stage n).carry = 0 ∧ (t.stage n).debt = 0) ∧
      (s.get (Reg.BAL_MODE k) = 2 → (s.stage n).ramp = none → (s.stage n).now.cmd ≠ 0 → (t.stage n).ramp = some (u.abs, (s.stage n).now.cmd))
    let sent := kvGet (fun _ => 0) s.bal.sentAt k
    (s.linkUp k = true → s.ready = true → sent < s.bal.sampleAt → ∃ t, exec (.setpointReceived k) s = .next t ∧
      t = { s with bal := { s.bal with stages := t.bal.stages, sentAt := t.bal.sentAt } } ∧ kvGet (fun _ => 0) t.bal.sentAt k = s.bal.sampleAt ∧
      (∀ n, ¬ mine n → t.stage n = s.stage n) ∧ ∀ n, mine n → t.stage n = { s.stage n with next := some (s.chan n).sp, fed := s.abs }) ∧
    (s.linkUp k = false ∨ s.ready = false ∨ s.bal.sampleAt ≤ sent → exec (.setpointReceived k) s = .next s) ∧
    ((∃ n, mine n ∧ (s.stage n).next.isSome = true) →
      (∀ u, when (sent + 32) u → ∃ t, exec (.setpointApply k) s = .next t ∧ onlyStages u t ∧ ∀ n, mine n →
        ((s.stage n).next = none → t.stage n = s.stage n) ∧
        ∀ w : SetPoint, (s.stage n).next = some w →
          (w.stop = false → t.stage n = { s.stage n with now := w, next := none, ramp := none }) ∧
          (w = ⟨0, 0, true, false, false⟩ → stopped u n t)) ∧
      (never (sent + 32) → exec (.setpointApply k) s = .next s)) ∧
    ((∀ n, mine n → (s.stage n).next = none) → exec (.setpointApply k) s = .next s) ∧
    (∀ u, when (refreshDue s k) u → ∃ t, exec (.setpointRefreshTimeout k) s = .next (if s.ready then cutTier k t else t) ∧ onlyStages u t ∧
      ∀ n, mine n → stopped u n t) ∧
    (never (refreshDue s k) → exec (.setpointRefreshTimeout k) s = .next s) ∧
    (∀ ioff : List Int,
      let len := 256 * 2 ^ s.get (Reg.PASSIVE_PERIOD k)
      let last := kvGet (fun _ => 0) s.bal.pwmAt k
      let d := if last = 0 ∧ s.abs % len = 0 then s.abs else nextBoundary (last - 1) s.abs len
      (s.get (Reg.BAL_MODE k) ≠ 1 ∨ never d → exec (.pwmPeriodStart k ioff) s = .next s) ∧
      (s.get (Reg.BAL_MODE k) = 1 → ∀ u, when d u → ∃ t, exec (.pwmPeriodStart k ioff) s = .next t ∧ t.clk = u.clk ∧
        kvGet (fun _ => 0) t.bal.pwmAt k = d + 1 ∧ (∀ n, ¬ mine n → t.stage n = s.stage n) ∧
        ∀ n, mine n →
          let full := (s.stage n).now.cmd * (len : Int) + (s.stage n).carry
          let begins := 0 < (s.stage n).now.cmd ∧ ((s.stage n).now.diag = true ∨ 0 < full)
          ((s.stage n).now.cmd ≤ 0 → t.stage n = s.stage n) ∧
          (0 < (s.stage n).now.cmd → ¬ begins → t.stage n = { s.stage n with carry := clampI (-4096) 0 full }) ∧
          (begins → (t.stage n).pulse = some (u.abs, (s.stage n).now.diag) ∧ (t.stage n).now = { (s.stage n).now with diag := false } ∧
            (t.stage n).carry = (s.stage n).carry ∧ (t.stage n).debt = (s.stage n).debt))) ∧
    (∀ r : LoopRead,
      let fin := nextBoundary (kvGet (fun _ => 0) s.bal.loopAt k) (s.tierAt k) 256
      let beyond := s.tierAt k < fin ∧ fin % 4096 = 0
      ((s.tl k).calibrating = true ∨ beyond → exec (.loopIntervalEnd k r) s = .next s) ∧
      ((s.tl k).calibrating = false → ¬ beyond → ∃ t u, exec (.loopIntervalEnd k r) s = .next t ∧
        u = bring k fin r.waves (if s.tierAt k < fin then s.passGrain (fin % 4096) else s) ∧ kvGet (fun _ => 0) t.bal.loopAt k = fin ∧
        (∀ n, mine n → (t.stage n).trips = 0 ∧ (t.stage n).now = (s.stage n).now) ∧
        (s.linkUp k = true → s.ready = true → kvGet (fun _ => none) t.bal.recs k = some ⟨(List.range 18).map (fun c => loopCell u k c (fin - 256) fin),
          r.chans, if k = 0 then loopPack u (fin - 256) fin else none⟩))) ∧
    (∀ (n : Nat) (meas : Int), mine n →
      (s.get (Reg.BAL_MODE k) ≠ 2 → exec (.peakCurrentTrip n meas) s = .next s) ∧
      (s.get (Reg.BAL_MODE k) = 2 → (s.stage n).trips ≠ 7 ∨ s.modeNow = 5 →
        exec (.peakCurrentTrip n meas) s = .next (s.setStage n { s.stage n with trips := (s.stage n).trips + 1 })) ∧
      (s.get (Reg.BAL_MODE k) = 2 → (s.stage n).trips = 7 → s.ready = true → s.linkUp k = true → s.modeNow ≠ 5 →
        s.get (Reg.CH_STATE n) = 1 ∨ s.get (Reg.CH_STATE n) = 5 → ∃ u v,
        exec (.peakCurrentTrip n meas) s = .next (raise 503 v u) ∧ v % 2048 = 6 + 16 * n ∧ (u.chan n).stop = some 4 ∧ (u.stage n).trips = 8 ∧
        u.get (Reg.LAST_FINDING n) = 6 ∧ fieldsSame [Reg.LAST_FINDING n] s u)) ∧
    (∀ (n : Nat) (meas : Int) (t0 : Nat) (diag : Bool), mine n → (s.stage n).pulse = some (t0, diag) →
      let g := s.stage n
      let len := 256 * 2 ^ s.get (Reg.PASSIVE_PERIOD k)
      let full : Int := g.now.cmd * (len : Int) + g.carry
      (∀ (l : Nat) (c : Int) (d : Nat), pulseEnd g.now.cmd len g diag (s.abs - t0) = (l, c, d) →
        ∀ u, (when (t0 + l) u ∨ (never (t0 + l) ∧ u = s)) → ∃ t, onlyStages u t ∧ t.stage n = { g with pulse := none, carry := c, debt := d } ∧
          exec (.pulseEnd n meas) s = .next (if 64 ≤ l then diagnose n meas t else t)) ∧
      (diag = false → g.debt = 0 → 0 < full → 4096 * ((s.abs - t0 : Nat) : Int) < full + 4096 → ∃ whole : Nat,
        pulseEnd g.now.cmd len g diag (s.abs - t0) = (whole, full - 4096 * (whole : Int), 0) ∧ full ≤ 4096 * whole ∧ 4096 * (whole : Int) < full + 4096) ∧
      (diag = true → ∃ d, pulseEnd g.now.cmd len g diag (s.abs - t0) = (64, g.carry, d))) ∧
    (∀ n : Nat, mine n → (s.stage n).pulse = none → ∀ meas,
      ((s.stage n).owed = false → exec (.pulseEnd n meas) s = .next s) ∧
      ((s.stage n).owed = true → exec (.pulseEnd n meas) s = .next (diagnose n meas (s.setStage n { s.stage n with owed := false })))) ∧
    (∀ n : Nat, mine n → s.ready = true → s.get (Reg.CH_STATE n) = 1 → s.get (Reg.BAL_MODE k) = 1 → s.flag (Reg.DIAG_EN k) = false →
      s.flag (Reg.UNDIAGNOSED n) = false →
      let len : Int := 256 * 2 ^ s.get (Reg.PASSIVE_PERIOD k)
      let short := 0 < (s.chan n).cmd ∧ (s.chan n).cmd * len < 64 * 4096
      let quiet := (s.chan n).undiagAt + 63 ≤ s.clk.span ∧ (s.chan n).runAt + 63 ≤ s.clk.span
      (short → quiet → ∃ u v, exec (.undiagnosed n) s = .next (raise 503 v u) ∧ v % 2048 = 4 + 16 * n ∧
        restSame s u ∧ u.flag (Reg.UNDIAGNOSED n) = true ∧ u.get (Reg.LAST_FINDING n) = 4 ∧
        fieldsSame [Reg.UNDIAGNOSED n, Reg.LAST_FINDING n] s u) ∧
      (¬ short ∨ ¬ quiet → exec (.undiagnosed n) s = .next s)) ∧
    (∀ n : Nat, mine n → s.get (Reg.CH_STATE n) = 2 → (s.chan n).after < 8 →
      (∀ (d : Nat) (u : State), rampEnd s n = some d → when d u → ∃ t, exec (.stopRampDone n) s = .next t ∧
        t.get (Reg.CH_STATE n) = (s.chan n).after ∧ (t.stage n).ramp = none ∧ t.evt = s.evt ∧ t.clk = u.clk ∧
        fieldsSame [Reg.CH_STATE n, Reg.N_RUN, Reg.N_TRIPPED, Reg.N_FAULT] s t) ∧
      ((rampEnd s n).all (fun d => decide (s.abs < d) && d / 4096 != s.clk.span) = true → exec (.stopRampDone n) s = .next s)) ∧
    (∀ n : Nat, mine n → s.ready = true → s.flag (Reg.FREEZE (tempBase n)) = false →
      (chanTempLost s n = true → ∃ t, exec (.loopTempLost n) s = .next t ∧ t = { s with bal := { s.bal with chans := t.bal.chans } } ∧
        t.chan n = { s.chan n with temp := { (s.chan n).temp with out := 0 } } ∧ ∀ m, m ≠ n → t.chan m = s.chan m) ∧
      (chanTempLost s n = false → exec (.loopTempLost n) s = .next s)) ∧
    (s.ready = true → s.flag Reg.RESCUE = false → let d := nextBoundary s.bal.sampleAt s.abs 256
      (∀ u, when d u → ∃ t, exec .loopSample s = .next t ∧ t.bal.recs = [] ∧ t.bal.prev = s.bal.recs ∧ t.bal.sampleAt = u.abs ∧
        t.clk = u.clk ∧ ∀ n, n < 108 → (t.chan n).req = []) ∧
      (never d → exec .loopSample s = .next s)) ∧
    (∀ (n target : Nat) (u : State), u.get (Reg.CH_STATE n) = 0 → (takeRequest n true (0, target) u).get (Reg.CH_STATE n) = 1 ∧
      (takeRequest n true (0, target) u).get (Reg.TARGET n) = target % 65536 ∧ (takeRequest n false (0, target) u).get (Reg.CH_STATE n) = 0) ∧
    (∀ (n : Nat) (on : Bool) (u : State), n < 108 → (u.get (Reg.CH_STATE n) = 1 → (takeRequest n on (1, 0) u).get (Reg.CH_STATE n) = 2 ∧
        ((takeRequest n on (1, 0) u).chan n).cmd = 0 ∧
        ((takeRequest n on (1, 0) u).chan n).after = (u.chan n).stop.getD (if (u.chan n).trip.isSome then 3 else 0)) ∧
      (u.get (Reg.CH_STATE n) = 3 ∨ u.get (Reg.CH_STATE n) = 4 → (takeRequest n on (1, 0) u).get (Reg.CH_STATE n) = 0))

/-! ### Excitation -/

/-- The course of a sweep in a tier: a period begins at its span with the tones of its band, numbered from 1 after a settling period; one that
is not over goes on; one that is over makes its record due, and the record is kept where it is measured, clean and unmarred. A renewed
lease above the guard resumes every paused channel where none is held at zero, and a lease that ends in the pause ends the sweep. -/
def Obligations.SweepsRunTheirPeriods : Prop :=
  ∀ (s : State) (k : Nat) (e : ExcTier), s.ready = true → k < 6 → s.excTier k = some e →
    (s.get Reg.EXC_STATE = 1 → s.clk.grain = 0 → s.get (Reg.EXC_CELL k) ≠ 127 →
      (e.start = none → e.due = none → e.leadIn = true → s.abs ≤ e.rampAt → exec (.excPeriodStart k) s = .next s) ∧
      (∀ (b : Nat) (rest : List Nat) (m : Meta) (klo khi amp reps : Nat), s.exc.sweep = some (m, klo, khi, amp, reps) → e.start = none →
        e.due = none → e.tones = [] → (e.leadIn = true → e.rampAt < s.abs) → b ≤ 6 → e.bands.dropWhile (fun x => (bandTones s klo khi x).isEmpty) = b :: rest → e.measured < 64 →
        ∃ t f, exec (.excPeriodStart k) s = .next t ∧ t.excTier k = some f ∧ f.start = some s.clk.span ∧ f.tones = bandTones s klo khi b ∧
          f.bands = b :: rest ∧ f.leadIn = false ∧ t.get (Reg.EXC_BAND k) = b ∧ t.get (Reg.EXC_J k) = bandJ s b ∧
          t.get (Reg.EXC_REP k) = (if e.settle then 0 else e.measured + 1) ∧ t.flag (Reg.EXC_SETTLING k) = e.settle ∧
          (∀ w, kvGet (fun _ => none) s.exc.waves (s.get (Reg.EXC_CELL k)) = some w → kvGet (fun _ => none) t.exc.waves (s.get (Reg.EXC_CELL k)) =
            some { w with tones := bandTones s klo khi b, j := bandJ s b, origin := s.abs }) ∧
          t = { s with exc := t.exc, regs := t.regs } ∧ t.exc.sweep = s.exc.sweep ∧
          fieldsSame [Reg.EXC_BAND k, Reg.EXC_J k, Reg.EXC_TONES k, Reg.EXC_SETTLING k, Reg.EXC_REP k] s t) ∧
      (∀ st : Nat, e.start = some st → e.due = none → s.clk.span < st + 2 ^ s.get (Reg.EXC_J k) → exec (.excPeriodStart k) s = .next s) ∧
      (∀ (st b : Nat) (rest : List Nat) (m : Meta) (klo khi amp reps : Nat), s.exc.sweep = some (m, klo, khi, amp, reps) → e.start = some st →
        e.due = none → st + 2 ^ s.get (Reg.EXC_J k) ≤ s.clk.span → s.flag (Reg.EXC_SETTLING k) = false → e.measured + 1 < reps → reps ≤ 64 →
        e.bands = b :: rest → e.tones ≠ [] → e.replan = false → e.leadIn = false → ∃ t f d, exec (.excPeriodStart k) s = .next t ∧ t.excTier k = some f ∧
          f.due = some d ∧ d.cell = s.get (Reg.EXC_CELL k) ∧ d.measured = true ∧ d.clean = !e.stepped ∧ d.lastBand = false ∧
          f.start = some s.clk.span ∧ f.measured = e.measured + 1 ∧ t.get (Reg.EXC_REP k) = e.measured + 2 ∧ t.evt = s.evt)) ∧
    (∀ volt cur : Wave, (e.due = none → exec (.excPeriodRecord k volt cur) s = .next s) ∧
      (∀ d : ExcDue, e.due = some d →
        let marred := waveAny (beyond (localOf d.cell)) volt || waveAny clampOn volt
        let ps := if d.measured && d.clean && !marred then e.periods ++ [toneSums d volt cur] else e.periods
        let sent : State := { s with exc := { s.exc with recLen := kvSet (fun _ => 0) s.exc.recLen k (16 + 16 * d.tones.length) } }
        (d.lastBand = false → exec (.excPeriodRecord k volt cur) s = .next (sent.setExc k (some { e with due := none, periods := ps }))) ∧
        (d.lastBand = true → d.lastCell = false → ∃ t, exec (.excPeriodRecord k volt cur) s = .next t ∧ t.evt = s.evt ∧ t.clk = s.clk ∧
          (ps.length < 4 → t.excTier k = some { e with due := none, periods := [], poor := true } ∧ t.fab = s.fab ∧ t.regs = s.regs) ∧
          (4 ≤ ps.length → t.excTier k = some { e with due := none, periods := [], good := e.good + 1 })))) ∧
    (s.get Reg.EXC_STATE = 2 →
      (leaseLive s 1 = true → s.clk.span + s.get Reg.EXC_GUARD < leaseE s 1 →
        (∀ j, j < 6 → (s.excTier j).isSome = true → s.get (Reg.EXC_CELL j) ≠ 127 → exciteBlocked s (s.get (Reg.EXC_CELL j)) = false) → ∃ t, exec .excResume s = .next t ∧ t.get Reg.EXC_STATE = 1 ∧
        t.evt = s.evt ∧ t.clk = s.clk ∧ ∀ j, j < 6 → t.get (Reg.EXC_CELL j) = s.get (Reg.EXC_CELL j) ∧
          (s.get (Reg.EXC_CELL j) ≠ 127 → (s.excTier j).isSome = true → t.get (Reg.CH_STATE (s.get (Reg.EXC_CELL j))) = 5)) ∧
      (leaseE s 1 ≤ s.clk.span + s.get Reg.EXC_GUARD → exec .excResume s = .next s) ∧
      (leaseE s 1 ≤ s.clk.span → s.exc.sweep.isSome = true → ∃ t, exec .excLeaseEnd s = .next t ∧ t.exc.sweep = none ∧ t.exc.tiers = [] ∧
        t.get Reg.EXC_STATE = 0 ∧ t.evt = s.evt ∧ t.clk = s.clk) ∧
      (s.clk.span < leaseE s 1 → exec .excLeaseEnd s = .next s)) ∧
    (s.get Reg.EXC_STATE ≠ 1 ∨ s.clk.grain ≠ 0 → exec (.excPeriodStart k) s = .next s) ∧
    (s.get Reg.EXC_STATE ≠ 2 → exec .excResume s = .next s ∧ exec .excLeaseEnd s = .next s)

/-! ### The thermal output and the sensor strings -/

/-- The thermal output: a sample starts a waiting SET under a live lease with its demand held within DUTY_MIN and DUTY_MAX and the slew, and
begins the stop ramp where a stop is ordered or the lease has ended; edges of TACH and THD_IN are measured; a lost demand, one held
too long, a lost temperature, a window without rotation and a tach without edges are noted or reported; the ramp ends in IDLE. -/
def Obligations.ThermalOutputRuns : Prop :=
  ∀ s : State, s.ready = true →
    let o := s.temps.out
    let only (u : State) (o' : ThermOut) : State := { u with temps := { s.temps with out := o' } }
    let ms (from_ n : Nat) : Option State := s.passTo (from_ + msGrains s.tb.period n)
    (s.modeNow = 0 → ∀ uv, exec (.thermalSample uv) s = .next s) ∧
    (s.modeNow ≠ 0 → s.passTo (nextBoundary o.sampleAt s.abs 1024) = none → ∀ uv, exec (.thermalSample uv) s = .next s) ∧
    (s.modeNow ≠ 0 → ∀ (uv : Nat) (u : State), s.passTo (nextBoundary o.sampleAt s.abs 1024) = some u →
      (∃ t, exec (.thermalSample uv) s = .next t ∧ t.temps.out.sampleAt = u.abs ∧ t.temps.out.ivals = [] ∧ t.clk = u.clk ∧
        t.flag Reg.TO_LEASE = leaseLive u 2) ∧
      (s.modeNow ≠ 5 → leaseLive u 2 = true → s.get Reg.TO_STATE = 0 → s.get Reg.TO_MODE = 1 → s.flag Reg.TACH_EN = false → ∀ d : Nat,
        o.newSet = some (0, d) → ∃ t, exec (.thermalSample uv) s = .next t ∧ t.get Reg.TO_STATE = 2 ∧ t.get Reg.SRC_NOW = 0 ∧
        t.temps.out.newSet = none ∧ t.temps.out.demand = d ∧ t.temps.out.ok = true ∧
        t.get Reg.DUTY_NOW = (clampI 0 1024 (min (if d = 0 then 0 else max (s.get Reg.DUTY_MIN : Int) (min (d : Int) (s.get Reg.DUTY_MAX)))
          ((s.get Reg.DUTY_NOW + s.get Reg.DUTY_SLEW : Nat) : Int))).toNat ∧
        t = { u with temps := t.temps, regs := t.regs } ∧
        fieldsSame [Reg.TO_LEASE, Reg.RPM_NOW, Reg.SRC_NOW, Reg.TO_STATE, Reg.DEMAND_OK, Reg.DUTY_NOW, Reg.DEMAND_NOW, Reg.S_NOW, Reg.TEMP_OK] s t) ∧
      (toRuns s = true → o.noRot = false → o.lost = false → (o.stop = true ∨ leaseLive u 2 = false ∨ s.modeNow = 5) → ∃ t,
        exec (.thermalSample uv) s = .next t ∧ t.get Reg.TO_STATE = 5 ∧ t.temps.out.rampFrom = u.abs ∧ t.temps.out.rampDuty = s.get Reg.DUTY_NOW ∧
        t.temps.out.stop = false ∧ t.temps.out.newSet = none ∧ (s.get Reg.SRC_NOW = 0 → t.evt = s.evt) ∧ t.get Reg.DUTY_NOW = s.get Reg.DUTY_NOW)) ∧
    (s.flag Reg.TACH_EN = false → ∀ t : Nat, exec (.tachEdge t) s = .next s) ∧
    (s.flag Reg.TACH_EN = true → ∀ t : Nat,
      (o.lastEdge.any (fun l => t < l + 100) = true → exec (.tachEdge t) s = .next s) ∧
      (o.lastEdge.any (fun l => t < l + 100) = false → (o.window = true → o.retry = true → o.winEdges ≠ 1) → s.get Reg.TO_STATE ≠ 4 →
        exec (.tachEdge t) s = .next (only s { o with
          lastEdge := some t, edgeAt := s.abs, ivals := o.lastEdge.elim 0 (fun l => t - l) :: o.ivals, lost := false,
          winEdges := if o.window then o.winEdges + 1 else o.winEdges,
          edges := if o.lastEdge.isSome then (o.lastEdge.elim 0 (fun l => t - l) :: o.edges).take 7 else o.edges })) ∧
      (o.lastEdge.any (fun l => t < l + 100) = false → o.window = true → o.retry = true → o.winEdges = 1 → s.get Reg.TO_STATE ≠ 4 → ∃ u v,
        exec (.tachEdge t) s = .next (raise 497 v u) ∧ v = 3 + 65536 * s.get Reg.DUTY_NOW ∧ u.temps.out.retry = false ∧
        u.temps.out.winEdges = 2 ∧ u = only s u.temps.out) ∧
      (o.lastEdge.any (fun l => t < l + 100) = false → o.window = false → s.get Reg.TO_STATE = 4 → ∀ l : Nat, o.lastEdge = some l →
        steady (((t - l) :: o.edges).take 7) = true → ∃ u v, exec (.tachEdge t) s = .next (raise 498 v u) ∧
          v = 2 + 65536 * s.get Reg.RPM_NOW ∧ u.get Reg.TO_STATE = 2 ∧ u.temps.out.u = s.get Reg.DUTY_NOW ∧
          fieldsSame [Reg.TO_STATE, Reg.FF_BIAS] s u)) ∧
    (∀ t : Nat, exec (.thdInEdge false t) s = .next (only s { o with high := t - o.rise.getD t, thdAt := s.abs }) ∧
      (o.rise = none → exec (.thdInEdge true t) s = .next (only s { o with rise := some t, thdAt := s.abs })) ∧
      (∀ r : Nat, o.rise = some r → 2000 ≤ t - r → t - r ≤ 10000000 →
        let d := (divRound (o.high * 1024 : Nat) (t - r : Nat)).toNat
        let o' := { o with rise := some t, ext := some d, thdAt := s.abs }
        (s.get Reg.SRC_NOW ≠ 1 → exec (.thdInEdge true t) s = .next (only s o')) ∧
        (s.get Reg.SRC_NOW = 1 → ∃ u, u.temps = { s.temps with out := { o' with d := d, ok := true, lostFor := 0 } } ∧ u.flag Reg.DEMAND_OK = true ∧
          restSame { u with temps := s.temps } s ∧ fieldsSame [Reg.DEMAND_OK] s u ∧
          (o.ok = true → exec (.thdInEdge true t) s = .next u) ∧
          (o.ok = false → exec (.thdInEdge true t) s = .next (raise 499 (2 + 65536 * (d % 65536)) u)))) ∧
      (∀ r : Nat, o.rise = some r → (t - r < 2000 ∨ 10000000 < t - r) → (s.get Reg.SRC_NOW ≠ 1 ∨ o.ok = false) →
        exec (.thdInEdge true t) s = .next (only s { o with rise := some t, ext := none, thdAt := s.abs }))) ∧
    (ms o.thdAt 250 = none → exec .demandLost s = .next s) ∧
    (∀ u : State, ms o.thdAt 250 = some u →
      (s.get Reg.SRC_NOW ≠ 1 ∨ o.ok = false → exec .demandLost s = .next (only u { o with ext := none, rise := none })) ∧
      (s.get Reg.SRC_NOW = 1 → o.ok = true → ∃ t, exec .demandLost s = .next (raise 499 (1 + 65536 * (o.d % 65536)) t) ∧
        t.temps.out = { o with ext := none, rise := none, ok := false, lostFor := 0 } ∧ t.flag Reg.DEMAND_OK = false ∧
        restSame { t with temps := s.temps } u ∧ fieldsSame [Reg.DEMAND_OK] s t)) ∧
    (toRuns s = true → s.get Reg.SRC_NOW ≠ 0 → o.ok = false → o.stop = false →
      (s.get Reg.TD_HOLD ≤ o.lostFor → exec .demandHoldExpiry s = .next (raise 499 (5 + 65536 * (o.d % 65536)) (only s { o with stop := true }))) ∧
      (o.lostFor < s.get Reg.TD_HOLD → exec .demandHoldExpiry s = .next s)) ∧
    (o.window = true → s.get Reg.TO_STATE = 1 →
      (ms o.winAt (s.get Reg.SPIN_WIN) = none → exec .spinWindowEnd s = .next s) ∧
      (∀ u : State, ms o.winAt (s.get Reg.SPIN_WIN) = some u →
        (o.winEdges < 2 → s.get Reg.TACH_MIN_DUTY ≤ s.get Reg.DUTY_NOW →
          exec .spinWindowEnd s = .next (only u { o with window := false, noRot := true })) ∧
        (2 ≤ o.winEdges ∨ s.get Reg.DUTY_NOW < s.get Reg.TACH_MIN_DUTY → ∃ t, exec .spinWindowEnd s = .next t ∧ t.get Reg.TO_STATE = 2 ∧
          t.temps.out.window = false ∧ t.temps.out.u = s.get Reg.DUTY_NOW ∧ t = { u with temps := t.temps, regs := t.regs } ∧
          fieldsSame [Reg.TO_STATE] s t))) ∧
    (s.flag Reg.TACH_EN = true → s.get Reg.TO_STATE = 2 → s.get Reg.TACH_MIN_DUTY ≤ s.get Reg.DUTY_NOW →
      (ms o.edgeAt (s.get Reg.TACH_TO) = none → exec .tachTimeout s = .next s) ∧
      (∀ u : State, ms o.edgeAt (s.get Reg.TACH_TO) = some u → exec .tachTimeout s = .next (only u { o with lost := true }))) ∧
    (s.get Reg.TO_STATE ≠ 2 → exec .tachTimeout s = .next s) ∧
    (s.get Reg.TO_MODE = 2 → toRuns s = true → toTemp s = none → o.tLost = false →
      (∀ i ∈ toSensors s, kvGet (fun _ => 0) s.fab.tOk i + 64 ≤ s.clk.span) → s.start.readySpan + 64 ≤ s.clk.span →
      exec .thermalTempLost s = .next (raise 499 (3 + 65536 * (o.tNow % 65536)) (only s { o with tLost := true }))) ∧
    (s.get Reg.TO_MODE ≠ 2 ∨ toRuns s = false ∨ o.tLost = true → exec .thermalTempLost s = .next s) ∧
    (s.get Reg.TO_STATE = 5 → (s.passTo (o.rampFrom + 1024) = none → exec .thermalRampDone s = .next s) ∧
      ∀ u : State, s.passTo (o.rampFrom + 1024) = some u → ∃ t, exec .thermalRampDone s = .next t ∧ t.get Reg.TO_STATE = 0 ∧ t.get Reg.DUTY_NOW = 0 ∧
        t = { u with regs := t.regs, temps := { u.temps with out := { u.temps.out with duties := t.temps.out.duties } } } ∧
        fieldsSame [Reg.TO_STATE, Reg.DUTY_NOW] s t) ∧
    (s.get Reg.TO_STATE ≠ 5 → exec .thermalRampDone s = .next s)

/-- A sensor string: a cycle starts with the conversion phase, which the data phase follows; an accepted frame marks its position and a healthy
one gives its temperature, a bad one is counted by its kind; the silence ends the data phase and shows the positions present; a short
takes the supply for a second and faults every position; too few positions are reported once. Which failure of a frame counts, and the pulses that
follow one, are the model's reading (log entry 39). -/
def Obligations.StringsAreRead : Prop :=
  ∀ (s : State) (k j : Nat),
    let i := 2 * k + j
    let q := s.strg i
    let only (u : State) (q' : Strg) : State := u.setStrg i q'
    (stringOn s k j = false → exec (.stringCycleStart k j) s = .next s ∧ exec (.stringShort k j) s = .next s ∧
      exec (.countLowCheck k j) s = .next s ∧ ∀ gap pulses, exec (.satelliteFrame k j gap pulses) s = .next s) ∧
    (stringOn s k j = true → s.get (Reg.STR_STATE k j) ≠ 3 →
      ((∀ c : Nat, q.cycleAt = some c → stringPass k c (s.get (Reg.STR_PERIOD k j)) s = none → exec (.stringCycleStart k j) s = .next s)) ∧
      (∀ u : State, ((q.cycleAt = none ∧ u = s) ∨ ∃ c, q.cycleAt = some c ∧ stringPass k c (s.get (Reg.STR_PERIOD k j)) s = some u) → ∃ t,
        exec (.stringCycleStart k j) s = .next t ∧ (t.strg i).phase = 1 ∧ (t.strg i).seen = 0 ∧ (t.strg i).top = 0 ∧ t.clk = u.clk ∧
        (t.strg i).cycles = q.cycles + 1 ∧ (t.strg i).cycleAt = some (u.tierAt k) ∧
        (q.phase ≠ 2 → t.get (Reg.STR_STATE k j) = max 1 (s.get (Reg.STR_STATE k j)) ∧ t.evt = s.evt ∧ fieldsSame [Reg.STR_STATE k j] s t)) ∧
      (∃ u v, exec (.stringShort k j) s = .next (raiseTier k (tierSrc k (3 + j)) v u) ∧ v % 256 = 8 ∧ u.get (Reg.STR_STATE k j) = 3 ∧
        (u.strg i).phase = 0 ∧ (u.strg i).shortAt = s.tierAt k ∧
        (∀ p, p < 16 → bit (u.get (Reg.SAT_FLT k j)) p = true) ∧
        fieldsSame [Reg.STR_STATE k j, Reg.SAT_FLT k j] s u) ∧
      (s.get (Reg.STR_COUNT k j) ≠ 0 → q.lowRaised = false → 2 * s.get (Reg.STR_COUNT k j) + 2 ≤ q.cycles →
        (s.get (Reg.STR_FOUND k j) < s.get (Reg.STR_COUNT k j) → ∃ v, exec (.countLowCheck k j) s =
          .next (raiseTier k (tierSrc k (3 + j)) v (only s { q with lowRaised := true })) ∧ v % 256 = 2) ∧
        (s.get (Reg.STR_COUNT k j) ≤ s.get (Reg.STR_FOUND k j) → exec (.countLowCheck k j) s = .next (only s { q with lowRaised := true })))) ∧
    (q.lowRaised = true ∨ q.cycles < 2 * s.get (Reg.STR_COUNT k j) + 2 ∨ s.get (Reg.STR_COUNT k j) = 0 →
      exec (.countLowCheck k j) s = .next s) ∧
    (s.get (Reg.STR_STATE k j) = 3 → exec (.stringCycleStart k j) s = .next s ∧ exec (.stringShort k j) s = .next s ∧
      exec (.countLowCheck k j) s = .next s ∧ (stringPass k q.shortAt 1000 s = none → exec (.shortBackoffEnd k j) s = .next s) ∧
      ∀ u : State, stringPass k q.shortAt 1000 s = some u → ∃ t, exec (.shortBackoffEnd k j) s = .next t ∧ t.get (Reg.STR_STATE k j) = 1 ∧
        (t.strg i).cycles = 0 ∧ (t.strg i).lowRaised = false ∧ (t.strg i).cycleAt = none ∧ t.evt = s.evt ∧ t.clk = u.clk ∧
        fieldsSame [Reg.STR_STATE k j] s t) ∧
    (s.get (Reg.STR_STATE k j) ≠ 3 → exec (.shortBackoffEnd k j) s = .next s) ∧
    (q.phase = 1 → (stringPass k (q.cycleAt.getD 0) 1 s = none → exec (.conversionPhaseEnd k j) s = .next s) ∧
      ∀ u : State, stringPass k (q.cycleAt.getD 0) 1 s = some u →
        exec (.conversionPhaseEnd k j) s = .next (only u { q with phase := 2, pulseAt := u.tierAt k, pulsed := false, resync := false })) ∧
    (q.phase ≠ 1 → exec (.conversionPhaseEnd k j) s = .next s) ∧
    (q.phase ≠ 2 → exec (.dataPhaseSilence k j) s = .next s ∧ ∀ gap pulses, exec (.satelliteFrame k j gap pulses) s = .next s) ∧
    (q.phase = 2 → (stringPass k q.pulseAt 4 s = none → exec (.dataPhaseSilence k j) s = .next s) ∧
      ∀ u : State, stringPass k q.pulseAt 4 s = some u → ∃ t, exec (.dataPhaseSilence k j) s = .next t ∧ (t.strg i).phase = 0 ∧
        (t.strg i).ever = q.ever ||| q.seen ∧ t.clk = u.clk ∧ t.get (Reg.STR_PRESENT k j) = q.seen % 65536 ∧
        t.get (Reg.STR_FOUND k j) = posCount q.seen ∧
        (q.enumRaised = true → (∀ p, p < 16 → bit q.seen p = true ∨ bit q.ever p = false ∨ bit (s.get (Reg.SAT_FLT k j)) p = true ∨
            kvGet (fun _ => 0) q.miss p < s.get (Reg.STR_MISS k j)) →
          t.evt = s.evt ∧ fieldsSame [Reg.STR_PRESENT k j, Reg.STR_FOUND k j, Reg.STR_STATE k j] s t)) ∧
    (q.phase = 2 → stringOn s k j = true →
      let sum (w : Nat) : Nat := crc8 [byte (w / 2 ^ 24), byte (w / 2 ^ 16), byte (w / 2 ^ 8)]
      let p (w : Nat) : Nat := bitsOf w 28 4
      let soonest := if q.pulsed then 900 else 750
      (∀ pulses : List (Nat × Nat), pulses.length = 32 → (∀ x ∈ pulses, pulseOk x.1 = true ∧ slotOk x.2 = true) → slotsFault 32 pulses = 0) ∧
      ∀ (gap : Nat) (pulses : List (Nat × Nat)), pulses ≠ [] →
        let w := frameWord pulses
        let f := slotsFault 32 pulses
        (q.resync = true → gap < 900 → exec (.satelliteFrame k j gap pulses) s =
          .next (only s { q with pulseAt := s.tierAt k, pulsed := true, resync := true })) ∧
        (q.resync = false ∨ 900 ≤ gap →
          (∀ e : Field, ((gap < soonest ∧ e = Reg.ERR_SLOT k j) ∨ (soonest ≤ gap ∧ ((f = 1 ∧ e = Reg.ERR_PULSE k j) ∨ (f = 2 ∧ e = Reg.ERR_SLOT k j) ∨
              (f = 0 ∧ sum w ≠ w % 256 ∧ e = Reg.ERR_CRC k j) ∨ (f = 0 ∧ sum w = w % 256 ∧ p w < q.top ∧ e = Reg.ERR_POS k j)))) →
            (∀ c : Nat, q.timingAt = some c → q.cycles < c + 64 → ∃ t, exec (.satelliteFrame k j gap pulses) s = .next t ∧
              t.get e = min (s.get e + 1) 255 ∧ fieldsSame [e] s t ∧ t.evt = s.evt ∧ (t.strg i).sat = q.sat ∧ (t.strg i).seen = q.seen ∧
              (t.strg i).pulseAt = s.tierAt k ∧ (t.strg i).resync = true) ∧
            ((∀ c : Nat, q.timingAt = some c → c + 64 ≤ q.cycles) → ∃ u v, exec (.satelliteFrame k j gap pulses) s =
              .next (raiseTier k (tierSrc k (3 + j)) v u) ∧ v % 256 = 7 ∧ v / 65536 = min 65535 (q.errs + 1) ∧ u.get e = min (s.get e + 1) 255 ∧
              fieldsSame [e] s u ∧ (u.strg i).sat = q.sat ∧ (u.strg i).seen = q.seen ∧ (u.strg i).errs = 0 ∧ (u.strg i).resync = true)) ∧
          (soonest ≤ gap → f = 0 → sum w = w % 256 → q.top ≤ p w →
            (p w + 1 = s.get (Reg.STR_COUNT k j) → ∃ t, exec (.satelliteFrame k j gap pulses) s = .next t ∧ (t.strg i).phase = 0 ∧
              bit (t.get (Reg.STR_PRESENT k j)) (p w) = true ∧ t.clk = s.clk) ∧
            (p w + 1 ≠ s.get (Reg.STR_COUNT k j) → ∃ t, exec (.satelliteFrame k j gap pulses) s = .next t ∧
              bit (t.strg i).seen (p w) = true ∧ (t.strg i).top = p w + 1 ∧ (t.strg i).phase = 2 ∧ t.clk = s.clk ∧
              (bit w 10 = false → bit w 11 = false → bit (s.get (Reg.SAT_FLT k j)) (p w) = false →
                kvGet (fun _ => (0x8000, 0)) (t.strg i).sat (p w) = (bitsOf w 12 16, s.tierAt k + 1))))))

/-! ### The analysis fabric and the history store -/

/-- The fabric: a span enters the span history once, with its timestamp and the words of the tiers that delivered; a release starts an instance
with the records not yet consumed, or is skipped while one runs; an instance that overruns two periods is aborted, and the third abort in
a row stops the job; an output ends its instance; the records come to the load series, and a bin takes the update that its counted segments
give; a host job's code runs, and one that does not end goes on; a plan takes effect once no instance runs; a cubit fault takes the cubit
out; scrubbed errors and conflict shares are shown. -/
def Obligations.FabricRunsItsJobs : Prop :=
  ∀ s : State, s.ready = true →
    (s.win.swapped = true → s.fab.histLive ≠ s.win.completed.span + 1 →
      let b := s.win.completed
      let i := if b.n = s.fab.histN then s.fab.histCnt else 0
      ∃ t, exec .spanHistoryWrite s = .next t ∧ t.fab.histCnt = i + 1 ∧ t.fab.histN = b.n ∧ t.fab.histLive = b.span + 1 ∧ t.clk = s.clk ∧
        t.win.completed = b ∧ storeWord t (i % histDepth b.n * histSize b.n) = bankWord b 0 ∧
        ∀ c, c < 108 → bit b.tiers (c / 18) = true →
          storeWord t (i % histDepth b.n * histSize b.n + 64 + 4 * c) = bankWord b (0x40 + 4 * c)) ∧
    (s.win.swapped = false ∨ s.fab.histLive = s.win.completed.span + 1 → exec .spanHistoryWrite s = .next s) ∧
    (∀ slot : Nat, slot ≤ 15 →
      (s.clk.span % periodOf s slot = 0 → (s.job slot).relAt ≠ s.clk.span + 1 →
        let at_ := s.setJob slot { s.job slot with relAt := s.clk.span + 1 }
        (∃ t, exec (.jobRelease slot) s = .next t ∧ (t.job slot).relAt = s.clk.span + 1 ∧ t.clk = s.clk) ∧
        (isRunning s slot = false → slot ≠ 1 → exec (.jobRelease slot) s = .next at_) ∧
        (∀ i : Inst, isRunning s slot = true → (s.job slot).inst = some i → ∃ t, exec (.jobRelease slot) s = .next t ∧
          (t.job slot).inst = some { i with late := true } ∧ t.get (Reg.SKIPPED slot) = min (s.get (Reg.SKIPPED slot) + 1) 65535 ∧
          t.flag (Reg.LAG slot) = true ∧ t.clk = s.clk) ∧
        (isRunning s slot = true → (s.job slot).inst = none → s.fab.planDue = false →
          (s.flag (Reg.LAG slot) = false ∨ 5 ≤ slot ∨ (s.job slot).held < 7) → ∃ t, exec (.jobRelease slot) s = .next t ∧
          (slot = 1 → t.fab.newPack = [] ∧ ∀ c, c < 108 → s.cellOn c = true → s.fab.newPack.contains (modelSlot s c) = true →
            kvGet (fun _ => none) t.fab.ens c = none ∧ kvGet (fun _ => none) t.fab.ckpt c = none ∧ kvGet (fun _ => 0) t.fab.reseed c = 16) ∧
          t.job slot = { s.job slot with relAt := s.clk.span + 1, inst := some ⟨s.clk.span, (s.job slot).next, s.fab.histCnt, false⟩,
                                         next := s.fab.histCnt,
                                         held := if s.flag (Reg.LAG slot) && decide (slot < 5) then (s.job slot).held + 1 else (s.job slot).held } ∧
          (∀ j, j ≠ slot → t.job j = s.job j) ∧
          t = { s with fab := { s.fab with jobs := t.fab.jobs, newPack := t.fab.newPack, ens := t.fab.ens, ckpt := t.fab.ckpt, reseed := t.fab.reseed } } ∧
          (slot ≠ 1 ∨ s.fab.newPack = [] → t = { s with fab := { s.fab with jobs := t.fab.jobs } }))) ∧
      (s.clk.span % periodOf s slot ≠ 0 ∨ (s.job slot).relAt = s.clk.span + 1 → exec (.jobRelease slot) s = .next s) ∧
      (∀ i : Inst, (s.job slot).inst = some i →
        (s.clk.span < i.release + 2 * periodOf s slot → exec (.instanceAbort slot) s = .next s) ∧
        (i.release + 2 * periodOf s slot ≤ s.clk.span → s.get (Reg.ABORT_RUN slot) < 2 → ∃ t, exec (.instanceAbort slot) s = .next t ∧
          (t.job slot).inst = none ∧ t.get (Reg.ABORT_RUN slot) = s.get (Reg.ABORT_RUN slot) + 1 ∧
          t.get Reg.ABORTS = min (s.get Reg.ABORTS + 1) 65535 ∧ t.evt = s.evt ∧ fieldsSame [Reg.ABORTS, Reg.ABORT_RUN slot] s t) ∧
        (i.release + 2 * periodOf s slot ≤ s.clk.span → 2 ≤ s.get (Reg.ABORT_RUN slot) → ∃ u v,
          exec (.instanceAbort slot) s = .next (raise 487 v u) ∧ v % 256 = 5 + 16 * slot ∧ u.get (Reg.JSTATE slot) = 4 ∧
          (u.job slot).inst = none) ∧
        (∀ flags : Nat,
          (slot ≤ 4 → ∃ t, exec (.instanceComplete slot flags) s = .next t ∧ (t.job slot).inst = none ∧ (t.job slot).gap = false ∧ t.clk = s.clk ∧
            (slot = 0 → t.fab.load = (loadConsume (naNow s) i.first i.last (s.job 0).gap s).fab.load ∧
              t.fab.bins = (loadConsume (naNow s) i.first i.last (s.job 0).gap s).fab.bins)) ∧
          (∀ (u : State) (g c : Nat), 5 ≤ slot → hostRun slot i s = (u, g, .ended, c) → ∃ t, exec (.instanceComplete slot flags) s = .next t ∧
            (t.job slot).inst = none ∧ (t.job slot).gap = false ∧ t.clk = s.clk ∧ (t.job slot).buf = 1 - (s.job slot).buf ∧
            (t.job slot).out.length = 16 + (imageField s slot 28 2 / 4 * 4 - 16)) ∧
          (∀ (u : State) (g c : Nat), 5 ≤ slot → hostRun slot i s = (u, g, .descFault, c) →
            exec (.instanceComplete slot flags) s = .next (jobFault slot c u)) ∧
          (∀ (u : State) (g c : Nat) (h : Halt), 5 ≤ slot → hostRun slot i s = (u, g, h, c) → h ≠ .ended → h ≠ .descFault →
            exec (.instanceComplete slot flags) s = .next s))) ∧
      ((s.job slot).inst = none → exec (.instanceAbort slot) s = .next s ∧ ∀ flags, exec (.instanceComplete slot flags) s = .next s)) ∧
    (∀ (cell k : Nat) (gs : List Seg), let (re, im, vv, ii) := segSums gs
      let first := (gs.map (·.first)).foldl min ((gs.map (·.first)).headD 0)
      let spans := (gs.map (·.last)).foldl max 0 + 1 - first
      let z := filterFix (s.get (Reg.TAU_TAP (tierOf cell))) (s.get Reg.TAU_SHUNT) k (100 * re) (100 * im) ii
      let num := re * re + im * im
      let old := s.bin cell k
      0 < vv * ii → s.get Reg.COH_TH ≤ 250 →
        ((s.get Reg.COH_TH : Int) * (vv * ii) ≤ 250 * num → (loadUpdate cell k gs s).bin cell k =
          ⟨z.1, z.2, (clampI 0 250 (divRound (250 * num) (vv * ii))).toNat, false, isSettling s first spans, false, gs.any (·.gap), s.clk.span,
            (clampI 0 250 (250 * num / (vv * ii))).toNat, old.ever⟩) ∧
        (250 * num < (s.get Reg.COH_TH : Int) * (vv * ii) → old.coh ≠ 255 → s.get Reg.COH_TH ≤ old.whole → loadUpdate cell k gs s = s)) ∧
    (s.fab.planDue = true → s.clk.grain = 0 → (∀ j, j < 16 → (s.job j).inst = none) → ∃ t, exec .planTakeEffect s = .next t ∧ t.clk = s.clk ∧
      t.fab.planned = true ∧ t.fab.planDue = false ∧ t.get Reg.PLAN_GEN = (s.get Reg.PLAN_GEN + 1) % 65536 ∧
      (s.fab.planned = false → (planOf s).nSvc ≠ 0 → ((planOf s).nSvc ≠ 1 ∨ (planOf s).nEns ≠ 0 ∨ (planOf s).form ≠ 2) →
        t.evt = s.evt ∧ t.get Reg.ENS_FORM = (planOf s).form % 4 ∧ t.get Reg.N_A = codeOfN (planOf s).na)) ∧
    ((s.fab.planDue = false ∨ s.clk.grain ≠ 0 ∨ ∃ j, j < 16 ∧ (s.job j).inst.isSome = true) → exec .planTakeEffect s = .next s) ∧
    (∀ j cause bank row slot : Nat, j ≤ 31 →
      let powered := s.get (Reg.CSTATE j) = 0 ∨ s.get (Reg.CSTATE j) = 2
      (powered → 1 ≤ cause → cause ≤ 4 → ∃ u v x, let w := raise 489 v u
        exec (.cubitFault j cause bank row slot) s = .next (writeRepairMap
            ((if s.get (Reg.CSTATE j) = 0 ∧ w.get Reg.SCHED_SET < 28 then raise 489 x w else w).put (Reg.CUBIT_ST j) 3)) ∧
          v % 512 = cause + 16 * j ∧ x % 512 = 6 + 16 * j ∧ u.get (Reg.CSTATE j) = 3 ∧ u.get (Reg.OUT_CAUSE j) = 2 ∧ u.get (Reg.CJOB j) = 31 ∧
          (s.get (Reg.CSTATE j) = 0 → u.fab.planDue = true) ∧ u.evt = s.evt ∧ ∀ n ∈ slotsOn s j, (u.job n).inst = none) ∧
      (powered → (slotsOn s j).contains slot = true → (s.job slot).inst.isSome = true →
        exec (.cubitFault j 5 bank row slot) s = .next (raise 489 (5 + 16 * j) (abortInst slot s))) ∧
      (¬ powered → exec (.cubitFault j cause bank row slot) s = .next s) ∧
      (s.flag Reg.SCRUB_EN = true → powered → ∀ n : Nat, ∃ t, exec (.scrubLine j n) s = .next t ∧
        t = { s with fab := { s.fab with cubits := t.fab.cubits }, regs := t.regs } ∧
        t.cubit j = { s.cubit j with scrubRow := ((s.cubit j).scrubRow + 1) % 640 } ∧ (∀ i, i ≠ j → t.cubit i = s.cubit i) ∧
        t.get (Reg.ECC_CORR j) = min (s.get (Reg.ECC_CORR j) + n) 255 ∧ fieldsSame [Reg.ECC_CORR j] s t) ∧
      (s.flag Reg.SCRUB_EN = false → ∀ n, exec (.scrubLine j n) s = .next s) ∧
      (s.get (Reg.CSTATE j) = 0 → ∀ stalls busy : Nat,
        let b := busy + (s.cubit j).busy
        let share := if b = 0 then 0 else min 255 ((stalls + (s.cubit j).stalls) * 256 / b)
        let shown (t : State) : Prop := t.get (Reg.CONF_NOW j) = share ∧ t.cubit j = { s.cubit j with stalls := 0, busy := 0 } ∧
          fieldsSame [Reg.CONF_NOW j] s t
        (share ≤ s.get Reg.CONF_SHARE → ∃ t, exec (.conflictWindowEnd j stalls busy) s = .next t ∧ shown t ∧
          kvGet (fun _ => 0) t.fab.confAt j = 0 ∧ t.evt = s.evt) ∧
        (s.get Reg.CONF_SHARE < share → (kvGet (fun _ => 0) s.fab.confAt j = 0 ∨ kvGet (fun _ => 0) s.fab.confAt j + 64 ≤ s.clk.span + 1) → ∃ u v,
          exec (.conflictWindowEnd j stalls busy) s = .next (raise 488 v u) ∧ v % 65536 = j + 256 * share ∧ shown u ∧
          kvGet (fun _ => 0) u.fab.confAt j = s.clk.span + 1) ∧
        (s.get Reg.CONF_SHARE < share → kvGet (fun _ => 0) s.fab.confAt j ≠ 0 → s.clk.span + 1 < kvGet (fun _ => 0) s.fab.confAt j + 64 → ∃ t,
          exec (.conflictWindowEnd j stalls busy) s = .next t ∧ shown t ∧ t.evt = s.evt)) ∧
      (¬ powered → ∀ n, exec (.scrubLine j n) s = .next s) ∧
      (s.get (Reg.CSTATE j) ≠ 0 → ∀ n m, exec (.conflictWindowEnd j n m) s = .next s))

/-- Records of the base die: the span number, the accumulators and the checkpoints are each appended as the next record of their kind at the head of
the log, once space is made; a record that finds none is dropped and reported with TUN_FULL. With HEALTH_DAYS gone a HEALTH record
follows the checkpoints. A sector that fails its verify is retired, and the next spare takes its place. -/
def Obligations.RecordsAreAppended : Prop :=
  ∀ s : State, s.ready = true →
    let log (len : Nat) : Startup := reclaim len s.start
    let unworn (len : Nat) : Prop := worn 50 { s with start := log len } = false
    let appends (i : Instr) (kind len : Nat) (body : List Byte) : Prop := ∃ t ck, exec i s = .next t ∧
      t.start.tun = (log len).tun ++ [⟨s.get Reg.REC_NEXT, kind, s.clk.span, body, len, ck, (log len).log.head⟩] ∧
      t.start.log.head = (log len).log.head + recSize len ∧ t.get Reg.REC_NEXT = (s.get Reg.REC_NEXT + 1) % 2 ^ 32 ∧
      t.get (Reg.REC_LAST kind) = s.get Reg.REC_NEXT ∧ t.flag Reg.TUN_FULL = false ∧ t.clk = s.clk ∧ (unworn len → t.evt = s.evt)
    let full (i : Instr) (kind len : Nat) : Prop := ∃ u v, exec i s = .next (raise 491 v u) ∧ v % 256 = 6 ∧ v / 2 ^ 20 = kind ∧
      u.flag Reg.TUN_FULL = true ∧ u.start.tun = (log len).tun ∧ u.get Reg.REC_NEXT = s.get Reg.REC_NEXT ∧ (unworn len → u.evt = s.evt)
    (tunRoom 8 s.start = true → appends .spanCountTunWrite 1 8 (leBytes 6 s.clk.span ++ [0, 0])) ∧
    (tunRoom 8 s.start = false → full .spanCountTunWrite 1 8) ∧
    (tunRoom 32 s.start = true → appends .accTunWrite 2 32 (leBytes 8 s.clk.span ++ leBytes 8 (chgIn s) ++ leBytes 8 (chgOut s) ++
      leBytes 8 (unsigned 64 s.cur.netOff))) ∧ (tunRoom 32 s.start = false → full .accTunWrite 2 32) ∧
    (s.flag Reg.RESCUE = false → ∀ days : Nat, days < s.get Reg.HEALTH_DAYS →
      (tunRoom 458752 s.start = true → appends (.checkpointTunWrite ⟨days, []⟩) 3 458752 []) ∧
      (tunRoom 458752 s.start = false → full (.checkpointTunWrite ⟨days, []⟩) 3 458752) ∧
      ∃ t, exec (.checkpointTunWrite ⟨days, []⟩) s = .next t ∧
        (∀ later : Nat, s.get Reg.HEALTH_DAYS ≤ later → exec (.checkpointTunWrite ⟨later, []⟩) s = .next (writeHealth t)) ∧
        (∀ x : Nat, (sectorsTouched s.start.log t.start.log).contains x = true →
          exec (.checkpointTunWrite ⟨days, [x]⟩) s = .next (retireSector x t)) ∧
        (∀ x : Nat, (sectorsTouched s.start.log t.start.log).contains x = false →
          exec (.checkpointTunWrite ⟨days, [x]⟩) s = .next t)) ∧
    (∀ x i : Nat, (List.range s.start.log.sectors).find? (fun j => sectorAt s.start.log j == x) = some i →
      s.get Reg.SPARE_SECT ≠ 0 → s.get Reg.SPARE_SECT ≠ 1 → s.get Reg.SPARE_SECT ≠ 33 → x < 4096 → ∃ u,
        retireSector x s = raise 491 (1 + 256 * u.get Reg.SPARE_SECT + 2 ^ 20 * x) u ∧ u.get Reg.SPARE_SECT = s.get Reg.SPARE_SECT - 1 ∧
        sectorAt u.start.log i = s.start.log.spare ∧ u.start.log.spare = s.start.log.spare + 1 ∧ u.evt = s.evt ∧
        u.start.tun.map (·.number) = s.start.tun.map (·.number)) ∧
    (s.flag Reg.RESCUE = true → ∀ w, exec (.checkpointTunWrite w) s = .next s)

/-! ### Result windows and check values -/

/-- The swap makes the bank that holds the ended span the completed one, with its cell words and its generation in the header, and presets the
other for the span in progress; a block closes 32 grains after its opening. A check-value pass starts at its span, and its result is
shown and compared: an equal one clears the notice, another is counted and reported; under capture the first result is the reference. -/
def Obligations.BanksSwapAndPassesCompare : Prop :=
  ∀ s : State, s.ready = true →
    (∀ given : Nat,
      (s.win.filling.preset = true → s.win.filling.span < s.clk.span → ∃ t, exec (.bankSwap given) s = .next t ∧
        t.win.completed.span = s.win.filling.span ∧ t.win.swapped = true ∧ t.win.gen = (s.win.gen + 1) % 2 ^ 32 ∧
        bankWord t.win.completed 12 = (s.win.gen + 1) % 2 ^ 32 ∧ t.win.filling.span = s.clk.span ∧ t.win.filling.preset = true ∧
        (∀ c, c < 108 → bankWord t.win.completed (0x40 + 4 * c) = bankWord s.win.filling (0x40 + 4 * c)) ∧ t.evt = s.evt ∧
        t.clk = (s.passGrain 32).clk ∧ 32 ≤ t.clk.grain) ∧
      (s.clk.span ≤ s.win.filling.span ∨ s.win.filling.preset = false → exec (.bankSwap given) s = .next s)) ∧
    (∀ (src : Nat) (h : BlockHold), s.hold src = some h →
      (∀ u : State, s.passTo (h.opened + 32) = some u → ∃ t, exec (.blockCloseTimeout src) s = .next t ∧
        t = { u with win := { s.win with holds := t.win.holds } } ∧ t.hold src = some { h with isOpen := false } ∧ ∀ j, j ≠ src → t.hold j = s.hold j) ∧
      (s.passTo (h.opened + 32) = none → exec (.blockCloseTimeout src) s = .next s)) ∧
    (∀ src : Nat, s.hold src = none → exec (.blockCloseTimeout src) s = .next s) ∧
    (∀ u : Nat, 1 ≤ u → u ≤ 3 →
      let run (t : State) : Nat := kvGet (fun _ => 0) t.host.cvRun u
      let got := crcBy (s.get (Reg.CV_POLY u)) (passBytes u s)
      (s.flag (Reg.CV_EN u) = true → s.clk.grain = 0 → s.clk.span % s.get (Reg.CV_PERIOD u) = 0 → run s = 0 → ∃ t,
        exec (.cvPassStart u) s = .next t ∧ t = { s with host := { s.host with cvRun := t.host.cvRun } } ∧ run t = s.clk.span + 1) ∧
      (run s ≠ 0 ∨ s.flag (Reg.CV_EN u) = false ∨ s.clk.grain ≠ 0 ∨ s.clk.span % s.get (Reg.CV_PERIOD u) ≠ 0 →
        exec (.cvPassStart u) s = .next s) ∧
      (run s = 0 → exec (.cvPassDone u) s = .next s) ∧
      (run s ≠ 0 →
        (∀ want : Nat, ((s.flag (Reg.CV_CAPTURE u) = false ∧ want = s.get (Reg.CV_EXPECT u)) ∨
            (s.flag (Reg.CV_CAPTURE u) = true ∧ s.flag (Reg.REF_VALID u) = true ∧ want = s.get (Reg.CV_REF u))) →
          let at_ := kvGet (fun _ => 0) s.host.cvEvt u
          let counted (w : State) : Prop := w.flag (Reg.CV_MISMATCH u) = true ∧ run w = 0 ∧
            w.get (Reg.MISMATCH_COUNT u) = min (s.get (Reg.MISMATCH_COUNT u) + 1) 65535 ∧
            fieldsSame [Reg.CV_RESULT u, Reg.CV_MISMATCH u, Reg.MISMATCH_COUNT u] s w
          (got = want → ∃ t, exec (.cvPassDone u) s = .next t ∧ t.get (Reg.CV_RESULT u) = got % 2 ^ 32 ∧ run t = 0 ∧
            kvGet (fun _ => 0) t.host.cvEvt u = 0 ∧ t.evt = s.evt ∧ fieldsSame [Reg.CV_RESULT u] s t) ∧
          (got ≠ want → (at_ = 0 ∨ at_ + 63 ≤ s.clk.span) → ∃ w v, exec (.cvPassDone u) s = .next (raise (505 + u) v w) ∧
            v = got % 65536 + 65536 * (want % 65536) ∧ counted w) ∧
          (got ≠ want → at_ ≠ 0 → s.clk.span < at_ + 63 → ∃ w, exec (.cvPassDone u) s = .next w ∧ counted w ∧ w.evt = s.evt)) ∧
        (s.flag (Reg.CV_CAPTURE u) = true → s.flag (Reg.REF_VALID u) = false → ∃ t, exec (.cvPassDone u) s = .next t ∧
          t.get (Reg.CV_RESULT u) = got % 2 ^ 32 ∧ t.get (Reg.CV_REF u) = got % 2 ^ 32 ∧ t.flag (Reg.REF_VALID u) = true ∧ run t = 0 ∧
          t.evt = s.evt ∧ fieldsSame [Reg.CV_RESULT u, Reg.CV_REF u, Reg.REF_VALID u] s t)))

/-! ### Rails, STORE and starts -/

/-- The supply: a rail loss outside STORE and the shutdown wait resets the base die and starts the hand-over, which ends with its count and the
reset cause kept; the return of the rails is noted or debounced, and the debounce ends in a start. MODE STORE ends in STORE once its
writes are done; an interval counts, each tier bleeds while it is below the target, and STORE ends with a start. Every start names its
reset cause, revokes every lease and cancels every action; the start sequence restores, and READY follows once no tier calibrates. -/
def Obligations.RailsStoreAndStarts : Prop :=
  ∀ s : State,
    let cleared (u t : State) : Prop := (∀ c, c ≤ 2 → t.flag (Reg.LIVE c) = false) ∧ t.host.sched = [] ∧ t.host.shadow = [] ∧
      t.host.xfer = none ∧ t.exc = Exc.reset ∧ (∀ k, k < 6 → t.linkUp k = false) ∧ t.clk = u.clk
    let starts (i : Instr) (cause : Nat) : Prop := ∃ t, exec i s = .next t ∧ t.pwr.phase = .starting ∧
      t.ret.cause = (if s.ret.ok then cause else 1) ∧ t.ret.ok = s.ret.ok ∧ cleared s t ∧ t.start.booted = false ∧ t.start.tun = s.start.tun
    let runs : Prop := s.pwr.phase = .ready ∨ s.pwr.phase = .starting ∨ s.pwr.phase = .shutting ∨ s.pwr.phase = .storeEntry
    (∀ vc vio : Bool, (vc || vio) = true →
      (runs → ∃ t, exec (.railLoss vc vio) s = .next t ∧ t.pwr.phase = .handover ∧ t.pwr.railsOk = false ∧ t.pwr.vcLow = vc ∧ t.pwr.vioLow = vio ∧
        t.pwr.replug = false ∧ cleared s t ∧ (∀ p, p ≤ 1 → t.get (Reg.PSTATE p) = 0) ∧ t.ret.ok = (s.ret.ok && (s.tl 0).supplied)) ∧
      (s.pwr.phase = .store ∨ s.pwr.phase = .handover ∨ s.pwr.phase = .absent →
        exec (.railLoss vc vio) s = .next (aonCheck { s with pwr := { s.pwr with railsOk := false } })) ∧
      (s.pwr.phase = .shutWait → exec (.railLoss vc vio) s = .next (aonCheck (pathStop { s with
        pwr := { s.pwr with railsOk := false, vcLow := s.pwr.vcLow || vc, vioLow := s.pwr.vioLow || vio } }))) ∧
      (s.pwr.phase = .debounce → exec (.railLoss vc vio) s =
        .next (aonCheck { s with pwr := { s.pwr with railsOk := false, phase := .absent, rising := s.pwr.rising + 1 } }))) ∧
    ((s.tl 0).supplied = true → aonCheck s = s) ∧
    ((s.tl 0).supplied = false → (s.pwr.railsOk = false ∨ s.pwr.phase = .store) → (aonCheck s).ret = { s.ret with ok := false } ∧
      (aonCheck s).evt.wake = false ∧ (aonCheck s).regs = s.regs) ∧
    (exec (.railLoss false false) s = .next s) ∧
    (s.pwr.phase = .handover →
      let ended : Power := { s.pwr with phase := if s.pwr.railsOk then .debounce else .absent }
      (s.ret.ok = true → ∃ t, exec .handoverComplete s = .next t ∧ t.ret.cause = 3 ∧ t.ret.pend492.isSome = true ∧ t.pwr = ended ∧
        t.get Reg.HO_COUNT = min (s.get Reg.HO_COUNT + 1) 65535 ∧ fieldsSame [Reg.HO_COUNT] s t) ∧
      (s.ret.ok = false → exec .handoverComplete s = .next { s with pwr := ended })) ∧
    (s.pwr.phase ≠ .handover → exec .handoverComplete s = .next s) ∧
    (s.pwr.railsOk = true → exec .railsGood s = .next s) ∧
    (s.pwr.railsOk = false → (s.pwr.phase = .handover ∨ s.pwr.phase = .store →
        exec .railsGood s = .next { s with pwr := { s.pwr with railsOk := true, replug := true } }) ∧
      (s.pwr.phase = .shutWait → exec .railsGood s =
        .next { s with pwr := { s.pwr with railsOk := true, replug := s.pwr.replug || (s.pwr.vcLow && s.pwr.vioLow) } }) ∧
      (s.pwr.phase = .absent → ∃ t, exec .railsGood s = .next t ∧ t.pwr = { s.pwr with railsOk := true, phase := .debounce } ∧
        t.get Reg.BOUNCE_COUNT = (if 0 < s.pwr.rising then min (s.get Reg.BOUNCE_COUNT + 1) 65535 else s.get Reg.BOUNCE_COUNT) ∧
        fieldsSame [Reg.BOUNCE_COUNT] s t)) ∧
    (s.pwr.phase = .debounce → s.pwr.railsOk = true → starts .railDebounceEnd 3) ∧
    (s.pwr.phase ≠ .debounce → exec .railDebounceEnd s = .next s) ∧
    (runs → starts .resetPin 2 ∧ starts .watchdogReset 7 ∧ starts .lockstepMismatch 8 ∧ ∀ addr, starts (.memoryError 2 addr) 9) ∧
    (s.pwr.phase = .handover ∨ s.pwr.phase = .absent ∨ s.pwr.phase = .debounce → exec .resetPin s = .next s ∧ exec .watchdogReset s = .next s ∧
      exec .lockstepMismatch s = .next s ∧ ∀ addr, exec (.memoryError 2 addr) s = .next s) ∧
    (s.ready = true → ∀ memory addr : Nat, memory ≠ 2 → 1 ≤ memory → memory ≤ 5 →
      exec (.memoryError memory addr) s = .next (raise 510 (memory + 256 * (addr % 2 ^ 24)) s)) ∧
    (s.pwr.phase = .starting → s.ret.trial = true → s.ret.bank ≤ 1 → starts .trialTimeout 11 ∧ ∃ t, exec .trialTimeout s = .next t ∧
      t.ret.bank = 1 - s.ret.bank ∧ t.ret.trial = false ∧ t.flag (bankValid s.ret.bank) = false) ∧
    (s.ret.trial = false ∨ s.pwr.phase ≠ .starting → exec .trialTimeout s = .next s) ∧
    (s.pwr.phase = .storeEntry → ∀ days : Nat, ∃ t, exec (.storeWritesDone days) s = .next t ∧ t.pwr.phase = .store ∧ t.ret.mode = 0 ∧
      cleared { s with clk := ⟨s.clk.span + 1, 0⟩ } t ∧ t.get Reg.STORE_RECORDS = 0 ∧ ∀ k, k < 6 → s.linkUp k = true →
        (t.tl k).store = true ∧ (t.tl k).span = s.clk.span + 1 ∧ (t.tl k).tstate = 0 ∧ t.get (Reg.BALLAST_UA k) = 0) ∧
    (s.pwr.phase ≠ .storeEntry → ∀ days, exec (.storeWritesDone days) s = .next s) ∧
    (s.pwr.phase = .store → (s.tl 0).supplied = false → (∀ q, exec (.storeInterval q) s = .next s) ∧
      ∀ ms q, exec (.storeBleedDecision ms q) s = .next s) ∧
    (s.pwr.phase = .store →
      (∀ q : List Nat, (s.tl 0).supplied = true → 0 < s.get Reg.STORE_INT → ∃ t, exec (.storeInterval q) s = .next t ∧
        t.get Reg.STORE_RECORDS = min (s.get Reg.STORE_RECORDS + 1) 65535 ∧ t.pwr.storeIt = storeTarget q s ∧
        t.get Reg.STORE_IQ_USED = min 255 (storeTarget q s) ∧ t.pwr.bleedOn = [] ∧ t.evt = s.evt ∧ t.clk = s.clk) ∧
      (∀ (ms : Nat) (q : List Nat), (s.tl 0).supplied = true → ∃ t, exec (.storeBleedDecision ms q) s = .next t ∧ t.regs = s.regs ∧ t.evt = s.evt ∧
        ∀ k, k < 6 → (s.tl k).supplied = true → kvGet (fun _ => false) t.pwr.bleedOn k = decide (10 * q.getD k 0 < s.pwr.storeIt * ms)) ∧
      (s.pwr.railsOk = true → starts (.storeExit 1) 4 ∧ starts .resetPin 4 ∧ (s.pwr.replug = true → starts (.storeExit 0) 4) ∧
        (s.pwr.replug = false → exec (.storeExit 0) s = .next s) ∧
        (s.flag Reg.STORE_WAKE_EXIT = true → s.evt.wake = true → starts (.storeExit 2) 4) ∧
        (s.flag Reg.STORE_WAKE_EXIT = false ∨ s.evt.wake = false → exec (.storeExit 2) s = .next s)) ∧
      (s.pwr.railsOk = false → exec .resetPin s = .next s ∧ ∀ why, exec (.storeExit why) s = .next s)) ∧
    (s.pwr.phase ≠ .store → (∀ q, exec (.storeInterval q) s = .next s) ∧ (∀ ms q, exec (.storeBleedDecision ms q) s = .next s) ∧
      ∀ why, exec (.storeExit why) s = .next s) ∧
    (s.pwr.phase = .starting →
      (s.start.booted = false → ∀ (addr bad : Nat) (recs : List Nat), ∃ t, exec (.startSequence addr bad recs) s = .next t ∧ t.start.booted = true ∧
        t.start.calWait = true ∧ t.pwr.phase = .starting ∧ t.get Reg.RESET_CAUSE = (if s.ret.ok then s.ret.cause else 1) % 256 ∧
        t.clk = s.clk ∧ t.evt = s.evt) ∧
      (s.start.booted = true →
        (∀ addr bad recs, exec (.startSequence addr bad recs) s = .next s) ∧
        exec .tierCalWaitTimeout s = .next { s with start := { s.start with calWait := false } } ∧
        (∀ absence : Nat, (s.start.calWait = false ∨ ∀ k, k < 6 → s.linkUp k = true → (s.tl k).calibrating = false) → ∃ t,
          exec (.ready absence) s = .next t ∧ t.ready = true ∧ t.ret.trial = false ∧ t.ret.swapped = false ∧ t.start.bankEvt = [] ∧
          t.tw.idDue = true) ∧
        (∀ absence k : Nat, s.start.calWait = true → k < 6 → s.linkUp k = true → (s.tl k).calibrating = true →
          exec (.ready absence) s = .next s)))

/-! ### The tiers -/

/-- What a tier sends: a sub-window adds its words to the link, NO_RESULT for a cell that is not enabled; a span ends in one span record, kept in
the buffer, and in its results on the link; an interval of STORE writes one record; the base die takes what has come and the buffer
releases the records that arrived. The sequencer converts entry by entry, urgent requests first, and a stopped oscillator gives way. -/
def Obligations.TierResultsReachTheBase : Prop :=
  ∀ (s : State) (k : Nat), k ≤ 5 →
    ((s.tl k).supplied = false ∨ (s.tl k).calibrating = true →
      (∀ i cells cur, exec (.subwindowEnd k i cells cur) s = .next s) ∧ (∀ cells spares cur chk, exec (.tierSpanEnd k cells spares cur chk) s = .next s) ∧
      (∀ cells cur chk, exec (.storeRecord k cells cur chk) s = .next s) ∧ exec (.seqEntryStart k) s = .next s) ∧
    ((s.tl k).supplied = true → (s.tl k).calibrating = false →
    let n := nOfCode (s.get (Reg.EFF_SUBWIN k))
    let period := (s.tl k).period
    let sq := s.sq k
    ((s.tl k).store = false → ∀ (i : Nat) (cells : List Wave) (cur : Wave), let p := subSpan s k i
      (i < n → (s.pr k).subDone < subEnd p i n → ∃ t, exec (.subwindowEnd k i cells cur) s = .next t ∧ (t.pr k).subDone = subEnd p i n ∧
        t.clk.span = s.clk.span ∧ t.clk.grain = (if subEnd p i n / 4096 = (s.tl k).span then max s.clk.grain (subEnd p i n % 4096) else s.clk.grain) ∧
        (s.linkUp k = false ∨ s.baseUp = false → (t.tl k).up = (s.tl k).up) ∧
        (s.linkUp k = true → s.baseUp = true → ∃ item rest, (t.tl k).up = (s.tl k).up ++ [item] ∧ item.span = p ∧ item.isRec = false ∧
          item.words.map (fun w => w.1) = (List.range 18).map (fun c => WinSlot.sub (18 * k + c) i) ++ rest ∧ (k ≠ 0 → rest = []) ∧
          ∀ c, c < 18 → localOn s k c = false → item.words[c]? = some (WinSlot.sub (18 * k + c) i, noResult p))) ∧
      (n ≤ i ∨ subEnd p i n ≤ (s.pr k).subDone → exec (.subwindowEnd k i cells cur) s = .next s)) ∧
    ((s.tl k).store = false → (s.tl k).buf.length ≤ 256 → ∀ (cells spares : List Wave) (cur : Wave) (chk : TierCheck), ∃ t r,
      exec (.tierSpanEnd k cells spares cur chk) s = .next t ∧ t.clk = s.clk ∧ (t.tl k).closed = none ∧
      (t.tl k).span = (if (s.tl k).closed.isSome then (s.tl k).span else (s.tl k).span + 1) ∧
      (t.tl k).buf.length = min 256 ((s.tl k).buf.length + 1) ∧ (t.tl k).buf.getLast? = some r ∧
      r.span = (s.tl k).closed.elim (s.tl k).span (fun c => c.span) ∧ r.cells.length = 18 ∧
      (s.linkUp k = true → s.baseUp = true → ∃ item, (t.tl k).up = (s.tl k).up ++ [item] ∧ item.span = r.span ∧ item.isRec = true)) ∧
    ((s.tl k).store = true → (s.tl k).buf.length ≤ 256 → ∀ (cells : List Wave) (cur : Wave) (chk : TierCheck), ∃ t r,
      exec (.storeRecord k cells cur chk) s = .next t ∧ (t.tl k).span = (s.tl k).span + storeSpans s ∧
      (t.tl k).buf.length = min 256 ((s.tl k).buf.length + 1) ∧ (t.tl k).buf.getLast? = some r ∧
      r.span = (s.tl k).span + storeSpans s ∧ bit r.flags 2 = true ∧ (t.sq k).storeT = sq.storeT + 4096) ∧
    ((s.tl k).store = true → (∀ cells spares cur chk, exec (.tierSpanEnd k cells spares cur chk) s = .next s) ∧
      ∀ i cells cur, exec (.subwindowEnd k i cells cur) s = .next s) ∧
    ((s.tl k).store = false → ∀ cells cur chk, exec (.storeRecord k cells cur chk) s = .next s) ∧
    (s.ready = true → s.linkUp k = true → ∃ t, exec (.tierResultReceived k) s = .next t ∧ (t.tl k).up = [] ∧ t.clk = s.clk ∧
      t.win.filling.span = s.win.filling.span ∧
      (∀ r ∈ (t.tl k).buf, r ∈ (s.tl k).buf ∧ ∀ u ∈ (s.tl k).up, u.isRec = true → r.span ≠ u.span) ∧
      (∀ u ∈ (s.tl k).up, u.words ≠ [] → u.span = s.win.filling.span → bit t.win.filling.tiers k = true) ∧
      (∀ (u : UpItem) (off w : Nat), (s.tl k).up = [u] → u.words = [(.word off, w)] → u.span = s.win.filling.span → w < 2 ^ 32 →
        bankWord t.win.filling off = w)) ∧
    (s.linkUp k = false ∨ s.ready = false → exec (.tierResultReceived k) s = .next s) ∧
    (sq.run = none → sq.serving = none → tableRuns s k = true → ((s.tl k).store = true → sq.storeIdle = false) →
      let due := laterT (sq.endAt.1 + s.get (Reg.DELAY k sq.next), sq.endAt.2) sq.freeAt
      (seqPass k due.1 s = none → exec (.seqEntryStart k) s = .next s) ∧
      ∀ u : State, seqPass k due.1 s = some u →
        (s.get (Reg.CH k sq.next) ≠ 0x7F → ∃ t, exec (.seqEntryStart k) s = .next t ∧
          (t.sq k).run = some (convert period (s.get (Reg.CH k sq.next)) (s.get (Reg.REP_M1 k sq.next) + 1) (s.flag (Reg.PLACE k sq.next)) false
            (laterT due (seqNow u k))) ∧
          (t.sq k).next = sq.next ∧ (t.sq k).hostQ = sq.hostQ ∧ t = { u with sec := t.sec, regs := t.regs } ∧
          fieldsSame [Reg.SEQ_NOW k, Reg.URG_ACTIVE k, Reg.HOST_Q k, Reg.RECHK_Q k] s t) ∧
        (s.get (Reg.CH k sq.next) = 0x7F → ∃ t, exec (.seqEntryStart k) s = .next t ∧ (t.sq k).run = none ∧
          (t.sq k).next = (if sq.next < s.get (Reg.SEQ_LAST k) then sq.next + 1 else 0) ∧ (t.sq k).endAt = laterT due (seqNow u k) ∧ t.clk = u.clk)) ∧
    (sq.run.isSome = true ∨ sq.serving.isSome = true ∨ tableRuns s k = false ∨ ((s.tl k).store = true ∧ sq.storeIdle = true) →
      exec (.seqEntryStart k) s = .next s) ∧
    (sq.serving = none →
      let served (at_ : SubTime) (t : State) : Prop := t = { s with sec := t.sec, regs := t.regs } ∧
        (∀ (c : Nat) (cs : List Nat), sq.recheck = c :: cs → (t.sq k).serving = some (convert period c 16 true true at_) ∧
          (t.sq k).recheck = cs ∧ (t.sq k).hostQ = sq.hostQ) ∧
        (∀ (ch m : Nat) (q : List (Nat × Nat)), sq.recheck = [] → sq.hostQ = (ch, m) :: q →
          (t.sq k).serving = some (convert period ch m false false at_) ∧ (t.sq k).hostQ = q)
      (sq.recheck = [] → sq.hostQ = [] → exec (.urgentRequestStart k) s = .next s) ∧
      ((sq.recheck ≠ [] ∨ sq.hostQ ≠ []) →
        (sq.run = none → ∃ t, exec (.urgentRequestStart k) s = .next t ∧ served (laterT (seqNow s k) sq.freeAt) t ∧
          t.get (Reg.PREEMPT_COUNT k) = (if tableRuns s k && !((s.tl k).store && sq.storeIdle) then min (s.get (Reg.PREEMPT_COUNT k) + 1) 65535
            else s.get (Reg.PREEMPT_COUNT k))) ∧
        (∀ v : Conv, sq.run = some v → let c := v.cut period (seqNow s k)
          (c.placed = v.placed → exec (.urgentRequestStart k) s = .next s) ∧
          (c.placed ≠ v.placed → ∃ t, exec (.urgentRequestStart k) s = .next t ∧
            served (if c.placed = 0 then seqNow s k else laterT (seqNow s k) (c.endT period)) t ∧ (t.sq k).preempted = true ∧ (t.sq k).run = some c ∧
            t.get (Reg.PREEMPT_COUNT k) = min (s.get (Reg.PREEMPT_COUNT k) + 1) 65535)))) ∧
    (∀ r : SecRead,
      let word (v : Conv) (ds : Bool) : Nat := secWord (secCode (samplesOf v.reps r.codes)) (secOver (samplesOf v.reps r.codes)) ds
      (sq.serving = none → sq.run = none → exec (.seqEntryDone k r) s = .next s) ∧
      (∀ v : Conv, (sq.serving.orElse fun _ => sq.run) = some v → (seqPass k (v.endT period).1 s = none → exec (.seqEntryDone k r) s = .next s) ∧
        ∀ u : State, seqPass k (v.endT period).1 s = some u →
          (sq.serving = none → ∃ t ds, exec (.seqEntryDone k r) s = .next t ∧ (t.sq k).run = none ∧ (t.sq k).preempted = false ∧
            (t.sq k).endAt = v.endT period ∧ kvGet (fun _ => 0) (t.sq k).words sq.next = word v ds ∧ t.clk = u.clk) ∧
          (sq.serving = some v → ∃ t ds, exec (.seqEntryDone k r) s = .next t ∧ t.clk = u.clk ∧ (t.sq k).freeAt = v.endT period ∧
            (sq.recheck = [] → sq.hostQ = [] → (t.sq k).serving = none) ∧
            (v.recheck = false → t.get (Reg.URG_WORD k) = word v ds ∧ t.get (Reg.URG_GRAIN k) = v.first % 4096 ∧
              t.get (Reg.URG_SPAN k) = v.first / 4096 % 2 ^ 32)))) ∧
    (s.flag (Reg.OSC_SPARE_FAILED k) = false → ∃ u, exec (.oscStop k) s =
        .next (raiseTier k (tierSrc k 1) (1 + 16 * (1 - s.get (Reg.OSC_ACTIVE k))) u) ∧ u = { s with sec := u.sec, regs := u.regs } ∧
      (u.sq k).oscBad = 0 ∧ u.get (Reg.OSC_ACTIVE k) = 1 - s.get (Reg.OSC_ACTIVE k) ∧ fieldsSame [Reg.OSC_ACTIVE k] s u) ∧
    (s.flag (Reg.OSC_SPARE_FAILED k) = true → exec (.oscStop k) s = .next s))

/-- Converters, taps and draws: a stuck modulator of an enabled cell is declared faulty once, where no clamp excuses it, and the cell needs a spare; a
spare fails alike; due crossbar moves are made, and the last compared span of an audit takes the spare on; a tap test starts on the cell of its turn and reports a tap that the shift shows open; a
dwell within its limit goes on to the next cell, and one beyond it is judged in stages; the notch resumes; the draws are matched.
The order of tap tests and audits, the span that an audit gains, and a fault of a forced spare are the model's reading (log entries 31 and 32). -/
def Obligations.ConvertersTapsAndDraws : Prop :=
  ∀ (s : State) (k : Nat), k ≤ 5 →
    let works : Prop := (s.tl k).supplied = true ∧ (s.tl k).calibrating = false
    let q := s.pr k
    (∀ st : StuckConv, let s1 := bring k (s.tierAt k) st.waves s
      let c := st.conv
      let clocks := clocksIn s1 k (min st.ago st.clampAgo)
      let stuck : Prop := works ∧ 4096 ≤ clocks
      (¬ works → exec (.modulatorStuck k st) s = .next s) ∧
      (works → clocks < 4096 ∨ 20 ≤ c ∨
        (c < 18 ∧ (localOn s k c = false ∨ bit (s.get (Reg.FAULTED k)) c = true)) → exec (.modulatorStuck k st) s = .next s1) ∧
      (stuck → c < 18 → localOn s k c = true → bit (s.get (Reg.FAULTED k)) c = false → ∃ u,
        let v := dropDwell k c (raiseTier k (4 * (18 * k + c) + 3) (2 + 256 * c) u)
        restSame s1 u ∧ bit (u.get (Reg.FAULTED k)) c = true ∧ (∀ j, j ≠ c → bit (u.get (Reg.FAULTED k)) j = bit (s.get (Reg.FAULTED k)) j) ∧
        fieldsSame [Reg.FAULTED k] s u ∧ (v.pr k).audit.all (fun a => a.cell != c) = true ∧
        ((servedBy v k c).isSome = true → exec (.modulatorStuck k st) s = .next v) ∧
        (servedBy v k c = none → (promisedTo v k c).isSome = true → exec (.modulatorStuck k st) s = .next (cellDown k c v)) ∧
        (servedBy v k c = none → promisedTo v k c = none → exec (.modulatorStuck k st) s = .next (needSpare k c (cellDown k c v)))) ∧
      (stuck → c = 18 ∨ c = 19 → let use := s.get (spareUse k c)
        let cell := s.get (spareCell k c)
        (use = 3 → exec (.modulatorStuck k st) s = .next s1) ∧
        (use ≠ 3 → ∃ u, u.get (spareUse k c) = 3 ∧ bit (u.get (Reg.FAULTED k)) c = true ∧ u.evt = s.evt ∧ u.clk = s.clk ∧
          (u.pr k).moves.all (fun m => m.spare != c) = true ∧
          (use = 0 → exec (.modulatorStuck k st) s = .next u ∧ fieldsSame [Reg.FAULTED k, spareUse k c] s u) ∧
          (use = 1 → (u.pr k).audit = none ∧ exec (.modulatorStuck k st) s = .next (raiseTier k (4 * (18 * k + cell) + 3) (6 + 256 * c) u)) ∧
          (use = 2 → exec (.modulatorStuck k st) s =
            .next (needSpare k cell (cellDown k cell (raiseTier k (4 * (18 * k + cell) + 3) (6 + 256 * c) u))))))) ∧
    (∀ c i : Nat,
      (s.flag (Reg.AUTO_SPARE k) = true → spareToHad s k = some i → s.get (spareUse k i) = 0 → movePending s k i = false → needSpare k c s =
        s.setPr k { q with moves := q.moves ++ [⟨i, some c, 2, (s.tl k).span + (if 4079 < s.clk.grain then 1 else 0)⟩] }) ∧
      (s.flag (Reg.AUTO_SPARE k) = false → spareToHad s k = some i → needSpare k c s = s) ∧
      (spareToHad s k = none → bit q.exhausted c = false → needSpare k c s =
        raiseTier k (4 * (18 * k + c) + 3) (5 + 256 * c) (s.setPr k { q with exhausted := setBit q.exhausted c true }))) ∧
    (¬ works → exec (.crossbarMove k) s = .next s) ∧
    (¬ works ∨ (s.tl k).store = true → exec (.tapTestStart k) s = .next s) ∧
    (works →
      let to_ := (s.tl k).span + 1
      let store := (s.tl k).store
      let u := if store then s else s.passGrain 4080
      let staying : Prop := store = true ∨ q.audit.any (fun a => a.stage == 0 && a.n + 1 == s.get (Reg.AUDIT_DWELL k)) = false
      (q.moves = [] → staying → ∃ t, exec (.crossbarMove k) s = .next t ∧ t.pr k = q ∧ t = { u with prim := t.prim }) ∧
      (∀ (a : Audit) (f d : Nat), store = false → q.moves = [] → q.audit = some a → a.stage = 0 → a.next = none → a.from_ = some f →
        f ≤ (s.tl k).span → a.n + 1 = s.get (Reg.AUDIT_DWELL k) → s.flag (Reg.AUDIT_EN k) = true → auditable u k a.cell = true →
        tapDs u k a.cell ((s.tl k).span * 4096) ((s.tl k).span * 4096 + 4096) = false → nextAudited u k a.cell = some d →
        ∃ t, exec (.crossbarMove k) s = .next t ∧ t.get (spareCell k a.spare) = d ∧
          (t.pr k).audit = some { a with next := some (d, (s.tl k).span + 2) } ∧ t = { u with prim := t.prim, regs := t.regs } ∧
          fieldsSame [spareCell k a.spare] s t) ∧
      (∀ i at_ : Nat, (i = 18 ∨ i = 19) → staying →
        (∀ cell use, q.moves = [⟨i, cell, use, at_⟩] → (s.tl k).span < at_ ∨ (store = true ∧ use = 1) → ∃ t, exec (.crossbarMove k) s = .next t ∧
          t.pr k = q ∧ t = { u with prim := t.prim }) ∧
        (at_ ≤ (s.tl k).span → s.get (spareUse k i) ≠ 2 →
          (∀ c use : Nat, c < 18 → localOn s k c = true → use ≤ 2 → (use = 1 → store = false) → q.moves = [⟨i, some c, use, at_⟩] → ∃ t, exec (.crossbarMove k) s = .next t ∧
            (t.pr k).moves = [] ∧ t.get (spareCell k i) = c ∧ t.get (spareUse k i) = use ∧
            t = { u with prim := t.prim, regs := t.regs } ∧
            (use = 2 → (t.serve k c).now = some i ∧ (t.serve k c).from_ = some to_ ∧ kvGet (fun _ => 0) (t.pr k).cellFrom c = to_ * 4096) ∧
            fieldsSame [spareCell k i, spareUse k i] s t) ∧
          (∀ cell use, (use = 1 → store = false) → q.moves = [⟨i, cell, use, at_⟩] → cell.any (localOn s k) = false → ∃ t, exec (.crossbarMove k) s = .next t ∧
            (t.pr k).moves = [] ∧ t.get (spareUse k i) = 0 ∧ fieldsSame [spareUse k i] s t)))) ∧
    (works → (s.tl k).store = false →
      let int := s.get (Reg.TAP_INT k)
      let due := (s.tl k).span * 4096 + 2048
      let turn : Prop := int ≠ 0 ∧ (s.tl k).span % int = 0 ∧ enabledCells s k ≠ [] ∧ s.clk.grain ≤ 2048 ∧ q.taps.any (fun x => due ≤ x.2) = false
      (turn → ∃ t c, exec (.tapTestStart k) s = .next t ∧ t = { s.passGrain 2048 with prim := t.prim } ∧
        (enabledCells s k)[(s.tl k).span / int % (enabledCells s k).length]? = some c ∧ (t.pr k).taps.head? = some (c, due) ∧ (t.pr k).tapOn = true) ∧
      (¬ turn → exec (.tapTestStart k) s = .next s)) ∧
    (∀ (c t0 : Nat) (waves : List Wave), q.taps.head? = some (c, t0) → q.tapOn = true →
      let u := s.passGrain (t0 % 4096 + quarterMs s k 4)
      let v := (bring k (u.tierAt k) waves u).setPr k { (bring k (u.tierAt k) waves u).pr k with tapOn := false }
      let th : Int := 16 * (s.get (Reg.TAP_TH k) * 4000)
      (u.tierAt k < t0 + quarterMs s k 4 → exec (.tapTestEnd k waves) s = .next s) ∧
      (t0 + quarterMs s k 4 ≤ u.tierAt k → -th < tapShift v k c t0 → exec (.tapTestEnd k waves) s = .next v) ∧
      (t0 + quarterMs s k 4 ≤ u.tierAt k → tapShift v k c t0 ≤ -th → ∃ tap d, exec (.tapTestEnd k waves) s =
          .next (raiseTier k (4 * (18 * k + c) + 3) (1 + 256 * tap + 65536 * d) v) ∧
        (c + 1 < 18 → localOn s k (c + 1) = true → th ≤ tapShift v k (c + 1) t0 → tap = 18 * k + c + 1))) ∧
    (q.tapOn = false ∨ q.taps = [] → ∀ waves, exec (.tapTestEnd k waves) s = .next s) ∧
    (q.audit = none → exec (.auditDwellEnd k) s = .next s) ∧
    (∀ a : Audit, q.audit = some a →
      let th := s.get (Reg.AUDIT_TH k) * 10 + (if a.wide then 1000 else 0)
      let other := if a.spare = 18 then 19 else 18
      let move (i c : Nat) : Move := ⟨i, some c, 1, (s.tl k).span + (if 4079 < s.clk.grain then 1 else 0)⟩
      let ended : Prop := a.n ≠ 0 ∧ s.get (Reg.AUDIT_DWELL k) ≤ a.n
      let judged : Prop := ended ∧ auditable s k a.cell = true
      (¬ ended → exec (.auditDwellEnd k) s = .next s) ∧
      (ended → auditable s k a.cell = false → exec (.auditDwellEnd k) s = .next (if a.stage = 1 then endAudit k s else auditOn k a.spare a.cell s)) ∧
      (judged → a.stage = 0 →
        (differs a.sum th a.n = false → ∀ d f : Nat, a.next = some (d, f) → auditable s k d = true → ∃ t, exec (.auditDwellEnd k) s = .next t ∧
          (t.pr k).audit = some ⟨d, a.spare, 0, some f, 0, 0, false, 0, 0, none, none⟩ ∧ (t.pr k).moves = q.moves ∧ t = { s with prim := t.prim }) ∧
        (differs a.sum th a.n = false → a.next = none → ∀ d : Nat, nextAudited s k a.cell = some d → ∃ t, exec (.auditDwellEnd k) s = .next t ∧
          (t.pr k).audit = some ⟨d, a.spare, 0, none, 0, 0, false, 0, 0, none, none⟩ ∧ (t.pr k).moves.getLast? = some (move a.spare d) ∧
          t = { s with prim := t.prim }) ∧
        (differs a.sum th a.n = true → s.get (spareUse k other) = 0 → movePending s k other = false → ∃ t,
          exec (.auditDwellEnd k) s = .next t ∧
          (t.pr k).audit = some ⟨a.cell, other, 1, none, 0, 0, false, 0, 0, some (a.spare, a.sum, a.n), none⟩ ∧
          (t.pr k).moves.getLast? = some (move other a.cell) ∧ t = { s with prim := t.prim }) ∧
        (differs a.sum th a.n = true → (s.get (spareUse k other) ≠ 0 ∨ movePending s k other = true) → inTable s k a.cell = true → ∃ t,
          exec (.auditDwellEnd k) s = .next t ∧ t = { s with prim := t.prim } ∧
          (t.pr k).audit = some { a with stage := 2, n := 0, sum := 0, wide := false, convSec := 0, spareSec := 0, next := none,
                                         from_ := if a.next.isSome then none else a.from_ } ∧
          (a.next.isSome = true → (t.pr k).moves.getLast? = some (move a.spare a.cell))) ∧
        (differs a.sum th a.n = true → (s.get (spareUse k other) ≠ 0 ∨ movePending s k other = true) → inTable s k a.cell = false → ∃ v,
          exec (.auditDwellEnd k) s = .next (auditOn k a.spare a.cell (raiseTier k (4 * (18 * k + a.cell) + 3) v s)) ∧
          v % 65536 = 4 + 256 * a.cell % 65536)) ∧
      (judged → a.stage = 1 → ∀ i sum n, a.first = some (i, sum, n) →
        (differs a.sum th a.n = true → exec (.auditDwellEnd k) s = .next (convFault k a.cell 3 (meanDiff a.sum a.n) s)) ∧
        (differs a.sum th a.n = false → th * (n * a.n) * auditUnit < (sum * a.n - a.sum * n).natAbs →
          exec (.auditDwellEnd k) s = .next (endAudit k (spareFault k i s)))) ∧
      (judged → 2 ≤ a.stage →
        let bad := differs a.convSec (2 * (s.get (Reg.AUDIT_TH k) * 10)) a.n
        let spBad := differs a.spareSec (2 * (s.get (Reg.AUDIT_TH k) * 10)) a.n
        (bad = true → spBad = false → exec (.auditDwellEnd k) s = .next (convFault k a.cell 3 (meanDiff a.sum a.n) s)) ∧
        (bad = false → spBad = true → exec (.auditDwellEnd k) s = .next (spareFault k a.spare s)))) ∧
    (s.flag (Reg.NOTCH_FILLING k) = true → let due := q.notchFrom + (notchLen16 s k + 15) / 16
      (due ≤ s.tierAt k ∨ due / 4096 = (s.tl k).span → ∃ t, exec (.notchFilled k) s = .next t ∧ t.flag (Reg.NOTCH_FILLING k) = false ∧
        fieldsSame [Reg.NOTCH_FILLING k] s t ∧ t = { s with clk := t.clk, regs := t.regs } ∧ t.clk.span = s.clk.span ∧
        t.clk.grain = (if due / 4096 = (s.tl k).span then max s.clk.grain (due % 4096) else s.clk.grain)) ∧
      (s.tierAt k < due → due / 4096 ≠ (s.tl k).span → exec (.notchFilled k) s = .next s)) ∧
    (s.flag (Reg.NOTCH_FILLING k) = false → exec (.notchFilled k) s = .next s) ∧
    (∀ ua : List Nat, ∃ t target, exec (.drawMatch ua) s = .next t ∧ t = { s with pwr := t.pwr, prim := t.prim, regs := t.regs } ∧
      (∀ j, j < 6 → t.get (Reg.SUPPLY_UA j) = (if (s.tl j).supplied && decide ((s.pr j).drawAt + 64 ≤ (s.tl j).span) then min 65535 (ua.getD j 0)
        else s.get (Reg.SUPPLY_UA j))) ∧
      (s.ready = false ∨ s.clk.span < s.pwr.drawAt + 64 → t.pwr = s.pwr ∧ ∀ j, j < 6 → t.get (Reg.BALLAST_UA j) = s.get (Reg.BALLAST_UA j)) ∧
      (s.ready = true → s.pwr.drawAt + 64 ≤ s.clk.span → t.pwr = { s.pwr with drawAt := s.clk.span } ∧
        (∀ j, j < 6 → s.linkUp j = true →
          (s.flag (Reg.BALLAST_EN j) = true → t.get (Reg.SUPPLY_UA j) + 10 ≤ target ∧
            t.get (Reg.BALLAST_UA j) = min (target - t.get (Reg.SUPPLY_UA j)) 1000 ∧
            t.flag (Reg.BALLAST_SAT j) = decide (1000 < target - t.get (Reg.SUPPLY_UA j))) ∧
          (s.flag (Reg.BALLAST_EN j) = false → t.get (Reg.BALLAST_UA j) = 0)) ∧
        ((∃ j, j < 6 ∧ s.linkUp j = true ∧ s.flag (Reg.BALLAST_EN j) = true) → ∃ j, j < 6 ∧ s.linkUp j = true ∧
          s.flag (Reg.BALLAST_EN j) = true ∧ target = t.get (Reg.SUPPLY_UA j) + 10)) ∧
      ∀ j, j < 6 → s.linkUp j = false → t.get (Reg.BALLAST_UA j) = s.get (Reg.BALLAST_UA j))

/-- The tier links: a lane gives way to the other; a link that loses both, or comes up, raises its event, and what was on it is gone; a tier that
has drained keeps no record that is not on the link and reports what it lost; a wake channel asserts WAKE#; a supply loss clears the tier
but its calibration store, and its return starts the self-calibration. -/
def Obligations.TierLinksAndSupplies : Prop :=
  ∀ (s : State) (k : Nat), k ≤ 5 → s.ready = true →
    let l := s.tl k
    let only (t : State) : Prop := t = { s with link := t.link } ∧ ∀ j, j ≠ k → t.tl j = s.tl j
    let noted : Events := (latchNote (tierSrc k 7) s.now false s).evt
    (l.lane0 = true → l.lane1 = true → l.active ≤ 1 →
      (∃ u, exec (.tierLaneFail k l.active) s = .next (raise (tierSrc k 7) (1 + 16 * (1 - l.active)) u) ∧ u.evt = noted ∧
        only { u with evt := s.evt } ∧ (u.tl k).active = 1 - l.active ∧ laneUp (u.tl k) l.active = false ∧ laneUp (u.tl k) (1 - l.active) = true) ∧
      (∃ t, exec (.tierLaneFail k (1 - l.active)) s = .next t ∧ only t ∧ (t.tl k).active = l.active ∧
        laneUp (t.tl k) (1 - l.active) = false ∧ laneUp (t.tl k) l.active = true)) ∧
    (l.lane0 = false ∨ l.lane1 = false → ∀ i, exec (.tierLaneFail k i) s = .next s) ∧
    (l.lane0 = true ∨ l.lane1 = true → ∃ u, exec (.tierLinkDown k) s =
        .next (raise (tierSrc k 7) ((if l.supplyLow then 5 else 2) + 16 * l.active) u) ∧
      u.linkUp k = false ∧ (u.tl k).up = [] ∧ (u.tl k).draining = false ∧ (u.tl k).buf = l.buf ∧ (u.tl k).last = lastStatus s k ∧ u.evt = noted ∧
      u = { s with link := u.link, bal := u.bal, evt := u.evt } ∧ ∀ j, j ≠ k → u.tl j = s.tl j) ∧
    (l.lane0 = false → l.lane1 = false → exec (.tierLinkDown k) s = .next s ∧
      (l.supplied = true → ∀ lanes : Nat, lanes % 4 ≠ 0 → ∃ u, exec (.tierLinkUp k lanes) s =
          .next (raise (tierSrc k 7) (3 + 16 * (if bit lanes 0 then 0 else 1)) u) ∧
        (u.tl k).lane0 = bit lanes 0 ∧ (u.tl k).lane1 = bit lanes 1 ∧ (u.tl k).draining = true ∧ (u.tl k).buf = l.buf ∧
        (u.tl k).upUnsync = l.cold ∧ u.evt = noted ∧ u.get (Reg.EFF_SUBWIN k) = effCode s k ∧ fieldsSame [Reg.EFF_SUBWIN k] s u ∧
        u = { s with link := u.link, fab := u.fab, prim := u.prim, regs := u.regs, evt := u.evt }) ∧
      ∀ lanes : Nat, lanes % 4 = 0 → exec (.tierLinkUp k lanes) s = .next s) ∧
    (l.supplied = false ∨ s.linkUp k = true → ∀ lanes, exec (.tierLinkUp k lanes) s = .next s) ∧
    (s.linkUp k = true → l.draining = true → ∃ u, exec (.tierDrainDone k) s = .next (linkEvent k 4 (min 65535 l.lost) u) ∧
      (u.tl k).draining = false ∧ (u.tl k).lost = 0 ∧ u.clk = s.clk ∧
      (u.tl k).buf = l.buf.filter (fun r => l.up.any (fun x => x.isRec && x.span == r.span))) ∧
    (l.draining = false ∨ s.linkUp k = false → exec (.tierDrainDone k) s = .next s) ∧
    ((s.tl 0).supplied = true → kvGet (fun _ => false) s.pwr.wakeCh k = true → ∃ t, exec (.tierWake k) s = .next t ∧ t.evt.wake = true ∧
      kvGet (fun _ => false) t.pwr.wakeCh k = false ∧ t.regs = s.regs ∧ t.evt = { s.evt with wake := true } ∧
      t.pwr = { s.pwr with wakeCh := t.pwr.wakeCh }) ∧
    (kvGet (fun _ => false) s.pwr.wakeCh k = false ∨ (s.tl 0).supplied = false → exec (.tierWake k) s = .next s) ∧
    (l.supplied = true → ∃ t, exec (.tierSupplyLoss k) s = .next t ∧ (t.tl k).supplied = false ∧ (t.tl k).supplyLow = true ∧ (t.tl k).buf = [] ∧
      (t.tl k).up = [] ∧ (t.tl k).lane0 = l.lane0 ∧ (t.tl k).lane1 = l.lane1 ∧ t.pr k = TierPrim.reset ∧ t.sq k = TierSec.reset ∧
      t.tt k = TierTherm.reset ∧
      (∀ a, inTier k a = true → a ≠ Wd.CONV_FAULT k → a ≠ Wd.TH_PU k → a ≠ Wd.CB_UNPAIRED_W → a ≠ Wd.CB_LAST → a ≠ Wd.CUR_STATUS →
        t.word a = (resetWord a).toNat) ∧
      wordsSame (fun a => inTier k a = true) s t ∧ t.word (Wd.CONV_FAULT k) = s.word (Wd.CONV_FAULT k) ∧ t.clk = s.clk ∧
      (k = 0 → t.evt.wake = false ∧ t.ret.ok = (s.ret.ok && s.pwr.railsOk)) ∧ (k ≠ 0 → t.evt.wake = s.evt.wake ∧ t.ret = s.ret)) ∧
    (l.supplied = false → exec (.tierSupplyLoss k) s = .next s ∧ exec (.tierSelfCalDone k) s = .next s ∧
      ∀ osc : Bool, ∃ t, exec (.tierSelfCal k osc) s = .next t ∧
        (t.tl k).supplied = true ∧ (t.tl k).calibrating = true ∧ (t.tl k).cold = true ∧ (t.tl k).span = 0 ∧ t.clk = s.clk ∧
        (s.get (Reg.FAULTED k) = 0 → t.get (Reg.OSC_ACTIVE k) = b01 (!osc) ∧ t.evt = s.evt ∧ fieldsSame [Reg.OSC_ACTIVE k] s t)) ∧
    (l.supplied = true → (∀ osc, exec (.tierSelfCal k osc) s = .next s) ∧
      (l.calibrating = true → ∃ t, exec (.tierSelfCalDone k) s = .next t ∧ (t.tl k).calibrating = false ∧ (t.tl k).closed = none ∧
        (t.pr k).sincFrom = (l.span + 1) * 4096 ∧ (t.pr k).notchFrom = (l.span + 1) * 4096 ∧ (t.pr k).postFrom = (l.span + 1) * 4096 ∧
        (t.sq k).endAt = ((l.span + 1) * 4096, 0) ∧ t.evt = s.evt ∧ t.clk = s.clk ∧ fieldsSame [Reg.NOTCH_FILLING k] s t) ∧
      (l.calibrating = false → s.start.testing = some (5, k) → ∃ u, exec (.tierSelfCalDone k) s = .next (raise 490 6 u) ∧
        u.start.testing = none ∧ (u.pr k).recal = false ∧ u.regs = s.regs ∧ u.clk = s.clk) ∧
      (l.calibrating = false → s.start.testing ≠ some (5, k) → ∃ t, exec (.tierSelfCalDone k) s = .next t ∧ t = { s with prim := t.prim } ∧
        (t.pr k).recal = false))

/-! ### Reset -/

/-- Right after reset every word of configuration space reads as the Reset column of its table gives it, no command waits, no counter of a source is
valid, the base die is not READY, and every memory is in its canonical form. The values of what the tables do not lay out are the
model's choice (log entry 6). -/
def Obligations.ResetStateIsTheTables : Prop :=
  State.reset.pending = [] ∧ regsWf State.reset ∧ State.reset.ready = false ∧ (∀ a, State.reset.word a = (resetWord a).toNat) ∧
    (∀ i, (State.reset.seqSt i).valid = false) ∧ State.reset.get Reg.FREE_RATE = 800 ∧ State.reset.get Reg.HOLDOVER_SPANS = 256 ∧
    State.reset.get Reg.PEND_TIMEOUT = 64 ∧ State.reset.get Reg.MARK_LEAD = 32 ∧ State.reset.get Reg.M_LOG2 = 5 ∧ State.reset.get Reg.STATE = 0 ∧
    State.reset.get Reg.ROLE = 1 ∧ (∀ n, n < 108 → State.reset.get (Reg.CH_STATE n) = 0) ∧
    (∀ a, presetWord State.reset.win.filling a = 0 ∧ presetWord State.reset.win.completed a = 0)
end

