-- ==== Sys2Proof/Laws/Sparse.lean ====
section
/-!
SUPPORT. The laws of sparse maps: a read after a write, and that every operation keeps the canonical form.
-/

namespace Sys2Proof.Machine

variable {α : Type}

theorem kvGet_kvIns (d : Nat → α) (m : KV α) (k j : Nat) (v : α) :
    kvGet d (kvIns k v m) j = if k = j then v else kvGet d m j := by
  induction m with
  | nil => simp [kvIns, kvGet]
  | cons e m ih =>
    obtain ⟨a, w⟩ := e
    simp only [kvIns]
    by_cases h1 : k < a
    · simp [h1, kvGet]
    · by_cases h2 : a = k
      · subst h2; simp only [h1, if_false, if_true, kvGet]; by_cases h3 : a = j <;> simp [h3]
      · simp only [h1, h2, if_false, kvGet, ih]
        by_cases h3 : a = j
        · have : k ≠ j := fun e => h2 (h3.trans e.symm)
          simp [h3, this]
        · simp [h3]

theorem kvGet_kvDel (d : Nat → α) (m : KV α) (k j : Nat) :
    kvGet d (kvDel k m) j = if k = j then d j else kvGet d m j := by
  induction m with
  | nil => simp [kvDel, kvGet]
  | cons e m ih =>
    obtain ⟨a, w⟩ := e
    simp only [kvDel]
    by_cases h1 : a = k
    · subst h1
      simp only [if_true, ih, kvGet]
      by_cases h2 : a = j <;> simp [h2]
    · simp only [h1, if_false, kvGet, ih]
      by_cases h2 : a = j
      · have : k ≠ j := fun e => h1 (h2.trans e.symm)
        simp [h2, this]
      · simp [h2]

/-- Reading after a write: the value written at its key, and what was there at every other key. -/
theorem kvGet_kvSet [DecidableEq α] (d : Nat → α) (m : KV α) (k j : Nat) (v : α) :
    kvGet d (kvSet d m k v) j = if k = j then v else kvGet d m j := by
  unfold kvSet
  by_cases h : v = d k
  · rw [if_pos h, kvGet_kvDel]
    by_cases e : k = j
    · subst e; rw [if_pos rfl, if_pos rfl, h]
    · rw [if_neg e, if_neg e]
  · rw [if_neg h, kvGet_kvIns]

@[simp] theorem kvGet_kvSet_same [DecidableEq α] (d : Nat → α) (m : KV α) (k : Nat) (v : α) :
    kvGet d (kvSet d m k v) k = v := by simp [kvGet_kvSet]

theorem kvGet_kvSet_ne [DecidableEq α] (d : Nat → α) (m : KV α) (k j : Nat) (v : α) (h : k ≠ j) :
    kvGet d (kvSet d m k v) j = kvGet d m j := by simp [kvGet_kvSet, h]

theorem kvWfFrom_mono [DecidableEq α] (d : Nat → α) (m : KV α) (lo lo' : Nat) (h : lo' ≤ lo) (w : kvWfFrom d lo m = true) :
    kvWfFrom d lo' m = true := by
  cases m with
  | nil => rfl
  | cons e m => simp [kvWfFrom] at w ⊢; exact ⟨⟨by omega, w.1.2⟩, w.2⟩

theorem kvWfFrom_kvDel [DecidableEq α] (d : Nat → α) (m : KV α) (lo k : Nat) (w : kvWfFrom d lo m = true) :
    kvWfFrom d lo (kvDel k m) = true := by
  induction m generalizing lo with
  | nil => rfl
  | cons e m ih =>
    obtain ⟨a, v⟩ := e
    simp only [kvWfFrom, Bool.and_eq_true, decide_eq_true_eq] at w
    simp only [kvDel]
    split_ifs
    · exact kvWfFrom_mono d _ (a + 1) lo (by omega) (ih _ w.2)
    · simp only [kvWfFrom, Bool.and_eq_true, decide_eq_true_eq]; exact ⟨w.1, ih _ w.2⟩

theorem kvWfFrom_kvIns [DecidableEq α] (d : Nat → α) (m : KV α) (lo k : Nat) (v : α) (hv : v ≠ d k) (hl : lo ≤ k)
    (w : kvWfFrom d lo m = true) : kvWfFrom d lo (kvIns k v m) = true := by
  induction m generalizing lo with
  | nil => simp [kvIns, kvWfFrom, hv, hl]
  | cons e m ih =>
    obtain ⟨a, u⟩ := e
    simp only [kvWfFrom, Bool.and_eq_true, decide_eq_true_eq] at w
    simp only [kvIns]
    split_ifs with h1 h2
    · simp only [kvWfFrom, Bool.and_eq_true, decide_eq_true_eq]
      exact ⟨⟨hl, by simpa using hv⟩, ⟨by omega, w.1.2⟩, w.2⟩
    · subst h2
      simp only [kvWfFrom, Bool.and_eq_true, decide_eq_true_eq]
      exact ⟨⟨hl, by simpa using hv⟩, w.2⟩
    · simp only [kvWfFrom, Bool.and_eq_true, decide_eq_true_eq]
      exact ⟨w.1, ih _ (by omega) w.2⟩

/-- A write keeps the canonical form. -/
theorem kvWf_kvSet [DecidableEq α] (d : Nat → α) (m : KV α) (k : Nat) (v : α) (w : kvWf d m = true) :
    kvWf d (kvSet d m k v) = true := by
  unfold kvSet kvWf
  split_ifs with h
  · exact kvWfFrom_kvDel d m 0 k w
  · exact kvWfFrom_kvIns d m 0 k v h (by omega) w

theorem kvWfFrom_kvDrop [DecidableEq α] (d : Nat → α) (p : Nat → Bool) (m : KV α) (lo : Nat) (w : kvWfFrom d lo m = true) :
    kvWfFrom d lo (kvDrop p m) = true := by
  induction m generalizing lo with
  | nil => rfl
  | cons e m ih =>
    obtain ⟨a, v⟩ := e
    simp only [kvWfFrom, Bool.and_eq_true, decide_eq_true_eq] at w
    simp only [kvDrop]
    split_ifs
    · exact kvWfFrom_mono d _ (a + 1) lo (by omega) (ih _ w.2)
    · simp only [kvWfFrom, Bool.and_eq_true, decide_eq_true_eq]; exact ⟨w.1, ih _ w.2⟩

/-- Dropping keys keeps the canonical form. -/
theorem kvWf_kvDrop [DecidableEq α] (d : Nat → α) (p : Nat → Bool) (m : KV α) (w : kvWf d m = true) :
    kvWf d (kvDrop p m) = true := kvWfFrom_kvDrop d p m 0 w

end Sys2Proof.Machine
end

