-- ==== Sys2Proof/Laws/Regs.lean ====
section
/-!
SUPPORT. The laws of configuration words: a field reads what was last written to it, a write to one word leaves the fields of
every other word, a write to one field leaves the other fields of its word, and every write keeps the canonical form.
-/

namespace Sys2Proof.Machine

theorem bitsOf_lt (x lo w : Nat) : bitsOf x lo w < 2 ^ w := Nat.mod_lt _ (by positivity)

theorem putBits_lt (x lo w v : Nat) (hx : x < 2 ^ 32) (h : lo + w ≤ 32) : putBits x lo w v < 2 ^ 32 := by
  unfold putBits
  obtain ⟨c, hc⟩ : ∃ c, 32 = lo + w + c := ⟨32 - (lo + w), by omega⟩
  have e : 2 ^ 32 = 2 ^ (lo + w) * 2 ^ c := by rw [hc, pow_add]
  have h1 : x / 2 ^ (lo + w) < 2 ^ c := by
    apply Nat.div_lt_of_lt_mul; rw [← e]; exact hx
  have h2 : x % 2 ^ lo < 2 ^ lo := Nat.mod_lt _ (by positivity)
  have h3 : v % 2 ^ w < 2 ^ w := Nat.mod_lt _ (by positivity)
  have h4 : x % 2 ^ lo + (v % 2 ^ w) * 2 ^ lo < 2 ^ (lo + w) := by
    rw [pow_add]; nlinarith [Nat.pos_of_ne_zero (pow_ne_zero lo (two_ne_zero (α := Nat)))]
  rw [e]; nlinarith [Nat.pos_of_ne_zero (pow_ne_zero (lo + w) (two_ne_zero (α := Nat)))]

theorem bitsOf_putBits (x lo w v : Nat) : bitsOf (putBits x lo w v) lo w = v % 2 ^ w := by
  unfold bitsOf putBits
  have p : 0 < 2 ^ lo := by positivity
  have e : x % 2 ^ lo + v % 2 ^ w * 2 ^ lo + x / 2 ^ (lo + w) * 2 ^ (lo + w)
      = x % 2 ^ lo + 2 ^ lo * (v % 2 ^ w + 2 ^ w * (x / 2 ^ (lo + w))) := by rw [pow_add]; ring
  rw [e, Nat.add_mul_div_left _ _ p, Nat.div_eq_of_lt (Nat.mod_lt _ p), Nat.zero_add, Nat.add_mul_mod_self_left, Nat.mod_mod]

/-- A bit outside the field that is put keeps its value. -/
theorem testBit_putBits (x lo w v i : Nat) :
    (putBits x lo w v).testBit i = if lo ≤ i ∧ i < lo + w then v.testBit (i - lo) else x.testBit i := by
  have e : putBits x lo w v = x % 2 ^ lo ||| (((v % 2 ^ w) <<< lo) ||| ((x >>> (lo + w)) <<< (lo + w))) := by
    unfold putBits
    have a1 : (v % 2 ^ w) <<< lo = v % 2 ^ w * 2 ^ lo := Nat.shiftLeft_eq _ _
    have a2 : (x >>> (lo + w)) <<< (lo + w) = x / 2 ^ (lo + w) * 2 ^ (lo + w) := by rw [Nat.shiftLeft_eq, Nat.shiftRight_eq_div_pow]
    have h4 : (v % 2 ^ w) <<< lo < 2 ^ (lo + w) := by
      rw [a1, pow_add, mul_comm]; exact Nat.mul_lt_mul_of_pos_left (Nat.mod_lt _ (by positivity)) (by positivity)
    have b1 : ((x >>> (lo + w)) <<< (lo + w)) ||| ((v % 2 ^ w) <<< lo) = ((x >>> (lo + w)) <<< (lo + w)) + ((v % 2 ^ w) <<< lo) := by
      rw [← Nat.shiftLeft_add_eq_or_of_lt h4]
    have b2 : ((v % 2 ^ w) <<< lo ||| (x >>> (lo + w)) <<< (lo + w)) = ((v % 2 ^ w + (x >>> (lo + w)) * 2 ^ w) <<< lo) := by
      rw [Nat.lor_comm, b1, a1, Nat.shiftLeft_eq, Nat.shiftLeft_eq, pow_add]; ring
    have b3 : ((v % 2 ^ w + (x >>> (lo + w)) * 2 ^ w) <<< lo) ||| x % 2 ^ lo
        = ((v % 2 ^ w + (x >>> (lo + w)) * 2 ^ w) <<< lo) + x % 2 ^ lo := by
      rw [← Nat.shiftLeft_add_eq_or_of_lt (Nat.mod_lt _ (by positivity))]
    rw [b2, Nat.lor_comm, b3, Nat.shiftLeft_eq, Nat.shiftRight_eq_div_pow, pow_add]; ring
  rw [e]
  simp only [Nat.testBit_or, Nat.testBit_mod_two_pow, Nat.testBit_shiftLeft, Nat.testBit_shiftRight]
  by_cases h1 : i < lo
  · simp [h1, show ¬ lo ≤ i by omega, show ¬ lo + w ≤ i by omega]
  · by_cases h2 : i < lo + w
    · simp [h1, h2, show lo ≤ i by omega, show ¬ lo + w ≤ i by omega, show i - lo < w by omega]
    · simp [h1, h2, show lo + w ≤ i by omega, show ¬ (i - lo < w) by omega, show lo + w + (i - (lo + w)) = i by omega]

/-- The fields of one word that do not overlap do not disturb one another. -/
theorem bitsOf_putBits_ne (x lo w v lo' w' : Nat) (h : lo' + w' ≤ lo ∨ lo + w ≤ lo') :
    bitsOf (putBits x lo w v) lo' w' = bitsOf x lo' w' := by
  unfold bitsOf
  apply Nat.eq_of_testBit_eq
  intro i
  simp only [Nat.testBit_mod_two_pow, Nat.testBit_div_two_pow, testBit_putBits]
  by_cases hi : i < w'
  · rw [if_neg (by omega)]
  · simp [hi]

theorem wordAt_lt (m : WordMap) (a : Nat) : wordAt m a < 2 ^ 32 := BitVec.isLt _

theorem wordAt_putWord (m : WordMap) (a b v : Nat) :
    wordAt (putWord m a v) b = if a = b then v % 2 ^ 32 else wordAt m b := by
  unfold wordAt putWord
  rw [kvGet_kvSet]
  split_ifs <;> simp

theorem fieldAt_putField_word (m : WordMap) (f g : Field) (v : Nat) (h : f.a ≠ g.a) :
    fieldAt (putField m f v) g = fieldAt m g := by
  simp [fieldAt, putField, wordAt_putWord, h]

theorem fieldAt_putField_bits (m : WordMap) (f g : Field) (v : Nat) (hf : f.lo + f.w ≤ 32)
    (h : g.lo + g.w ≤ f.lo ∨ f.lo + f.w ≤ g.lo) : fieldAt (putField m f v) g = fieldAt m g := by
  unfold fieldAt putField
  rw [wordAt_putWord]
  split_ifs with e
  · rw [Nat.mod_eq_of_lt (putBits_lt _ _ _ _ (wordAt_lt _ _) hf), bitsOf_putBits_ne _ _ _ _ _ _ h, e]
  · rfl

theorem fieldAt_putField (m : WordMap) (f : Field) (v : Nat) (hf : f.lo + f.w ≤ 32) :
    fieldAt (putField m f v) f = v % 2 ^ f.w := by
  unfold fieldAt putField
  rw [wordAt_putWord, if_pos rfl, Nat.mod_eq_of_lt (putBits_lt _ _ _ _ (wordAt_lt _ _) hf), bitsOf_putBits]

/-- Two fields do not share a bit. -/
def Field.apart (f g : Field) : Prop := f.a ≠ g.a ∨ (f.lo + f.w ≤ 32 ∧ (g.lo + g.w ≤ f.lo ∨ f.lo + f.w ≤ g.lo))

/-- A field reads what was written to it, modulo its width. -/
theorem State.get_put (s : State) (f : Field) (v : Nat) (hf : f.lo + f.w ≤ 32) : (s.put f v).get f = v % 2 ^ f.w :=
  fieldAt_putField _ _ _ hf

/-- A write to a field leaves every field that shares no bit with it. -/
theorem State.get_put_apart (s : State) (f g : Field) (v : Nat) (h : f.apart g) : (s.put f v).get g = s.get g := by
  rcases h with h | ⟨h1, h2⟩
  · exact fieldAt_putField_word _ _ _ _ h
  · exact fieldAt_putField_bits _ _ _ _ h1 h2

/-- A write to a field of another word leaves a field. -/
theorem State.get_put_word (s : State) (f g : Field) (v : Nat) (h : f.a ≠ g.a) : (s.put f v).get g = s.get g :=
  fieldAt_putField_word _ _ _ _ h

theorem State.flag_put_apart (s : State) (f g : Field) (v : Nat) (h : f.apart g) : (s.put f v).flag g = s.flag g := by
  have := State.get_put_apart s f g v h
  unfold State.flag State.get at *
  rw [this]

theorem State.word_putW (s : State) (a b v : Nat) : (s.putW a v).word b = if a = b then v % 2 ^ 32 else s.word b :=
  wordAt_putWord _ _ _ _

/-- A write to a word keeps the canonical form of the word map. -/
theorem kvWf_putWord (m : WordMap) (a v : Nat) (w : kvWf resetWord m = true) : kvWf resetWord (putWord m a v) = true :=
  kvWf_kvSet _ _ _ _ w

theorem kvWf_putField (m : WordMap) (f : Field) (v : Nat) (w : kvWf resetWord m = true) :
    kvWf resetWord (putField m f v) = true := kvWf_putWord _ _ _ w

end Sys2Proof.Machine
end

