-- ==== Sys2Proof/Laws/State.lean ====
section
/-!
SUPPORT. What each named update of the state leaves: one lemma for each field of State that it does not touch, and what the
accessor of the updated part reads afterwards.
-/

namespace Sys2Proof.Machine

@[simp] theorem State.put_pending (s : State) (f : Field) (v : Nat) : (s.put f v).pending = s.pending := rfl
@[simp] theorem State.put_clk (s : State) (f : Field) (v : Nat) : (s.put f v).clk = s.clk := rfl
@[simp] theorem State.put_free (s : State) (f : Field) (v : Nat) : (s.put f v).free = s.free := rfl
@[simp] theorem State.put_evt (s : State) (f : Field) (v : Nat) : (s.put f v).evt = s.evt := rfl
@[simp] theorem State.put_host (s : State) (f : Field) (v : Nat) : (s.put f v).host = s.host := rfl
@[simp] theorem State.put_win (s : State) (f : Field) (v : Nat) : (s.put f v).win = s.win := rfl
@[simp] theorem State.put_tb (s : State) (f : Field) (v : Nat) : (s.put f v).tb = s.tb := rfl
@[simp] theorem State.put_chain (s : State) (f : Field) (v : Nat) : (s.put f v).chain = s.chain := rfl
@[simp] theorem State.put_pwr (s : State) (f : Field) (v : Nat) : (s.put f v).pwr = s.pwr := rfl
@[simp] theorem State.put_ret (s : State) (f : Field) (v : Nat) : (s.put f v).ret = s.ret := rfl
@[simp] theorem State.put_tw (s : State) (f : Field) (v : Nat) : (s.put f v).tw = s.tw := rfl
@[simp] theorem State.put_start (s : State) (f : Field) (v : Nat) : (s.put f v).start = s.start := rfl
@[simp] theorem State.put_link (s : State) (f : Field) (v : Nat) : (s.put f v).link = s.link := rfl
@[simp] theorem State.put_prim (s : State) (f : Field) (v : Nat) : (s.put f v).prim = s.prim := rfl
@[simp] theorem State.put_sec (s : State) (f : Field) (v : Nat) : (s.put f v).sec = s.sec := rfl
@[simp] theorem State.put_temps (s : State) (f : Field) (v : Nat) : (s.put f v).temps = s.temps := rfl
@[simp] theorem State.put_cur (s : State) (f : Field) (v : Nat) : (s.put f v).cur = s.cur := rfl
@[simp] theorem State.put_exc (s : State) (f : Field) (v : Nat) : (s.put f v).exc = s.exc := rfl
@[simp] theorem State.put_fab (s : State) (f : Field) (v : Nat) : (s.put f v).fab = s.fab := rfl
@[simp] theorem State.put_bal (s : State) (f : Field) (v : Nat) : (s.put f v).bal = s.bal := rfl
@[simp] theorem State.put_ready (s : State) (f : Field) (v : Nat) : (s.put f v).ready = s.ready := rfl

@[simp] theorem State.putFlag_pending (s : State) (f : Field) (v : Bool) : (s.putFlag f v).pending = s.pending := rfl
@[simp] theorem State.putFlag_clk (s : State) (f : Field) (v : Bool) : (s.putFlag f v).clk = s.clk := rfl
@[simp] theorem State.putFlag_free (s : State) (f : Field) (v : Bool) : (s.putFlag f v).free = s.free := rfl
@[simp] theorem State.putFlag_evt (s : State) (f : Field) (v : Bool) : (s.putFlag f v).evt = s.evt := rfl
@[simp] theorem State.putFlag_host (s : State) (f : Field) (v : Bool) : (s.putFlag f v).host = s.host := rfl
@[simp] theorem State.putFlag_win (s : State) (f : Field) (v : Bool) : (s.putFlag f v).win = s.win := rfl
@[simp] theorem State.putFlag_tb (s : State) (f : Field) (v : Bool) : (s.putFlag f v).tb = s.tb := rfl
@[simp] theorem State.putFlag_chain (s : State) (f : Field) (v : Bool) : (s.putFlag f v).chain = s.chain := rfl
@[simp] theorem State.putFlag_pwr (s : State) (f : Field) (v : Bool) : (s.putFlag f v).pwr = s.pwr := rfl
@[simp] theorem State.putFlag_ret (s : State) (f : Field) (v : Bool) : (s.putFlag f v).ret = s.ret := rfl
@[simp] theorem State.putFlag_tw (s : State) (f : Field) (v : Bool) : (s.putFlag f v).tw = s.tw := rfl
@[simp] theorem State.putFlag_start (s : State) (f : Field) (v : Bool) : (s.putFlag f v).start = s.start := rfl
@[simp] theorem State.putFlag_link (s : State) (f : Field) (v : Bool) : (s.putFlag f v).link = s.link := rfl
@[simp] theorem State.putFlag_prim (s : State) (f : Field) (v : Bool) : (s.putFlag f v).prim = s.prim := rfl
@[simp] theorem State.putFlag_sec (s : State) (f : Field) (v : Bool) : (s.putFlag f v).sec = s.sec := rfl
@[simp] theorem State.putFlag_temps (s : State) (f : Field) (v : Bool) : (s.putFlag f v).temps = s.temps := rfl
@[simp] theorem State.putFlag_cur (s : State) (f : Field) (v : Bool) : (s.putFlag f v).cur = s.cur := rfl
@[simp] theorem State.putFlag_exc (s : State) (f : Field) (v : Bool) : (s.putFlag f v).exc = s.exc := rfl
@[simp] theorem State.putFlag_fab (s : State) (f : Field) (v : Bool) : (s.putFlag f v).fab = s.fab := rfl
@[simp] theorem State.putFlag_bal (s : State) (f : Field) (v : Bool) : (s.putFlag f v).bal = s.bal := rfl
@[simp] theorem State.putFlag_ready (s : State) (f : Field) (v : Bool) : (s.putFlag f v).ready = s.ready := rfl

@[simp] theorem State.putS_pending (s : State) (f : Field) (v : Int) : (s.putS f v).pending = s.pending := rfl
@[simp] theorem State.putS_clk (s : State) (f : Field) (v : Int) : (s.putS f v).clk = s.clk := rfl
@[simp] theorem State.putS_free (s : State) (f : Field) (v : Int) : (s.putS f v).free = s.free := rfl
@[simp] theorem State.putS_evt (s : State) (f : Field) (v : Int) : (s.putS f v).evt = s.evt := rfl
@[simp] theorem State.putS_host (s : State) (f : Field) (v : Int) : (s.putS f v).host = s.host := rfl
@[simp] theorem State.putS_win (s : State) (f : Field) (v : Int) : (s.putS f v).win = s.win := rfl
@[simp] theorem State.putS_tb (s : State) (f : Field) (v : Int) : (s.putS f v).tb = s.tb := rfl
@[simp] theorem State.putS_chain (s : State) (f : Field) (v : Int) : (s.putS f v).chain = s.chain := rfl
@[simp] theorem State.putS_pwr (s : State) (f : Field) (v : Int) : (s.putS f v).pwr = s.pwr := rfl
@[simp] theorem State.putS_ret (s : State) (f : Field) (v : Int) : (s.putS f v).ret = s.ret := rfl
@[simp] theorem State.putS_tw (s : State) (f : Field) (v : Int) : (s.putS f v).tw = s.tw := rfl
@[simp] theorem State.putS_start (s : State) (f : Field) (v : Int) : (s.putS f v).start = s.start := rfl
@[simp] theorem State.putS_link (s : State) (f : Field) (v : Int) : (s.putS f v).link = s.link := rfl
@[simp] theorem State.putS_prim (s : State) (f : Field) (v : Int) : (s.putS f v).prim = s.prim := rfl
@[simp] theorem State.putS_sec (s : State) (f : Field) (v : Int) : (s.putS f v).sec = s.sec := rfl
@[simp] theorem State.putS_temps (s : State) (f : Field) (v : Int) : (s.putS f v).temps = s.temps := rfl
@[simp] theorem State.putS_cur (s : State) (f : Field) (v : Int) : (s.putS f v).cur = s.cur := rfl
@[simp] theorem State.putS_exc (s : State) (f : Field) (v : Int) : (s.putS f v).exc = s.exc := rfl
@[simp] theorem State.putS_fab (s : State) (f : Field) (v : Int) : (s.putS f v).fab = s.fab := rfl
@[simp] theorem State.putS_bal (s : State) (f : Field) (v : Int) : (s.putS f v).bal = s.bal := rfl
@[simp] theorem State.putS_ready (s : State) (f : Field) (v : Int) : (s.putS f v).ready = s.ready := rfl

@[simp] theorem State.bumpBy_pending (s : State) (f : Field) (v : Nat) : (s.bumpBy f v).pending = s.pending := rfl
@[simp] theorem State.bumpBy_clk (s : State) (f : Field) (v : Nat) : (s.bumpBy f v).clk = s.clk := rfl
@[simp] theorem State.bumpBy_free (s : State) (f : Field) (v : Nat) : (s.bumpBy f v).free = s.free := rfl
@[simp] theorem State.bumpBy_evt (s : State) (f : Field) (v : Nat) : (s.bumpBy f v).evt = s.evt := rfl
@[simp] theorem State.bumpBy_host (s : State) (f : Field) (v : Nat) : (s.bumpBy f v).host = s.host := rfl
@[simp] theorem State.bumpBy_win (s : State) (f : Field) (v : Nat) : (s.bumpBy f v).win = s.win := rfl
@[simp] theorem State.bumpBy_tb (s : State) (f : Field) (v : Nat) : (s.bumpBy f v).tb = s.tb := rfl
@[simp] theorem State.bumpBy_chain (s : State) (f : Field) (v : Nat) : (s.bumpBy f v).chain = s.chain := rfl
@[simp] theorem State.bumpBy_pwr (s : State) (f : Field) (v : Nat) : (s.bumpBy f v).pwr = s.pwr := rfl
@[simp] theorem State.bumpBy_ret (s : State) (f : Field) (v : Nat) : (s.bumpBy f v).ret = s.ret := rfl
@[simp] theorem State.bumpBy_tw (s : State) (f : Field) (v : Nat) : (s.bumpBy f v).tw = s.tw := rfl
@[simp] theorem State.bumpBy_start (s : State) (f : Field) (v : Nat) : (s.bumpBy f v).start = s.start := rfl
@[simp] theorem State.bumpBy_link (s : State) (f : Field) (v : Nat) : (s.bumpBy f v).link = s.link := rfl
@[simp] theorem State.bumpBy_prim (s : State) (f : Field) (v : Nat) : (s.bumpBy f v).prim = s.prim := rfl
@[simp] theorem State.bumpBy_sec (s : State) (f : Field) (v : Nat) : (s.bumpBy f v).sec = s.sec := rfl
@[simp] theorem State.bumpBy_temps (s : State) (f : Field) (v : Nat) : (s.bumpBy f v).temps = s.temps := rfl
@[simp] theorem State.bumpBy_cur (s : State) (f : Field) (v : Nat) : (s.bumpBy f v).cur = s.cur := rfl
@[simp] theorem State.bumpBy_exc (s : State) (f : Field) (v : Nat) : (s.bumpBy f v).exc = s.exc := rfl
@[simp] theorem State.bumpBy_fab (s : State) (f : Field) (v : Nat) : (s.bumpBy f v).fab = s.fab := rfl
@[simp] theorem State.bumpBy_bal (s : State) (f : Field) (v : Nat) : (s.bumpBy f v).bal = s.bal := rfl
@[simp] theorem State.bumpBy_ready (s : State) (f : Field) (v : Nat) : (s.bumpBy f v).ready = s.ready := rfl

@[simp] theorem State.bump_pending (s : State) (f : Field) : (s.bump f).pending = s.pending := rfl
@[simp] theorem State.bump_clk (s : State) (f : Field) : (s.bump f).clk = s.clk := rfl
@[simp] theorem State.bump_free (s : State) (f : Field) : (s.bump f).free = s.free := rfl
@[simp] theorem State.bump_evt (s : State) (f : Field) : (s.bump f).evt = s.evt := rfl
@[simp] theorem State.bump_host (s : State) (f : Field) : (s.bump f).host = s.host := rfl
@[simp] theorem State.bump_win (s : State) (f : Field) : (s.bump f).win = s.win := rfl
@[simp] theorem State.bump_tb (s : State) (f : Field) : (s.bump f).tb = s.tb := rfl
@[simp] theorem State.bump_chain (s : State) (f : Field) : (s.bump f).chain = s.chain := rfl
@[simp] theorem State.bump_pwr (s : State) (f : Field) : (s.bump f).pwr = s.pwr := rfl
@[simp] theorem State.bump_ret (s : State) (f : Field) : (s.bump f).ret = s.ret := rfl
@[simp] theorem State.bump_tw (s : State) (f : Field) : (s.bump f).tw = s.tw := rfl
@[simp] theorem State.bump_start (s : State) (f : Field) : (s.bump f).start = s.start := rfl
@[simp] theorem State.bump_link (s : State) (f : Field) : (s.bump f).link = s.link := rfl
@[simp] theorem State.bump_prim (s : State) (f : Field) : (s.bump f).prim = s.prim := rfl
@[simp] theorem State.bump_sec (s : State) (f : Field) : (s.bump f).sec = s.sec := rfl
@[simp] theorem State.bump_temps (s : State) (f : Field) : (s.bump f).temps = s.temps := rfl
@[simp] theorem State.bump_cur (s : State) (f : Field) : (s.bump f).cur = s.cur := rfl
@[simp] theorem State.bump_exc (s : State) (f : Field) : (s.bump f).exc = s.exc := rfl
@[simp] theorem State.bump_fab (s : State) (f : Field) : (s.bump f).fab = s.fab := rfl
@[simp] theorem State.bump_bal (s : State) (f : Field) : (s.bump f).bal = s.bal := rfl
@[simp] theorem State.bump_ready (s : State) (f : Field) : (s.bump f).ready = s.ready := rfl

@[simp] theorem State.putW_pending (s : State) (a v : Nat) : (s.putW a v).pending = s.pending := rfl
@[simp] theorem State.putW_clk (s : State) (a v : Nat) : (s.putW a v).clk = s.clk := rfl
@[simp] theorem State.putW_free (s : State) (a v : Nat) : (s.putW a v).free = s.free := rfl
@[simp] theorem State.putW_evt (s : State) (a v : Nat) : (s.putW a v).evt = s.evt := rfl
@[simp] theorem State.putW_host (s : State) (a v : Nat) : (s.putW a v).host = s.host := rfl
@[simp] theorem State.putW_win (s : State) (a v : Nat) : (s.putW a v).win = s.win := rfl
@[simp] theorem State.putW_tb (s : State) (a v : Nat) : (s.putW a v).tb = s.tb := rfl
@[simp] theorem State.putW_chain (s : State) (a v : Nat) : (s.putW a v).chain = s.chain := rfl
@[simp] theorem State.putW_pwr (s : State) (a v : Nat) : (s.putW a v).pwr = s.pwr := rfl
@[simp] theorem State.putW_ret (s : State) (a v : Nat) : (s.putW a v).ret = s.ret := rfl
@[simp] theorem State.putW_tw (s : State) (a v : Nat) : (s.putW a v).tw = s.tw := rfl
@[simp] theorem State.putW_start (s : State) (a v : Nat) : (s.putW a v).start = s.start := rfl
@[simp] theorem State.putW_link (s : State) (a v : Nat) : (s.putW a v).link = s.link := rfl
@[simp] theorem State.putW_prim (s : State) (a v : Nat) : (s.putW a v).prim = s.prim := rfl
@[simp] theorem State.putW_sec (s : State) (a v : Nat) : (s.putW a v).sec = s.sec := rfl
@[simp] theorem State.putW_temps (s : State) (a v : Nat) : (s.putW a v).temps = s.temps := rfl
@[simp] theorem State.putW_cur (s : State) (a v : Nat) : (s.putW a v).cur = s.cur := rfl
@[simp] theorem State.putW_exc (s : State) (a v : Nat) : (s.putW a v).exc = s.exc := rfl
@[simp] theorem State.putW_fab (s : State) (a v : Nat) : (s.putW a v).fab = s.fab := rfl
@[simp] theorem State.putW_bal (s : State) (a v : Nat) : (s.putW a v).bal = s.bal := rfl
@[simp] theorem State.putW_ready (s : State) (a v : Nat) : (s.putW a v).ready = s.ready := rfl

@[simp] theorem State.setTl_pending (s : State) (k : Nat) (v : TierLink) : (s.setTl k v).pending = s.pending := rfl
@[simp] theorem State.setTl_clk (s : State) (k : Nat) (v : TierLink) : (s.setTl k v).clk = s.clk := rfl
@[simp] theorem State.setTl_regs (s : State) (k : Nat) (v : TierLink) : (s.setTl k v).regs = s.regs := rfl
@[simp] theorem State.setTl_free (s : State) (k : Nat) (v : TierLink) : (s.setTl k v).free = s.free := rfl
@[simp] theorem State.setTl_evt (s : State) (k : Nat) (v : TierLink) : (s.setTl k v).evt = s.evt := rfl
@[simp] theorem State.setTl_host (s : State) (k : Nat) (v : TierLink) : (s.setTl k v).host = s.host := rfl
@[simp] theorem State.setTl_win (s : State) (k : Nat) (v : TierLink) : (s.setTl k v).win = s.win := rfl
@[simp] theorem State.setTl_tb (s : State) (k : Nat) (v : TierLink) : (s.setTl k v).tb = s.tb := rfl
@[simp] theorem State.setTl_chain (s : State) (k : Nat) (v : TierLink) : (s.setTl k v).chain = s.chain := rfl
@[simp] theorem State.setTl_pwr (s : State) (k : Nat) (v : TierLink) : (s.setTl k v).pwr = s.pwr := rfl
@[simp] theorem State.setTl_ret (s : State) (k : Nat) (v : TierLink) : (s.setTl k v).ret = s.ret := rfl
@[simp] theorem State.setTl_tw (s : State) (k : Nat) (v : TierLink) : (s.setTl k v).tw = s.tw := rfl
@[simp] theorem State.setTl_start (s : State) (k : Nat) (v : TierLink) : (s.setTl k v).start = s.start := rfl
@[simp] theorem State.setTl_prim (s : State) (k : Nat) (v : TierLink) : (s.setTl k v).prim = s.prim := rfl
@[simp] theorem State.setTl_sec (s : State) (k : Nat) (v : TierLink) : (s.setTl k v).sec = s.sec := rfl
@[simp] theorem State.setTl_temps (s : State) (k : Nat) (v : TierLink) : (s.setTl k v).temps = s.temps := rfl
@[simp] theorem State.setTl_cur (s : State) (k : Nat) (v : TierLink) : (s.setTl k v).cur = s.cur := rfl
@[simp] theorem State.setTl_exc (s : State) (k : Nat) (v : TierLink) : (s.setTl k v).exc = s.exc := rfl
@[simp] theorem State.setTl_fab (s : State) (k : Nat) (v : TierLink) : (s.setTl k v).fab = s.fab := rfl
@[simp] theorem State.setTl_bal (s : State) (k : Nat) (v : TierLink) : (s.setTl k v).bal = s.bal := rfl
@[simp] theorem State.setTl_get (s : State) (k : Nat) (v : TierLink) (r : Field) : (s.setTl k v).get r = s.get r := rfl
@[simp] theorem State.setTl_flag (s : State) (k : Nat) (v : TierLink) (r : Field) : (s.setTl k v).flag r = s.flag r := rfl
@[simp] theorem State.setTl_ready (s : State) (k : Nat) (v : TierLink) : (s.setTl k v).ready = s.ready := rfl

@[simp] theorem State.setPr_pending (s : State) (k : Nat) (v : TierPrim) : (s.setPr k v).pending = s.pending := rfl
@[simp] theorem State.setPr_clk (s : State) (k : Nat) (v : TierPrim) : (s.setPr k v).clk = s.clk := rfl
@[simp] theorem State.setPr_regs (s : State) (k : Nat) (v : TierPrim) : (s.setPr k v).regs = s.regs := rfl
@[simp] theorem State.setPr_free (s : State) (k : Nat) (v : TierPrim) : (s.setPr k v).free = s.free := rfl
@[simp] theorem State.setPr_evt (s : State) (k : Nat) (v : TierPrim) : (s.setPr k v).evt = s.evt := rfl
@[simp] theorem State.setPr_host (s : State) (k : Nat) (v : TierPrim) : (s.setPr k v).host = s.host := rfl
@[simp] theorem State.setPr_win (s : State) (k : Nat) (v : TierPrim) : (s.setPr k v).win = s.win := rfl
@[simp] theorem State.setPr_tb (s : State) (k : Nat) (v : TierPrim) : (s.setPr k v).tb = s.tb := rfl
@[simp] theorem State.setPr_chain (s : State) (k : Nat) (v : TierPrim) : (s.setPr k v).chain = s.chain := rfl
@[simp] theorem State.setPr_pwr (s : State) (k : Nat) (v : TierPrim) : (s.setPr k v).pwr = s.pwr := rfl
@[simp] theorem State.setPr_ret (s : State) (k : Nat) (v : TierPrim) : (s.setPr k v).ret = s.ret := rfl
@[simp] theorem State.setPr_tw (s : State) (k : Nat) (v : TierPrim) : (s.setPr k v).tw = s.tw := rfl
@[simp] theorem State.setPr_start (s : State) (k : Nat) (v : TierPrim) : (s.setPr k v).start = s.start := rfl
@[simp] theorem State.setPr_link (s : State) (k : Nat) (v : TierPrim) : (s.setPr k v).link = s.link := rfl
@[simp] theorem State.setPr_sec (s : State) (k : Nat) (v : TierPrim) : (s.setPr k v).sec = s.sec := rfl
@[simp] theorem State.setPr_temps (s : State) (k : Nat) (v : TierPrim) : (s.setPr k v).temps = s.temps := rfl
@[simp] theorem State.setPr_cur (s : State) (k : Nat) (v : TierPrim) : (s.setPr k v).cur = s.cur := rfl
@[simp] theorem State.setPr_exc (s : State) (k : Nat) (v : TierPrim) : (s.setPr k v).exc = s.exc := rfl
@[simp] theorem State.setPr_fab (s : State) (k : Nat) (v : TierPrim) : (s.setPr k v).fab = s.fab := rfl
@[simp] theorem State.setPr_bal (s : State) (k : Nat) (v : TierPrim) : (s.setPr k v).bal = s.bal := rfl
@[simp] theorem State.setPr_get (s : State) (k : Nat) (v : TierPrim) (r : Field) : (s.setPr k v).get r = s.get r := rfl
@[simp] theorem State.setPr_flag (s : State) (k : Nat) (v : TierPrim) (r : Field) : (s.setPr k v).flag r = s.flag r := rfl
@[simp] theorem State.setPr_ready (s : State) (k : Nat) (v : TierPrim) : (s.setPr k v).ready = s.ready := rfl

@[simp] theorem State.setSq_pending (s : State) (k : Nat) (v : TierSec) : (s.setSq k v).pending = s.pending := rfl
@[simp] theorem State.setSq_clk (s : State) (k : Nat) (v : TierSec) : (s.setSq k v).clk = s.clk := rfl
@[simp] theorem State.setSq_regs (s : State) (k : Nat) (v : TierSec) : (s.setSq k v).regs = s.regs := rfl
@[simp] theorem State.setSq_free (s : State) (k : Nat) (v : TierSec) : (s.setSq k v).free = s.free := rfl
@[simp] theorem State.setSq_evt (s : State) (k : Nat) (v : TierSec) : (s.setSq k v).evt = s.evt := rfl
@[simp] theorem State.setSq_host (s : State) (k : Nat) (v : TierSec) : (s.setSq k v).host = s.host := rfl
@[simp] theorem State.setSq_win (s : State) (k : Nat) (v : TierSec) : (s.setSq k v).win = s.win := rfl
@[simp] theorem State.setSq_tb (s : State) (k : Nat) (v : TierSec) : (s.setSq k v).tb = s.tb := rfl
@[simp] theorem State.setSq_chain (s : State) (k : Nat) (v : TierSec) : (s.setSq k v).chain = s.chain := rfl
@[simp] theorem State.setSq_pwr (s : State) (k : Nat) (v : TierSec) : (s.setSq k v).pwr = s.pwr := rfl
@[simp] theorem State.setSq_ret (s : State) (k : Nat) (v : TierSec) : (s.setSq k v).ret = s.ret := rfl
@[simp] theorem State.setSq_tw (s : State) (k : Nat) (v : TierSec) : (s.setSq k v).tw = s.tw := rfl
@[simp] theorem State.setSq_start (s : State) (k : Nat) (v : TierSec) : (s.setSq k v).start = s.start := rfl
@[simp] theorem State.setSq_link (s : State) (k : Nat) (v : TierSec) : (s.setSq k v).link = s.link := rfl
@[simp] theorem State.setSq_prim (s : State) (k : Nat) (v : TierSec) : (s.setSq k v).prim = s.prim := rfl
@[simp] theorem State.setSq_temps (s : State) (k : Nat) (v : TierSec) : (s.setSq k v).temps = s.temps := rfl
@[simp] theorem State.setSq_cur (s : State) (k : Nat) (v : TierSec) : (s.setSq k v).cur = s.cur := rfl
@[simp] theorem State.setSq_exc (s : State) (k : Nat) (v : TierSec) : (s.setSq k v).exc = s.exc := rfl
@[simp] theorem State.setSq_fab (s : State) (k : Nat) (v : TierSec) : (s.setSq k v).fab = s.fab := rfl
@[simp] theorem State.setSq_bal (s : State) (k : Nat) (v : TierSec) : (s.setSq k v).bal = s.bal := rfl
@[simp] theorem State.setSq_get (s : State) (k : Nat) (v : TierSec) (r : Field) : (s.setSq k v).get r = s.get r := rfl
@[simp] theorem State.setSq_flag (s : State) (k : Nat) (v : TierSec) (r : Field) : (s.setSq k v).flag r = s.flag r := rfl
@[simp] theorem State.setSq_ready (s : State) (k : Nat) (v : TierSec) : (s.setSq k v).ready = s.ready := rfl

@[simp] theorem State.setTt_pending (s : State) (k : Nat) (v : TierTherm) : (s.setTt k v).pending = s.pending := rfl
@[simp] theorem State.setTt_clk (s : State) (k : Nat) (v : TierTherm) : (s.setTt k v).clk = s.clk := rfl
@[simp] theorem State.setTt_regs (s : State) (k : Nat) (v : TierTherm) : (s.setTt k v).regs = s.regs := rfl
@[simp] theorem State.setTt_free (s : State) (k : Nat) (v : TierTherm) : (s.setTt k v).free = s.free := rfl
@[simp] theorem State.setTt_evt (s : State) (k : Nat) (v : TierTherm) : (s.setTt k v).evt = s.evt := rfl
@[simp] theorem State.setTt_host (s : State) (k : Nat) (v : TierTherm) : (s.setTt k v).host = s.host := rfl
@[simp] theorem State.setTt_win (s : State) (k : Nat) (v : TierTherm) : (s.setTt k v).win = s.win := rfl
@[simp] theorem State.setTt_tb (s : State) (k : Nat) (v : TierTherm) : (s.setTt k v).tb = s.tb := rfl
@[simp] theorem State.setTt_chain (s : State) (k : Nat) (v : TierTherm) : (s.setTt k v).chain = s.chain := rfl
@[simp] theorem State.setTt_pwr (s : State) (k : Nat) (v : TierTherm) : (s.setTt k v).pwr = s.pwr := rfl
@[simp] theorem State.setTt_ret (s : State) (k : Nat) (v : TierTherm) : (s.setTt k v).ret = s.ret := rfl
@[simp] theorem State.setTt_tw (s : State) (k : Nat) (v : TierTherm) : (s.setTt k v).tw = s.tw := rfl
@[simp] theorem State.setTt_start (s : State) (k : Nat) (v : TierTherm) : (s.setTt k v).start = s.start := rfl
@[simp] theorem State.setTt_link (s : State) (k : Nat) (v : TierTherm) : (s.setTt k v).link = s.link := rfl
@[simp] theorem State.setTt_prim (s : State) (k : Nat) (v : TierTherm) : (s.setTt k v).prim = s.prim := rfl
@[simp] theorem State.setTt_sec (s : State) (k : Nat) (v : TierTherm) : (s.setTt k v).sec = s.sec := rfl
@[simp] theorem State.setTt_cur (s : State) (k : Nat) (v : TierTherm) : (s.setTt k v).cur = s.cur := rfl
@[simp] theorem State.setTt_exc (s : State) (k : Nat) (v : TierTherm) : (s.setTt k v).exc = s.exc := rfl
@[simp] theorem State.setTt_fab (s : State) (k : Nat) (v : TierTherm) : (s.setTt k v).fab = s.fab := rfl
@[simp] theorem State.setTt_bal (s : State) (k : Nat) (v : TierTherm) : (s.setTt k v).bal = s.bal := rfl
@[simp] theorem State.setTt_get (s : State) (k : Nat) (v : TierTherm) (r : Field) : (s.setTt k v).get r = s.get r := rfl
@[simp] theorem State.setTt_flag (s : State) (k : Nat) (v : TierTherm) (r : Field) : (s.setTt k v).flag r = s.flag r := rfl
@[simp] theorem State.setTt_ready (s : State) (k : Nat) (v : TierTherm) : (s.setTt k v).ready = s.ready := rfl

@[simp] theorem State.setStrg_pending (s : State) (k : Nat) (v : Strg) : (s.setStrg k v).pending = s.pending := rfl
@[simp] theorem State.setStrg_clk (s : State) (k : Nat) (v : Strg) : (s.setStrg k v).clk = s.clk := rfl
@[simp] theorem State.setStrg_regs (s : State) (k : Nat) (v : Strg) : (s.setStrg k v).regs = s.regs := rfl
@[simp] theorem State.setStrg_free (s : State) (k : Nat) (v : Strg) : (s.setStrg k v).free = s.free := rfl
@[simp] theorem State.setStrg_evt (s : State) (k : Nat) (v : Strg) : (s.setStrg k v).evt = s.evt := rfl
@[simp] theorem State.setStrg_host (s : State) (k : Nat) (v : Strg) : (s.setStrg k v).host = s.host := rfl
@[simp] theorem State.setStrg_win (s : State) (k : Nat) (v : Strg) : (s.setStrg k v).win = s.win := rfl
@[simp] theorem State.setStrg_tb (s : State) (k : Nat) (v : Strg) : (s.setStrg k v).tb = s.tb := rfl
@[simp] theorem State.setStrg_chain (s : State) (k : Nat) (v : Strg) : (s.setStrg k v).chain = s.chain := rfl
@[simp] theorem State.setStrg_pwr (s : State) (k : Nat) (v : Strg) : (s.setStrg k v).pwr = s.pwr := rfl
@[simp] theorem State.setStrg_ret (s : State) (k : Nat) (v : Strg) : (s.setStrg k v).ret = s.ret := rfl
@[simp] theorem State.setStrg_tw (s : State) (k : Nat) (v : Strg) : (s.setStrg k v).tw = s.tw := rfl
@[simp] theorem State.setStrg_start (s : State) (k : Nat) (v : Strg) : (s.setStrg k v).start = s.start := rfl
@[simp] theorem State.setStrg_link (s : State) (k : Nat) (v : Strg) : (s.setStrg k v).link = s.link := rfl
@[simp] theorem State.setStrg_prim (s : State) (k : Nat) (v : Strg) : (s.setStrg k v).prim = s.prim := rfl
@[simp] theorem State.setStrg_sec (s : State) (k : Nat) (v : Strg) : (s.setStrg k v).sec = s.sec := rfl
@[simp] theorem State.setStrg_cur (s : State) (k : Nat) (v : Strg) : (s.setStrg k v).cur = s.cur := rfl
@[simp] theorem State.setStrg_exc (s : State) (k : Nat) (v : Strg) : (s.setStrg k v).exc = s.exc := rfl
@[simp] theorem State.setStrg_fab (s : State) (k : Nat) (v : Strg) : (s.setStrg k v).fab = s.fab := rfl
@[simp] theorem State.setStrg_bal (s : State) (k : Nat) (v : Strg) : (s.setStrg k v).bal = s.bal := rfl
@[simp] theorem State.setStrg_get (s : State) (k : Nat) (v : Strg) (r : Field) : (s.setStrg k v).get r = s.get r := rfl
@[simp] theorem State.setStrg_flag (s : State) (k : Nat) (v : Strg) (r : Field) : (s.setStrg k v).flag r = s.flag r := rfl
@[simp] theorem State.setStrg_ready (s : State) (k : Nat) (v : Strg) : (s.setStrg k v).ready = s.ready := rfl

@[simp] theorem State.setPt_pending (s : State) (k : Nat) (v : Port) : (s.setPt k v).pending = s.pending := rfl
@[simp] theorem State.setPt_clk (s : State) (k : Nat) (v : Port) : (s.setPt k v).clk = s.clk := rfl
@[simp] theorem State.setPt_regs (s : State) (k : Nat) (v : Port) : (s.setPt k v).regs = s.regs := rfl
@[simp] theorem State.setPt_free (s : State) (k : Nat) (v : Port) : (s.setPt k v).free = s.free := rfl
@[simp] theorem State.setPt_evt (s : State) (k : Nat) (v : Port) : (s.setPt k v).evt = s.evt := rfl
@[simp] theorem State.setPt_host (s : State) (k : Nat) (v : Port) : (s.setPt k v).host = s.host := rfl
@[simp] theorem State.setPt_win (s : State) (k : Nat) (v : Port) : (s.setPt k v).win = s.win := rfl
@[simp] theorem State.setPt_tb (s : State) (k : Nat) (v : Port) : (s.setPt k v).tb = s.tb := rfl
@[simp] theorem State.setPt_pwr (s : State) (k : Nat) (v : Port) : (s.setPt k v).pwr = s.pwr := rfl
@[simp] theorem State.setPt_ret (s : State) (k : Nat) (v : Port) : (s.setPt k v).ret = s.ret := rfl
@[simp] theorem State.setPt_tw (s : State) (k : Nat) (v : Port) : (s.setPt k v).tw = s.tw := rfl
@[simp] theorem State.setPt_start (s : State) (k : Nat) (v : Port) : (s.setPt k v).start = s.start := rfl
@[simp] theorem State.setPt_link (s : State) (k : Nat) (v : Port) : (s.setPt k v).link = s.link := rfl
@[simp] theorem State.setPt_prim (s : State) (k : Nat) (v : Port) : (s.setPt k v).prim = s.prim := rfl
@[simp] theorem State.setPt_sec (s : State) (k : Nat) (v : Port) : (s.setPt k v).sec = s.sec := rfl
@[simp] theorem State.setPt_temps (s : State) (k : Nat) (v : Port) : (s.setPt k v).temps = s.temps := rfl
@[simp] theorem State.setPt_cur (s : State) (k : Nat) (v : Port) : (s.setPt k v).cur = s.cur := rfl
@[simp] theorem State.setPt_exc (s : State) (k : Nat) (v : Port) : (s.setPt k v).exc = s.exc := rfl
@[simp] theorem State.setPt_fab (s : State) (k : Nat) (v : Port) : (s.setPt k v).fab = s.fab := rfl
@[simp] theorem State.setPt_bal (s : State) (k : Nat) (v : Port) : (s.setPt k v).bal = s.bal := rfl
@[simp] theorem State.setPt_get (s : State) (k : Nat) (v : Port) (r : Field) : (s.setPt k v).get r = s.get r := rfl
@[simp] theorem State.setPt_flag (s : State) (k : Nat) (v : Port) (r : Field) : (s.setPt k v).flag r = s.flag r := rfl
@[simp] theorem State.setPt_ready (s : State) (k : Nat) (v : Port) : (s.setPt k v).ready = s.ready := rfl

@[simp] theorem State.setSeqSt_pending (s : State) (k : Nat) (v : SeqState) : (s.setSeqSt k v).pending = s.pending := rfl
@[simp] theorem State.setSeqSt_clk (s : State) (k : Nat) (v : SeqState) : (s.setSeqSt k v).clk = s.clk := rfl
@[simp] theorem State.setSeqSt_regs (s : State) (k : Nat) (v : SeqState) : (s.setSeqSt k v).regs = s.regs := rfl
@[simp] theorem State.setSeqSt_free (s : State) (k : Nat) (v : SeqState) : (s.setSeqSt k v).free = s.free := rfl
@[simp] theorem State.setSeqSt_evt (s : State) (k : Nat) (v : SeqState) : (s.setSeqSt k v).evt = s.evt := rfl
@[simp] theorem State.setSeqSt_win (s : State) (k : Nat) (v : SeqState) : (s.setSeqSt k v).win = s.win := rfl
@[simp] theorem State.setSeqSt_tb (s : State) (k : Nat) (v : SeqState) : (s.setSeqSt k v).tb = s.tb := rfl
@[simp] theorem State.setSeqSt_chain (s : State) (k : Nat) (v : SeqState) : (s.setSeqSt k v).chain = s.chain := rfl
@[simp] theorem State.setSeqSt_pwr (s : State) (k : Nat) (v : SeqState) : (s.setSeqSt k v).pwr = s.pwr := rfl
@[simp] theorem State.setSeqSt_ret (s : State) (k : Nat) (v : SeqState) : (s.setSeqSt k v).ret = s.ret := rfl
@[simp] theorem State.setSeqSt_tw (s : State) (k : Nat) (v : SeqState) : (s.setSeqSt k v).tw = s.tw := rfl
@[simp] theorem State.setSeqSt_start (s : State) (k : Nat) (v : SeqState) : (s.setSeqSt k v).start = s.start := rfl
@[simp] theorem State.setSeqSt_link (s : State) (k : Nat) (v : SeqState) : (s.setSeqSt k v).link = s.link := rfl
@[simp] theorem State.setSeqSt_prim (s : State) (k : Nat) (v : SeqState) : (s.setSeqSt k v).prim = s.prim := rfl
@[simp] theorem State.setSeqSt_sec (s : State) (k : Nat) (v : SeqState) : (s.setSeqSt k v).sec = s.sec := rfl
@[simp] theorem State.setSeqSt_temps (s : State) (k : Nat) (v : SeqState) : (s.setSeqSt k v).temps = s.temps := rfl
@[simp] theorem State.setSeqSt_cur (s : State) (k : Nat) (v : SeqState) : (s.setSeqSt k v).cur = s.cur := rfl
@[simp] theorem State.setSeqSt_exc (s : State) (k : Nat) (v : SeqState) : (s.setSeqSt k v).exc = s.exc := rfl
@[simp] theorem State.setSeqSt_fab (s : State) (k : Nat) (v : SeqState) : (s.setSeqSt k v).fab = s.fab := rfl
@[simp] theorem State.setSeqSt_bal (s : State) (k : Nat) (v : SeqState) : (s.setSeqSt k v).bal = s.bal := rfl
@[simp] theorem State.setSeqSt_get (s : State) (k : Nat) (v : SeqState) (r : Field) : (s.setSeqSt k v).get r = s.get r := rfl
@[simp] theorem State.setSeqSt_flag (s : State) (k : Nat) (v : SeqState) (r : Field) : (s.setSeqSt k v).flag r = s.flag r := rfl
@[simp] theorem State.setSeqSt_ready (s : State) (k : Nat) (v : SeqState) : (s.setSeqSt k v).ready = s.ready := rfl

@[simp] theorem State.setWindow_pending (s : State) (k : Nat) (v : Option Window) : (s.setWindow k v).pending = s.pending := rfl
@[simp] theorem State.setWindow_clk (s : State) (k : Nat) (v : Option Window) : (s.setWindow k v).clk = s.clk := rfl
@[simp] theorem State.setWindow_regs (s : State) (k : Nat) (v : Option Window) : (s.setWindow k v).regs = s.regs := rfl
@[simp] theorem State.setWindow_free (s : State) (k : Nat) (v : Option Window) : (s.setWindow k v).free = s.free := rfl
@[simp] theorem State.setWindow_host (s : State) (k : Nat) (v : Option Window) : (s.setWindow k v).host = s.host := rfl
@[simp] theorem State.setWindow_win (s : State) (k : Nat) (v : Option Window) : (s.setWindow k v).win = s.win := rfl
@[simp] theorem State.setWindow_tb (s : State) (k : Nat) (v : Option Window) : (s.setWindow k v).tb = s.tb := rfl
@[simp] theorem State.setWindow_chain (s : State) (k : Nat) (v : Option Window) : (s.setWindow k v).chain = s.chain := rfl
@[simp] theorem State.setWindow_pwr (s : State) (k : Nat) (v : Option Window) : (s.setWindow k v).pwr = s.pwr := rfl
@[simp] theorem State.setWindow_ret (s : State) (k : Nat) (v : Option Window) : (s.setWindow k v).ret = s.ret := rfl
@[simp] theorem State.setWindow_tw (s : State) (k : Nat) (v : Option Window) : (s.setWindow k v).tw = s.tw := rfl
@[simp] theorem State.setWindow_start (s : State) (k : Nat) (v : Option Window) : (s.setWindow k v).start = s.start := rfl
@[simp] theorem State.setWindow_link (s : State) (k : Nat) (v : Option Window) : (s.setWindow k v).link = s.link := rfl
@[simp] theorem State.setWindow_prim (s : State) (k : Nat) (v : Option Window) : (s.setWindow k v).prim = s.prim := rfl
@[simp] theorem State.setWindow_sec (s : State) (k : Nat) (v : Option Window) : (s.setWindow k v).sec = s.sec := rfl
@[simp] theorem State.setWindow_temps (s : State) (k : Nat) (v : Option Window) : (s.setWindow k v).temps = s.temps := rfl
@[simp] theorem State.setWindow_cur (s : State) (k : Nat) (v : Option Window) : (s.setWindow k v).cur = s.cur := rfl
@[simp] theorem State.setWindow_exc (s : State) (k : Nat) (v : Option Window) : (s.setWindow k v).exc = s.exc := rfl
@[simp] theorem State.setWindow_fab (s : State) (k : Nat) (v : Option Window) : (s.setWindow k v).fab = s.fab := rfl
@[simp] theorem State.setWindow_bal (s : State) (k : Nat) (v : Option Window) : (s.setWindow k v).bal = s.bal := rfl
@[simp] theorem State.setWindow_get (s : State) (k : Nat) (v : Option Window) (r : Field) : (s.setWindow k v).get r = s.get r := rfl
@[simp] theorem State.setWindow_flag (s : State) (k : Nat) (v : Option Window) (r : Field) : (s.setWindow k v).flag r = s.flag r := rfl
@[simp] theorem State.setWindow_ready (s : State) (k : Nat) (v : Option Window) : (s.setWindow k v).ready = s.ready := rfl

@[simp] theorem State.setLatch_pending (s : State) (k : Nat) (v : LatchEntry) : (s.setLatch k v).pending = s.pending := rfl
@[simp] theorem State.setLatch_clk (s : State) (k : Nat) (v : LatchEntry) : (s.setLatch k v).clk = s.clk := rfl
@[simp] theorem State.setLatch_regs (s : State) (k : Nat) (v : LatchEntry) : (s.setLatch k v).regs = s.regs := rfl
@[simp] theorem State.setLatch_free (s : State) (k : Nat) (v : LatchEntry) : (s.setLatch k v).free = s.free := rfl
@[simp] theorem State.setLatch_host (s : State) (k : Nat) (v : LatchEntry) : (s.setLatch k v).host = s.host := rfl
@[simp] theorem State.setLatch_win (s : State) (k : Nat) (v : LatchEntry) : (s.setLatch k v).win = s.win := rfl
@[simp] theorem State.setLatch_tb (s : State) (k : Nat) (v : LatchEntry) : (s.setLatch k v).tb = s.tb := rfl
@[simp] theorem State.setLatch_chain (s : State) (k : Nat) (v : LatchEntry) : (s.setLatch k v).chain = s.chain := rfl
@[simp] theorem State.setLatch_pwr (s : State) (k : Nat) (v : LatchEntry) : (s.setLatch k v).pwr = s.pwr := rfl
@[simp] theorem State.setLatch_ret (s : State) (k : Nat) (v : LatchEntry) : (s.setLatch k v).ret = s.ret := rfl
@[simp] theorem State.setLatch_tw (s : State) (k : Nat) (v : LatchEntry) : (s.setLatch k v).tw = s.tw := rfl
@[simp] theorem State.setLatch_start (s : State) (k : Nat) (v : LatchEntry) : (s.setLatch k v).start = s.start := rfl
@[simp] theorem State.setLatch_link (s : State) (k : Nat) (v : LatchEntry) : (s.setLatch k v).link = s.link := rfl
@[simp] theorem State.setLatch_prim (s : State) (k : Nat) (v : LatchEntry) : (s.setLatch k v).prim = s.prim := rfl
@[simp] theorem State.setLatch_sec (s : State) (k : Nat) (v : LatchEntry) : (s.setLatch k v).sec = s.sec := rfl
@[simp] theorem State.setLatch_temps (s : State) (k : Nat) (v : LatchEntry) : (s.setLatch k v).temps = s.temps := rfl
@[simp] theorem State.setLatch_cur (s : State) (k : Nat) (v : LatchEntry) : (s.setLatch k v).cur = s.cur := rfl
@[simp] theorem State.setLatch_exc (s : State) (k : Nat) (v : LatchEntry) : (s.setLatch k v).exc = s.exc := rfl
@[simp] theorem State.setLatch_fab (s : State) (k : Nat) (v : LatchEntry) : (s.setLatch k v).fab = s.fab := rfl
@[simp] theorem State.setLatch_bal (s : State) (k : Nat) (v : LatchEntry) : (s.setLatch k v).bal = s.bal := rfl
@[simp] theorem State.setLatch_get (s : State) (k : Nat) (v : LatchEntry) (r : Field) : (s.setLatch k v).get r = s.get r := rfl
@[simp] theorem State.setLatch_flag (s : State) (k : Nat) (v : LatchEntry) (r : Field) : (s.setLatch k v).flag r = s.flag r := rfl
@[simp] theorem State.setLatch_ready (s : State) (k : Nat) (v : LatchEntry) : (s.setLatch k v).ready = s.ready := rfl

@[simp] theorem State.setExc_pending (s : State) (k : Nat) (v : Option ExcTier) : (s.setExc k v).pending = s.pending := rfl
@[simp] theorem State.setExc_clk (s : State) (k : Nat) (v : Option ExcTier) : (s.setExc k v).clk = s.clk := rfl
@[simp] theorem State.setExc_regs (s : State) (k : Nat) (v : Option ExcTier) : (s.setExc k v).regs = s.regs := rfl
@[simp] theorem State.setExc_free (s : State) (k : Nat) (v : Option ExcTier) : (s.setExc k v).free = s.free := rfl
@[simp] theorem State.setExc_evt (s : State) (k : Nat) (v : Option ExcTier) : (s.setExc k v).evt = s.evt := rfl
@[simp] theorem State.setExc_host (s : State) (k : Nat) (v : Option ExcTier) : (s.setExc k v).host = s.host := rfl
@[simp] theorem State.setExc_win (s : State) (k : Nat) (v : Option ExcTier) : (s.setExc k v).win = s.win := rfl
@[simp] theorem State.setExc_tb (s : State) (k : Nat) (v : Option ExcTier) : (s.setExc k v).tb = s.tb := rfl
@[simp] theorem State.setExc_chain (s : State) (k : Nat) (v : Option ExcTier) : (s.setExc k v).chain = s.chain := rfl
@[simp] theorem State.setExc_pwr (s : State) (k : Nat) (v : Option ExcTier) : (s.setExc k v).pwr = s.pwr := rfl
@[simp] theorem State.setExc_ret (s : State) (k : Nat) (v : Option ExcTier) : (s.setExc k v).ret = s.ret := rfl
@[simp] theorem State.setExc_tw (s : State) (k : Nat) (v : Option ExcTier) : (s.setExc k v).tw = s.tw := rfl
@[simp] theorem State.setExc_start (s : State) (k : Nat) (v : Option ExcTier) : (s.setExc k v).start = s.start := rfl
@[simp] theorem State.setExc_link (s : State) (k : Nat) (v : Option ExcTier) : (s.setExc k v).link = s.link := rfl
@[simp] theorem State.setExc_prim (s : State) (k : Nat) (v : Option ExcTier) : (s.setExc k v).prim = s.prim := rfl
@[simp] theorem State.setExc_sec (s : State) (k : Nat) (v : Option ExcTier) : (s.setExc k v).sec = s.sec := rfl
@[simp] theorem State.setExc_temps (s : State) (k : Nat) (v : Option ExcTier) : (s.setExc k v).temps = s.temps := rfl
@[simp] theorem State.setExc_cur (s : State) (k : Nat) (v : Option ExcTier) : (s.setExc k v).cur = s.cur := rfl
@[simp] theorem State.setExc_fab (s : State) (k : Nat) (v : Option ExcTier) : (s.setExc k v).fab = s.fab := rfl
@[simp] theorem State.setExc_bal (s : State) (k : Nat) (v : Option ExcTier) : (s.setExc k v).bal = s.bal := rfl
@[simp] theorem State.setExc_get (s : State) (k : Nat) (v : Option ExcTier) (r : Field) : (s.setExc k v).get r = s.get r := rfl
@[simp] theorem State.setExc_flag (s : State) (k : Nat) (v : Option ExcTier) (r : Field) : (s.setExc k v).flag r = s.flag r := rfl
@[simp] theorem State.setExc_ready (s : State) (k : Nat) (v : Option ExcTier) : (s.setExc k v).ready = s.ready := rfl

@[simp] theorem State.setChan_pending (s : State) (k : Nat) (v : Chan) : (s.setChan k v).pending = s.pending := rfl
@[simp] theorem State.setChan_clk (s : State) (k : Nat) (v : Chan) : (s.setChan k v).clk = s.clk := rfl
@[simp] theorem State.setChan_regs (s : State) (k : Nat) (v : Chan) : (s.setChan k v).regs = s.regs := rfl
@[simp] theorem State.setChan_free (s : State) (k : Nat) (v : Chan) : (s.setChan k v).free = s.free := rfl
@[simp] theorem State.setChan_evt (s : State) (k : Nat) (v : Chan) : (s.setChan k v).evt = s.evt := rfl
@[simp] theorem State.setChan_host (s : State) (k : Nat) (v : Chan) : (s.setChan k v).host = s.host := rfl
@[simp] theorem State.setChan_win (s : State) (k : Nat) (v : Chan) : (s.setChan k v).win = s.win := rfl
@[simp] theorem State.setChan_tb (s : State) (k : Nat) (v : Chan) : (s.setChan k v).tb = s.tb := rfl
@[simp] theorem State.setChan_chain (s : State) (k : Nat) (v : Chan) : (s.setChan k v).chain = s.chain := rfl
@[simp] theorem State.setChan_pwr (s : State) (k : Nat) (v : Chan) : (s.setChan k v).pwr = s.pwr := rfl
@[simp] theorem State.setChan_ret (s : State) (k : Nat) (v : Chan) : (s.setChan k v).ret = s.ret := rfl
@[simp] theorem State.setChan_tw (s : State) (k : Nat) (v : Chan) : (s.setChan k v).tw = s.tw := rfl
@[simp] theorem State.setChan_start (s : State) (k : Nat) (v : Chan) : (s.setChan k v).start = s.start := rfl
@[simp] theorem State.setChan_link (s : State) (k : Nat) (v : Chan) : (s.setChan k v).link = s.link := rfl
@[simp] theorem State.setChan_prim (s : State) (k : Nat) (v : Chan) : (s.setChan k v).prim = s.prim := rfl
@[simp] theorem State.setChan_sec (s : State) (k : Nat) (v : Chan) : (s.setChan k v).sec = s.sec := rfl
@[simp] theorem State.setChan_temps (s : State) (k : Nat) (v : Chan) : (s.setChan k v).temps = s.temps := rfl
@[simp] theorem State.setChan_cur (s : State) (k : Nat) (v : Chan) : (s.setChan k v).cur = s.cur := rfl
@[simp] theorem State.setChan_exc (s : State) (k : Nat) (v : Chan) : (s.setChan k v).exc = s.exc := rfl
@[simp] theorem State.setChan_fab (s : State) (k : Nat) (v : Chan) : (s.setChan k v).fab = s.fab := rfl
@[simp] theorem State.setChan_get (s : State) (k : Nat) (v : Chan) (r : Field) : (s.setChan k v).get r = s.get r := rfl
@[simp] theorem State.setChan_flag (s : State) (k : Nat) (v : Chan) (r : Field) : (s.setChan k v).flag r = s.flag r := rfl
@[simp] theorem State.setChan_ready (s : State) (k : Nat) (v : Chan) : (s.setChan k v).ready = s.ready := rfl

@[simp] theorem State.setStage_pending (s : State) (k : Nat) (v : Stage) : (s.setStage k v).pending = s.pending := rfl
@[simp] theorem State.setStage_clk (s : State) (k : Nat) (v : Stage) : (s.setStage k v).clk = s.clk := rfl
@[simp] theorem State.setStage_regs (s : State) (k : Nat) (v : Stage) : (s.setStage k v).regs = s.regs := rfl
@[simp] theorem State.setStage_free (s : State) (k : Nat) (v : Stage) : (s.setStage k v).free = s.free := rfl
@[simp] theorem State.setStage_evt (s : State) (k : Nat) (v : Stage) : (s.setStage k v).evt = s.evt := rfl
@[simp] theorem State.setStage_host (s : State) (k : Nat) (v : Stage) : (s.setStage k v).host = s.host := rfl
@[simp] theorem State.setStage_win (s : State) (k : Nat) (v : Stage) : (s.setStage k v).win = s.win := rfl
@[simp] theorem State.setStage_tb (s : State) (k : Nat) (v : Stage) : (s.setStage k v).tb = s.tb := rfl
@[simp] theorem State.setStage_chain (s : State) (k : Nat) (v : Stage) : (s.setStage k v).chain = s.chain := rfl
@[simp] theorem State.setStage_pwr (s : State) (k : Nat) (v : Stage) : (s.setStage k v).pwr = s.pwr := rfl
@[simp] theorem State.setStage_ret (s : State) (k : Nat) (v : Stage) : (s.setStage k v).ret = s.ret := rfl
@[simp] theorem State.setStage_tw (s : State) (k : Nat) (v : Stage) : (s.setStage k v).tw = s.tw := rfl
@[simp] theorem State.setStage_start (s : State) (k : Nat) (v : Stage) : (s.setStage k v).start = s.start := rfl
@[simp] theorem State.setStage_link (s : State) (k : Nat) (v : Stage) : (s.setStage k v).link = s.link := rfl
@[simp] theorem State.setStage_prim (s : State) (k : Nat) (v : Stage) : (s.setStage k v).prim = s.prim := rfl
@[simp] theorem State.setStage_sec (s : State) (k : Nat) (v : Stage) : (s.setStage k v).sec = s.sec := rfl
@[simp] theorem State.setStage_temps (s : State) (k : Nat) (v : Stage) : (s.setStage k v).temps = s.temps := rfl
@[simp] theorem State.setStage_cur (s : State) (k : Nat) (v : Stage) : (s.setStage k v).cur = s.cur := rfl
@[simp] theorem State.setStage_exc (s : State) (k : Nat) (v : Stage) : (s.setStage k v).exc = s.exc := rfl
@[simp] theorem State.setStage_fab (s : State) (k : Nat) (v : Stage) : (s.setStage k v).fab = s.fab := rfl
@[simp] theorem State.setStage_get (s : State) (k : Nat) (v : Stage) (r : Field) : (s.setStage k v).get r = s.get r := rfl
@[simp] theorem State.setStage_flag (s : State) (k : Nat) (v : Stage) (r : Field) : (s.setStage k v).flag r = s.flag r := rfl
@[simp] theorem State.setStage_ready (s : State) (k : Nat) (v : Stage) : (s.setStage k v).ready = s.ready := rfl

@[simp] theorem State.setCur_pending (s : State) (g : Cur → Cur) : (s.setCur g).pending = s.pending := rfl
@[simp] theorem State.setCur_clk (s : State) (g : Cur → Cur) : (s.setCur g).clk = s.clk := rfl
@[simp] theorem State.setCur_regs (s : State) (g : Cur → Cur) : (s.setCur g).regs = s.regs := rfl
@[simp] theorem State.setCur_free (s : State) (g : Cur → Cur) : (s.setCur g).free = s.free := rfl
@[simp] theorem State.setCur_evt (s : State) (g : Cur → Cur) : (s.setCur g).evt = s.evt := rfl
@[simp] theorem State.setCur_host (s : State) (g : Cur → Cur) : (s.setCur g).host = s.host := rfl
@[simp] theorem State.setCur_win (s : State) (g : Cur → Cur) : (s.setCur g).win = s.win := rfl
@[simp] theorem State.setCur_tb (s : State) (g : Cur → Cur) : (s.setCur g).tb = s.tb := rfl
@[simp] theorem State.setCur_chain (s : State) (g : Cur → Cur) : (s.setCur g).chain = s.chain := rfl
@[simp] theorem State.setCur_pwr (s : State) (g : Cur → Cur) : (s.setCur g).pwr = s.pwr := rfl
@[simp] theorem State.setCur_ret (s : State) (g : Cur → Cur) : (s.setCur g).ret = s.ret := rfl
@[simp] theorem State.setCur_tw (s : State) (g : Cur → Cur) : (s.setCur g).tw = s.tw := rfl
@[simp] theorem State.setCur_start (s : State) (g : Cur → Cur) : (s.setCur g).start = s.start := rfl
@[simp] theorem State.setCur_link (s : State) (g : Cur → Cur) : (s.setCur g).link = s.link := rfl
@[simp] theorem State.setCur_prim (s : State) (g : Cur → Cur) : (s.setCur g).prim = s.prim := rfl
@[simp] theorem State.setCur_sec (s : State) (g : Cur → Cur) : (s.setCur g).sec = s.sec := rfl
@[simp] theorem State.setCur_temps (s : State) (g : Cur → Cur) : (s.setCur g).temps = s.temps := rfl
@[simp] theorem State.setCur_exc (s : State) (g : Cur → Cur) : (s.setCur g).exc = s.exc := rfl
@[simp] theorem State.setCur_fab (s : State) (g : Cur → Cur) : (s.setCur g).fab = s.fab := rfl
@[simp] theorem State.setCur_bal (s : State) (g : Cur → Cur) : (s.setCur g).bal = s.bal := rfl
@[simp] theorem State.setCur_get (s : State) (g : Cur → Cur) (r : Field) : (s.setCur g).get r = s.get r := rfl
@[simp] theorem State.setCur_flag (s : State) (g : Cur → Cur) (r : Field) : (s.setCur g).flag r = s.flag r := rfl
@[simp] theorem State.setCur_ready (s : State) (g : Cur → Cur) : (s.setCur g).ready = s.ready := rfl

@[simp] theorem State.setJob_pending (s : State) (k : Nat) (v : Job) : (s.setJob k v).pending = s.pending := rfl
@[simp] theorem State.setJob_clk (s : State) (k : Nat) (v : Job) : (s.setJob k v).clk = s.clk := rfl
@[simp] theorem State.setJob_regs (s : State) (k : Nat) (v : Job) : (s.setJob k v).regs = s.regs := rfl
@[simp] theorem State.setJob_free (s : State) (k : Nat) (v : Job) : (s.setJob k v).free = s.free := rfl
@[simp] theorem State.setJob_evt (s : State) (k : Nat) (v : Job) : (s.setJob k v).evt = s.evt := rfl
@[simp] theorem State.setJob_host (s : State) (k : Nat) (v : Job) : (s.setJob k v).host = s.host := rfl
@[simp] theorem State.setJob_win (s : State) (k : Nat) (v : Job) : (s.setJob k v).win = s.win := rfl
@[simp] theorem State.setJob_tb (s : State) (k : Nat) (v : Job) : (s.setJob k v).tb = s.tb := rfl
@[simp] theorem State.setJob_chain (s : State) (k : Nat) (v : Job) : (s.setJob k v).chain = s.chain := rfl
@[simp] theorem State.setJob_pwr (s : State) (k : Nat) (v : Job) : (s.setJob k v).pwr = s.pwr := rfl
@[simp] theorem State.setJob_ret (s : State) (k : Nat) (v : Job) : (s.setJob k v).ret = s.ret := rfl
@[simp] theorem State.setJob_tw (s : State) (k : Nat) (v : Job) : (s.setJob k v).tw = s.tw := rfl
@[simp] theorem State.setJob_start (s : State) (k : Nat) (v : Job) : (s.setJob k v).start = s.start := rfl
@[simp] theorem State.setJob_link (s : State) (k : Nat) (v : Job) : (s.setJob k v).link = s.link := rfl
@[simp] theorem State.setJob_prim (s : State) (k : Nat) (v : Job) : (s.setJob k v).prim = s.prim := rfl
@[simp] theorem State.setJob_sec (s : State) (k : Nat) (v : Job) : (s.setJob k v).sec = s.sec := rfl
@[simp] theorem State.setJob_temps (s : State) (k : Nat) (v : Job) : (s.setJob k v).temps = s.temps := rfl
@[simp] theorem State.setJob_cur (s : State) (k : Nat) (v : Job) : (s.setJob k v).cur = s.cur := rfl
@[simp] theorem State.setJob_exc (s : State) (k : Nat) (v : Job) : (s.setJob k v).exc = s.exc := rfl
@[simp] theorem State.setJob_bal (s : State) (k : Nat) (v : Job) : (s.setJob k v).bal = s.bal := rfl
@[simp] theorem State.setJob_get (s : State) (k : Nat) (v : Job) (r : Field) : (s.setJob k v).get r = s.get r := rfl
@[simp] theorem State.setJob_flag (s : State) (k : Nat) (v : Job) (r : Field) : (s.setJob k v).flag r = s.flag r := rfl
@[simp] theorem State.setJob_ready (s : State) (k : Nat) (v : Job) : (s.setJob k v).ready = s.ready := rfl

@[simp] theorem State.setBin_pending (s : State) (c k : Nat) (v : BinVal) : (s.setBin c k v).pending = s.pending := rfl
@[simp] theorem State.setBin_clk (s : State) (c k : Nat) (v : BinVal) : (s.setBin c k v).clk = s.clk := rfl
@[simp] theorem State.setBin_regs (s : State) (c k : Nat) (v : BinVal) : (s.setBin c k v).regs = s.regs := rfl
@[simp] theorem State.setBin_free (s : State) (c k : Nat) (v : BinVal) : (s.setBin c k v).free = s.free := rfl
@[simp] theorem State.setBin_evt (s : State) (c k : Nat) (v : BinVal) : (s.setBin c k v).evt = s.evt := rfl
@[simp] theorem State.setBin_host (s : State) (c k : Nat) (v : BinVal) : (s.setBin c k v).host = s.host := rfl
@[simp] theorem State.setBin_win (s : State) (c k : Nat) (v : BinVal) : (s.setBin c k v).win = s.win := rfl
@[simp] theorem State.setBin_tb (s : State) (c k : Nat) (v : BinVal) : (s.setBin c k v).tb = s.tb := rfl
@[simp] theorem State.setBin_chain (s : State) (c k : Nat) (v : BinVal) : (s.setBin c k v).chain = s.chain := rfl
@[simp] theorem State.setBin_pwr (s : State) (c k : Nat) (v : BinVal) : (s.setBin c k v).pwr = s.pwr := rfl
@[simp] theorem State.setBin_ret (s : State) (c k : Nat) (v : BinVal) : (s.setBin c k v).ret = s.ret := rfl
@[simp] theorem State.setBin_tw (s : State) (c k : Nat) (v : BinVal) : (s.setBin c k v).tw = s.tw := rfl
@[simp] theorem State.setBin_start (s : State) (c k : Nat) (v : BinVal) : (s.setBin c k v).start = s.start := rfl
@[simp] theorem State.setBin_link (s : State) (c k : Nat) (v : BinVal) : (s.setBin c k v).link = s.link := rfl
@[simp] theorem State.setBin_prim (s : State) (c k : Nat) (v : BinVal) : (s.setBin c k v).prim = s.prim := rfl
@[simp] theorem State.setBin_sec (s : State) (c k : Nat) (v : BinVal) : (s.setBin c k v).sec = s.sec := rfl
@[simp] theorem State.setBin_temps (s : State) (c k : Nat) (v : BinVal) : (s.setBin c k v).temps = s.temps := rfl
@[simp] theorem State.setBin_cur (s : State) (c k : Nat) (v : BinVal) : (s.setBin c k v).cur = s.cur := rfl
@[simp] theorem State.setBin_exc (s : State) (c k : Nat) (v : BinVal) : (s.setBin c k v).exc = s.exc := rfl
@[simp] theorem State.setBin_bal (s : State) (c k : Nat) (v : BinVal) : (s.setBin c k v).bal = s.bal := rfl
@[simp] theorem State.setBin_get (s : State) (c k : Nat) (v : BinVal) (r : Field) : (s.setBin c k v).get r = s.get r := rfl
@[simp] theorem State.setBin_flag (s : State) (c k : Nat) (v : BinVal) (r : Field) : (s.setBin c k v).flag r = s.flag r := rfl
@[simp] theorem State.setBin_ready (s : State) (c k : Nat) (v : BinVal) : (s.setBin c k v).ready = s.ready := rfl

@[simp] theorem State.setRun_pending (s : State) (k c : Nat) (v : DiscRun) : (s.setRun k c v).pending = s.pending := rfl
@[simp] theorem State.setRun_clk (s : State) (k c : Nat) (v : DiscRun) : (s.setRun k c v).clk = s.clk := rfl
@[simp] theorem State.setRun_regs (s : State) (k c : Nat) (v : DiscRun) : (s.setRun k c v).regs = s.regs := rfl
@[simp] theorem State.setRun_free (s : State) (k c : Nat) (v : DiscRun) : (s.setRun k c v).free = s.free := rfl
@[simp] theorem State.setRun_evt (s : State) (k c : Nat) (v : DiscRun) : (s.setRun k c v).evt = s.evt := rfl
@[simp] theorem State.setRun_host (s : State) (k c : Nat) (v : DiscRun) : (s.setRun k c v).host = s.host := rfl
@[simp] theorem State.setRun_win (s : State) (k c : Nat) (v : DiscRun) : (s.setRun k c v).win = s.win := rfl
@[simp] theorem State.setRun_tb (s : State) (k c : Nat) (v : DiscRun) : (s.setRun k c v).tb = s.tb := rfl
@[simp] theorem State.setRun_chain (s : State) (k c : Nat) (v : DiscRun) : (s.setRun k c v).chain = s.chain := rfl
@[simp] theorem State.setRun_pwr (s : State) (k c : Nat) (v : DiscRun) : (s.setRun k c v).pwr = s.pwr := rfl
@[simp] theorem State.setRun_ret (s : State) (k c : Nat) (v : DiscRun) : (s.setRun k c v).ret = s.ret := rfl
@[simp] theorem State.setRun_tw (s : State) (k c : Nat) (v : DiscRun) : (s.setRun k c v).tw = s.tw := rfl
@[simp] theorem State.setRun_start (s : State) (k c : Nat) (v : DiscRun) : (s.setRun k c v).start = s.start := rfl
@[simp] theorem State.setRun_link (s : State) (k c : Nat) (v : DiscRun) : (s.setRun k c v).link = s.link := rfl
@[simp] theorem State.setRun_prim (s : State) (k c : Nat) (v : DiscRun) : (s.setRun k c v).prim = s.prim := rfl
@[simp] theorem State.setRun_temps (s : State) (k c : Nat) (v : DiscRun) : (s.setRun k c v).temps = s.temps := rfl
@[simp] theorem State.setRun_cur (s : State) (k c : Nat) (v : DiscRun) : (s.setRun k c v).cur = s.cur := rfl
@[simp] theorem State.setRun_exc (s : State) (k c : Nat) (v : DiscRun) : (s.setRun k c v).exc = s.exc := rfl
@[simp] theorem State.setRun_fab (s : State) (k c : Nat) (v : DiscRun) : (s.setRun k c v).fab = s.fab := rfl
@[simp] theorem State.setRun_bal (s : State) (k c : Nat) (v : DiscRun) : (s.setRun k c v).bal = s.bal := rfl
@[simp] theorem State.setRun_get (s : State) (k c : Nat) (v : DiscRun) (r : Field) : (s.setRun k c v).get r = s.get r := rfl
@[simp] theorem State.setRun_flag (s : State) (k c : Nat) (v : DiscRun) (r : Field) : (s.setRun k c v).flag r = s.flag r := rfl
@[simp] theorem State.setRun_ready (s : State) (k c : Nat) (v : DiscRun) : (s.setRun k c v).ready = s.ready := rfl

@[simp] theorem State.setTo_pending (s : State) (o : ThermOut) : (s.setTo o).pending = s.pending := rfl
@[simp] theorem State.setTo_clk (s : State) (o : ThermOut) : (s.setTo o).clk = s.clk := rfl
@[simp] theorem State.setTo_regs (s : State) (o : ThermOut) : (s.setTo o).regs = s.regs := rfl
@[simp] theorem State.setTo_free (s : State) (o : ThermOut) : (s.setTo o).free = s.free := rfl
@[simp] theorem State.setTo_evt (s : State) (o : ThermOut) : (s.setTo o).evt = s.evt := rfl
@[simp] theorem State.setTo_host (s : State) (o : ThermOut) : (s.setTo o).host = s.host := rfl
@[simp] theorem State.setTo_win (s : State) (o : ThermOut) : (s.setTo o).win = s.win := rfl
@[simp] theorem State.setTo_tb (s : State) (o : ThermOut) : (s.setTo o).tb = s.tb := rfl
@[simp] theorem State.setTo_chain (s : State) (o : ThermOut) : (s.setTo o).chain = s.chain := rfl
@[simp] theorem State.setTo_pwr (s : State) (o : ThermOut) : (s.setTo o).pwr = s.pwr := rfl
@[simp] theorem State.setTo_ret (s : State) (o : ThermOut) : (s.setTo o).ret = s.ret := rfl
@[simp] theorem State.setTo_tw (s : State) (o : ThermOut) : (s.setTo o).tw = s.tw := rfl
@[simp] theorem State.setTo_start (s : State) (o : ThermOut) : (s.setTo o).start = s.start := rfl
@[simp] theorem State.setTo_link (s : State) (o : ThermOut) : (s.setTo o).link = s.link := rfl
@[simp] theorem State.setTo_prim (s : State) (o : ThermOut) : (s.setTo o).prim = s.prim := rfl
@[simp] theorem State.setTo_sec (s : State) (o : ThermOut) : (s.setTo o).sec = s.sec := rfl
@[simp] theorem State.setTo_cur (s : State) (o : ThermOut) : (s.setTo o).cur = s.cur := rfl
@[simp] theorem State.setTo_exc (s : State) (o : ThermOut) : (s.setTo o).exc = s.exc := rfl
@[simp] theorem State.setTo_fab (s : State) (o : ThermOut) : (s.setTo o).fab = s.fab := rfl
@[simp] theorem State.setTo_bal (s : State) (o : ThermOut) : (s.setTo o).bal = s.bal := rfl
@[simp] theorem State.setTo_get (s : State) (o : ThermOut) (r : Field) : (s.setTo o).get r = s.get r := rfl
@[simp] theorem State.setTo_flag (s : State) (o : ThermOut) (r : Field) : (s.setTo o).flag r = s.flag r := rfl
@[simp] theorem State.setTo_ready (s : State) (o : ThermOut) : (s.setTo o).ready = s.ready := rfl

@[simp] theorem State.setXfer_pending (s : State) (x : Option Transfer) : (s.setXfer x).pending = s.pending := rfl
@[simp] theorem State.setXfer_clk (s : State) (x : Option Transfer) : (s.setXfer x).clk = s.clk := rfl
@[simp] theorem State.setXfer_regs (s : State) (x : Option Transfer) : (s.setXfer x).regs = s.regs := rfl
@[simp] theorem State.setXfer_free (s : State) (x : Option Transfer) : (s.setXfer x).free = s.free := rfl
@[simp] theorem State.setXfer_evt (s : State) (x : Option Transfer) : (s.setXfer x).evt = s.evt := rfl
@[simp] theorem State.setXfer_win (s : State) (x : Option Transfer) : (s.setXfer x).win = s.win := rfl
@[simp] theorem State.setXfer_tb (s : State) (x : Option Transfer) : (s.setXfer x).tb = s.tb := rfl
@[simp] theorem State.setXfer_chain (s : State) (x : Option Transfer) : (s.setXfer x).chain = s.chain := rfl
@[simp] theorem State.setXfer_pwr (s : State) (x : Option Transfer) : (s.setXfer x).pwr = s.pwr := rfl
@[simp] theorem State.setXfer_ret (s : State) (x : Option Transfer) : (s.setXfer x).ret = s.ret := rfl
@[simp] theorem State.setXfer_tw (s : State) (x : Option Transfer) : (s.setXfer x).tw = s.tw := rfl
@[simp] theorem State.setXfer_start (s : State) (x : Option Transfer) : (s.setXfer x).start = s.start := rfl
@[simp] theorem State.setXfer_link (s : State) (x : Option Transfer) : (s.setXfer x).link = s.link := rfl
@[simp] theorem State.setXfer_prim (s : State) (x : Option Transfer) : (s.setXfer x).prim = s.prim := rfl
@[simp] theorem State.setXfer_sec (s : State) (x : Option Transfer) : (s.setXfer x).sec = s.sec := rfl
@[simp] theorem State.setXfer_temps (s : State) (x : Option Transfer) : (s.setXfer x).temps = s.temps := rfl
@[simp] theorem State.setXfer_cur (s : State) (x : Option Transfer) : (s.setXfer x).cur = s.cur := rfl
@[simp] theorem State.setXfer_exc (s : State) (x : Option Transfer) : (s.setXfer x).exc = s.exc := rfl
@[simp] theorem State.setXfer_fab (s : State) (x : Option Transfer) : (s.setXfer x).fab = s.fab := rfl
@[simp] theorem State.setXfer_bal (s : State) (x : Option Transfer) : (s.setXfer x).bal = s.bal := rfl
@[simp] theorem State.setXfer_get (s : State) (x : Option Transfer) (r : Field) : (s.setXfer x).get r = s.get r := rfl
@[simp] theorem State.setXfer_flag (s : State) (x : Option Transfer) (r : Field) : (s.setXfer x).flag r = s.flag r := rfl
@[simp] theorem State.setXfer_ready (s : State) (x : Option Transfer) : (s.setXfer x).ready = s.ready := rfl

@[simp] theorem State.setHold_pending (s : State) (k : Nat) (v : Option BlockHold) : (s.setHold k v).pending = s.pending := rfl
@[simp] theorem State.setHold_clk (s : State) (k : Nat) (v : Option BlockHold) : (s.setHold k v).clk = s.clk := rfl
@[simp] theorem State.setHold_regs (s : State) (k : Nat) (v : Option BlockHold) : (s.setHold k v).regs = s.regs := rfl
@[simp] theorem State.setHold_free (s : State) (k : Nat) (v : Option BlockHold) : (s.setHold k v).free = s.free := rfl
@[simp] theorem State.setHold_evt (s : State) (k : Nat) (v : Option BlockHold) : (s.setHold k v).evt = s.evt := rfl
@[simp] theorem State.setHold_host (s : State) (k : Nat) (v : Option BlockHold) : (s.setHold k v).host = s.host := rfl
@[simp] theorem State.setHold_tb (s : State) (k : Nat) (v : Option BlockHold) : (s.setHold k v).tb = s.tb := rfl
@[simp] theorem State.setHold_chain (s : State) (k : Nat) (v : Option BlockHold) : (s.setHold k v).chain = s.chain := rfl
@[simp] theorem State.setHold_pwr (s : State) (k : Nat) (v : Option BlockHold) : (s.setHold k v).pwr = s.pwr := rfl
@[simp] theorem State.setHold_ret (s : State) (k : Nat) (v : Option BlockHold) : (s.setHold k v).ret = s.ret := rfl
@[simp] theorem State.setHold_tw (s : State) (k : Nat) (v : Option BlockHold) : (s.setHold k v).tw = s.tw := rfl
@[simp] theorem State.setHold_start (s : State) (k : Nat) (v : Option BlockHold) : (s.setHold k v).start = s.start := rfl
@[simp] theorem State.setHold_link (s : State) (k : Nat) (v : Option BlockHold) : (s.setHold k v).link = s.link := rfl
@[simp] theorem State.setHold_prim (s : State) (k : Nat) (v : Option BlockHold) : (s.setHold k v).prim = s.prim := rfl
@[simp] theorem State.setHold_sec (s : State) (k : Nat) (v : Option BlockHold) : (s.setHold k v).sec = s.sec := rfl
@[simp] theorem State.setHold_temps (s : State) (k : Nat) (v : Option BlockHold) : (s.setHold k v).temps = s.temps := rfl
@[simp] theorem State.setHold_cur (s : State) (k : Nat) (v : Option BlockHold) : (s.setHold k v).cur = s.cur := rfl
@[simp] theorem State.setHold_exc (s : State) (k : Nat) (v : Option BlockHold) : (s.setHold k v).exc = s.exc := rfl
@[simp] theorem State.setHold_fab (s : State) (k : Nat) (v : Option BlockHold) : (s.setHold k v).fab = s.fab := rfl
@[simp] theorem State.setHold_bal (s : State) (k : Nat) (v : Option BlockHold) : (s.setHold k v).bal = s.bal := rfl
@[simp] theorem State.setHold_get (s : State) (k : Nat) (v : Option BlockHold) (r : Field) : (s.setHold k v).get r = s.get r := rfl
@[simp] theorem State.setHold_flag (s : State) (k : Nat) (v : Option BlockHold) (r : Field) : (s.setHold k v).flag r = s.flag r := rfl
@[simp] theorem State.setHold_ready (s : State) (k : Nat) (v : Option BlockHold) : (s.setHold k v).ready = s.ready := rfl

@[simp] theorem State.setCubit_pending (s : State) (k : Nat) (v : Cubit) : (s.setCubit k v).pending = s.pending := rfl
@[simp] theorem State.setCubit_clk (s : State) (k : Nat) (v : Cubit) : (s.setCubit k v).clk = s.clk := rfl
@[simp] theorem State.setCubit_regs (s : State) (k : Nat) (v : Cubit) : (s.setCubit k v).regs = s.regs := rfl
@[simp] theorem State.setCubit_free (s : State) (k : Nat) (v : Cubit) : (s.setCubit k v).free = s.free := rfl
@[simp] theorem State.setCubit_evt (s : State) (k : Nat) (v : Cubit) : (s.setCubit k v).evt = s.evt := rfl
@[simp] theorem State.setCubit_host (s : State) (k : Nat) (v : Cubit) : (s.setCubit k v).host = s.host := rfl
@[simp] theorem State.setCubit_win (s : State) (k : Nat) (v : Cubit) : (s.setCubit k v).win = s.win := rfl
@[simp] theorem State.setCubit_tb (s : State) (k : Nat) (v : Cubit) : (s.setCubit k v).tb = s.tb := rfl
@[simp] theorem State.setCubit_chain (s : State) (k : Nat) (v : Cubit) : (s.setCubit k v).chain = s.chain := rfl
@[simp] theorem State.setCubit_pwr (s : State) (k : Nat) (v : Cubit) : (s.setCubit k v).pwr = s.pwr := rfl
@[simp] theorem State.setCubit_ret (s : State) (k : Nat) (v : Cubit) : (s.setCubit k v).ret = s.ret := rfl
@[simp] theorem State.setCubit_tw (s : State) (k : Nat) (v : Cubit) : (s.setCubit k v).tw = s.tw := rfl
@[simp] theorem State.setCubit_start (s : State) (k : Nat) (v : Cubit) : (s.setCubit k v).start = s.start := rfl
@[simp] theorem State.setCubit_link (s : State) (k : Nat) (v : Cubit) : (s.setCubit k v).link = s.link := rfl
@[simp] theorem State.setCubit_prim (s : State) (k : Nat) (v : Cubit) : (s.setCubit k v).prim = s.prim := rfl
@[simp] theorem State.setCubit_sec (s : State) (k : Nat) (v : Cubit) : (s.setCubit k v).sec = s.sec := rfl
@[simp] theorem State.setCubit_temps (s : State) (k : Nat) (v : Cubit) : (s.setCubit k v).temps = s.temps := rfl
@[simp] theorem State.setCubit_cur (s : State) (k : Nat) (v : Cubit) : (s.setCubit k v).cur = s.cur := rfl
@[simp] theorem State.setCubit_exc (s : State) (k : Nat) (v : Cubit) : (s.setCubit k v).exc = s.exc := rfl
@[simp] theorem State.setCubit_bal (s : State) (k : Nat) (v : Cubit) : (s.setCubit k v).bal = s.bal := rfl
@[simp] theorem State.setCubit_get (s : State) (k : Nat) (v : Cubit) (r : Field) : (s.setCubit k v).get r = s.get r := rfl
@[simp] theorem State.setCubit_flag (s : State) (k : Nat) (v : Cubit) (r : Field) : (s.setCubit k v).flag r = s.flag r := rfl
@[simp] theorem State.setCubit_ready (s : State) (k : Nat) (v : Cubit) : (s.setCubit k v).ready = s.ready := rfl

@[simp] theorem State.setLoadBin_pending (s : State) (c k : Nat) (v : LoadBin) : (s.setLoadBin c k v).pending = s.pending := rfl
@[simp] theorem State.setLoadBin_clk (s : State) (c k : Nat) (v : LoadBin) : (s.setLoadBin c k v).clk = s.clk := rfl
@[simp] theorem State.setLoadBin_regs (s : State) (c k : Nat) (v : LoadBin) : (s.setLoadBin c k v).regs = s.regs := rfl
@[simp] theorem State.setLoadBin_free (s : State) (c k : Nat) (v : LoadBin) : (s.setLoadBin c k v).free = s.free := rfl
@[simp] theorem State.setLoadBin_evt (s : State) (c k : Nat) (v : LoadBin) : (s.setLoadBin c k v).evt = s.evt := rfl
@[simp] theorem State.setLoadBin_host (s : State) (c k : Nat) (v : LoadBin) : (s.setLoadBin c k v).host = s.host := rfl
@[simp] theorem State.setLoadBin_win (s : State) (c k : Nat) (v : LoadBin) : (s.setLoadBin c k v).win = s.win := rfl
@[simp] theorem State.setLoadBin_tb (s : State) (c k : Nat) (v : LoadBin) : (s.setLoadBin c k v).tb = s.tb := rfl
@[simp] theorem State.setLoadBin_chain (s : State) (c k : Nat) (v : LoadBin) : (s.setLoadBin c k v).chain = s.chain := rfl
@[simp] theorem State.setLoadBin_pwr (s : State) (c k : Nat) (v : LoadBin) : (s.setLoadBin c k v).pwr = s.pwr := rfl
@[simp] theorem State.setLoadBin_ret (s : State) (c k : Nat) (v : LoadBin) : (s.setLoadBin c k v).ret = s.ret := rfl
@[simp] theorem State.setLoadBin_tw (s : State) (c k : Nat) (v : LoadBin) : (s.setLoadBin c k v).tw = s.tw := rfl
@[simp] theorem State.setLoadBin_start (s : State) (c k : Nat) (v : LoadBin) : (s.setLoadBin c k v).start = s.start := rfl
@[simp] theorem State.setLoadBin_link (s : State) (c k : Nat) (v : LoadBin) : (s.setLoadBin c k v).link = s.link := rfl
@[simp] theorem State.setLoadBin_prim (s : State) (c k : Nat) (v : LoadBin) : (s.setLoadBin c k v).prim = s.prim := rfl
@[simp] theorem State.setLoadBin_sec (s : State) (c k : Nat) (v : LoadBin) : (s.setLoadBin c k v).sec = s.sec := rfl
@[simp] theorem State.setLoadBin_temps (s : State) (c k : Nat) (v : LoadBin) : (s.setLoadBin c k v).temps = s.temps := rfl
@[simp] theorem State.setLoadBin_cur (s : State) (c k : Nat) (v : LoadBin) : (s.setLoadBin c k v).cur = s.cur := rfl
@[simp] theorem State.setLoadBin_exc (s : State) (c k : Nat) (v : LoadBin) : (s.setLoadBin c k v).exc = s.exc := rfl
@[simp] theorem State.setLoadBin_bal (s : State) (c k : Nat) (v : LoadBin) : (s.setLoadBin c k v).bal = s.bal := rfl
@[simp] theorem State.setLoadBin_get (s : State) (c k : Nat) (v : LoadBin) (r : Field) : (s.setLoadBin c k v).get r = s.get r := rfl
@[simp] theorem State.setLoadBin_flag (s : State) (c k : Nat) (v : LoadBin) (r : Field) : (s.setLoadBin c k v).flag r = s.flag r := rfl
@[simp] theorem State.setLoadBin_ready (s : State) (c k : Nat) (v : LoadBin) : (s.setLoadBin c k v).ready = s.ready := rfl

@[simp] theorem State.setServe_pending (s : State) (k c : Nat) (v : Serve) : (s.setServe k c v).pending = s.pending := rfl
@[simp] theorem State.setServe_clk (s : State) (k c : Nat) (v : Serve) : (s.setServe k c v).clk = s.clk := rfl
@[simp] theorem State.setServe_regs (s : State) (k c : Nat) (v : Serve) : (s.setServe k c v).regs = s.regs := rfl
@[simp] theorem State.setServe_free (s : State) (k c : Nat) (v : Serve) : (s.setServe k c v).free = s.free := rfl
@[simp] theorem State.setServe_evt (s : State) (k c : Nat) (v : Serve) : (s.setServe k c v).evt = s.evt := rfl
@[simp] theorem State.setServe_host (s : State) (k c : Nat) (v : Serve) : (s.setServe k c v).host = s.host := rfl
@[simp] theorem State.setServe_win (s : State) (k c : Nat) (v : Serve) : (s.setServe k c v).win = s.win := rfl
@[simp] theorem State.setServe_tb (s : State) (k c : Nat) (v : Serve) : (s.setServe k c v).tb = s.tb := rfl
@[simp] theorem State.setServe_chain (s : State) (k c : Nat) (v : Serve) : (s.setServe k c v).chain = s.chain := rfl
@[simp] theorem State.setServe_pwr (s : State) (k c : Nat) (v : Serve) : (s.setServe k c v).pwr = s.pwr := rfl
@[simp] theorem State.setServe_ret (s : State) (k c : Nat) (v : Serve) : (s.setServe k c v).ret = s.ret := rfl
@[simp] theorem State.setServe_tw (s : State) (k c : Nat) (v : Serve) : (s.setServe k c v).tw = s.tw := rfl
@[simp] theorem State.setServe_start (s : State) (k c : Nat) (v : Serve) : (s.setServe k c v).start = s.start := rfl
@[simp] theorem State.setServe_link (s : State) (k c : Nat) (v : Serve) : (s.setServe k c v).link = s.link := rfl
@[simp] theorem State.setServe_sec (s : State) (k c : Nat) (v : Serve) : (s.setServe k c v).sec = s.sec := rfl
@[simp] theorem State.setServe_temps (s : State) (k c : Nat) (v : Serve) : (s.setServe k c v).temps = s.temps := rfl
@[simp] theorem State.setServe_cur (s : State) (k c : Nat) (v : Serve) : (s.setServe k c v).cur = s.cur := rfl
@[simp] theorem State.setServe_exc (s : State) (k c : Nat) (v : Serve) : (s.setServe k c v).exc = s.exc := rfl
@[simp] theorem State.setServe_fab (s : State) (k c : Nat) (v : Serve) : (s.setServe k c v).fab = s.fab := rfl
@[simp] theorem State.setServe_bal (s : State) (k c : Nat) (v : Serve) : (s.setServe k c v).bal = s.bal := rfl
@[simp] theorem State.setServe_get (s : State) (k c : Nat) (v : Serve) (r : Field) : (s.setServe k c v).get r = s.get r := rfl
@[simp] theorem State.setServe_flag (s : State) (k c : Nat) (v : Serve) (r : Field) : (s.setServe k c v).flag r = s.flag r := rfl
@[simp] theorem State.setServe_ready (s : State) (k c : Nat) (v : Serve) : (s.setServe k c v).ready = s.ready := rfl

theorem State.tl_setTl (s : State) (k j : Nat) (v : TierLink) : (s.setTl k v).tl j = if k = j then v else s.tl j := kvGet_kvSet _ _ _ _ _
@[simp] theorem State.tl_setTl_same (s : State) (k : Nat) (v : TierLink) : (s.setTl k v).tl k = v := kvGet_kvSet_same _ _ _ _
theorem State.pr_setPr (s : State) (k j : Nat) (v : TierPrim) : (s.setPr k v).pr j = if k = j then v else s.pr j := kvGet_kvSet _ _ _ _ _
@[simp] theorem State.pr_setPr_same (s : State) (k : Nat) (v : TierPrim) : (s.setPr k v).pr k = v := kvGet_kvSet_same _ _ _ _
theorem State.sq_setSq (s : State) (k j : Nat) (v : TierSec) : (s.setSq k v).sq j = if k = j then v else s.sq j := kvGet_kvSet _ _ _ _ _
@[simp] theorem State.sq_setSq_same (s : State) (k : Nat) (v : TierSec) : (s.setSq k v).sq k = v := kvGet_kvSet_same _ _ _ _
theorem State.tt_setTt (s : State) (k j : Nat) (v : TierTherm) : (s.setTt k v).tt j = if k = j then v else s.tt j := kvGet_kvSet _ _ _ _ _
@[simp] theorem State.tt_setTt_same (s : State) (k : Nat) (v : TierTherm) : (s.setTt k v).tt k = v := kvGet_kvSet_same _ _ _ _
theorem State.strg_setStrg (s : State) (k j : Nat) (v : Strg) : (s.setStrg k v).strg j = if k = j then v else s.strg j := kvGet_kvSet _ _ _ _ _
@[simp] theorem State.strg_setStrg_same (s : State) (k : Nat) (v : Strg) : (s.setStrg k v).strg k = v := kvGet_kvSet_same _ _ _ _
theorem State.pt_setPt (s : State) (k j : Nat) (v : Port) : (s.setPt k v).pt j = if k = j then v else s.pt j := kvGet_kvSet _ _ _ _ _
@[simp] theorem State.pt_setPt_same (s : State) (k : Nat) (v : Port) : (s.setPt k v).pt k = v := kvGet_kvSet_same _ _ _ _
theorem State.seqSt_setSeqSt (s : State) (k j : Nat) (v : SeqState) : (s.setSeqSt k v).seqSt j = if k = j then v else s.seqSt j := kvGet_kvSet _ _ _ _ _
@[simp] theorem State.seqSt_setSeqSt_same (s : State) (k : Nat) (v : SeqState) : (s.setSeqSt k v).seqSt k = v := kvGet_kvSet_same _ _ _ _
theorem State.window_setWindow (s : State) (k j : Nat) (v : Option Window) : (s.setWindow k v).window j = if k = j then v else s.window j := kvGet_kvSet _ _ _ _ _
@[simp] theorem State.window_setWindow_same (s : State) (k : Nat) (v : Option Window) : (s.setWindow k v).window k = v := kvGet_kvSet_same _ _ _ _
theorem State.latchAt_setLatch (s : State) (k j : Nat) (v : LatchEntry) : (s.setLatch k v).latchAt j = if k = j then v else s.latchAt j := kvGet_kvSet _ _ _ _ _
@[simp] theorem State.latchAt_setLatch_same (s : State) (k : Nat) (v : LatchEntry) : (s.setLatch k v).latchAt k = v := kvGet_kvSet_same _ _ _ _
theorem State.excTier_setExc (s : State) (k j : Nat) (v : Option ExcTier) : (s.setExc k v).excTier j = if k = j then v else s.excTier j := kvGet_kvSet _ _ _ _ _
@[simp] theorem State.excTier_setExc_same (s : State) (k : Nat) (v : Option ExcTier) : (s.setExc k v).excTier k = v := kvGet_kvSet_same _ _ _ _
theorem State.chan_setChan (s : State) (k j : Nat) (v : Chan) : (s.setChan k v).chan j = if k = j then v else s.chan j := kvGet_kvSet _ _ _ _ _
@[simp] theorem State.chan_setChan_same (s : State) (k : Nat) (v : Chan) : (s.setChan k v).chan k = v := kvGet_kvSet_same _ _ _ _
theorem State.stage_setStage (s : State) (k j : Nat) (v : Stage) : (s.setStage k v).stage j = if k = j then v else s.stage j := kvGet_kvSet _ _ _ _ _
@[simp] theorem State.stage_setStage_same (s : State) (k : Nat) (v : Stage) : (s.setStage k v).stage k = v := kvGet_kvSet_same _ _ _ _
theorem State.job_setJob (s : State) (k j : Nat) (v : Job) : (s.setJob k v).job j = if k = j then v else s.job j := kvGet_kvSet _ _ _ _ _
@[simp] theorem State.job_setJob_same (s : State) (k : Nat) (v : Job) : (s.setJob k v).job k = v := kvGet_kvSet_same _ _ _ _
theorem State.hold_setHold (s : State) (k j : Nat) (v : Option BlockHold) : (s.setHold k v).hold j = if k = j then v else s.hold j := kvGet_kvSet _ _ _ _ _
@[simp] theorem State.hold_setHold_same (s : State) (k : Nat) (v : Option BlockHold) : (s.setHold k v).hold k = v := kvGet_kvSet_same _ _ _ _
theorem State.cubit_setCubit (s : State) (k j : Nat) (v : Cubit) : (s.setCubit k v).cubit j = if k = j then v else s.cubit j := kvGet_kvSet _ _ _ _ _
@[simp] theorem State.cubit_setCubit_same (s : State) (k : Nat) (v : Cubit) : (s.setCubit k v).cubit k = v := kvGet_kvSet_same _ _ _ _
@[simp] theorem State.put_tl (s : State) (f : Field) (v : Nat) (k : Nat) : (s.put f v).tl k = s.tl k := by
  unfold State.tl; rfl
@[simp] theorem State.putFlag_tl (s : State) (f : Field) (v : Bool) (k : Nat) : (s.putFlag f v).tl k = s.tl k := s.put_tl _ _ k
@[simp] theorem State.bump_tl (s : State) (f : Field) (k : Nat) : (s.bump f).tl k = s.tl k := s.put_tl _ _ k
@[simp] theorem State.put_linkUp (s : State) (f : Field) (v : Nat) (k : Nat) : (s.put f v).linkUp k = s.linkUp k := by
  unfold State.linkUp State.tl; rfl
@[simp] theorem State.putFlag_linkUp (s : State) (f : Field) (v : Bool) (k : Nat) : (s.putFlag f v).linkUp k = s.linkUp k := s.put_linkUp _ _ k
@[simp] theorem State.bump_linkUp (s : State) (f : Field) (k : Nat) : (s.bump f).linkUp k = s.linkUp k := s.put_linkUp _ _ k
@[simp] theorem State.put_pr (s : State) (f : Field) (v : Nat) (k : Nat) : (s.put f v).pr k = s.pr k := by
  unfold State.pr; rfl
@[simp] theorem State.putFlag_pr (s : State) (f : Field) (v : Bool) (k : Nat) : (s.putFlag f v).pr k = s.pr k := s.put_pr _ _ k
@[simp] theorem State.bump_pr (s : State) (f : Field) (k : Nat) : (s.bump f).pr k = s.pr k := s.put_pr _ _ k
@[simp] theorem State.put_sq (s : State) (f : Field) (v : Nat) (k : Nat) : (s.put f v).sq k = s.sq k := by
  unfold State.sq; rfl
@[simp] theorem State.putFlag_sq (s : State) (f : Field) (v : Bool) (k : Nat) : (s.putFlag f v).sq k = s.sq k := s.put_sq _ _ k
@[simp] theorem State.bump_sq (s : State) (f : Field) (k : Nat) : (s.bump f).sq k = s.sq k := s.put_sq _ _ k
@[simp] theorem State.put_tt (s : State) (f : Field) (v : Nat) (k : Nat) : (s.put f v).tt k = s.tt k := by
  unfold State.tt; rfl
@[simp] theorem State.putFlag_tt (s : State) (f : Field) (v : Bool) (k : Nat) : (s.putFlag f v).tt k = s.tt k := s.put_tt _ _ k
@[simp] theorem State.bump_tt (s : State) (f : Field) (k : Nat) : (s.bump f).tt k = s.tt k := s.put_tt _ _ k
@[simp] theorem State.put_strg (s : State) (f : Field) (v : Nat) (k : Nat) : (s.put f v).strg k = s.strg k := by
  unfold State.strg; rfl
@[simp] theorem State.putFlag_strg (s : State) (f : Field) (v : Bool) (k : Nat) : (s.putFlag f v).strg k = s.strg k := s.put_strg _ _ k
@[simp] theorem State.bump_strg (s : State) (f : Field) (k : Nat) : (s.bump f).strg k = s.strg k := s.put_strg _ _ k
@[simp] theorem State.put_pt (s : State) (f : Field) (v : Nat) (k : Nat) : (s.put f v).pt k = s.pt k := by
  unfold State.pt; rfl
@[simp] theorem State.putFlag_pt (s : State) (f : Field) (v : Bool) (k : Nat) : (s.putFlag f v).pt k = s.pt k := s.put_pt _ _ k
@[simp] theorem State.bump_pt (s : State) (f : Field) (k : Nat) : (s.bump f).pt k = s.pt k := s.put_pt _ _ k
@[simp] theorem State.put_seqSt (s : State) (f : Field) (v : Nat) (k : Nat) : (s.put f v).seqSt k = s.seqSt k := by
  unfold State.seqSt; rfl
@[simp] theorem State.putFlag_seqSt (s : State) (f : Field) (v : Bool) (k : Nat) : (s.putFlag f v).seqSt k = s.seqSt k := s.put_seqSt _ _ k
@[simp] theorem State.bump_seqSt (s : State) (f : Field) (k : Nat) : (s.bump f).seqSt k = s.seqSt k := s.put_seqSt _ _ k
@[simp] theorem State.put_window (s : State) (f : Field) (v : Nat) (k : Nat) : (s.put f v).window k = s.window k := by
  unfold State.window; rfl
@[simp] theorem State.putFlag_window (s : State) (f : Field) (v : Bool) (k : Nat) : (s.putFlag f v).window k = s.window k := s.put_window _ _ k
@[simp] theorem State.bump_window (s : State) (f : Field) (k : Nat) : (s.bump f).window k = s.window k := s.put_window _ _ k
@[simp] theorem State.put_latchAt (s : State) (f : Field) (v : Nat) (k : Nat) : (s.put f v).latchAt k = s.latchAt k := by
  unfold State.latchAt; rfl
@[simp] theorem State.putFlag_latchAt (s : State) (f : Field) (v : Bool) (k : Nat) : (s.putFlag f v).latchAt k = s.latchAt k := s.put_latchAt _ _ k
@[simp] theorem State.bump_latchAt (s : State) (f : Field) (k : Nat) : (s.bump f).latchAt k = s.latchAt k := s.put_latchAt _ _ k
@[simp] theorem State.put_excTier (s : State) (f : Field) (v : Nat) (k : Nat) : (s.put f v).excTier k = s.excTier k := by
  unfold State.excTier; rfl
@[simp] theorem State.putFlag_excTier (s : State) (f : Field) (v : Bool) (k : Nat) : (s.putFlag f v).excTier k = s.excTier k := s.put_excTier _ _ k
@[simp] theorem State.bump_excTier (s : State) (f : Field) (k : Nat) : (s.bump f).excTier k = s.excTier k := s.put_excTier _ _ k
@[simp] theorem State.put_chan (s : State) (f : Field) (v : Nat) (k : Nat) : (s.put f v).chan k = s.chan k := by
  unfold State.chan; rfl
@[simp] theorem State.putFlag_chan (s : State) (f : Field) (v : Bool) (k : Nat) : (s.putFlag f v).chan k = s.chan k := s.put_chan _ _ k
@[simp] theorem State.bump_chan (s : State) (f : Field) (k : Nat) : (s.bump f).chan k = s.chan k := s.put_chan _ _ k
@[simp] theorem State.put_stage (s : State) (f : Field) (v : Nat) (k : Nat) : (s.put f v).stage k = s.stage k := by
  unfold State.stage; rfl
@[simp] theorem State.putFlag_stage (s : State) (f : Field) (v : Bool) (k : Nat) : (s.putFlag f v).stage k = s.stage k := s.put_stage _ _ k
@[simp] theorem State.bump_stage (s : State) (f : Field) (k : Nat) : (s.bump f).stage k = s.stage k := s.put_stage _ _ k
@[simp] theorem State.put_job (s : State) (f : Field) (v : Nat) (k : Nat) : (s.put f v).job k = s.job k := by
  unfold State.job; rfl
@[simp] theorem State.putFlag_job (s : State) (f : Field) (v : Bool) (k : Nat) : (s.putFlag f v).job k = s.job k := s.put_job _ _ k
@[simp] theorem State.bump_job (s : State) (f : Field) (k : Nat) : (s.bump f).job k = s.job k := s.put_job _ _ k
@[simp] theorem State.put_hold (s : State) (f : Field) (v : Nat) (k : Nat) : (s.put f v).hold k = s.hold k := by
  unfold State.hold; rfl
@[simp] theorem State.putFlag_hold (s : State) (f : Field) (v : Bool) (k : Nat) : (s.putFlag f v).hold k = s.hold k := s.put_hold _ _ k
@[simp] theorem State.bump_hold (s : State) (f : Field) (k : Nat) : (s.bump f).hold k = s.hold k := s.put_hold _ _ k
@[simp] theorem State.put_cubit (s : State) (f : Field) (v : Nat) (k : Nat) : (s.put f v).cubit k = s.cubit k := by
  unfold State.cubit; rfl
@[simp] theorem State.putFlag_cubit (s : State) (f : Field) (v : Bool) (k : Nat) : (s.putFlag f v).cubit k = s.cubit k := s.put_cubit _ _ k
@[simp] theorem State.bump_cubit (s : State) (f : Field) (k : Nat) : (s.bump f).cubit k = s.cubit k := s.put_cubit _ _ k
@[simp] theorem State.put_abs (s : State) (f : Field) (v : Nat)  : (s.put f v).abs  = s.abs  := by
  unfold State.abs; rfl
@[simp] theorem State.putFlag_abs (s : State) (f : Field) (v : Bool)  : (s.putFlag f v).abs  = s.abs  := s.put_abs _ _ 
@[simp] theorem State.bump_abs (s : State) (f : Field)  : (s.bump f).abs  = s.abs  := s.put_abs _ _ 

@[simp] theorem State.when_true (s : State) (f : State → State) : s.when true f = f s := rfl
@[simp] theorem State.when_false (s : State) (f : State → State) : s.when false f = s := rfl
@[simp] theorem State.each_nil (s : State) (f : Nat → State → State) : s.each [] f = s := rfl
@[simp] theorem State.each_cons (s : State) (k : Nat) (l : List Nat) (f : Nat → State → State) : s.each (k :: l) f = (f k s).each l f := rfl

/-- An operation that keeps a property keeps it where a condition decides. -/
theorem State.when_keeps (p : State → Prop) (s : State) (b : Bool) (f : State → State) (h : p s) (hf : p s → p (f s)) : p (s.when b f) := by
  cases b
  · exact h
  · exact hf h

/-- An operation that keeps a property keeps it over a list. -/
theorem State.each_keeps (p : State → Prop) (l : List Nat) (f : Nat → State → State) (hf : ∀ k t, p t → p (f k t)) :
    ∀ s : State, p s → p (s.each l f) := by
  induction l with
  | nil => exact fun s h => h
  | cons k l ih => exact fun s h => ih _ (hf k s h)

end Sys2Proof.Machine
end

