-- ==== Sys2Proof/Laws/Commands.lean ====
section
/-!
SUPPORT. The shared path of every host command: the next command of its source that meets an idle management processor is carried out
once; what recording and replying leave.
-/

namespace Sys2Proof.Machine

theorem seqField_fits (src : Nat) (b : Bool) : (seqField src b).lo + (seqField src b).w ≤ 32 := by
  cases b <;> simp [seqField, Reg.LAST_HSEQ, Reg.LAST_BHSEQ]

theorem seqField_w (src : Nat) (b : Bool) : (seqField src b).w = 16 := by
  cases b <;> rfl

theorem get_lt (s : State) (f : Field) : s.get f < 2 ^ f.w := bitsOf_lt _ _ _

/-- An executable command is carried out. -/
theorem receive_accepts (c : Cmd) (m : Meta) (s : State) (h : accepts m s) : receive false c m s = carryOut c m s := by
  obtain ⟨hr, hm, hq, _, hs⟩ := h
  have hmm := hm
  simp only [metaOk, Bool.and_eq_true, decide_eq_true_eq] at hmm
  have hw : waitingOf m.src m.bcast s = [] := by simp [waitingOf, hq]
  have hl : lastSeen m.src m.bcast s = ((s.seqSt (seqIdx m.src m.bcast)).valid, s.get (seqField m.src m.bcast)) := by
    simp [lastSeen]
  have hlt : s.get (seqField m.src m.bcast) < 65536 := by
    have := get_lt s (seqField m.src m.bcast)
    rw [seqField_w] at this; exact this
  have hc : classify (s.seqSt (seqIdx m.src m.bcast)).valid
      ((m.hseq + 65536 - s.get (seqField m.src m.bcast)) % 65536) = .next := by
    unfold classify
    rcases hs with hs | hs
    · simp [hs]
    · have : (m.hseq + 65536 - s.get (seqField m.src m.bcast)) % 65536 = 1 := by omega
      simp [this]
  unfold receive
  simp only [hr, hm, hw, List.any_nil, Bool.not_true, Bool.or_self, Bool.false_eq_true, if_false, hl, hc]
  unfold dispatch
  by_cases hf : c.fast = true <;> simp [hf, hq]

/-- Under the full firmware a command is obeyed as it stands. -/
theorem obey_full (c : Cmd) (m : Meta) (s : State) (h : s.flag Reg.RESCUE = false) : obey c m s = runCmd c m s := by
  simp [obey, h]

/-- An executable command: its answer is recorded unless it is BUSY, and sent. -/
theorem exec_accepts (c : Cmd) (m : Meta) (s : State) (h : accepts m s) :
    receive false c m s = sendReply m (runCmd c m s).status (runCmd c m s).data
      (if (runCmd c m s).status = St.busy then (runCmd c m s).st
       else record c m (runCmd c m s).status (runCmd c m s).data (runCmd c m s).st) := by
  rw [receive_accepts c m s h, carryOut, obey_full c m s h.2.2.2.1]

/-! ### What a reply leaves -/

theorem coreSame_refl (s : State) : coreSame s s := rfl

theorem coreSame_regs (s : State) (r : WordMap) : coreSame s { s with regs := r } := rfl
theorem coreSame_host (s : State) (r : HostPort) : coreSame s { s with host := r } := rfl
theorem coreSame_win (s : State) (r : Windows) : coreSame s { s with win := r } := rfl
theorem coreSame_chain (s : State) (r : Chain) : coreSame s { s with chain := r } := rfl
theorem coreSame_put (s : State) (f : Field) (v : Nat) : coreSame s (s.put f v) := coreSame_regs _ _

theorem coreSame_trans {s t u : State} (h1 : coreSame s t) (h2 : coreSame t u) : coreSame s u := by
  have h : u = { t with host := u.host, win := u.win, chain := u.chain, regs := u.regs } := h2
  have e : ({ t with host := u.host, win := u.win, chain := u.chain, regs := u.regs } : State)
      = { s with host := u.host, win := u.win, chain := u.chain, regs := u.regs } := by rw [show t = _ from h1]
  exact h.trans e

/-- What entering a frame into a queue leaves. -/
theorem sendTo_core (d : Dest) (f : Frame) (s : State) (p : Nat) (hd : ∀ q, d = .port q → q = p) (hf : f.ftype = 2) :
    coreSame s (sendTo d f s) ∧ (sendTo d f s).win = s.win ∧ (∀ i, (sendTo d f s).seqSt i = s.seqSt i) ∧
      wordsSame (fun a => a = (Reg.TXQ_DROP p).a) s (sendTo d f s) := by
  cases d with
  | spi =>
    simp only [sendTo, hqAdd, hf]
    rw [if_neg (by decide)]
    split <;> exact ⟨rfl, rfl, fun _ => rfl, fun _ _ => rfl⟩
  | tw =>
    simp only [sendTo, twqAdd, hf]
    rw [if_neg (by decide)]
    split <;> exact ⟨rfl, rfl, fun _ => rfl, fun _ _ => rfl⟩
  | port q =>
    have hq := hd q rfl
    subst hq
    simp only [sendTo, txAdd]
    generalize (if (decide ((routeTo s q f).ftype = 3) || decide ((routeTo s q f).ftype = 5)) = true then 28 else 32) = room
    split
    · exact ⟨rfl, rfl, fun _ => rfl, fun _ _ => rfl⟩
    · refine ⟨coreSame_put _ _ _, State.bump_win _ _, fun i => State.bump_seqSt _ _ _, ?_⟩
      unfold wordsSame State.bump State.bumpBy State.put State.word putField
      intro a ha
      have hne : ¬ (Reg.TXQ_DROP q).a = a := by
        intro e
        apply ha
        rw [e]
      rw [wordAt_putWord, if_neg hne]

theorem destOf_port (m : Meta) (q : Nat) (h : destOf m = .port q) : q = m.port := by
  unfold destOf at h
  split at h <;> simp_all

/-- A reply leaves everything but the host ports, the chain queues and the count of dropped frames. -/
theorem sendReply_core (m : Meta) (status : Nat) (data : List Byte) (s : State) :
    coreSame s (sendReply m status data s) ∧ (sendReply m status data s).win = s.win ∧
      (∀ i, (sendReply m status data s).seqSt i = s.seqSt i) ∧
      wordsSame (fun a => a = (Reg.TXQ_DROP m.port).a) s (sendReply m status data s) := by
  unfold sendReply
  generalize payloads data = l
  induction l generalizing s with
  | nil => exact ⟨rfl, rfl, fun _ => rfl, fun _ _ => rfl⟩
  | cons p l ih =>
    have h1 := sendTo_core (destOf m) (ownFrame s 2 m.hseq status p) s m.port (destOf_port m) rfl
    have h2 := ih (sendTo (destOf m) (ownFrame s 2 m.hseq status p) s)
    exact ⟨coreSame_trans h1.1 h2.1, h2.2.1.trans h1.2.1, fun i => (h2.2.2.1 i).trans (h1.2.2.1 i),
      fun a ha => (h2.2.2.2 a ha).trans (h1.2.2.2 a ha)⟩

/-- The frames of a reply to the SPI port, where its queue has room. -/
theorem sendReply_spi (m : Meta) (status : Nat) (data : List Byte) (s : State) (hm : m.src = 0)
    (hr : s.host.hq.length + (payloads data).length ≤ 64) :
    (sendReply m status data s).host.hq = s.host.hq ++ replyFrames m status data s := by
  have hd : destOf m = .spi := by simp [destOf, hm]
  unfold sendReply replyFrames
  rw [hd]
  generalize payloads data = l at *
  induction l generalizing s with
  | nil => simp
  | cons p l ih =>
    have e : sendTo .spi (ownFrame s 2 m.hseq status p) s
        = { s with host := { s.host with hq := s.host.hq ++ [ownFrame s 2 m.hseq status p] } } := by
      simp only [List.length_cons] at hr
      simp [sendTo, hqAdd, ownFrame, show s.host.hq.length < 64 by omega]
    simp only [List.foldl_cons, e]
    rw [ih]
    · simp only [List.map_cons, List.append_assoc, List.singleton_append]; rfl
    · simp only [List.length_append, List.length_cons, List.length_nil] at *; omega

/-! ### What recording leaves -/

/-- The cache of the source of `m` with one more reply. -/
def cacheWith (m : Meta) (status : Nat) (data : List Byte) (s : State) : List Cached :=
  let cache := (s.seqSt (seqIdx m.src m.bcast)).cache.filter (fun (x : Cached) => x.hseq != m.hseq) ++ [⟨m.hseq, status, data⟩]
  cache.drop (cache.length - 8)

theorem cacheWith_last (m : Meta) (status : Nat) (data : List Byte) (s : State) :
    (cacheWith m status data s).getLast? = some ⟨m.hseq, status, data⟩ := by
  unfold cacheWith
  simp only []
  rw [List.getLast?_drop, if_neg (by simp only [List.length_append, List.length_cons, List.length_nil]; omega)]
  simp

/-- Recording the answer of the next command: its HSEQ, its reply as the latest of the cache, and nothing else but the word of the
counter. -/
theorem record_next (c : Cmd) (m : Meta) (status : Nat) (data : List Byte) (s : State) (hm : metaOk m = true)
    (hs : (s.seqSt (seqIdx m.src m.bcast)).valid = false ∨ m.hseq = (s.get (seqField m.src m.bcast) + 1) % 65536) :
    (record c m status data s).get (seqField m.src m.bcast) = m.hseq ∧
      (record c m status data s).seqSt (seqIdx m.src m.bcast) =
        ⟨true, cacheWith m status data s⟩ ∧
      coreSame s (record c m status data s) ∧ (record c m status data s).win = s.win ∧ (record c m status data s).chain = s.chain ∧
      (record c m status data s).host.hq = s.host.hq ∧
      wordsSame (fun a => a = (seqField m.src m.bcast).a) s (record c m status data s) := by
  have hlt : s.get (seqField m.src m.bcast) < 65536 := by
    have := get_lt s (seqField m.src m.bcast)
    rw [seqField_w] at this; exact this
  have hh : m.hseq < 65536 := by
    simp only [metaOk, Bool.and_eq_true, decide_eq_true_eq] at hm; exact hm.1.2
  have hback : ((s.seqSt (seqIdx m.src m.bcast)).valid && decide (32768 < (m.hseq + 65536 - s.get (seqField m.src m.bcast)) % 65536)
      && c != .seqstate) = false := by
    rcases hs with hs | hs
    · simp [hs]
    · have : ¬ 32768 < (m.hseq + 65536 - s.get (seqField m.src m.bcast)) % 65536 := by omega
      simp [this]
  unfold record
  simp only [hback, Bool.false_eq_true, if_false]
  refine ⟨?_, ?_, ?_, by simp, by simp, ?_, ?_⟩
  · simp only [State.setSeqSt_get]
    rw [State.get_put _ _ _ (seqField_fits _ _), seqField_w]
    exact Nat.mod_eq_of_lt hh
  · rw [State.seqSt_setSeqSt_same]; rfl
  · exact coreSame_trans (coreSame_put s _ _) (coreSame_host _ _)
  · rfl
  · intro a ha
    have e : ∀ (u : State) (k : Nat) (v : SeqState), (u.setSeqSt k v).word a = u.word a := fun u k v => by
      unfold State.word; rw [State.setSeqSt_regs]
    rw [e]
    unfold State.put State.word putField
    have hne : ¬ (seqField m.src m.bcast).a = a := by
      intro e
      apply ha
      rw [e]
    rw [wordAt_putWord, if_neg hne]

/-- The whole of what an executable command leaves, from its answer: for a meaning that leaves the counters, the host queue and the
position of the module. -/
theorem exec_answered (c : Cmd) (m : Meta) (s : State) (h : accepts m s) (hb : (runCmd c m s).status ≠ St.busy)
    (h1 : (runCmd c m s).st.seqSt (seqIdx m.src m.bcast) = s.seqSt (seqIdx m.src m.bcast))
    (h2 : (runCmd c m s).st.get (seqField m.src m.bcast) = s.get (seqField m.src m.bcast))
    (h3 : (runCmd c m s).st.host.hq = s.host.hq)
    (h4 : (runCmd c m s).st.get Reg.POS_UPH = s.get Reg.POS_UPH) (h5 : (runCmd c m s).st.flag Reg.HEAD_NOW = s.flag Reg.HEAD_NOW) :
    answered m (runCmd c m s).status (runCmd c m s).data s (receive false c m s) ∧
      coreSame (runCmd c m s).st (receive false c m s) ∧ (receive false c m s).win = (runCmd c m s).st.win ∧
      wordsSame (replyWord m) (runCmd c m s).st (receive false c m s) := by
  rw [exec_accepts c m s h, if_neg hb]
  generalize runCmd c m s = a at *
  have hs := h.2.2.2.2
  rw [← h1, ← h2] at hs
  obtain ⟨r1, r2, r3, r4, r5, r6, r7⟩ := record_next c m a.status a.data a.st h.2.1 hs
  obtain ⟨q1, q2, q3, q4⟩ := sendReply_core m a.status a.data (record c m a.status a.data a.st)
  have ne1 : (seqField m.src m.bcast).a ≠ (Reg.TXQ_DROP m.port).a := by
    have hm := h.2.1
    simp only [metaOk, Bool.and_eq_true, decide_eq_true_eq] at hm
    cases m.bcast <;> simp only [seqField, Reg.LAST_HSEQ, Reg.LAST_BHSEQ, Reg.TXQ_DROP, Wd.SEQ_HSEQ, Wd.PC_DROP] <;> simp <;> omega
  refine ⟨⟨?_, ?_, ?_, ?_⟩, coreSame_trans r3 q1, q2.trans r4, ?_⟩
  · have e := q4 (seqField m.src m.bcast).a ne1
    unfold State.get fieldAt at r1 ⊢
    unfold State.word at e
    rw [e]; exact r1
  · rw [q3, r2]
  · rw [q3, r2]
    exact cacheWith_last _ _ _ _
  · intro hm hr
    have hd : (record c m a.status a.data a.st).host.hq = s.host.hq := r6.trans h3
    rw [sendReply_spi m _ _ _ hm (by rw [hd]; exact hr), hd]
    have w : ∀ f : Field, f.a ≠ (seqField m.src m.bcast).a → (record c m a.status a.data a.st).get f = a.st.get f := by
      intro f hf
      have := r7 f.a hf
      unfold State.word at this
      unfold State.get fieldAt
      rw [this]
    have n1 : Reg.POS_UPH.a ≠ (seqField m.src m.bcast).a := by
      cases m.bcast <;> simp only [seqField, Reg.LAST_HSEQ, Reg.LAST_BHSEQ, Wd.SEQ_HSEQ, Reg.POS_UPH, hm] <;> decide
    have n2 : Reg.HEAD_NOW.a ≠ (seqField m.src m.bcast).a := by
      cases m.bcast <;> simp only [seqField, Reg.LAST_HSEQ, Reg.LAST_BHSEQ, Wd.SEQ_HSEQ, Reg.HEAD_NOW, hm] <;> decide
    have p1 := (w Reg.POS_UPH n1).trans h4
    have p2 : (record c m a.status a.data a.st).flag Reg.HEAD_NOW = s.flag Reg.HEAD_NOW := by
      rw [← h5]; have := w Reg.HEAD_NOW n2; unfold State.get at this; unfold State.flag; rw [this]
    unfold replyFrames ownFrame isHead
    rw [p1, p2]
  · intro a_ ha
    have x1 : a_ ≠ (Reg.TXQ_DROP m.port).a := fun e => ha (Or.inr e)
    have x2 : a_ ≠ (seqField m.src m.bcast).a := fun e => ha (Or.inl e)
    exact (q4 a_ x1).trans (r7 a_ x2)

/-! ### The rest of the host ports -/

/-- The parts of the host ports that a reply and its record do not touch. -/
def hostRest (h h' : HostPort) : Prop := h' = { h with hq := h'.hq, twq := h'.twq, seqs := h'.seqs }

theorem hostRest_trans {a b c : HostPort} (h1 : hostRest a b) (h2 : hostRest b c) : hostRest a c := by
  have h : c = { b with hq := c.hq, twq := c.twq, seqs := c.seqs } := h2
  have e : ({ b with hq := c.hq, twq := c.twq, seqs := c.seqs } : HostPort) = { a with hq := c.hq, twq := c.twq, seqs := c.seqs } := by
    rw [show b = _ from h1]
  exact h.trans e

theorem sendTo_host (d : Dest) (f : Frame) (s : State) : hostRest s.host (sendTo d f s).host := by
  cases d with
  | spi => simp only [sendTo, hqAdd]; repeat' split
           all_goals rfl
  | tw => simp only [sendTo, twqAdd]; repeat' split
          all_goals rfl
  | port q => simp only [sendTo, txAdd]
              generalize (if (decide ((routeTo s q f).ftype = 3) || decide ((routeTo s q f).ftype = 5)) = true then 28 else 32) = room
              split
              · rw [State.setPt_host]; rfl
              · rw [State.bump_host]; rfl

theorem sendReply_host (m : Meta) (status : Nat) (data : List Byte) (s : State) : hostRest s.host (sendReply m status data s).host := by
  unfold sendReply
  generalize payloads data = l
  induction l generalizing s with
  | nil => rfl
  | cons p l ih => exact hostRest_trans (sendTo_host _ _ _) (ih _)

theorem record_host (c : Cmd) (m : Meta) (status : Nat) (data : List Byte) (s : State) :
    hostRest s.host (record c m status data s).host := by
  unfold record
  simp only []
  split <;> rfl

/-- An executable command leaves the host ports as its meaning does, but for the queues of replies and the counters. -/
theorem exec_host (c : Cmd) (m : Meta) (s : State) (h : accepts m s) :
    hostRest (runCmd c m s).st.host (receive false c m s).host := by
  rw [exec_accepts c m s h]
  split
  · exact sendReply_host _ _ _ _
  · exact hostRest_trans (record_host _ _ _ _ _) (sendReply_host _ _ _ _)

end Sys2Proof.Machine
end

