-- ==== Sys2Proof/Laws/Reads.lean ====
section
/-!
SUPPORT. What a read of the result windows and of configuration words leaves.
-/

namespace Sys2Proof.Machine

/-- Everything outside the windows is unchanged, and every word but the count of torn reads. -/
def readKeeps (s t : State) : Prop :=
  coreSame s t ∧ t.host = s.host ∧ t.chain = s.chain ∧ wordsSame (fun a => a = Reg.TORN_COUNT.a) s t

theorem readKeeps_refl (s : State) : readKeeps s s := ⟨rfl, rfl, rfl, fun _ _ => rfl⟩

theorem readKeeps_trans {s t u : State} (h1 : readKeeps s t) (h2 : readKeeps t u) : readKeeps s u :=
  ⟨coreSame_trans h1.1 h2.1, h2.2.1.trans h1.2.1, h2.2.2.1.trans h1.2.2.1, fun a ha => (h2.2.2.2 a ha).trans (h1.2.2.2 a ha)⟩

theorem setHold_keeps (s : State) (i : Nat) (h : Option BlockHold) : readKeeps s (s.setHold i h) :=
  ⟨coreSame_win _ _, rfl, rfl, fun _ _ => rfl⟩

theorem foldl_keeps {α : Type} (f : State → α → State) (hf : ∀ t a, readKeeps t (f t a)) (l : List α) (s : State) :
    readKeeps s (l.foldl f s) := by
  induction l generalizing s with
  | nil => exact readKeeps_refl s
  | cons a l ih => exact readKeeps_trans (hf s a) (ih _)

/-- Opening and closing blocks changes the holds only. -/
theorem openBlocks_keeps (i off bytes : Nat) (s : State) : readKeeps s (openBlocks i off bytes s) := by
  unfold openBlocks
  apply foldl_keeps
  intro t j
  simp only []
  split
  · exact readKeeps_refl t
  · rename_i b len _
    have h1 : readKeeps t (if off + 4 * j = b then t.setHold i (some ⟨b, len, t.win.gen, t.abs, true⟩) else t) := by
      split
      · exact setHold_keeps _ _ _
      · exact readKeeps_refl t
    refine readKeeps_trans h1 ?_
    generalize (if off + 4 * j = b then t.setHold i (some ⟨b, len, t.win.gen, t.abs, true⟩) else t) = t1
    cases t1.hold i with
    | none => exact readKeeps_refl t1
    | some h =>
      simp only []
      split
      · exact setHold_keeps _ _ _
      · exact readKeeps_refl t1

theorem tornBump_keeps (s : State) : readKeeps s (s.bump Reg.TORN_COUNT) := by
  refine ⟨coreSame_put _ _ _, State.bump_host _ _, State.bump_chain _ _, ?_⟩
  intro a ha
  unfold State.bump State.bumpBy State.put State.word putField
  have hne : ¬ Reg.TORN_COUNT.a = a := by
    intro e; apply ha; rw [e]
  rw [wordAt_putWord, if_neg hne]

/-- A read of the completed bank changes the holds of its reader and, where it is torn, the count of torn reads. -/
theorem windowRead_keeps (i off bytes : Nat) (s : State) : readKeeps s (windowRead i off bytes s).1 := by
  unfold windowRead
  split
  · exact readKeeps_refl s
  · refine readKeeps_trans ?_ (openBlocks_keeps _ _ _ _)
    unfold State.when
    split
    · exact tornBump_keeps s
    · exact readKeeps_refl s

end Sys2Proof.Machine
end

