-- ==== Sys2Proof/Tests/Slice0.lean ====
section
/-!
SUPPORT. Tests: ill-formed commands that WellFormed refuses; for every statement with hypotheses a witness `wit_<Name>`, a concrete state and
operands that meet them, clause by clause, at a boundary of the range where there is one; and single steps whose results stand in spec/.
-/

namespace Sys2Proof.Tests

open Sys2Proof.Machine

set_option Elab.async false

/-! ### States -/

/-- The module at READY. -/
def rdy : State := { State.reset with pwr := { Power.reset with phase := .ready } }

/-- The state with fields set. -/
def puts (s : State) (l : List (Field × Nat)) : State := l.foldl (fun t x => t.put x.1 x.2) s

/-- The first command of the SPI source. -/
def m0 : Meta := ⟨0, false, 0, 0⟩

/-- What `accepts` asks, as a truth value, for the first command of a source. -/
def acceptsNow (m : Meta) (s : State) : Bool :=
  s.ready && metaOk m && s.host.fwq.isEmpty && !s.flag Reg.RESCUE && !(s.seqSt (seqIdx m.src m.bcast)).valid

theorem accepts_of (m : Meta) (s : State) (h : acceptsNow m s = true) : accepts m s := by
  simp [acceptsNow] at h
  exact ⟨h.1.1.1.1, h.1.1.1.2, h.1.1.2, h.1.2, .inl h.2⟩

/-- A module in a chain: both ports UP, no head. -/
def inChain : State := puts rdy [(Reg.PSTATE 0, 2), (Reg.PSTATE 1, 2)]

/-- The head at the down port of a chain. -/
def headNow : State := puts rdy [(Reg.HEAD_NOW, 1), (Reg.PSTATE 0, 2), (Reg.RING_N, 3)]

/-- A tier whose link is up. -/
def linked (k : Nat) (s : State) : State := s.setTl k { s.tl k with lane0 := true, lane1 := true, calibrating := false, cold := false }

/-- A frame of a module without a head. -/
def frame0 : Frame := ⟨2, 1, 0, false, false, 7, 0, 1, false, false, [0x80]⟩

/-! ### Ill-formed commands (WellFormed) -/

theorem test_wf_meta : instrWf (.ident ⟨4, false, 0, 0⟩) = false ∧ instrWf (.ident ⟨0, false, 65536, 0⟩) = false ∧
    instrWf (.ident ⟨0, false, 0, 2⟩) = false ∧ instrWf (.ident ⟨3, true, 65535, 1⟩) = true := by decide
theorem test_wf_target : instrWf (.snap m0 ⟨2 ^ 48, 0, false⟩) = false ∧ instrWf (.snap m0 ⟨0, 4096, false⟩) = false := by decide
theorem test_wf_word : instrWf (.replay m0 (2 ^ 48) 1) = false ∧ instrWf (.cfgWrite m0 0 [2 ^ 48]) = false := by decide
theorem test_wf_mask : instrWf (.balSetStop m0 (2 ^ 112)) = false ∧ instrWf (.balSetStop m0 (2 ^ 108 - 1)) = true := by decide
theorem test_wf_tier : instrWf (.tapTestStart 6) = false ∧ instrWf (.modulatorStuck 0 ⟨20, 0, 0, []⟩) = false ∧
    instrWf (.modulatorStuck 5 ⟨19, 0, 0, []⟩) = true := by decide
theorem test_wf_waves : instrWf (.subwindowEnd 0 0 (List.replicate 22 []) []) = false ∧
    instrWf (.subwindowEnd 0 0 (List.replicate 21 []) []) = true := by decide +kernel
theorem test_wf_samples : instrWf (.seqEntryDone 0 ⟨[-8193], []⟩) = false ∧ instrWf (.seqEntryDone 0 ⟨[8192], []⟩) = false ∧
    instrWf (.seqEntryDone 0 ⟨List.replicate 257 0, []⟩) = false ∧ instrWf (.seqEntryDone 0 ⟨[-8192, 8191], []⟩) = true := by decide +kernel
theorem test_wf_pair : instrWf (.portCalStart 2) = false ∧ instrWf (.tierLaneFail 5 2) = false := by decide
theorem test_wf_cell : instrWf (.stopRampDone 108) = false := by decide
theorem test_wf_cubit : instrWf (.scrubLine 32 0) = false := by decide
theorem test_wf_slot : instrWf (.jobRelease 16) = false := by decide
theorem test_wf_unit : instrWf (.cvPassStart 0) = false ∧ instrWf (.cvPassStart 4) = false := by decide
theorem test_wf_source : instrWf (.eventRaise 516 0 0 0 false false) = false := by decide
theorem test_wf_reader : instrWf (.blockCloseTimeout 8) = false := by decide
theorem test_wf_class : instrWf (.leaseExpiry 3) = false := by decide


/-! ### Witnesses of the statements' hypotheses -/

theorem acc_rdy : accepts m0 rdy := accepts_of _ _ (by decide +kernel)

/-- A module with a seen PING in the cache of its SPI source. -/
def cached : State := (puts rdy [(Reg.LAST_HSEQ 0, 7)]).setSeqSt 0 ⟨true, [⟨7, 0, [1]⟩]⟩

def m7 : Meta := ⟨0, false, 7, 0⟩

theorem wit_StepRunsFrontCommand :
    (State.reset.pending = [] ∧ State.reset.host.fwq = [] ∧ State.reset.start.testing = none ∧ State.reset.pwr.phase ≠ .store ∧
      State.reset.clk.grain < 4095) ∧
    (let s := { State.reset with clk := ⟨5, 4095⟩ }; s.pending = [] ∧ s.host.fwq = [] ∧ s.start.testing = none ∧ s.clk.grain = 4095) ∧
    (let s := { State.reset with pwr := { Power.reset with phase := .store } }; s.pending = [] ∧ s.host.fwq = [] ∧ s.start.testing = none ∧
      s.pwr.phase = .store) := by decide +kernel

theorem wit_StepsKeepTheWordMapCanonical :
    regsWf State.reset ∧ step State.reset = .next (idle State.reset) ∧ (idle State.reset).clk.grain = 1 :=
  ⟨rfl, rfl, by decide +kernel⟩

/-- A frame with every field at its limit. -/
def frameMax : Frame := ⟨15, 15, 63, true, true, 65535, 255, 63, true, true, List.replicate 52 0xFF⟩

theorem wit_FrameBytesReadBack : frameMax.ftype < 16 ∧ frameMax.ver < 16 ∧ frameMax.hops < 64 ∧ frameMax.seq < 65536 ∧ frameMax.op < 256 ∧
    frameMax.origin < 64 ∧ frameMax.payload.length ≤ 52 ∧ (frameMax.bcast = true ↔ frameMax.hops = 63) := by decide +kernel

theorem wit_FramesAreCheckedAndMessagesCut : (frame0.ftype < 16 ∧ frame0.ver < 16 ∧ frame0.hops < 64 ∧ frame0.seq < 65536 ∧ frame0.op < 256 ∧
    frame0.origin < 64 ∧ frame0.payload.length ≤ 52 ∧ (frame0.bcast = true ↔ frame0.hops = 63) ∧
    byte (crc8 (headerBytes frame0) + 1) ≠ byte (crc8 (headerBytes frame0)) ∧
    leBytes 4 (frameCrc (headerBytes frame0) frame0.payload + 1) ≠ leBytes 4 (frameCrc (headerBytes frame0) frame0.payload) ∧
    (leBytes 4 (frameCrc (headerBytes frame0) frame0.payload + 1)).length = 4 ∧
    leNat (leBytes 4 (frameCrc (headerBytes frame0) frame0.payload + 1)) ≠ frameCrc (headerBytes frame0) frame0.payload) ∧
    (List.replicate 52 (1 : Byte)).length ≤ 51 * 128 ∧ (payloads (List.replicate 52 1))[1]? = some [0x81, 1] := by decide +kernel

theorem wit_CommandsBeforeReadyAreIgnored : hostCommand (.ping m0 []) = some (m0, .ping []) ∧ State.reset.ready = false := by decide +kernel

theorem wit_RepeatedAndStaleCommandsAreNotExecuted :
    (hostCommand (.shutdown m7 false) = some (m7, .shutdown false) ∧ cached.ready = true ∧ metaOk m7 = true ∧ m7.bcast = false ∧
      Cmd.shutdown false ≠ .seqstate ∧ (Cmd.shutdown false).isRead = false ∧ cached.host.fwq = [] ∧
      (cached.seqSt (seqIdx m7.src false)).valid = true ∧ (m7.hseq + 65536 - cached.get (seqField m7.src false)) % 65536 = 0 ∧
      (cached.seqSt (seqIdx m7.src false)).cache.find? (fun y => y.hseq == m7.hseq) = some ⟨7, 0, [1]⟩) ∧
    (let m : Meta := ⟨0, false, 65535, 0⟩
     hostCommand (.ident m) = some (m, .ident) ∧ cached.ready = true ∧ metaOk m = true ∧ Cmd.ident ≠ .seqstate ∧ cached.host.fwq = [] ∧
      (cached.seqSt (seqIdx m.src m.bcast)).valid = true ∧
      32769 ≤ (m.hseq + 65536 - cached.get (seqField m.src m.bcast)) % 65536 ∧
      (m.hseq + 65536 - cached.get (seqField m.src m.bcast)) % 65536 ≤ 65528) := by decide +kernel

theorem wit_SessionCommandsAnswer : accepts m0 rdy ∧ (List.replicate 43 (0 : Byte)).length ≤ 43 ∧ (heldRange 1 4096 rdy).length ≠ 4096 ∧
    (let s := { rdy with host := { rdy.host with replayBuf := [frame0] } }; accepts m0 s ∧ (heldRange 7 1 s).length = 1) :=
  ⟨acc_rdy, by decide +kernel, by decide +kernel, accepts_of _ _ (by decide +kernel), by decide +kernel⟩

theorem wit_ReplayFramesAreSentAgain : ∀ src, src ≤ 3 →
    let s := { inChain with host := { inChain.host with replayBuf := [frame0], replays := [(src, some ⟨7, 2, 0⟩)] } }
    s.ready = true ∧ kvGet (fun _ => none) s.host.replays src = some ⟨7, 2, 0⟩ ∧ s.host.replayBuf.find? (fun x => x.seq == 7) = some frame0 ∧
      hasRoom s (destOf ⟨src, false, 0, 0⟩) = true := by decide +kernel

theorem wit_ReadsChangeNothing : accepts m0 rdy ∧ noSnap rdy 0 = false ∧ rdy.get Reg.I_SRC ≠ 3 ∧ entryOf 0 0 ≠ none ∧
    (let s := puts rdy [(Reg.JSTATE 15, 1)]; accepts m0 s ∧ s.get (Reg.JSTATE 15) ≠ 0) ∧
    (let r : Record := ⟨1, 1, 0, [0], 8, [], 0⟩
     let s := { puts rdy [(Reg.REC_NEXT, 2)] with start := { rdy.start with tun := [r] } }
     accepts m0 s ∧ namedRecord 1 s = some r ∧ 27 < 20 + r.len) ∧
    (let s := { rdy with win := { rdy.win with completed := { rdy.win.completed with n := 1, words := [(0x100, 1)] } } }
     accepts m0 s ∧ 0 < s.win.completed.n) :=
  ⟨acc_rdy, by decide +kernel, by decide +kernel, by decide +kernel, ⟨accepts_of _ _ (by decide +kernel), by decide +kernel⟩,
    ⟨accepts_of _ _ (by decide +kernel), by decide +kernel, by decide +kernel⟩, accepts_of _ _ (by decide +kernel), by decide +kernel⟩

theorem wit_CfgReadShowsTheWords : accepts m0 rdy ∧
    (let a := Reg.MODE_NOW.a; a % 4 = 0 ∧ inRegion a = true ∧ inWindow a = false ∧ a ≠ Wd.TB_NOW_LO ∧ a ≠ Wd.CHG_NET_LO) ∧
    (∀ i, i < 256 → inRegion (0x100000 + 4 * i) = true) :=
  ⟨acc_rdy, by decide +kernel, by decide +kernel⟩
/-! ### The time base -/

/-- A time master without a chain, with one edge seen and one valid period of 2,500,000 units. -/
def edged : State :=
  let s := puts rdy [(Reg.SOURCE, 0)]
  { s with tb := { s.tb with lastEdge := some 1000, lastPre := some 1000, edges := 0, valids := 1, lastPeriod := 2500000 } }

theorem wit_EdgesAreMeasuredAndMissed :
    (edged.tbUp = true ∧ isMaster edged = true ∧ true ≠ edged.flag Reg.EDGE ∧ edged.tb.lastEdge = some 1000 ∧ 1000 + 400 ≤ 2501000 ∧
      edged.get Reg.PRESCALE_M1 ≤ edged.tb.edges ∧ edged.tb.lastPre = some 1000 ∧ 1000 + 1000000 ≤ 2501000 ∧ 2501000 ≤ 1000 + 40000000 ∧
      edged.tb.valids ≠ 0 ∧ edged.tb.lastPeriod ≠ 0 ∧ edged.tb.lastPeriod = 2501000 - 1000 ∧ edged.get Reg.STATE = 0 ∧
      edged.get Reg.SOURCE = 0) ∧ false = edged.flag Reg.EDGE ∧
    (let s := edged.put Reg.PRESCALE_M1 1; s.tbUp = true ∧ s.tb.edges < s.get Reg.PRESCALE_M1) ∧
    (let s := rdy.put Reg.STATE 2; s.tbUp = true ∧ isMaster s = true ∧ s.get Reg.STATE = 2 ∧ s.tb.loss = 0) ∧
    (inChain.tbUp = true ∧ isMaster inChain = false ∧ inChain.tb.otherDir = false ∧ inChain.tb.dirDue = false) ∧
    (let s := { inChain with tb := { inChain.tb with dirDue := true } }
     s.tbUp = true ∧ isMaster s = false ∧ s.tb.dirDue = true) ∧
    (let s := { inChain with tb := { inChain.tb with otherDir := true } }
     s.tbUp = true ∧ isMaster s = false ∧ s.tb.dirDue = false ∧ s.tb.otherDir = true) := by decide +kernel

/-- A head that stands by for the time master of its segment. -/
def standby : State := puts inChain [(Reg.HEAD_NOW, 1), (Reg.ROLE, 2)]

theorem wit_HoldoverLimitFallsBackToFree :
    (let s := puts rdy [(Reg.STATE, 3), (Reg.HOLDOVER_COUNT, 256)]
     s.tbUp = true ∧ s.clk.grain = 0 ∧ takesOver s = false ∧ s.get Reg.STATE = 3 ∧ s.get Reg.HOLDOVER_SPANS ≤ s.get Reg.HOLDOVER_COUNT) ∧
    (let s := puts standby [(Reg.STATE, 3), (Reg.HOLDOVER_COUNT, 256)]
     s.tbUp = true ∧ s.clk.grain = 0 ∧ takesOver s = true ∧ s.get Reg.STATE = 3 ∧ s.get Reg.HOLDOVER_SPANS ≤ s.get Reg.HOLDOVER_COUNT) ∧
    (let s := puts rdy [(Reg.STATE, 3), (Reg.HOLDOVER_COUNT, 255)]
     s.tbUp = true ∧ s.get Reg.HOLDOVER_COUNT < s.get Reg.HOLDOVER_SPANS) := by decide +kernel

theorem wit_SpanMarkMovesTheTimeBase :
    (State.reset.pwr.phase ≠ .store ∧ State.reset.tbUp = false ∧ rdy.tbUp = true ∧ isMaster rdy = true ∧ (linked 5 rdy).linkUp 5 = true) ∧
    (let s := { State.reset with pwr := { Power.reset with phase := .store } }; s.pwr.phase = .store) ∧
    (let s := puts rdy [(Reg.STATE, 2), (Reg.IN_PERIOD, 8000000)]
     isMaster s = true ∧ s.get Reg.STATE = 2 ∧ s.tb.loss = 0 ∧ s.tb.step = none ∧ s.get Reg.IN_PERIOD ≠ 0) ∧
    (let s := { rdy.put Reg.STATE 2 with tb := { rdy.tb with loss := 1 } }
     isMaster s = true ∧ s.get Reg.STATE = 2 ∧ s.tb.loss ≠ 0 ∧ s.get Reg.HOLDOVER_SPANS ≠ 0) ∧
    (let s := { puts rdy [(Reg.STATE, 1), (Reg.IN_PERIOD, 8000000)] with tb := { rdy.tb with qualified := true } }
     isMaster s = true ∧ s.get Reg.STATE = 1 ∧ s.tb.loss = 0 ∧ s.tb.step = none ∧ s.tb.qualified = true ∧ s.get Reg.IN_PERIOD ≠ 0 ∧
       near100 (pulled (s.get Reg.IN_PERIOD) 0) (s.get Reg.IN_PERIOD) = true ∧
       (1 : Int).natAbs ≤ 1 ∧ (1 < (2 : Int).natAbs)) ∧
    (isMaster (rdy.put Reg.STATE 3) = true ∧ (rdy.put Reg.STATE 3).get Reg.STATE = 3) := by decide +kernel

theorem wit_StepsJumpsAndLostMarks :
    (let s := { rdy with tb := { rdy.tb with step := some (0, 4000000) } }
     s.tb.step = some (0, 4000000) ∧ 0 ≤ s.abs ∧ s.tbUp = true) ∧
    (let s := { rdy with tb := { rdy.tb with step := some (4095, 4000000) } }
     s.tb.step = some (4095, 4000000) ∧ s.abs < 4095 ∧ 4095 / 4096 = s.clk.span ∧ s.tbUp = true) ∧
    (let s := { rdy with tb := { rdy.tb with step := some (4096, 4000000) } }
     s.tb.step = some (4096, 4000000) ∧ s.abs < 4096 ∧ 4096 / 4096 ≠ s.clk.span ∧ s.tbUp = true) ∧
    (let s := { rdy with clk := ⟨2, 0⟩, tb := { rdy.tb with jumpTo := some (3, 2) } }
     s.tb.jumpTo = some (3, 2) ∧ s.tbUp = true ∧ s.clk.grain = 0 ∧ 2 ≤ s.clk.span ∧ s.clk.span < 3) ∧
    (let s := { rdy with clk := ⟨3, 0⟩, tb := { rdy.tb with jumpTo := some (3, 2) } }
     s.tb.jumpTo = some (3, 2) ∧ s.tbUp = true ∧ s.clk.grain = 0 ∧ 3 ≤ s.clk.span) ∧
    (∀ ts, 1 ≤ ts → ts ≤ 2 → ∀ st, st ≤ 3 →
      let s := rdy.setTl 5 { rdy.tl 5 with tstate := ts, mstate := st }; (s.tl 5).tstate = ts ∧ (s.tl 5).mstate = st) ∧
    (rdy.tl 0).tstate = 0 :=
  ⟨by decide +kernel, by decide +kernel, by decide +kernel, by decide +kernel, by decide +kernel, fun _ _ _ _ _ => by simp [State.tl, State.setTl],
    by decide +kernel⟩

/-- The time master at the head of a chain whose ports are both UP. -/
def master : State := puts rdy [(Reg.HEAD_NOW, 1), (Reg.PSTATE 0, 2), (Reg.PSTATE 1, 2), (Reg.ROLE, 1), (Reg.RING_N, 3)]

theorem wit_TimeSetsTravelTheChain :
    (master.ready = true ∧ isMaster master = true ∧ master.get (Reg.PSTATE 0) = 2 ∧ master.get (Reg.PSTATE 1) = 2 ∧ 0 < master.get Reg.RING_N ∧
      nearMark master 1 = false ∧ master.tb.probeOut ≠ some (1, 5 % 64)) ∧
    (let s := puts master [(Reg.RING_N, 0), (Reg.TOPOLOGY, 3)]; isMaster s = true ∧ 0 < s.get Reg.RING_N + 1 ∧ s.get Reg.TOPOLOGY = 3) ∧
    (let s := master.put Reg.RING_N 0; isMaster s = true ∧ s.get Reg.TOPOLOGY ≠ 3 ∧ s.get Reg.RING_N = 0) ∧
    (let s := master.setPt 1 { master.pt 1 with markAt := some 0 }; s.ready = true ∧ isMaster s = true ∧ nearMark s 1 = true) ∧
    (let s := inChain.put Reg.POS_UPH 62; isMaster s = false ∧ 62 % 64 = posOf s 1 ∧ 62 % 64 ≠ 63 ∧ s.get (Reg.PSTATE 0) = 2 ∧
      63 % 64 ≠ posOf s 1) ∧
    (let s := { inChain with tb := { inChain.tb with echoDue := some (1, 5) } }; s.tb.echoDue = some (1, 5) ∧ s.get (Reg.PSTATE 1) = 2) ∧
    (let s := { master with tb := { master.tb with probeOut := some (1, 2), probes := [(66, (14, 100, 0))] } }
     isMaster s = true ∧ s.tb.probeOut = some (1, 2 % 64) ∧ kvGet (fun _ => (0, 0, 0)) s.tb.probes (64 * 1 + 2 % 64) = (14, 100, 0)) ∧
    (let s := { master with tb := { master.tb with probeOut := some (0, 63), probes := [(63, (15, 100, 0))] } }
     s.tb.probeOut = some (0, 63 % 64) ∧ kvGet (fun _ => (0, 0, 0)) s.tb.probes (64 * 0 + 63 % 64) = (15, 100, 0)) := by decide +kernel

theorem wit_TimeFramesGuideTheFollower :
    (let s := puts { inChain with clk := ⟨9, 0⟩ } [(Reg.INPUT_VALID, 1)]
     s.ready = true ∧ isMaster s = false ∧ s.tb.takeover = false ∧ 0 = s.get Reg.MARK_DIR ∧ s.get Reg.INPUT_VALID ≠ 0 ∧
       par (leBytes 6 9 ++ leBytes 8 0) 0 6 = s.clk.span) ∧
    (inChain.get Reg.INPUT_VALID = 0 ∧ 1 ≠ inChain.get Reg.MARK_DIR) ∧
    (isMaster inChain = false ∧ par [0, 0, 0, 0, 0] 4 1 % 2 = inChain.get Reg.MARK_DIR ∧ par (leBytes 3 30000 ++ [0, 0]) 0 3 < 2 ^ 18 ∧
      par (leBytes 3 30000 ++ [0, 0]) 0 3 ≤ (inChain.get Reg.MARK_LEAD - 2) * 1000) ∧
    (isMaster master = true ∧ master.tb.jumpTo = none) ∧
    (let s := { master with tb := { master.tb with jumpTo := some (3, 2) } }; isMaster s = true ∧ s.tb.jumpTo = some (3, 2)) ∧
    (let s := inChain.put Reg.STATE 1; isMaster s = false ∧ 0 = s.get Reg.MARK_DIR ∧ s.get Reg.STATE = 1) ∧
    (let s := puts rdy [(Reg.HEAD_NOW, 1), (Reg.PSTATE 0, 2), (Reg.ROLE, 1)]
     s.ready = true ∧ isMaster s = true ∧ (∀ q, q ≤ 1 → (portUp s q = true ↔ q = 0)) ∧ (s.pt 0).txq.length < 32 ∧ frameDue s = true ∧
       frameDue { s with tb := { s.tb with frameAt := 1 } } = false) := by decide +kernel

/-! ### The chain -/

theorem wit_PortsTrain :
    (let s := (puts rdy [(Reg.PSTATE 0, 4)]).setPt 0 { Port.reset with trialFull := true }
     s.get (Reg.PSTATE 0) = 4 ∧ (s.pt 0).trialFull = !false ∧ (s.pt 0).trainRx + 63 < trainSets 0 ∧ trainSets 0 ≤ (s.pt 0).trainRx + 64) ∧
    (let s := (State.reset.put (Reg.PSTATE 1) 1).setPt 1 { Port.reset with trainRx := 127, trialFull := true }
     s.get (Reg.PSTATE 1) = 1 ∧ (s.pt 1).trialFull = !false ∧ (s.pt 1).trialFull ≠ !true ∧ 64 ≤ 0 + 64 ∧ 0 + 64 < trainSets 1 ∧ trainSets 1 ≤ (s.pt 1).trainRx + 1 ∧ s.ready = false) ∧
    (let s := State.reset.put (Reg.PSTATE 0) 1; s.get (Reg.PSTATE 0) = 1 ∧ s.get Reg.RATE_MODE = 0 ∧ s.ready = false) ∧
    (rdy.put (Reg.PSTATE 1) 5).get (Reg.PSTATE 1) = 5 := by decide +kernel

theorem wit_PortsCalibrateAndChangeRate :
    (inChain.get (Reg.PSTATE 1) = 2 ∧ calNow inChain 1 = false) ∧
    (let s := inChain.setPt 1 { inChain.pt 1 with calDue := true }; s.get (Reg.PSTATE 1) = 2 ∧ calNow s 1 = true) ∧
    (let s := inChain.put (Reg.PSTATE 1) 3; s.get (Reg.PSTATE 1) = 3 ∧ (s.pt 1).held = [] ∧
      (let u := s.setPt 1 { s.pt 1 with held := [.echo 3, .mark 4] }
       (((List.range 7).flatMap (fun r => (u.pt 1).held.filter (fun o => o.rank == r))).getLast?) = some (.echo 3))) ∧
    inChain.get (Reg.PSTATE 1) ≠ 3 ∧ 0 < inChain.get Reg.ERR_FALLBACK ∧
    (inChain.ready = true ∧ inChain.get (Reg.PSTATE 0) = 2 ∧ inChain.get (Reg.FALLBACK 0) = 0) ∧
    (let s := State.reset.put (Reg.PSTATE 0) 2; s.ready = false ∧ s.get (Reg.PSTATE 0) = 2 ∧ s.get (Reg.FALLBACK 0) = 0 ∧
      s.get Reg.RATE_MODE = 0 ∧ s.get Reg.ERR_FALLBACK ≤ s.get Reg.ERR_FALLBACK) ∧
    (inChain.get (Reg.PSTATE 1) = 2 ∧ inChain.get (Reg.FALLBACK 1) = 0 ∧ inChain.get Reg.RATE_MODE = 0) ∧
    (let s := puts State.reset [(Reg.PSTATE 0, 2), (Reg.FALLBACK 0, 1)]
     s.ready = false ∧ s.get (Reg.PSTATE 0) = 2 ∧ s.get (Reg.FALLBACK 0) = 1 ∧ s.get Reg.RATE_MODE = 0) ∧
    (let s := inChain.setPt 0 { inChain.pt 0 with firstSec := true }; (s.pt 0).firstSec = true ∧ s.get (Reg.PSTATE 0) = 2) := by decide +kernel

theorem wit_LinksGoDown :
    (let s := State.reset.put (Reg.PSTATE 1) 2; portUp s 1 = true ∧ (s.pt 1).calHold = false ∧ s.ready = false ∧ 64 < 65 ∧ 1 ≤ 64) ∧ (portUp inChain 1 = true ∧ inChain.ready = true) ∧
    (let s := (State.reset.put (Reg.PSTATE 1) 3).setPt 1 { Port.reset with calHold := true }
     portUp s 1 = true ∧ (s.pt 1).calHold = true ∧ s.ready = false) ∧
    (let s := (State.reset.put (Reg.PSTATE 1) 2).setPt 1 { Port.reset with sent := 8, txq := [frame0] }
     portUp s 1 = true ∧ credits s 1 = 0 ∧ frameWaits s 1 = true ∧ s.ready = false) := by decide +kernel

theorem wit_CreditsFollowTheSets :
    (portUp inChain 1 = true ∧ 0x87 < 256 ∧ 0x87 % 16 + 0x87 / 16 = 15) ∧ 255 % 16 + 255 / 16 ≠ 15 ∧
    (let s := inChain.setPt 0 { inChain.pt 0 with rxbuf := [⟨frame0, false, false⟩] }
     s.get (Reg.PSTATE 0) = 2 ∧ (s.pt 0).rxbuf.any (fun r => !r.fwd) = true) ∧
    (let s := inChain.setPt 0 { inChain.pt 0 with sent := 8, txq := [frame0] }
     s.ready = true ∧ portUp s 0 = true ∧ credits s 0 = 0 ∧ frameWaits s 0 = true ∧ (s.pt 0).creditRaised = false) ∧
    (let s := inChain.setPt 0 { inChain.pt 0 with sent := 8, txq := [frame0], creditRaised := true }
     s.ready = true ∧ portUp s 0 = true ∧ credits s 0 = 0 ∧ frameWaits s 0 = true ∧ (s.pt 0).creditRaised = true) := by decide +kernel

theorem wit_ForwardedFramesLeaveFirst :
    (let s := inChain.setPt 0 { inChain.pt 0 with sent := 8 }; s.get (Reg.PSTATE 0) = 2 ∧ credits s 0 = 0) ∧
    (let s := inChain.setPt 1 { inChain.pt 1 with rxbuf := [⟨frame0, true, false⟩] }
     s.get (Reg.PSTATE 0) = 2 ∧ credits s 0 ≠ 0 ∧ (s.pt (1 - 0)).rxbuf.find? (fun x => x.fwd) = some ⟨frame0, true, false⟩) ∧
    (let s := (inChain.put Reg.ENUMERATED 1).setPt 0 { inChain.pt 0 with txq := [frame0] }
     s.get (Reg.PSTATE 0) = 2 ∧ credits s 0 ≠ 0 ∧ (s.pt (1 - 0)).rxbuf.find? (fun x => x.fwd) = none ∧ s.ready = true ∧
      pickLocal (s.flag Reg.ENUMERATED) (s.pt 0).txq = some frame0) ∧
    (let s := inChain.setPt 0 { inChain.pt 0 with txq := [{ frame0 with ftype := 6 }] }
     credits s 0 ≠ 0 ∧ s.flag Reg.ENUMERATED = false ∧ pickLocal (s.flag Reg.ENUMERATED) (s.pt 0).txq = some { frame0 with ftype := 6 } ∧
      pickLocal false [{ frame0 with ftype := 4 }] = some { frame0 with ftype := 4 } ∧ pickLocal false [frame0] = none) := by
  decide +kernel

theorem wit_ReceivedFramesAreHandled :
    (frame0.ftype < 16 ∧ frame0.ver = 1 ∧ frame0.hops < 63 ∧ frame0.seq < 65536 ∧ frame0.op < 256 ∧ frame0.origin < 64 ∧
      frame0.payload.length ≤ 52 ∧ frame0.bcast = false ∧ frame0.hops = 0 ∧ frame0.ftype = 2) ∧ portUp rdy 0 = false ∧
    (let f := { frame0 with hops := 1 }
     1 ≤ f.hops ∧ f.hops < 63 ∧ portUp inChain 0 = true ∧ (inChain.pt 0).rxbuf.length < 8 ∧ portUp inChain (1 - 0) = true ∧
      (let s := rdy.put (Reg.PSTATE 0) 2; portUp s 0 = true ∧ (s.pt 0).rxbuf.length < 8 ∧ portUp s (1 - 0) = false) ∧ 32 ≤ 40 ∧ 0 < 32) ∧
    (portUp headNow 0 = true ∧ (headNow.pt 0).rxbuf.length < 8 ∧ headNow.ready = true ∧ isHead headNow = true ∧ headNow.host.hq.length < 64) ∧
    (inChain.ready = true ∧ isHead inChain = false) ∧
    (let s := State.reset.put (Reg.PSTATE 0) 2; portUp s 0 = true ∧ s.ready = false) ∧
    byte (crc8 (headerBytes frame0) + 1) ≠ byte (crc8 (headerBytes frame0)) := by decide +kernel

theorem wit_EnumerationGivesPositions :
    (headNow.ready = true ∧ isHead headNow = true ∧ portUp headNow 0 = true ∧ portUp headNow 1 = false) ∧
    (inChain.ready = true ∧ isHead inChain = false ∧
      kvGet (fun _ => none) inChain.chain.enumGen 0 ≠ some (par [63, 255, 1, 2, 3, 4] 1 1, par [63, 255, 1, 2, 3, 4] 2 4)) ∧
    (let s := { inChain with chain := { inChain.chain with enumGen := [(0, some (7, 9))] } }
     s.ready = true ∧ isHead s = false ∧ kvGet (fun _ => none) s.chain.enumGen 0 = some (par [1, 3, 7, 0, 0, 9, 0, 0, 0] 2 1, par [1, 3, 7, 0, 0, 9, 0, 0, 0] 5 4) ∧
      kvGet (fun _ => none) s.chain.enumGen 0 ≠ some (par [1, 3, 8, 0, 0, 9, 0, 0, 0] 2 1, par [1, 3, 8, 0, 0, 9, 0, 0, 0] 5 4) ∧
      kvGet (fun _ => none) s.chain.enumGen 1 ≠ some (par [1, 3, 8, 0, 0, 9, 0, 0, 0] 2 1, par [1, 3, 8, 0, 0, 9, 0, 0, 0] 5 4)) ∧
    (headNow.flag Reg.BREAK_KNOWN = false ∧ par [63, 0, 0] 2 1 ≠ 1 ∧ par [63, 0, 0] 0 1 < 64) ∧
    (par [1, 2, 0] 2 1 = headNow.get Reg.ENUM_GEN ∧ par [1, 2, 0] 0 1 = 1 ∧ headNow.chain.enumEnds = none) ∧
    (let s := { headNow with chain := { headNow.chain with enumEnds := some [(0, 1, 63)] } }
     s.ready = true ∧ s.chain.enumEnds = some [(0, 1, 63)] ∧ portUp s 0 = true ∧ portUp s 1 = false ∧ 63 < 64) ∧
    State.reset.ready = false := by decide +kernel

theorem wit_BeaconsReachTheHead :
    (portUp inChain 0 = true ∧ isHead inChain = false ∧ inChain.get (Reg.PSTATE (1 - 0)) = 2 ∧ 127 < 128) ∧
    (portUp headNow 0 = true ∧ isHead headNow = true ∧ headNow.ready = true ∧ headNow.chain.bcnAt = []) ∧
    (let s := { inChain with chain := { inChain.chain with beacons := [(1, 0 + 2)] } }
     s.ready = true ∧ s.chain.beacons = [(1, 0 + 2)] ∧ s.get (Reg.PSTATE 1) = 2) := by decide +kernel

/-! ### Configuration -/

/-- The module at READY with its jobs loaded. -/
def jobbed : State := puts rdy ((List.range 16).map (fun j => (Reg.JSTATE j, 1)))

/-- A staged word that is left open by another source. -/
def owned : State := { jobbed with host := { jobbed.host with owner := some 1, ownerSpan := 0 } }

theorem wit_CfgWriteActsAtOnce :
    (let ws := addressed 0x10040 [1, 1]
     accepts m0 rdy ∧ countOk [1, 1] = true ∧ ws.all writeOk = true ∧ ws.any (fun e => writeUnreachable rdy e.1) = false ∧
      (∀ e ∈ ws, e.1 ≠ Wd.CHN_CMD ∧ e.1 ≠ Wd.EVT_CLR ∧ e.1 ≠ Wd.BCN_ACK ∧ e.1 ≠ Wd.TWC_CTRL ∧
        ∀ k, k < 6 → e.1 ≠ Wd.SEC_URGENT k ∧ e.1 ≠ Wd.DISC_HW_CLR k) ∧ (∀ e ∈ ws, (writableRow e.1).isSome = true) ∧
      (∀ e ∈ ws, ¬ (e.1 = (seqField m0.src m0.bcast).a ∨ e.1 = (Reg.TXQ_DROP m0.port).a))) ∧
    countOk (List.replicate 12 0) = false ∧ countOk [] = false ∧ countOk (List.replicate 11 0) = true ∧
    writeOk ((Reg.CV_MISMATCH 1).a, 2 ^ 32) = false ∧
    (addressed 0x10880 [1]).all writeOk = true ∧ (addressed 0x10880 [1]).any (fun e => writeUnreachable rdy e.1) = true ∧
    (writeWords (addressed Wd.TWC_CTRL [0x100 * 17]) rdy).1 ≠ 0x00 :=
  ⟨⟨acc_rdy, by decide +kernel⟩, by decide +kernel⟩

theorem wit_ActingWordsAct :
    (let s := linked 5 rdy
     let v := 0x11 + 2 ^ 8 * 255 + 2 ^ 31
     accepts m0 s ∧ s.linkUp 5 = true ∧ writeOk (Wd.SEC_URGENT 5, v) = true ∧ bit v 31 = true ∧ chanOk 5 (bitsOf v 0 7) = true ∧
      bitsOf v 0 7 ≠ 0x7F ∧ (s.sq 5).hostQ.length < 4 ∧ writeOk (Wd.SEC_URGENT 5, 0x7F) = true ∧ bit 0x7F 31 = false ∧
      writeOk (Wd.SEC_URGENT 5, 2 ^ 31 + 0x7F) = true ∧ bitsOf (2 ^ 31 + 0x7F) 0 7 = 0x7F ∧ writeOk (Wd.SEC_URGENT 5, 2 ^ 30) = false ∧
      writeOk (Wd.DISC_HW_CLR 5, 2 ^ 18 - 1) = true ∧ writeOk (Wd.DISC_HW_CLR 5, 2 ^ 18) = false ∧
      4 ≤ ((s.setSq 5 { s.sq 5 with hostQ := List.replicate 4 (0, 1) }).sq 5).hostQ.length) ∧
    (accepts m0 rdy ∧ rdy.linkUp 5 = false ∧ isHead rdy = false ∧ addressBad 0x77 = false ∧ addressBad 0x78 = true ∧
      rdy.flag Reg.TWC_BUSY = false) ∧
    (let s := rdy.put Reg.TWC_BUSY 1; accepts m0 s ∧ s.flag Reg.TWC_BUSY = true) :=
  ⟨⟨accepts_of _ _ (by decide +kernel), by decide +kernel⟩, ⟨acc_rdy, by decide +kernel⟩, accepts_of _ _ (by decide +kernel), by decide +kernel⟩

/-- The set of the module with its jobs stands by every rule. -/
theorem commit_jobbed : commitRefusal jobbed = none := by decide +kernel

theorem wit_StagingAndCommit :
    (accepts m0 jobbed ∧ (addressed Reg.HOLDOVER_SPANS.a [1]).all stageOk = true ∧ countOk [1] = true ∧ commitDue jobbed = false ∧
      ownedByOther m0.src jobbed = false ∧ jobbed.host.sched.length < 32 ∧ prefixBad false false ⟨0, 0, false⟩ jobbed = false ∧
      prefixBad false false ⟨0, 1, false⟩ jobbed = true ∧ prefixBad false false ⟨jobbed.clk.span + 2, 0, false⟩ jobbed = false) ∧
    (addressed Reg.MODE_NOW.a [1]).all stageOk = false ∧ commitRefusal jobbed = none ∧ commitRefusal rdy = some 17 ∧
    (let s := { jobbed with host := { jobbed.host with shadow := [(Reg.THRU_CLR.a, some 0xFFFFFFFF)] } }; accepts m0 s ∧ commitRefusal s = some 0x14) ∧
    (accepts m0 owned ∧ ownedByOther m0.src owned = true ∧ owned.host.owner.isSome = true ∧
      owned.clk.span < owned.host.ownerSpan + owned.get Reg.STAGE_TO) ∧
    (let s := { jobbed with host := { jobbed.host with sched := [⟨.commit, 1, 0, false, false, 0, m0⟩] } }; accepts m0 s ∧ commitDue s = true) ∧
    (let s := { owned with clk := ⟨3000, 0⟩ }; s.host.owner.isSome = true ∧ commitDue s = false ∧
      s.host.ownerSpan + s.get Reg.STAGE_TO ≤ s.clk.span) :=
  ⟨⟨accepts_of _ _ (by decide +kernel), by decide +kernel⟩, by decide +kernel, commit_jobbed, by decide +kernel,
    ⟨accepts_of _ _ (by decide +kernel), by decide +kernel⟩, ⟨accepts_of _ _ (by decide +kernel), by decide +kernel⟩,
    ⟨accepts_of _ _ (by decide +kernel), by decide +kernel⟩, by decide +kernel⟩

/-! ### The schedule -/

/-- A module in CHARGE that may excite cell 0: SHUTTLE stages, and the excitation lease of SPI. -/
def charging : State := puts rdy [(Reg.MODE_NOW, 3), (Reg.BAL_MODE 0, 2), (Reg.LIVE 1, 1), (Reg.E_LO 1, 100), (Reg.HOLDER 1, 0)]

def entry (a : Action) : Entry := ⟨a, 0, 0, false, false, 0, m0⟩

/-- The module with one entry whose instant has come. -/
def withDue (a : Action) (s : State) : State := { s with host := { s.host with sched := [entry a] } }

theorem refusal_withDue (a : Action) (s : State) : commitRefusal (withDue a s) = commitRefusal s := by
  have h : ∀ f, (withDue a s).staged f = s.staged f := fun _ => rfl
  have g : ∀ f, (withDue a s).get f = s.get f := fun _ => rfl
  have v : ∀ k i, servedBy (withDue a s) k i = servedBy s k i := fun _ _ => rfl
  have d : admitsTest (withDue a s) = admitsTest s := rfl
  simp only [commitRefusal, commitBadParam, commitBadState, timeBaseBad, currentBad, fabricBad, impedanceBad, superviseBad, thermalOutBad, chainBad,
    portBad, powerBad, twoWireBad, primaryBad, forceBad, secondaryBad, stageBad, thermalTierBad, offRange, h, g, v, d]
  rfl

theorem wit_ActionsAreScheduled :
    (accepts m0 rdy ∧ rdy.host.sched.length < 32 ∧ (m0.bcast || true) = true ∧ timeQualified rdy = false ∧
      prefixBad false true ⟨0, 0, true⟩ rdy = false ∧ prefixBad false true ⟨0, 1, true⟩ rdy = true ∧
      prefixBad false false ⟨0, 0, true⟩ rdy = true ∧ modeRefused 5 rdy.host.sched.length rdy = false ∧
      modeRefused 0 charging.host.sched.length charging = true) ∧
    (accepts m0 charging ∧ prefixBad true false ⟨1, 4095, false⟩ charging = false ∧
      exciteRefusal m0.src 1 100 100 50 4 (exciteDue charging) charging = none ∧ (exciteRefusal m0.src 1 100 100 50 4 true charging).isSome = true ∧
      (exciteRefusal m0.src 0 100 100 50 4 (exciteDue charging) charging).isSome = true ∧ prefixBad true false ⟨1, 0, true⟩ charging = true) ∧
    (let s := puts rdy [(Reg.MODE_NOW, 4), (Reg.BANK_A_VALID, 1), (Reg.BANK_B_VALID, 1)]
     accepts m0 s ∧ s.modeNow = 4 ∧ s.flag (bankValid (inactiveBank s)) = true ∧ 1 ≠ s.get (Reg.FW_VER (inactiveBank s))) ∧
    (let s := { rdy with host := { rdy.host with sched := List.replicate 32 (entry (.snap false)) } }
     accepts m0 s ∧ 32 ≤ s.host.sched.length) ∧
    (let s := { rdy with exc := { rdy.exc with sweep := some (m0, 1, 1, 1, 1) } }; accepts m0 s ∧ s.exc.sweep.isSome = true) :=
  ⟨⟨acc_rdy, by decide +kernel⟩, ⟨accepts_of _ _ (by decide +kernel), by decide +kernel⟩, ⟨accepts_of _ _ (by decide +kernel), by decide +kernel⟩,
    ⟨accepts_of _ _ (by decide +kernel), by decide +kernel⟩, accepts_of _ _ (by decide +kernel), by decide +kernel⟩

theorem wit_ScheduledActionsExecute :
    commitRefusal (withDue .commit jobbed) = none ∧
    (let s := withDue .commit jobbed; s.ready = true ∧ nextDue s = some (entry .commit) ∧
      (affected s).all (fun k => s.host.acked.contains k) = true) ∧
    (let s := { withDue .commit rdy with host := { (withDue .commit rdy).host with convClear := [(0, 1)] } }
     nextDue s = some (entry .commit) ∧ (affected s).all (fun k => s.host.acked.contains k) = false) ∧
    (let s := withDue (.mode 2) rdy
     nextDue s = some (entry (.mode 2)) ∧ modeRefused 2 (s.host.sched.erase (entry (.mode 2))).length s = false ∧ 2 ≠ s.modeNow) ∧
    (let s := withDue (.mode 0) charging; nextDue s = some (entry (.mode 0)) ∧ modeRefused 0 (s.host.sched.erase (entry (.mode 0))).length s = true) ∧
    (let s := withDue (.excite 1 100 100 50 4) charging
     nextDue s = some (entry (.excite 1 100 100 50 4)) ∧ exciteRefusal (entry (.excite 1 100 100 50 4)).who.src 1 100 100 50 4 false s = none) ∧
    (let s := withDue (.excite 1 100 100 50 4) rdy
     nextDue s = some (entry (.excite 1 100 100 50 4)) ∧ (exciteRefusal m0.src 1 100 100 50 4 false s).isSome = true) ∧
    nextDue (withDue (.snap true) rdy) = some (entry (.snap true)) ∧
    (let s := withDue (.fwSwap 0) (puts rdy [(Reg.BANK_A_VALID, 1), (Reg.BANK_B_VALID, 1)])
     nextDue s = some (entry (.fwSwap 0)) ∧ s.flag (bankValid (inactiveBank s)) = true) ∧
    (let s := withDue (.fwSwap 0) rdy; nextDue s = some (entry (.fwSwap 0)) ∧ s.flag (bankValid (inactiveBank s)) = false) ∧
    (let e : Entry := ⟨.snap true, 0, 4095, false, true, 0, m0⟩
     let s := { rdy with host := { rdy.host with sched := [e] } }; nextDue s = none ∧ e.span = s.clk.span ∧ e.grain < 4096) ∧
    (let e : Entry := ⟨.snap true, 0, 0, true, false, 0, m0⟩
     let s := { rdy.put Reg.STATE 2 with host := { rdy.host with sched := [e] } }
     s.ready = true ∧ s.host.sched = [e] ∧ e.pending = true ∧ timeQualified s = true ∧ s.clk.grain = 0 ∧
      s.clk.span < e.since + s.get Reg.PEND_TIMEOUT ∧
      (let u := { rdy with clk := ⟨s.get Reg.PEND_TIMEOUT, 1⟩, host := { rdy.host with sched := [e] } }
       timeQualified u = false ∧ e.since + u.get Reg.PEND_TIMEOUT ≤ u.clk.span)) ∧
    (let e : Entry := ⟨.commit, 1, 0, false, false, 0, m0⟩
     let s := { jobbed with clk := ⟨0, 3840⟩, host := { jobbed.host with sched := [e] } }
     let u := { s with clk := ⟨0, 3841⟩, host := { s.host with convClear := [(5, 1)] } }
     s.ready = true ∧ s.host.sched = [e] ∧ e.span = s.clk.span + 1 ∧ (affected s).all s.linkUp = true ∧
      u.host.sched = [e] ∧ 3840 < u.clk.grain ∧ (affected u).any (fun k => !u.host.acked.contains k) = true ∧
      ({ u with clk := ⟨0, 3840⟩ } : State).clk.grain = 3840 ∧ (affected u).any (fun k => !u.host.acked.contains k && !u.linkUp k) = true) :=
  ⟨(refusal_withDue _ _).trans commit_jobbed, by decide +kernel⟩

theorem wit_CommittedWordsEnterTheSet : 2 ^ 32 - 1 < 2 ^ 32 ∧ partOf Reg.HOLDOVER_SPANS.a = 0 ∧
    partOf (Reg.CELL_EN 5).a ≠ 0 ∧ rdy.linkUp (partOf (Reg.CELL_EN 5).a - 1) = false ∧
    (linked 5 rdy).linkUp (partOf (Reg.CELL_EN 5).a - 1) = true := by decide +kernel

/-! ### Leases and actuation -/

theorem wit_LeaseSetsItsEndSpan :
    (accepts m0 rdy ∧ rdy.modeNow ≠ 5 ∧ rdy.clk.span + 1 + 65535 < 2 ^ 48 ∧ leaseLive rdy 2 = false ∧ leaseHeld rdy 2 = false ∧ rdy.modeNow ≠ 3) ∧
    (accepts m0 charging ∧ charging.modeNow ≠ 5 ∧ leaseLive charging 1 = true ∧ charging.get (Reg.HOLDER 1) = m0.src ∧ leaseHeld charging 1 = true) ∧
    (let s := { charging with clk := ⟨100, 0⟩ }; accepts m0 s ∧ leaseLive s 1 = false ∧ leaseHeld s 1 = true) ∧
    (let s := charging.put (Reg.HOLDER 1) 3; accepts m0 s ∧ leaseLive s 1 = true ∧ s.get (Reg.HOLDER 1) ≠ m0.src) ∧
    (let s := rdy.put Reg.MODE_NOW 5; accepts m0 s ∧ s.modeNow = 5) :=
  ⟨⟨acc_rdy, by decide +kernel⟩, ⟨accepts_of _ _ (by decide +kernel), by decide +kernel⟩, ⟨accepts_of _ _ (by decide +kernel), by decide +kernel⟩,
    ⟨accepts_of _ _ (by decide +kernel), by decide +kernel⟩, accepts_of _ _ (by decide +kernel), by decide +kernel⟩

theorem wit_LeasesEndAtTheirSpan :
    (let s := { charging with clk := ⟨100, 0⟩ }; s.ready = true ∧ leaseHeld s 1 = true ∧ leaseE s 1 ≤ s.clk.span) ∧
    (let s := { charging.put Reg.LEASE_WARN 1 with clk := ⟨99, 0⟩ }
     s.clk.span < leaseE s 1 ∧ s.ready = true ∧ leaseLive s 1 = true ∧ s.clk.grain = 0 ∧ s.get Reg.LEASE_WARN ≠ 0 ∧
      s.clk.span + s.get Reg.LEASE_WARN = leaseE s 1) := by decide +kernel

/-- A module that may balance cell 107 and drive its thermal output: leases of SPI until span 100. -/
def actuating : State := puts rdy [(Reg.MODE_NOW, 2), (Reg.BAL_MODE 5, 1), (Reg.LIVE 0, 1), (Reg.E_LO 0, 100), (Reg.LIVE 2, 1), (Reg.E_LO 2, 100),
  (Reg.TO_MODE, 1)]

theorem wit_ActuationWaitsForTheSample :
    (accepts m0 actuating ∧ balRefusal m0.src (2 ^ 107) (some 5000) actuating = none ∧ balRefusal m0.src (2 ^ 107) (some 50000) actuating = none ∧
      balRefusal m0.src (2 ^ 108) (some 5000) actuating ≠ none ∧ thermRefusal m0.src (some (0, 1024)) actuating = none ∧
      thermRefusal m0.src (some (0, 1025)) actuating ≠ none ∧ thermRefusal m0.src none actuating ≠ none ∧
      balRefusal m0.src (2 ^ 107) none actuating ≠ none) ∧
    (let s := actuating.put (Reg.CH_STATE 107) 3; accepts m0 s ∧ balRefusal m0.src (2 ^ 107) none s = none) ∧
    (let s := actuating.put Reg.TO_STATE 3; accepts m0 s ∧ thermRefusal m0.src none s = none) :=
  ⟨⟨accepts_of _ _ (by decide +kernel), by decide +kernel⟩, ⟨accepts_of _ _ (by decide +kernel), by decide +kernel⟩,
    accepts_of _ _ (by decide +kernel), by decide +kernel⟩

/-! ### Events -/

theorem wit_RaisesFollowTheirSource :
    (let s := rdy.put (Reg.MASKED 515) 1; s.ready = true ∧ s.flag (Reg.MASKED 515) = true ∧ 515 < 516) ∧
    (let s := rdy.put (Reg.SEV 515) 1; s.flag (Reg.MASKED 515) = false ∧ isEndRaise 515 (0 % 2 ^ 32) false = false ∧ s.get (Reg.SEV 515) < 2 ∧
      s.flag Reg.RPT_EVENT = true ∧ s.get Reg.RPT_SEV ≤ s.get (Reg.SEV 515) ∧ s.evt.queue.length < 256) ∧
    (let s := puts rdy [(Reg.SEV 515, 0), (Reg.RPT_SEV, 1)]; s.get (Reg.SEV 515) < s.get Reg.RPT_SEV) ∧
    (rdy.flag (Reg.MASKED 0) = false ∧ isEndRaise 0 (2 ^ 24 % 2 ^ 32) false = false ∧ rdy.get (Reg.SEV 0) = 3 ∧ rdy.window (evtClass 0) = none ∧
      fatalElsewhere rdy (evtClass 0) = none) ∧
    (let s := rdy.setWindow (evtClass 0) (some ⟨1, 3, 0, 0⟩); (s.window (evtClass 0)).all (fun w => 3 == 3 && decide (w.sev < 3)) = false) ∧
    (let s := rdy.setWindow 9 (some ⟨480, 3, 0, 0⟩)
     s.ready = true ∧ s.flag (Reg.MASKED 0) = false ∧ s.get (Reg.SEV 0) = 3 ∧ s.flag Reg.ESC_EN = true ∧ s.window (evtClass 0) = none ∧
      fatalElsewhere s (evtClass 0) = some (9, 480) ∧ 0 ≠ 512 ∧ s.modeNow ≠ 5 ∧ (s.put Reg.MODE_NOW 5).modeNow = 5) ∧
    isEndRaise 0 (0 % 2 ^ 32) false = true := by decide +kernel

theorem wit_AcknowledgeClearsItsRange : accepts m0 rdy ∧ 1 ≤ 544 ∧ 0 + 544 ≤ 544 ∧ 543 < 544 ∧
    (let s := { rdy with evt := { rdy.evt with wakeSrcs := [5], wake := true } }
     accepts m0 s ∧ (∃ i ∈ s.evt.wakeSrcs, 5 ≤ i ∧ i < 5 + 1) ∧ (∀ i ∈ s.evt.wakeSrcs, ¬ (6 ≤ i ∧ i < 6 + 1))) ∧ 544 < 1 + 544 :=
  ⟨acc_rdy, by decide +kernel, by decide +kernel, by decide +kernel, ⟨accepts_of _ _ (by decide +kernel), by decide +kernel⟩, by decide +kernel⟩

theorem wit_MasksAndWindowsEnd : rdy.ready = true ∧ accepts m0 rdy ∧ 480 + 64 ≤ 544 ∧ (List.replicate 8 (0xFF : Byte)).length = (64 + 7) / 8 ∧
    (List.replicate 7 (0xFF : Byte)).length ≠ (64 + 7) / 8 :=
  ⟨by decide +kernel, acc_rdy, by decide +kernel⟩

theorem wit_EventRecordsAreIssuedInOrder :
    let r : EvtRec := ⟨515, 1, false, false, false, false, rdy.now, 0, 7⟩
    let s := { rdy with evt := { rdy.evt with queue := [r] } }
    let u := { s with host := { s.host with hq := List.replicate 56 frame0 } }
    rdy.evt.overflow = 0 ∧ rdy.evt.queue = [] ∧ s.evt.overflow = 0 ∧ s.evt.queue = r :: [] ∧ s.ready = true ∧
      (reportDests s).all (hasRoom s) = true ∧ u.evt.queue = r :: [] ∧ (reportDests u).all (hasRoom u) = false ∧
      (let w := { s with evt := { s.evt with queue := List.replicate 256 r, overflow := 1 } }
       w.evt.queue = r :: List.replicate 255 r ∧ w.evt.overflow ≠ 0 ∧ (reportDests w).all (hasRoom w) = true) := by decide +kernel

/-! ### Shutdown, transfers, life-cycle, tests -/

/-- The module with an open transfer of SPI. -/
def moving (x : Xfer) (target : Nat) (data : List Byte) (s : State) : State :=
  s.setXfer (some ⟨0, x, target, data.length, crc32c data, data, 0⟩)

theorem wit_ShutdownLeadsToTheWait :
    (accepts m0 rdy ∧ swapDue rdy = false ∧ rdy.host.xfer = none) ∧
    (let s := withDue (.fwSwap 1) rdy; accepts m0 s ∧ swapDue s = true) ∧
    (let s := { rdy with clk := ⟨1, 0⟩, start := { rdy.start with shutdown := some (0, false) } }
     s.ready = true ∧ 0 < s.clk.span ∧ s.start.shutdown = some (0, false)) ∧
    (let s := { rdy with clk := ⟨1, 0⟩, start := { rdy.start with shutdown := some (0, true) } }
     s.ready = true ∧ 0 < s.clk.span ∧ s.start.shutdown = some (0, true)) ∧
    (let s := { rdy with start := { rdy.start with shutdown := some (0, true) } }; s.start.shutdown = some (0, true) ∧ s.clk.span ≤ 0) ∧
    (let s := { State.reset with pwr := { Power.reset with phase := .shutWait, replug := true } }
     s.pwr.phase = .shutWait ∧ s.pwr.railsOk = true ∧ s.pwr.replug = true ∧ (s.put Reg.SD_HOLD 1).get Reg.SD_HOLD ≠ 0) ∧
    ({ State.reset with pwr := { Power.reset with phase := .shutting } } : State).pwr.phase = .shutting :=
  ⟨⟨acc_rdy, by decide +kernel⟩, ⟨accepts_of _ _ (by decide +kernel), by decide +kernel⟩, by decide +kernel⟩

theorem wit_TransfersCollectTheirData :
    (accepts m0 rdy ∧ xferBusy m0.src rdy = false ∧ swapDue rdy = false ∧ openXfer .fwStage m0.src rdy = none ∧
      (List.replicate 47 (1 : Byte)).length ≤ 47 ∧ 47 < (List.replicate 48 (1 : Byte)).length) ∧
    (let s := withDue (.fwSwap 1) rdy; accepts m0 s ∧ swapDue s = true) ∧
    (∀ x : Xfer, accepts m0 (moving x 8 [] rdy) ∧ (moving x 8 [] rdy).host.xfer = some ⟨0, x, 8, 0, crc32c [], [], 0⟩) ∧
    (let s := { moving .fwStage 0 [] rdy with start := { rdy.start with banks := [(1, ⟨[], 4096, 0⟩)] } }
     accepts m0 s ∧ 0 + 47 ≤ erasedTo s ∧ erasedTo (moving .fwStage 0 [] rdy) < 0 + 1) ∧
    (let s := { moving .fwStage 0 [] rdy with clk := ⟨3000, 0⟩ }; 0 + s.get Reg.STAGE_TO ≤ s.clk.span) ∧
    (let s := rdy.setXfer (some ⟨2, .jobLoad, 8, 0, 0, [], 0⟩); accepts m0 s ∧ xferBusy m0.src s = true ∧ s.clk.span < 0 + s.get Reg.STAGE_TO) :=
  ⟨⟨acc_rdy, by decide +kernel⟩, ⟨accepts_of _ _ (by decide +kernel), by decide +kernel⟩, fun x => ⟨accepts_of _ _ (by cases x <;> decide +kernel), rfl⟩,
    ⟨accepts_of _ _ (by decide +kernel), by decide +kernel⟩, by decide +kernel, accepts_of _ _ (by decide +kernel), by decide +kernel⟩

/-- A job image of 76 bytes with 8 bytes of code. -/
def jobImage : List Byte :=
  let b := leBytes 4 0x424A5853 ++ leBytes 2 1 ++ leBytes 2 0x100 ++ leBytes 4 8 ++ leBytes 4 0 ++ leBytes 4 0 ++ leBytes 2 1 ++ [1, 0] ++
    leBytes 4 0 ++ leBytes 2 16 ++ leBytes 2 0 ++ List.replicate 40 0
  b ++ leBytes 4 (crc32c b)

/-- Header and directory of a model pack of 2,508 bytes with its nine tables. -/
def packHead : List Byte :=
  let dir (id log cols off len : Nat) : List Byte := [byte id, byte log] ++ leBytes 2 cols ++ leBytes 4 off ++ leBytes 4 len
  leBytes 4 0x504D5853 ++ leBytes 2 1 ++ leBytes 2 9 ++ leBytes 4 0 ++ leBytes 4 2508 ++ [24, 6, 0, 0] ++ List.replicate 14 0 ++
    leBytes 2 1 ++ [1, 0] ++ leBytes 2 1 ++ List.replicate 24 0 ++ dir 1 8 1 172 1024 ++ dir 2 8 1 1196 1024 ++ dir 3 0 20 2220 80 ++
    dir 4 0 20 2300 80 ++ dir 5 0 2 2380 8 ++ dir 6 0 4 2388 16 ++ dir 7 0 2 2404 8 ++ dir 8 0 18 2412 72 ++ dir 9 0 4 2484 16

def packZeros : List Byte := List.replicate 106 0

/-- The body of the pack: its tables are all of zeros. -/
def packBody : List Byte := packHead ++ (List.replicate 22 packZeros).flatten

/-- The pack with its CRC-32. -/
def modelPack : List Byte := packBody ++ leBytes 4 0x468B02D4

theorem crcLsb_append (p : Nat) (a b : List Byte) : ∀ r, crcLsb p r (a ++ b) = crcLsb p (crcLsb p r a) b := by
  induction a with
  | nil => intro r; rfl
  | cons x a ih => intro r; exact ih _

/-- The CRC register after each block of zeros. -/
def packRegs : List Nat := [0x2FB0B53F, 0x6ACDF7FC, 0x1E190278, 0xE4B17D3B, 0x10D36A7C, 0x64A56AA2, 0x0A11219F, 0xC6927D23, 0xCDC51613, 0x15672AE6, 0x50C2C0DC, 0xAEC749D3, 0x89F8B234, 0x047C4B18, 0xB1E2CB85, 0x58B531CE, 0x47245486, 0x5AC99641, 0x6E666590, 0x454E2D96, 0x3D9F3F5E, 0xCA916976, 0xB974FD2B]

theorem packStep : ∀ i, i < 22 → crcLsb 0xEDB88320 (packRegs.getD i 0) packZeros = packRegs.getD (i + 1) 0 := by decide +kernel

theorem packRuns (k : Nat) (h : k ≤ 22) : crcLsb 0xEDB88320 (packRegs.getD 0 0) (List.replicate k packZeros).flatten = packRegs.getD k 0 := by
  induction k with
  | zero => rfl
  | succ k ih =>
    rw [List.replicate_succ', List.flatten_append, crcLsb_append, ih (by omega), List.flatten_singleton, packStep k (by omega)]

theorem packCrc : crc32 packBody = 0x468B02D4 := by
  have h0 : crcLsb 0xEDB88320 0xFFFFFFFF packHead = packRegs.getD 0 0 := by decide +kernel
  rw [crc32, packBody, crcLsb_append, h0, packRuns 22 (by omega)]
  decide

theorem packBody_length : packBody.length = 2504 := by
  have h : packHead.length = 172 := by decide +kernel
  simp only [packBody, List.length_append, h, List.length_flatten, List.map_replicate, packZeros, List.length_replicate, List.sum_replicate]
  decide

theorem modelPack_length : modelPack.length = 2508 := by
  have h4 : (leBytes 4 0x468B02D4).length = 4 := by decide
  rw [modelPack, List.length_append, packBody_length, h4]

theorem packEnd : endCheck crc32 modelPack = true := by
  have ht : modelPack.take 2504 = packBody := by rw [modelPack, ← packBody_length]; exact List.take_left' rfl
  have hp : par modelPack 2504 4 = 0x468B02D4 := by
    rw [par, modelPack, ← packBody_length, List.drop_left' rfl]; decide
  simp only [endCheck, modelPack_length, ht, hp, packCrc]; decide

theorem packSound_modelPack : packSound modelPack = true := by
  simp only [packSound, packEnd, modelPack_length]; decide +kernel

theorem packFits_modelPack : packFits modelPack = true := by
  simp only [packFits, modelPack_length]; decide +kernel

/-- The head of a firmware image of 1,024 bytes, version 1. -/
def fwHead : List Byte := leBytes 4 0x57465853 ++ leBytes 2 1 ++ leBytes 2 0x6108 ++ leBytes 4 1 ++ leBytes 4 1024 ++ List.replicate 50 0

def fwBody : List Byte := fwHead ++ (List.replicate 9 packZeros).flatten

/-- The image with its CRC-32C. -/
def fwImage : List Byte := fwBody ++ leBytes 4 0x09F27BC8

def fwRegs : List Nat := [0xAA339F56, 0x89A80633, 0xF03B55CE, 0x8961510E, 0x3349423E, 0xBFD23094, 0xD91A8A32, 0x95D2E8FA, 0xF3CECC34, 0xF60D8437]

theorem fwStep : ∀ i, i < 9 → crcLsb 0x82F63B78 (fwRegs.getD i 0) packZeros = fwRegs.getD (i + 1) 0 := by decide +kernel

theorem fwRuns (k : Nat) (h : k ≤ 9) : crcLsb 0x82F63B78 (fwRegs.getD 0 0) (List.replicate k packZeros).flatten = fwRegs.getD k 0 := by
  induction k with
  | zero => rfl
  | succ k ih => rw [List.replicate_succ', List.flatten_append, crcLsb_append, ih (by omega), List.flatten_singleton, fwStep k (by omega)]

theorem fwCrc : crc32c fwBody = 0x09F27BC8 := by
  have h0 : crcLsb 0x82F63B78 0xFFFFFFFF fwHead = fwRegs.getD 0 0 := by decide +kernel
  rw [crc32c, fwBody, crcLsb_append, h0, fwRuns 9 (by omega)]
  decide

theorem fwBody_length : fwBody.length = 1020 := by
  have h : fwHead.length = 66 := by decide +kernel
  simp only [fwBody, List.length_append, h, List.length_flatten, List.map_replicate, packZeros, List.length_replicate, List.sum_replicate]
  decide

theorem fwImage_length : fwImage.length = 1024 := by
  have h4 : (leBytes 4 0x09F27BC8).length = 4 := by decide
  rw [fwImage, List.length_append, fwBody_length, h4]

theorem fwEnd : endCheck crc32c fwImage = true := by
  have ht : fwImage.take 1020 = fwBody := by rw [fwImage, ← fwBody_length]; exact List.take_left' rfl
  have hp : par fwImage 1020 4 = 0x09F27BC8 := by
    rw [par, fwImage, ← fwBody_length, List.drop_left' rfl]; decide
  simp only [endCheck, fwImage_length, ht, hp, fwCrc]; decide

theorem fwSound_fwImage : fwSound fwImage = true := by
  simp only [fwSound, fwEnd, fwImage_length]; decide +kernel

theorem fwFits_fwImage (s : State) : fwFits fwImage s = true := by
  have h : par fwImage 16 1 = 0 := by decide +kernel
  simp only [fwFits, fwImage_length, h]
  have h1 : par fwImage 6 2 = 0x6108 := by decide +kernel
  have h2 : par fwImage 12 4 = 1024 := by decide +kernel
  have h3 : par fwImage 8 4 = 1 := by decide +kernel
  rw [h1, h2, h3]; simp

/-- The image of a job that asks to be kept in the history store. -/
def keptImage : List Byte :=
  let b := jobImage.take 30 ++ leBytes 2 1 ++ (jobImage.drop 32).take 40
  b ++ leBytes 4 (crc32c b)

theorem wit_TransfersEndInTheirTarget :
    (let s := rdy.setXfer (some ⟨0, .jobLoad, 8, 0, 1, [], 0⟩); accepts m0 s ∧ crc32c [] ≠ 1) ∧
    (let s := moving .jobLoad 15 jobImage rdy; accepts m0 s ∧ imageRefusal 15 jobImage s = none ∧ bit (par jobImage 30 2) 0 = false) ∧
    (let s := moving .jobLoad 8 keptImage (rdy.put Reg.LC_STATE 1)
     accepts m0 s ∧ imageRefusal 8 keptImage s = none ∧ bit (par keptImage 30 2) 0 = true ∧ tunRoom (4 + keptImage.length) s.start = true) ∧
    (let s := moving .nvAppend 0x11 [1] rdy; accepts m0 s ∧ appendRefusal 0x11 [1] s = none ∧ tunRoom 1 s.start = true) ∧
    (let s := moving .nvAppend 0x11 [1] { rdy with start := { rdy.start with log := { rdy.start.log with sectors := 0 } } }
     accepts m0 s ∧ appendRefusal 0x11 [1] s = none ∧ tunRoom 1 s.start = false) ∧
    (let s := moving .nvAppend 0x10 modelPack (rdy.put Reg.LC_STATE 1)
     accepts m0 s ∧ appendRefusal 0x10 modelPack s = none ∧ tunRoom 2508 s.start = true) ∧
    (let s := moving .fwStage 0 fwImage rdy; accepts m0 s ∧ fwSound fwImage = true ∧ fwFits fwImage s = true) ∧ fwSound [] = false :=
  ⟨⟨accepts_of _ _ (by decide +kernel), by decide +kernel⟩, ⟨accepts_of _ _ (by decide +kernel), by decide +kernel⟩,
    ⟨accepts_of _ _ (by decide +kernel), by decide +kernel⟩, ⟨accepts_of _ _ (by decide +kernel), by decide +kernel⟩,
    ⟨accepts_of _ _ (by decide +kernel), by decide +kernel⟩,
    ⟨accepts_of _ _ rfl, by rw [appendRefusal, packSound_modelPack, packFits_modelPack]; decide +kernel, by decide +kernel⟩,
    ⟨accepts_of _ _ (by decide +kernel), fwSound_fwImage, fwFits_fwImage _⟩, by decide +kernel⟩

theorem wit_LifeCycleMovesStepByStep :
    (let s := puts rdy [(Reg.MODE_NOW, 4), (Reg.LC_STATE, 2)]
     accepts m0 s ∧ s.modeNow = 4 ∧ s.host.lcSeq = none ∧ lcSteps (s.get Reg.LC_STATE) 3 = some 3) ∧
    (let s := rdy.put Reg.MODE_NOW 4; accepts m0 s ∧ s.modeNow = 4 ∧ lcSteps (s.get Reg.LC_STATE) 2 = some 1 ∧ lcCode 2 1 s + 1 ≠ lcCode 2 1 s) ∧
    (let s := { rdy with host := { rdy.host with lcSeq := some (0, 3, 2, 0) } }
     accepts m0 s ∧ s.host.lcSeq = some (0, 3, 2, 0) ∧ lcSteps (s.get Reg.LC_STATE) 1 = none ∧ s.ready = true ∧ s.clk.span ≤ 0 + 256 ∧
      0 + 256 < ({ s with clk := ⟨257, 0⟩ } : State).clk.span) :=
  ⟨⟨accepts_of _ _ (by decide +kernel), by decide +kernel⟩, ⟨accepts_of _ _ (by decide +kernel), by decide +kernel, by decide +kernel, by omega⟩,
    accepts_of _ _ (by decide +kernel), by decide +kernel⟩

theorem wit_TestsRunInService :
    (let s := linked 5 (puts rdy [(Reg.LC_STATE, 0), (Reg.MODE_NOW, 4), (Reg.CSTATE 31, 3), (Reg.CUBIT_ST 31, 2)])
     accepts m0 s ∧ s.get Reg.LC_STATE = 0 ∧ s.modeNow = 4 ∧ s.start.testing = none ∧
      (inMask (2 ^ 31)).any (fun j => s.get (Reg.CSTATE j) == 0) = false ∧ s.get (Reg.CSTATE 31) ≠ 0 ∧ s.get (Reg.CUBIT_ST 31) = 2 ∧
      s.linkUp 5 = true) ∧
    (let s := puts rdy [(Reg.LC_STATE, 3), (Reg.CSTATE 0, 0)]; accepts m0 s ∧ s.get Reg.LC_STATE = 3 ∧ s.modeNow ≠ 4 ∧
      (inMask 1).any (fun j => s.get (Reg.CSTATE j) == 0) = true) ∧
    (accepts m0 rdy ∧ rdy.get Reg.LC_STATE ≠ 0 ∧ rdy.get Reg.LC_STATE ≠ 3) ∧
    (let s := { rdy with start := { rdy.start with testing := some (1, 2 ^ 31) } }; s.start.testing = some (1, 2 ^ 31) ∧ bit (2 ^ 31) 31 = true) :=
  ⟨⟨accepts_of _ _ (by decide +kernel), by decide +kernel⟩, ⟨accepts_of _ _ (by decide +kernel), by decide +kernel⟩, ⟨acc_rdy, by decide +kernel⟩,
    by decide +kernel⟩
/-! ### The host ports -/

/-- A frame of a host for the module two hops away. -/
def hostOut : Frame := ⟨1, 1, 2, false, false, 9, 0x01, 0, false, true, [0x80]⟩

theorem wit_SpiPortTakesAndGivesFrames :
    State.reset.ready = false ∧
    (let s := { rdy with host := { rdy.host with hq := [frame0] } }
     s.ready = true ∧ (List.replicate (1 + (frameBytes frame0).length) (0 : Byte)).head? = some 0 ∧ s.host.hq = frame0 :: [] ∧
      1 + (frameBytes frame0).length ≤ (List.replicate (1 + (frameBytes frame0).length) (0 : Byte)).length ∧
      (List.replicate (frameBytes frame0).length (0 : Byte)).length < 1 + (frameBytes frame0).length) ∧
    (let s := { rdy with host := { rdy.host with inBuf := List.replicate 4 hostOut } }
     s.ready = true ∧ ([1] : List Byte) ≠ [] ∧ ([1] : List Byte).head? ≠ some 0 ∧ 4 ≤ s.host.inBuf.length) ∧
    (rdy.host.inBuf.length < 4 ∧ hostFrame false [1] = none ∧ (headNow.flag Reg.HEAD_NOW = true)) ∧
    (let f := { hostOut with hops := 0 }; hostFrame false (frameBytes f) = some f ∧ f.bcast = false ∧ f.hops = 0 ∧ isHead rdy = false) ∧
    (let f := { hostOut with hops := 63, bcast := true }; hostFrame false (frameBytes f) = some f ∧ f.bcast = true ∧ f.hops ≠ 0 ∧
      isHead (receive true (parseCmd f.op f.payload) ⟨0, f.bcast, f.seq, 0⟩ headNow) = true) ∧
    (hostFrame false (frameBytes hostOut) = some hostOut ∧ hostOut.bcast = false ∧ hostOut.hops ≠ 0 ∧ (frameBytes hostOut).head? ≠ some 0) ∧
    (let s := { headNow with host := { headNow.host with inBuf := [hostOut] } }
     s.ready = true ∧ s.host.inBuf = hostOut :: [] ∧ s.host.twIn = [] ∧ headRoute hostOut s = some (0, hostOut) ∧ hasRoom s (.port 0) = true) ∧
    (let s := { headNow.setPt 0 { headNow.pt 0 with txq := List.replicate 32 frame0 } with host := { headNow.host with inBuf := [hostOut] } }
     headRoute hostOut s = some (0, hostOut) ∧ hasRoom s (.port 0) = false) ∧
    (let s := { puts rdy [(Reg.HEAD_NOW, 1), (Reg.ENUMERATED, 1)] with host := { rdy.host with inBuf := [hostOut] } }
     s.ready = true ∧ headRoute hostOut s = none ∧ s.host.hq.length < 64) := by decide +kernel

theorem wit_TwoWireTargetTakesAndGivesFrames :
    State.reset.ready = false ∧
    (let s := { rdy with host := { rdy.host with twq := [frame0] } }
     s.ready = true ∧ s.flag Reg.TW_PEC = true ∧ (s.put Reg.TW_PEC 0).flag Reg.TW_PEC = false ∧
      none ≠ some (smbusPec ([addrByte s false, 0x02, byte 0] ++ [])) ∧ s.host.twq = frame0 :: [] ∧ s.host.twIn.length < 2 ∧ hostFrame true [1] = none ∧
      hostFrame true (frameBytes hostOut) = some hostOut ∧ 12 ≤ (frameBytes hostOut).length ∧ (frameBytes hostOut).length ≤ 64) ∧
    (let s := { rdy with host := { rdy.host with twIn := [hostOut, hostOut] } }; 2 ≤ s.host.twIn.length) ∧
    (let s := { rdy.put Reg.TW_ATTN 1 with host := { rdy.host with twq := [frame0], twCalled := 0 } }
     s.ready = true ∧ s.flag Reg.TW_ATTN = true ∧ s.tw.active = none ∧ s.tw.due = [] ∧ busStuck s = false ∧ s.host.twCalled < s.host.twq.length ∧
      attnDue s = true ∧ attnFrom s ≤ s.abs ∧ (let u := { s with host := { s.host with twCalled := 1 } }; attnDue u = false) ∧
      (let v := { s with tw := { s.tw with attnAt := some 0 } }; v.abs < attnFrom v ∧ attnFrom v / 4096 = v.clk.span) ∧
      (let w := { s with clk := ⟨0, 4095⟩, tw := { s.tw with attnAt := some 4095 } }; w.abs < attnFrom w ∧ attnFrom w / 4096 ≠ w.clk.span)) := by
  decide +kernel

/-! ### The controller and the core supply -/

/-- The controller with a transfer on the bus. -/
def onBus (j : TwJob) (n : Nat) (s : State) : State := { s with tw := { s.tw with active := some (j, n) } }

theorem wit_ControllerTransfersInOrder :
    (let s := { rdy with tw := { rdy.tw with due := [(.identity, 0), (.passThrough 0x50 true 1 1, 0)] } }
     s.ready = true ∧ s.tw.active = none ∧ busStuck s = false ∧ s.tw.due = (.identity, 0) :: [(.passThrough 0x50 true 1 1, 0)] ∧
      (∀ x ∈ [(TwJob.passThrough 0x50 true 1 1, 0)], TwJob.identity.rank ≤ x.1.rank)) ∧
    rdy.tw.due = [] ∧ (onBus (.passThrough 0x50 false 1 1) 0 rdy).tw.active = some (.passThrough 0x50 false 1 1, 0) ∧ 3 ≤ 3 ∧
    (onBus (.regulator 0x21 1) 0 rdy).tw.active = some (.regulator 0x21 1, 0) ∧ (rdy.put Reg.SDA_STUCK 1 |> busStuck) = true ∧
    (rdy.put Reg.SDA_STUCK 1).ready = true ∧
    (let s := onBus .identity 0 rdy
     s.tw.active = some (.identity, 0) ∧ s.tw.idTries < 2 ∧ s.flag Reg.ID_CRC = false ∧ s.get Reg.ID_LEN ≤ (List.replicate 64 (1 : Byte)).length ∧
      2 ≤ ({ s with tw := { s.tw with idTries := 2 } } : State).tw.idTries ∧ 0 + 1 < s.get Reg.ARB_MAX ∧ s.get Reg.ARB_MAX ≤ s.get Reg.ARB_MAX - 1 + 1) ∧
    (let s := { rdy with tw := { rdy.tw with idDue := true } }; s.ready = true ∧ s.tw.idDue = true) ∧
    (let s := { rdy with tw := { rdy.tw with idWait := true } }; s.ready = true ∧ s.tw.idWait = true) := by decide +kernel

theorem wit_StuckLinesAreReported :
    (rdy.ready = true ∧ rdy.flag Reg.SCL_STUCK = false ∧ rdy.flag Reg.SDA_STUCK = false ∧ rdy.get Reg.SCL_TO ≤ rdy.get Reg.SCL_TO ∧
      0 < rdy.get Reg.SCL_TO ∧ 0 < rdy.get Reg.SDA_TO) ∧
    (rdy.put Reg.SCL_STUCK 1).flag Reg.SCL_STUCK = true ∧
    (let s := puts rdy [(Reg.SDA_STUCK, 1), (Reg.TW_RECOVER, 1)]; s.ready = true ∧ s.flag Reg.SDA_STUCK = true ∧ s.flag Reg.TW_RECOVER = true) := by
  decide +kernel

theorem wit_CoreSupplyFollowsTheSlack :
    (let s := puts rdy [(Reg.VC_ADAPT, 1), (Reg.VR_CTRL, 1)]
     s.ready = true ∧ s.flag Reg.VC_ADAPT = true ∧ s.get Reg.VC_SET ≠ 990 ∧ s.pwr.slackRun + 1 < 8 ∧ (s.put Reg.VC_SET 990).get Reg.VC_SET = 990 ∧
      8 ≤ ({ s with pwr := { s.pwr with slackRun := 7 } } : State).pwr.slackRun + 1 ∧ s.flag Reg.VR_CTRL = true ∧ s.pwr.vrFailed = false ∧
      busStuck s = false ∧ statusFinding 0 = false ∧ statusFinding 4 = true ∧ (s.put Reg.VC_ADAPT 0).flag Reg.VC_ADAPT = false ∧
      s.pwr.write = none) ∧
    (let s := puts rdy [(Reg.VR_CTRL, 0)]
     s.flag Reg.VR_CTRL = false ∧ s.pwr.vrFailed = false ∧ spentReads s = [] ∧ spentReads (setTries 0x20 3 s) = [0x20] ∧ triesOf 0x20 s < 2 ∧
      2 ≤ triesOf 0x20 (setTries 0x20 2 s) ∧ (0x20 : Nat) ≠ 0x21 ∧ (s.put Reg.SCL_STUCK 1).flag Reg.SCL_STUCK = true ∧
      busStuck (s.put Reg.SCL_STUCK 1) = true) ∧
    (let s := { rdy with pwr := { rdy.pwr with write := some ⟨900, 0⟩ } }
     s.ready = true ∧ s.pwr.write = some ⟨900, 0⟩ ∧ 925 < 2048 ∧ 915 < 1024 ∧ 915 ≤ 900 + 15 ∧ 900 ≤ 915 + 15 ∧ 925 ≤ 900 + 25) ∧
    (let s := { rdy with pwr := { rdy.pwr with write := some ⟨900, 2⟩, vrFailed := true } }
     s.pwr.write = some ⟨900, 2⟩ ∧ 2 ≤ 2 ∧ s.pwr.vrFailed = true) := by decide +kernel

/-! ### Pack current -/

theorem wit_CurrentFaultsAndBroadcast :
    ((rdy.tl 0).supplied = true ∧ ((linked 0 rdy).tl 0).calibrating = false ∧ rdy.flag Reg.SHUNT_FAULT = false ∧
      (rdy.put Reg.SHUNT_FAULT 1).flag Reg.SHUNT_FAULT = true) ∧
    (let beyondRange (s : State) : Bool :=
       waveAny (beyond 20) (rawWin (bring 0 (s.tierAt 0) [] s) 0 20 (s.tierAt 0 - 4096 / 2 ^ (s.pr 0).mLog) (s.tierAt 0))
     let s := { linked 0 rdy with clk := ⟨0, 512⟩ }
     beyondRange s = false ∧ beyondRange (s.setPr 0 { s.pr 0 with raw := [(20, [(512, 0x7FFFFFFF)])], rawTo := 512 }) = true) ∧
    (let s : State := { rdy.put Reg.SHUNT_FAULT 1 with cur := { rdy.cur with cond1 := true, good1 := 63 } }
     let u : State := { rdy.put Reg.SHUNT_FAULT 1 with cur := { rdy.cur with cond1 := true, good1 := 64 } }
     (s.cur.cond1 && decide (s.cur.good1 < 64) || s.cur.cond2) = true ∧ (u.cur.cond1 && decide (u.cur.good1 < 64) || u.cur.cond2) = false) ∧
    (let s := { rdy.put Reg.CB_ROLE 1 with cur := { rdy.cur with cbWords := (List.range 11).map (fun i => (5, i, 77)) } }
     s.ready = true ∧ s.get Reg.CB_ROLE = 1 ∧ s.cur.cbWords = (List.range 11).map (fun i => (5, i, 77)) ++ [] ∧
      (s.cur.cbWords.head?.map (fun w => (w.1, w.2.1))) = some (5, 0) ∧ (∀ w ∈ s.cur.cbWords, w.1 = 5) ∧ s.cur.cbWords.length = 11 ∧
      s.cur.cbSums.head?.all (fun x => s.cur.cbWords.any (fun w => w.1 == x.1)) = true) ∧
    (let s := { rdy.put Reg.CB_ROLE 1 with cur := { rdy.cur with cbWords := [(5, 0, 77)] } }
     s.cur.cbWords = [(5, 0, 77)] ++ [] ∧ (s.cur.cbWords.length = 11 ∨ ([] : List (Nat × Nat × Nat)).head?.all (fun w => w.1 != 5) = true) ∧
      0 < nOfCode (s.get (Reg.EFF_SUBWIN 0)) ∧ ¬ (nOfCode ((s.put (Reg.EFF_SUBWIN 0) 4).get (Reg.EFF_SUBWIN 0)) - 1 ≤ 0) ∧
      (∀ w ∈ s.cur.cbWords, w.1 = 5) ∧ s.cur.cbSums = []) ∧
    (let s := { rdy.put Reg.CB_ROLE 1 with cur := { rdy.cur with cbSums := [(5, [1])] } }
     s.cur.cbSums = (5, [1]) :: [] ∧ (∀ w ∈ s.cur.cbWords, w.1 ≠ 5)) ∧
    (let s := rdy.put Reg.CB_ROLE 1; s.ready = true ∧ s.get Reg.CB_ROLE = 1 ∧ s.cur.cbWords = [] ∧ s.cur.cbSums = []) ∧
    (let d : List Byte := [0, 0, 0, 0, 0, 128, 0, 0]
     let s := rdy.put Reg.CB_ROLE 2
     let u := s.put Reg.CB_MISMATCH (cbFailing s (par d 6 2 % 1024))
     s.ready = true ∧ s.get Reg.CB_ROLE = 2 ∧ 8 ≤ d.length ∧ s.cur.cbFrom = none ∧ bit (par d 5 1) 7 = true ∧ u.cur.cbLost = false ∧
      cbFailing u (par d 6 2 % 1024) = u.get Reg.CB_MISMATCH ∧ timeQualified u = false) ∧
    (let d : List Byte := [0, 0, 0, 0, 0, 0] ++ leBytes 2 (cbCfg rdy 0 + 64)
     let s := puts rdy [(Reg.CB_ROLE, 2), (Reg.STATE, 2)]
     let c := cbFailing s (par d 6 2 % 1024)
     let u := s.put Reg.CB_MISMATCH c
     bit (par d 5 1) 7 = false ∧ timeQualified u = true ∧ bit (par d 6 2) 6 = true ∧ c ≠ 63 ∧ cbFailing u (par d 6 2 % 1024) = u.get Reg.CB_MISMATCH ∧
      u.clk.span ≤ completeSpan u (par d 0 4) ∧
      (let w := s.put Reg.CB_MISMATCH (c + 1); w.cur.cbFrom = none ∧ cbFailing w (par d 6 2 % 1024) ≠ w.get Reg.CB_MISMATCH)) ∧
    (let s := { rdy.put Reg.CB_ROLE 2 with cur := { rdy.cur with cbFrom := some 3, cbTwo := false } }; s.cur.cbFrom = some 3 ∧ 3 ≠ 4 ∧ s.cur.cbTwo = false) ∧
    (let s := { rdy.put Reg.CB_ROLE 2 with cur := { rdy.cur with cbFrom := some 3, cbTwo := true } }; s.cur.cbFrom = some 3 ∧ s.cur.cbTwo = true) ∧
    (let s := puts rdy [(Reg.CB_ROLE, 2), (Reg.MODE_NOW, 2)]
     let u := { s with cur := { s.cur with cbLostFor := s.get Reg.CB_LOST } }
     u.ready = true ∧ u.get Reg.CB_ROLE = 2 ∧ u.modeNow = 2 ∧ u.cur.cbLost = false ∧ u.get Reg.CB_LOST ≤ u.cur.cbLostFor) := by
  and_intros <;> decide +kernel

/-! ### Balancing -/

/-- A state whose stage 107 is `g`, under `mode` of tier 5. -/
def staged107 (mode : Nat) (g : Stage) (s : State) : State := (puts s [(Reg.BAL_MODE 5, mode)]).setStage 107 g

theorem wit_StagesFollowTheirSetPoints :
    (drives rdy 5 = true ∧ rdy.linkUp 5 = false ∧ (linked 5 rdy).linkUp 5 = true ∧ drives (linked 5 rdy) 5 = true ∧ (linked 5 rdy).ready = true ∧
      rdy.bal.sampleAt ≤ kvGet (fun _ => 0) rdy.bal.sentAt 5 ∧
      (let s := { linked 5 rdy with bal := { rdy.bal with sampleAt := 256 } }; kvGet (fun _ => 0) s.bal.sentAt 5 < s.bal.sampleAt)) ∧
    (let w : SetPoint := ⟨0, 0, true, false, false⟩
     let s := staged107 2 { Stage.reset with next := some w } rdy
     (s.stage 107).next = some w ∧ ((staged107 2 { Stage.reset with next := some SetPoint.zero } rdy).stage 107).next = some SetPoint.zero ∧
      s.abs < 0 + 32 ∧ (0 + 32) / 4096 = s.clk.span ∧
      (let u := { s with clk := ⟨0, 32⟩ }; 0 + 32 ≤ u.abs) ∧
      (let v := { s with bal := { s.bal with sentAt := [(5, 4064)] } }; v.abs < 4064 + 32 ∧ (4064 + 32) / 4096 ≠ v.clk.span)) ∧
    (∀ n, n < 108 → (rdy.stage n).next = none) ∧
    (refreshDue rdy 5 = 512 ∧ rdy.abs < 512 ∧
      (let s := rdy.setStage 107 { Stage.reset with fed := 3584 }; refreshDue s 5 / 4096 ≠ s.clk.span ∧ s.abs < refreshDue s 5)) ∧
    (let s := staged107 2 { Stage.reset with now := ⟨-5000, 0, false, false, false⟩ } rdy
     s.get (Reg.BAL_MODE 5) = 2 ∧ (s.stage 107).ramp = none ∧ (s.stage 107).now.cmd ≠ 0 ∧ (s.stage 107).trips ≠ 7) ∧
    (let s := staged107 1 { Stage.reset with now := ⟨1, 0, false, false, false⟩ } rdy
     s.get (Reg.BAL_MODE 5) = 1 ∧ 0 < (s.stage 107).now.cmd ∧ 0 < (s.stage 107).now.cmd * 256 + (s.stage 107).carry ∧
      (let v := staged107 1 { Stage.reset with now := ⟨1, 0, false, false, false⟩, carry := -4095 } rdy
       0 < (v.stage 107).now.cmd ∧ (v.stage 107).now.diag = false ∧ ¬ 0 < (v.stage 107).now.cmd * 256 + (v.stage 107).carry) ∧ Stage.reset.now.cmd ≤ 0 ∧
      kvGet (fun _ => 0) s.bal.pwmAt 5 = 0 ∧ s.abs % (256 * 2 ^ s.get (Reg.PASSIVE_PERIOD 5)) = 0 ∧
      (let u := { s with clk := ⟨0, 3841⟩, bal := { s.bal with pwmAt := [(5, 3841)] } }
       let d := nextBoundary (3841 - 1) u.abs (256 * 2 ^ u.get (Reg.PASSIVE_PERIOD 5)); u.abs < d ∧ d / 4096 ≠ u.clk.span)) ∧
    (let s := linked 5 rdy
     let fin := nextBoundary (kvGet (fun _ => 0) s.bal.loopAt 5) (s.tierAt 5) 256
     (s.tl 5).calibrating = false ∧ s.linkUp 5 = true ∧ s.ready = true ∧ ¬ (s.tierAt 5 < fin ∧ fin % 4096 = 0) ∧
      (let u := { s with clk := ⟨0, 3840⟩, bal := { s.bal with loopAt := [(5, 3840)] } }
       let f := nextBoundary 3840 (u.tierAt 5) 256; u.tierAt 5 < f ∧ f % 4096 = 0)) ∧
    (let s := (staged107 2 { Stage.reset with trips := 7 } (linked 5 rdy)).put (Reg.CH_STATE 107) 1
     s.get (Reg.BAL_MODE 5) = 2 ∧ (s.stage 107).trips = 7 ∧ s.ready = true ∧ s.linkUp 5 = true ∧ s.modeNow ≠ 5 ∧ s.get (Reg.CH_STATE 107) = 1 ∧
      (s.put Reg.MODE_NOW 5).modeNow = 5 ∧ (s.put (Reg.CH_STATE 107) 5).get (Reg.CH_STATE 107) = 5) ∧
    (let s := staged107 1 { Stage.reset with now := ⟨16, 0, false, false, false⟩, pulse := some (0, false) } rdy
     let full : Int := (s.stage 107).now.cmd * (256 * 2 ^ s.get (Reg.PASSIVE_PERIOD 5) : Nat) + (s.stage 107).carry
     (s.stage 107).pulse = some (0, false) ∧ s.get (Reg.CH_STATE 107) ≠ 1 ∧ (s.stage 107).debt = 0 ∧ 0 < full ∧
      4096 * ((s.abs - 0 : Nat) : Int) < full + 4096) ∧
    (let s := (staged107 1 { Stage.reset with pulse := some (0, true) } rdy).put (Reg.CH_STATE 107) 1
     (s.stage 107).pulse = some (0, true) ∧ s.get (Reg.CH_STATE 107) = 1) ∧
    ((rdy.stage 107).pulse = none ∧ (rdy.stage 107).owed = false ∧ ((rdy.setStage 107 { Stage.reset with owed := true }).stage 107).owed = true) ∧
    (let s := (puts rdy [(Reg.BAL_MODE 5, 1), (Reg.CH_STATE 107, 1), (Reg.DIAG_EN 5, 0)]).setChan 107 { rdy.chan 107 with cmd := 1 }
     let u := { s with clk := ⟨63, 0⟩ }
     s.ready = true ∧ s.get (Reg.CH_STATE 107) = 1 ∧ s.get (Reg.BAL_MODE 5) = 1 ∧ s.flag (Reg.DIAG_EN 5) = false ∧
      s.flag (Reg.UNDIAGNOSED 107) = false ∧ s.clk.span < (s.chan 107).undiagAt + 63 ∧ (u.chan 107).undiagAt + 63 ≤ u.clk.span ∧ (u.chan 107).runAt + 63 ≤ u.clk.span ∧
      0 < (u.chan 107).cmd ∧ (u.chan 107).cmd * (256 * 2 ^ u.get (Reg.PASSIVE_PERIOD 5) : Int) < 64 * 4096 ∧ ¬ 0 < (rdy.chan 107).cmd) ∧
    (let s := staged107 2 { Stage.reset with ramp := some (0, 100) } (rdy.put (Reg.CH_STATE 107) 2)
     s.get (Reg.CH_STATE 107) = 2 ∧ (s.chan 107).after < 8 ∧ rampEnd s 107 = some 256 ∧ s.abs < 256 ∧
      (let u := { s with clk := ⟨0, 256⟩ }; 256 ≤ u.abs) ∧
      (let v := staged107 2 { Stage.reset with ramp := some (3840, 100) } (rdy.put (Reg.CH_STATE 107) 2)
       (rampEnd v 107).all (fun d => decide (v.abs < d) && d / 4096 != v.clk.span) = true)) ∧
    (let s := rdy.put (Reg.T_SRC 107) 0
     s.flag (Reg.FREEZE (tempBase 107)) = false ∧ chanTempLost s 107 = false ∧ chanTempLost { s with clk := ⟨64, 0⟩ } 107 = true) ∧
    (rdy.flag Reg.RESCUE = false ∧ nextBoundary rdy.bal.sampleAt rdy.abs 256 = 256 ∧
      (let s := { rdy with clk := ⟨0, 3840⟩, bal := { rdy.bal with sampleAt := 3840 } }; nextBoundary s.bal.sampleAt s.abs 256 / 4096 ≠ s.clk.span)) ∧
    (rdy.get (Reg.CH_STATE 0) = 0 ∧ (rdy.put (Reg.CH_STATE 0) 1).get (Reg.CH_STATE 0) = 1 ∧
      (rdy.put (Reg.CH_STATE 0) 3).get (Reg.CH_STATE 0) = 3 ∧ (rdy.put (Reg.CH_STATE 0) 4).get (Reg.CH_STATE 0) = 4) := by
  and_intros <;> decide +kernel

/-! ### Excitation -/

/-- A sweep of SPI over the bin 100 with its tier state. -/
def sweeping (e : ExcTier) : State :=
  { puts charging [(Reg.EXC_STATE, 1), (Reg.EXC_CELL 0, 0)] with
    exc := { sweep := some (m0, 100, 100, 50, 64), tiers := [(0, some e)], held := [], waves := [], begun := none, recLen := [] } }

def tier0 (bands : List Nat) : ExcTier :=
  { cells := [], bands := bands, good := 0, poor := false, tones := [], periods := [], measured := 63, stepped := false, replan := false, start := none,
    leadIn := false, settle := true, from_ := 0, rampAt := 0, due := none }

theorem wit_SweepsRunTheirPeriods :
    (let e := tier0 [6]
     let s := sweeping e
     s.ready = true ∧ s.excTier 0 = some e ∧ s.get Reg.EXC_STATE = 1 ∧ s.clk.grain = 0 ∧ s.get (Reg.EXC_CELL 0) ≠ 127 ∧
      s.exc.sweep = some (m0, 100, 100, 50, 64) ∧ e.start = none ∧ e.due = none ∧ e.tones = [] ∧ e.leadIn = false ∧ 6 ≤ 6 ∧
      e.bands.dropWhile (fun x => (bandTones s 100 100 x).isEmpty) = 6 :: [] ∧ e.measured < 64) ∧
    (let e := { tier0 [6] with leadIn := true, rampAt := 256 }
     let s := sweeping e
     s.excTier 0 = some e ∧ e.start = none ∧ e.due = none ∧ s.abs ≤ e.rampAt ∧ e.rampAt < ({ s with clk := ⟨1, 0⟩ } : State).abs) ∧
    (let e := { tier0 [6] with start := some 0, tones := [(100, 1)], measured := 0 }
     let s := sweeping e
     let u := { s with clk := ⟨2 ^ s.get (Reg.EXC_J 0), 0⟩ }
     s.excTier 0 = some e ∧ s.clk.span < 0 + 2 ^ s.get (Reg.EXC_J 0) ∧ u.excTier 0 = some e ∧ 0 + 2 ^ u.get (Reg.EXC_J 0) ≤ u.clk.span ∧
      u.flag (Reg.EXC_SETTLING 0) = false ∧ e.measured + 1 < 64 ∧ e.tones ≠ [] ∧ e.replan = false ∧ e.leadIn = false ∧ e.bands = 6 :: []) ∧
    (let d : ExcDue := ⟨0, 6, true, true, true, false, 0, 4, [], 1⟩
     let e := { tier0 [6] with due := some d }
     let marred (volt : Wave) : Bool := waveAny (beyond (localOf d.cell)) volt || waveAny clampOn volt
     (sweeping e).excTier 0 = some e ∧ e.due = some d ∧ d.lastBand = true ∧ d.lastCell = false ∧ d.measured = true ∧ d.clean = true ∧
      marred [(64, 0)] = false ∧ marred [(1, 0x7FFFFFFF)] = true ∧
      (e.periods ++ [toneSums d [(64, 0)] [(64, 0)]]).length < 4 ∧
      4 ≤ (({ e with periods := [[], [], []] } : ExcTier).periods ++ [toneSums d [(64, 0)] [(64, 0)]]).length ∧
      ({ d with lastBand := false } : ExcDue).lastBand = false) ∧
    (let s := (sweeping (tier0 [6])).put Reg.EXC_STATE 2
     s.get Reg.EXC_STATE = 2 ∧ leaseLive s 1 = true ∧ s.clk.span + s.get Reg.EXC_GUARD < leaseE s 1 ∧ s.exc.sweep.isSome = true ∧ exciteBlocked s (s.get (Reg.EXC_CELL 0)) = false ∧ (s.excTier 1).isSome = false ∧
      (let u := { s with clk := ⟨100, 0⟩ }; leaseE u 1 ≤ u.clk.span ∧ leaseE u 1 ≤ u.clk.span + u.get Reg.EXC_GUARD)) := by
  and_intros <;> decide +kernel

/-! ### The thermal output and the strings -/

/-- The thermal output in a state of its machine. -/
def thermal (st : Nat) (o : ThermOut) : State := { puts actuating [(Reg.TO_STATE, st)] with temps := { rdy.temps with out := o } }

theorem wit_ThermalOutputRuns :
    (let s := (thermal 0 { ThermOut.reset with newSet := some (0, 1024) }).put Reg.TACH_EN 0
     s.ready = true ∧ s.modeNow ≠ 0 ∧ s.modeNow ≠ 5 ∧ leaseLive s 2 = true ∧ s.get Reg.TO_STATE = 0 ∧ s.get Reg.TO_MODE = 1 ∧
      s.flag Reg.TACH_EN = false ∧ s.temps.out.newSet = some (0, 1024) ∧ nextBoundary s.temps.out.sampleAt s.abs 1024 = 1024 ∧
      (s.passTo 1024).map (fun u => (u.clk.grain, leaseLive u 2)) = some (1024, true) ∧
      (let u := { s with clk := ⟨0, 3072⟩, temps := { s.temps with out := { s.temps.out with sampleAt := 3072 } } }
       u.passTo (nextBoundary u.temps.out.sampleAt u.abs 1024) = none)) ∧
    (rdy.put Reg.MODE_NOW 0).modeNow = 0 ∧
    (let s := thermal 2 { ThermOut.reset with stop := true }
     toRuns s = true ∧ s.temps.out.noRot = false ∧ s.temps.out.lost = false ∧ s.temps.out.stop = true ∧ (s.passTo 1024).isSome = true) ∧
    (let s := thermal 2 ThermOut.reset
     s.flag Reg.TACH_EN = true ∧ s.temps.out.lastEdge.any (fun l => 0 < l + 100) = false ∧ s.temps.out.window = false ∧ s.get Reg.TO_STATE ≠ 4) ∧
    (let s := thermal 2 { ThermOut.reset with window := true, retry := true, winEdges := 1 }
     s.temps.out.window = true ∧ s.temps.out.retry = true ∧ s.temps.out.winEdges = 1 ∧ s.get Reg.TO_STATE ≠ 4) ∧
    (let s := thermal 4 { ThermOut.reset with lastEdge := some 0, edges := List.replicate 7 1000 }
     s.temps.out.lastEdge.any (fun l => 99 < l + 100) = true ∧ s.temps.out.lastEdge.any (fun l => 1000 < l + 100) = false ∧
      s.temps.out.window = false ∧ s.get Reg.TO_STATE = 4 ∧ steady (((1000 - 0) :: s.temps.out.edges).take 7) = true) ∧
    (let s := thermal 2 { ThermOut.reset with rise := some 0 }; s.temps.out.rise = some 0 ∧ s.get Reg.SRC_NOW ≠ 1 ∧ 2000 ≤ 2000 - 0 ∧ 10000001 - 0 > 10000000) ∧
    (let s := (thermal 2 { ThermOut.reset with ok := true }).put Reg.SRC_NOW 1
     s.get Reg.SRC_NOW = 1 ∧ s.temps.out.ok = true ∧ toRuns s = true ∧ s.passTo (0 + msGrains s.tb.period 250) = none ∧
      (({ s with clk := ⟨13, 0⟩ } : State).passTo (0 + msGrains s.tb.period 250)).isSome = true) ∧
    (let s := (thermal 2 ThermOut.reset).put Reg.SRC_NOW 1
     toRuns s = true ∧ s.get Reg.SRC_NOW ≠ 0 ∧ s.temps.out.ok = false ∧ s.temps.out.stop = false ∧ s.temps.out.lostFor < s.get Reg.TD_HOLD ∧
      s.get Reg.TD_HOLD ≤ ({ s.temps.out with lostFor := s.get Reg.TD_HOLD } : ThermOut).lostFor) ∧
    (let s := (thermal 1 { ThermOut.reset with window := true, winEdges := 1 }).put Reg.DUTY_NOW 1024
     s.temps.out.window = true ∧ s.get Reg.TO_STATE = 1 ∧ s.temps.out.winEdges < 2 ∧ s.get Reg.TACH_MIN_DUTY ≤ s.get Reg.DUTY_NOW ∧
      2 ≤ ({ s.temps.out with winEdges := 2 } : ThermOut).winEdges ∧ s.passTo (0 + msGrains s.tb.period (s.get Reg.SPIN_WIN)) = none ∧
      (({ s with clk := ⟨1000, 0⟩ } : State).passTo (0 + msGrains s.tb.period (s.get Reg.SPIN_WIN))).isSome = true) ∧
    (let s := (thermal 2 ThermOut.reset).put Reg.DUTY_NOW 1024
     s.flag Reg.TACH_EN = true ∧ s.get Reg.TO_STATE = 2 ∧ s.get Reg.TACH_MIN_DUTY ≤ s.get Reg.DUTY_NOW ∧
      s.passTo (0 + msGrains s.tb.period (s.get Reg.TACH_TO)) = none ∧
      (({ s with clk := ⟨1000, 0⟩ } : State).passTo (0 + msGrains s.tb.period (s.get Reg.TACH_TO))).isSome = true) ∧
    (let s := { puts (thermal 2 ThermOut.reset) [(Reg.TO_MODE, 2), (Reg.TO_T_SRC, 0)] with clk := ⟨64, 0⟩ }
     s.get Reg.TO_MODE = 2 ∧ toRuns s = true ∧ toTemp s = none ∧ s.temps.out.tLost = false ∧
      (∀ i ∈ toSensors s, kvGet (fun _ => 0) s.fab.tOk i + 64 ≤ s.clk.span) ∧ s.start.readySpan + 64 ≤ s.clk.span) ∧
    (let s := thermal 5 ThermOut.reset
     s.get Reg.TO_STATE = 5 ∧ (s.passTo (0 + 1024)).isSome = true ∧
      ({ s with temps := { s.temps with out := { s.temps.out with rampFrom := 3072 } } } : State).passTo (3072 + 1024) = none) := by
  and_intros <;> decide +kernel

/-- String port 1 of tier 5 at work, with its state. -/
def string11 (q : Strg) (l : List (Field × Nat)) : State := (puts rdy ((Reg.STR_EN 5 1, 1) :: l)).setStrg 11 q

/-- The pulses of a satellite that spell a word: 24 µs for a 1 and 8 µs for a 0, in slots of 40 µs (R298). -/
def train (w : Nat) : List (Nat × Nat) := (List.range 32).map fun i => (if bit w (31 - i) then 240 else 80, 400)

theorem wit_StringsAreRead :
    (let s := string11 Strg.reset []
     stringOn s 5 1 = true ∧ s.get (Reg.STR_STATE 5 1) ≠ 3 ∧ (s.strg 11).phase ≠ 2 ∧ (s.strg 11).phase ≠ 1 ∧ (s.strg 11).cycleAt = none ∧
      stringOn rdy 5 1 = false) ∧
    (let s := string11 { Strg.reset with cycleAt := some 0 } []
     (s.strg 11).cycleAt = some 0 ∧ stringPass 5 0 (s.get (Reg.STR_PERIOD 5 1)) s = none ∧
      (stringPass 5 0 (s.get (Reg.STR_PERIOD 5 1)) { s.setTl 5 { s.tl 5 with span := 1000 } with clk := ⟨1000, 0⟩ }).isSome = true) ∧
    (let s := string11 { Strg.reset with cycles := 34 } [(Reg.STR_COUNT 5 1, 16), (Reg.STR_FOUND 5 1, 15)]
     s.get (Reg.STR_COUNT 5 1) ≠ 0 ∧ (s.strg 11).lowRaised = false ∧ 2 * s.get (Reg.STR_COUNT 5 1) + 2 ≤ (s.strg 11).cycles ∧
      s.get (Reg.STR_FOUND 5 1) < s.get (Reg.STR_COUNT 5 1) ∧
      (s.put (Reg.STR_FOUND 5 1) 16).get (Reg.STR_COUNT 5 1) ≤ (s.put (Reg.STR_FOUND 5 1) 16).get (Reg.STR_FOUND 5 1)) ∧
    (let s := string11 Strg.reset [(Reg.STR_COUNT 5 1, 16)]; (s.strg 11).cycles < 2 * s.get (Reg.STR_COUNT 5 1) + 2) ∧
    (let s := string11 Strg.reset [(Reg.STR_STATE 5 1, 3)]
     s.get (Reg.STR_STATE 5 1) = 3 ∧ stringPass 5 (s.strg 11).shortAt 1000 s = none ∧
      (stringPass 5 0 1000 { s.setTl 5 { s.tl 5 with span := 1000 } with clk := ⟨1000, 0⟩ }).isSome = true) ∧
    (let s := string11 { Strg.reset with phase := 1, cycleAt := some 0 } []
     (s.strg 11).phase = 1 ∧ (stringPass 5 ((s.strg 11).cycleAt.getD 0) 1 s).isSome = true ∧ stringPass 5 4095 1 s = none) ∧
    (let s := string11 { Strg.reset with phase := 2, enumRaised := true, seen := 1, timingAt := some 0, top := 1 } []
     let w := 0x20000000 + crc8 [0x20, 0, 0]
     (s.strg 11).phase = 2 ∧ (s.strg 11).enumRaised = true ∧ (∀ p, p < 16 → bit (s.strg 11).seen p = true ∨ bit (s.strg 11).ever p = false) ∧
      (stringPass 5 (s.strg 11).pulseAt 4 s).isSome = true ∧ stringPass 5 4095 4 s = none ∧
      (s.strg 11).timingAt = some 0 ∧ (s.strg 11).cycles < 0 + 64 ∧ Strg.reset.timingAt = none ∧
      crc8 [byte (w / 2 ^ 24), byte (w / 2 ^ 16), byte (w / 2 ^ 8)] = w % 256 ∧ (s.strg 11).top ≤ bitsOf w 28 4 ∧
      bitsOf w 28 4 + 1 ≠ s.get (Reg.STR_COUNT 5 1) ∧ bitsOf w 28 4 + 1 = (s.put (Reg.STR_COUNT 5 1) 3).get (Reg.STR_COUNT 5 1) ∧
      bit w 10 = false ∧ bit w 11 = false ∧ bit (s.get (Reg.SAT_FLT 5 1)) (bitsOf w 28 4) = false ∧
      (let v := crc8 [0, 0, 0]; crc8 [byte (v / 2 ^ 24), byte (v / 2 ^ 16), byte (v / 2 ^ 8)] = v % 256 ∧ bitsOf v 28 4 < (s.strg 11).top ∧
        crc8 [byte ((v + 1) / 2 ^ 24), byte ((v + 1) / 2 ^ 16), byte ((v + 1) / 2 ^ 8)] ≠ (v + 1) % 256) ∧
      (∀ x ∈ [w, crc8 [0, 0, 0], crc8 [0, 0, 0] + 1], frameWord (train x) = x ∧ slotsFault 32 (train x) = 0 ∧ (train x).length = 32 ∧
        ∀ y ∈ train x, pulseOk y.1 = true ∧ slotOk y.2 = true) ∧
      slotsFault 32 ((101, 400) :: train w) = 1 ∧ slotsFault 32 ((80, 299) :: train w) = 2 ∧ (s.strg 11).resync = false ∧ (s.strg 11).pulsed = false ∧
      (let u := string11 { Strg.reset with phase := 2, pulsed := true, resync := true } []
       (u.strg 11).resync = true ∧ (u.strg 11).pulsed = true ∧ stringOn u 5 1 = true)) ∧
    (let s := string11 { Strg.reset with phase := 2, ever := 1, miss := [(0, 3)] } []
     bit (s.strg 11).seen 0 = false ∧ bit (s.strg 11).ever 0 = true ∧
      (kvGet (fun _ => 0) (s.strg 11).miss 0 < (s.put (Reg.STR_MISS 5 1) 4).get (Reg.STR_MISS 5 1) ∧
        bit ((s.put (Reg.SAT_FLT 5 1) 1).get (Reg.SAT_FLT 5 1)) 0 = true)) := by decide +kernel
/-! ### The fabric, the log, the windows -/

/-- Slot 0 of the fabric with its job. -/
def slot0 (st : Nat) (j : Job) : State := ((rdy.put (Reg.JSTATE 0) st).setJob 0 j)

/-- A host job on cubit 31 with an instance in progress, its code in the instruction buffer. -/
def coded (code : List Nat) : State :=
  ((puts rdy [(Reg.CSTATE 31, 0), (Reg.CJOB 31, 9)]).setJob 9 { Job.reset with inst := some ⟨0, 0, 0, false⟩ }).setCubit 31
    { Cubit.reset with ibuf := code, desc := [(0, ⟨-1, 4, 0⟩)] }

theorem wit_FabricRunsItsJobs :
    (let s := { rdy with win := { rdy.win with swapped := true, completed := { rdy.win.completed with span := 7, tiers := 63 } } }
     s.ready = true ∧ s.win.swapped = true ∧ s.fab.histLive ≠ s.win.completed.span + 1 ∧ rdy.win.swapped = false ∧
      bit s.win.completed.tiers (107 / 18) = true) ∧
    (let i : Inst := ⟨0, 0, 0, false⟩
     let s := slot0 2 { Job.reset with inst := some i }
     s.clk.span % periodOf s 0 = 0 ∧ (s.job 0).relAt ≠ s.clk.span + 1 ∧ isRunning s 0 = true ∧ (s.job 0).inst = some i ∧
      s.clk.span < i.release + 2 * periodOf s 0 ∧
      (let u := { s with clk := ⟨2 * periodOf s 0, 0⟩ }; i.release + 2 * periodOf u 0 ≤ u.clk.span ∧ u.get (Reg.ABORT_RUN 0) < 2 ∧
        2 ≤ (u.put (Reg.ABORT_RUN 0) 2).get (Reg.ABORT_RUN 0))) ∧
    (let s := { slot0 2 Job.reset with fab := { (slot0 2 Job.reset).fab with planDue := false } }
     s.clk.span % periodOf s 0 = 0 ∧ (s.job 0).relAt ≠ s.clk.span + 1 ∧ isRunning s 0 = true ∧ (s.job 0).inst = none ∧
      s.flag (Reg.LAG 0) = false ∧ s.fab.planDue = false) ∧
    (rdy.clk.span % periodOf rdy 9 = 0 ∧ (rdy.job 9).relAt ≠ rdy.clk.span + 1 ∧ isRunning rdy 9 = false) ∧
    (let s := { rdy.put (Reg.JOB_PERIOD_M1 15) 1 with clk := ⟨1, 0⟩ }; s.clk.span % periodOf s 15 ≠ 0) ∧
    (hostRun 9 ⟨0, 0, 0, false⟩ (rdy.setJob 9 { Job.reset with inst := some ⟨0, 0, 0, false⟩ })).2.2.1 = .ended ∧
    (hostRun 9 ⟨0, 0, 0, false⟩ (coded [])).2.2.1 = .stuck ∧ ((coded []).job 9).inst = some ⟨0, 0, 0, false⟩ ∧
    (let g : Seg := ⟨1, 0, 1, 0, false, false, 0, 0⟩
     rdy.get (Reg.TAU_TAP (tierOf 107)) = 0 ∧ rdy.get Reg.TAU_SHUNT = 0 ∧ segSums [g] = (1, 0, 1, 1) ∧ rdy.get Reg.COH_TH ≤ 250 ∧
      (let low : List Seg := [g, ⟨-1, 0, 1, 0, false, false, 0, 0⟩]
       let s := rdy.setBin 107 3 ⟨0, 0, 250, false, false, false, false, 0, 250, false⟩
       segSums low = (0, 0, 2, 2) ∧ 250 * 0 < rdy.get Reg.COH_TH * (2 * 2) ∧ (s.bin 107 3).coh ≠ 255 ∧ s.get Reg.COH_TH ≤ (s.bin 107 3).whole)) ∧
    (let i : Inst := ⟨0, 0, 0, false⟩
     let s := (slot0 2 { Job.reset with held := 7 }).put (Reg.LAG 0) 1
     s.flag (Reg.LAG 0) = true ∧ ¬ (s.job 0).held < 7 ∧ (slot0 2 { Job.reset with inst := some i }).flag (Reg.LAG 0) = false ∧
      (let u := { (rdy.put (Reg.JSTATE 1) 2) with fab := { rdy.fab with newPack := [0], planDue := false } }
       isRunning u 1 = true ∧ (u.job 1).inst = none ∧ u.cellOn 107 = true ∧ u.fab.newPack.contains (modelSlot u 107) = true ∧
        (u.job 1).relAt ≠ u.clk.span + 1)) ∧
    (rdy.fab.planDue = true ∧ rdy.clk.grain = 0 ∧ rdy.fab.planned = false ∧ ({ rdy with clk := ⟨0, 1⟩ } : State).clk.grain ≠ 0 ∧ (∀ j, j < 16 → (rdy.job j).inst = none) ∧ ({ rdy with fab := { rdy.fab with planDue := false } } : State).fab.planDue = false) ∧
    (let s := puts rdy [(Reg.CSTATE 31, 0), (Reg.CJOB 31, 9), (Reg.SCRUB_EN, 1)]
     let u := s.setJob 9 { Job.reset with inst := some ⟨0, 0, 0, false⟩ }
     s.get (Reg.CSTATE 31) = 0 ∧ s.flag Reg.SCRUB_EN = true ∧ (slotsOn u 31).contains 9 = true ∧ (u.job 9).inst.isSome = true ∧
      (rdy.put (Reg.CSTATE 31) 2).get (Reg.CSTATE 31) = 2 ∧ rdy.get (Reg.CSTATE 31) ≠ 0 ∧ rdy.get (Reg.CSTATE 31) ≠ 2 ∧ (rdy.put Reg.SCRUB_EN 0).flag Reg.SCRUB_EN = false ∧ (s.cubit 31).busy = 0 ∧ (s.cubit 31).stalls = 0 ∧
      min 255 (0 * 256 / 1) ≤ s.get Reg.CONF_SHARE ∧ s.get Reg.CONF_SHARE < min 255 (1 * 256 / 1) ∧ kvGet (fun _ => 0) s.fab.confAt 31 = 0 ∧
      (let v := { s with fab := { s.fab with confAt := [(31, 1)] } }
       kvGet (fun _ => 0) v.fab.confAt 31 ≠ 0 ∧ v.clk.span + 1 < kvGet (fun _ => 0) v.fab.confAt 31 + 64)) := by
  and_intros <;> decide +kernel

/-- Code whose first byte names an addition, wherever the spec puts that name, faults where its descriptor lies below the first line. -/
theorem addition_faults (e : JobEnv) (n : Nat) (c : Cubit) (hb : c.ibuf = [0]) (hd : c.desc = [(0, ⟨-1, 4, 0⟩)]) (h : opOf 0 = some .add) :
    runCode e (n + 1) 0 c [] = (c, [], .descFault) := by
  have z : insnOf 0 = ⟨0, 0, 0, 0, 0, 0, false, false, false, 0⟩ := by decide
  have r : repeats (insnOf 0) .add 1 c = none := by
    simp [repeats, repeatOnce, sources, z, Cubit.descAt, hd, kvGet, descriptorFault, descriptorBad]
  have k (f : JobEnv) : insnStep f 0 c = (c, [], .descFault) := by
    rw [z] at r
    simp [insnStep, hb, z, h, r]
  simp [runCode, k]

theorem cubit_faults (slot j : Nat) (i : Inst) (s : State) (hb : (s.cubit j).ibuf = [0]) (hd : (s.cubit j).desc = [(0, ⟨-1, 4, 0⟩)])
    (h : opOf 0 = some .add) : (runOn slot i j (s, 0, .ended, 0)).2.2.1 = .descFault := by
  obtain ⟨n, hn⟩ : ∃ n, 2 ^ 20 = n + 1 := Nat.exists_eq_add_one.mpr (Nat.pow_pos (by decide))
  unfold runOn
  rw [hn]
  exact congrArg (fun r => r.2.2) (addition_faults _ n { (s.cubit j).begin_ with staging := _ } hb hd h)

theorem wit_FabricRunsItsJobs_fault (h : opOf 0 = some .add) : (hostRun 9 ⟨0, 0, 0, false⟩ (coded [0])).2.2.1 = .descFault := by
  have c : cubitsOf (coded [0]) 9 = [31] := by decide +kernel
  rw [hostRun, c]
  exact cubit_faults 9 31 _ _ (by decide +kernel) (by decide +kernel) h

theorem wit_PlanTakesEffect : rdy.fab.planned = false ∧
    (let s := puts rdy ((List.range 32).map (fun j => (Reg.CSTATE j, 0)) ++ [(Reg.JSTATE 0, 2), (Reg.JSTATE 1, 2)])
     (planOf s).nSvc ≠ 0 ∧ ((planOf s).nSvc ≠ 1 ∨ (planOf s).nEns ≠ 0 ∨ (planOf s).form ≠ 2)) := by decide +kernel

/-- A log without a sector: no record enters it. -/
def fullLog : State := { rdy with start := { rdy.start with log := { rdy.start.log with sectors := 0 } } }

theorem wit_RecordsAreAppended :
    (rdy.ready = true ∧ tunRoom 8 rdy.start = true ∧ tunRoom 32 rdy.start = true ∧ tunRoom 458752 rdy.start = true ∧ rdy.flag Reg.RESCUE = false ∧
      0 < rdy.get Reg.HEALTH_DAYS ∧ fullLog.ready = true ∧ tunRoom 8 fullLog.start = false ∧ tunRoom 32 fullLog.start = false ∧
      tunRoom 458752 fullLog.start = false ∧ (rdy.put Reg.RESCUE 1).flag Reg.RESCUE = true) ∧
    worn 50 { rdy with start := reclaim 8 rdy.start } = false ∧
    (let a := rdy.start.log
     let b : TunLog := { a with head := 458772 }
     (sectorsTouched a b).contains 0 = true ∧ (sectorsTouched a b).contains 4095 = false) ∧
    ((List.range rdy.start.log.sectors).find? (fun j => sectorAt rdy.start.log j == 0) = some 0 ∧ rdy.get Reg.SPARE_SECT ≠ 0 ∧
      rdy.get Reg.SPARE_SECT ≠ 1 ∧ rdy.get Reg.SPARE_SECT ≠ 33) := by
  and_intros <;> decide +kernel

theorem wit_BanksSwapAndPassesCompare :
    (let s := { rdy with clk := ⟨1, 0⟩, win := { rdy.win with filling := { rdy.win.filling with preset := true, span := 0 } } }
     s.ready = true ∧ s.win.filling.preset = true ∧ s.win.filling.span < s.clk.span ∧ rdy.win.filling.preset = false) ∧
    (let h : BlockHold := ⟨0, 64, 1, 0, true⟩
     let u : BlockHold := ⟨0, 64, 1, 4064, true⟩
     (rdy.setHold 7 (some h)).hold 7 = some h ∧ ((rdy.setHold 7 (some h)).passTo (h.opened + 32)).isSome = true ∧ rdy.hold 7 = none ∧
      (rdy.setHold 7 (some u)).passTo (u.opened + 32) = none) ∧
    (let s := rdy.put (Reg.CV_EN 3) 1
     s.flag (Reg.CV_EN 3) = true ∧ s.clk.grain = 0 ∧ s.clk.span % s.get (Reg.CV_PERIOD 3) = 0 ∧ kvGet (fun _ => 0) s.host.cvRun 3 = 0) ∧
    (let s := { rdy with host := { rdy.host with cvRun := [(3, 1)] } }
     let got := crcBy (s.get (Reg.CV_POLY 3)) (passBytes 3 s)
     kvGet (fun _ => 0) s.host.cvRun 3 ≠ 0 ∧ s.flag (Reg.CV_CAPTURE 3) = false ∧ got ≠ s.get (Reg.CV_EXPECT 3) ∧ kvGet (fun _ => 0) s.host.cvEvt 3 = 0 ∧
      (let u := s.put (Reg.CV_EXPECT 3) got; crcBy (u.get (Reg.CV_POLY 3)) (passBytes 3 u) = u.get (Reg.CV_EXPECT 3)) ∧
      (let u := s.put (Reg.CV_CAPTURE 3) 1; u.flag (Reg.CV_CAPTURE 3) = true ∧ u.flag (Reg.REF_VALID 3) = false)) := by
  and_intros <;> decide +kernel

/-! ### Rails, STORE, starts -/

/-- The module in a phase of its supply. -/
def phased (p : Phase) : State := { State.reset with pwr := { Power.reset with phase := p } }

theorem wit_RailsStoreAndStarts :
    ((phased .ready).pwr.phase = .ready ∧ (false || true) = true ∧ (phased .store).pwr.phase = .store ∧ (phased .debounce).pwr.phase = .debounce ∧
      (phased .debounce).pwr.railsOk = true ∧ (phased .handover).pwr.phase = .handover ∧ (phased .storeEntry).pwr.phase = .storeEntry ∧
      (phased .shutWait).pwr.phase = .shutWait ∧ (phased .handover).ret.ok = false) ∧
    (let s := { phased .absent with pwr := { (phased .absent).pwr with railsOk := false } }; s.pwr.railsOk = false ∧ s.pwr.phase = .absent) ∧
    (let s := { phased .handover with pwr := { (phased .handover).pwr with railsOk := false }, ret := { Retention.reset with ok := true } }
     s.pwr.railsOk = false ∧ s.pwr.phase = .handover ∧ s.ret.ok = true) ∧
    (let s := (phased .store).setTl 0 { TierLink.reset with supplied := false }; s.pwr.phase = .store ∧ (s.tl 0).supplied = false) ∧
    (let s := { phased .starting with ret := { Retention.reset with trial := true, bank := 1 } }
     s.pwr.phase = .starting ∧ s.ret.trial = true ∧ s.ret.bank ≤ 1) ∧ State.reset.ret.trial = false ∧
    (let s := phased .store; s.pwr.phase = .store ∧ 0 < s.get Reg.STORE_INT ∧ (s.tl 0).supplied = true ∧ s.pwr.railsOk = true ∧
      s.pwr.replug = false ∧ s.evt.wake = false) ∧
    (let s := { (phased .store).put Reg.STORE_WAKE_EXIT 1 with evt := { Events.reset with wake := true } }
     s.flag Reg.STORE_WAKE_EXIT = true ∧ s.evt.wake = true) ∧
    (let s := linked 5 (phased .storeEntry); s.pwr.phase = .storeEntry ∧ s.linkUp 5 = true) ∧
    (State.reset.pwr.phase = .starting ∧ State.reset.start.booted = false) ∧
    (let s := { State.reset with start := { Startup.reset with booted := true, calWait := false } }
     s.pwr.phase = .starting ∧ s.start.booted = true ∧ s.start.calWait = false) ∧
    (let s := { (State.reset.setTl 5 { TierLink.reset with lane0 := true }) with start := { Startup.reset with booted := true } }
     s.pwr.phase = .starting ∧ s.start.booted = true ∧ s.start.calWait = true ∧ s.linkUp 5 = true ∧ (s.tl 5).calibrating = true) ∧
    (rdy.ready = true ∧ 5 ≠ 2 ∧ 5 ≤ 5) := by
  and_intros <;> decide +kernel

/-! ### The tiers -/

/-- A conversion of channel 0x11: a burst of four samples from grain 16 on. -/
def conv17 (spread recheck : Bool) : Conv := ⟨0x11, 4, spread, recheck, [⟨(16, 0), 204800, 1, 4, 8000000⟩]⟩

theorem wit_TierResultsReachTheBase :
    (let s := linked 5 rdy
     let n := nOfCode (s.get (Reg.EFF_SUBWIN 5))
     (s.tl 5).supplied = true ∧ (s.tl 5).calibrating = false ∧ (s.tl 5).store = false ∧ s.linkUp 5 = true ∧ s.baseUp = true ∧
      n - 1 < n ∧ (s.pr 5).subDone < subEnd (subSpan s 5 (n - 1)) (n - 1) n ∧ (s.tl 5).buf.length ≤ 256 ∧ s.ready = true ∧
      (let u := s.setPr 5 { s.pr 5 with subDone := 8192 }; subEnd (subSpan u 5 0) 0 n ≤ (u.pr 5).subDone)) ∧
    (let s := (linked 5 rdy).put (Reg.CELL_EN 5) 0; localOn s 5 17 = false) ∧
    (let s := rdy.setTl 5 { rdy.tl 5 with calibrating := false, store := true }
     (s.tl 5).supplied = true ∧ (s.tl 5).calibrating = false ∧ (s.tl 5).store = true ∧ (s.tl 5).buf.length ≤ 256 ∧ s.linkUp 5 = false) ∧
    (let u : UpItem := ⟨0, [(.word 0, 2 ^ 32 - 1)], [], false, []⟩
     let s := (linked 5 rdy).setTl 5 { (linked 5 rdy).tl 5 with up := [u] }
     (s.tl 5).up = [u] ∧ u.words = [(.word 0, 2 ^ 32 - 1)] ∧ u.span = s.win.filling.span ∧ s.linkUp 5 = true) ∧
    (let s := linked 5 (puts rdy [(Reg.SEQ_EN 5, 1), (Reg.CH 5 0, 0x11)])
     (s.sq 5).run = none ∧ (s.sq 5).serving = none ∧ tableRuns s 5 = true ∧ s.get (Reg.CH 5 (s.sq 5).next) ≠ 0x7F ∧
      (seqPass 5 (laterT ((s.sq 5).endAt.1 + s.get (Reg.DELAY 5 (s.sq 5).next), (s.sq 5).endAt.2) (s.sq 5).freeAt).1 s).isSome = true ∧
      seqPass 5 4096 s = none) ∧
    (let s := linked 5 (puts rdy [(Reg.SEQ_EN 5, 1), (Reg.CH 5 0, 0x7F), (Reg.DELAY 5 0, 1)])
     (s.sq 5).run = none ∧ (s.sq 5).serving = none ∧ tableRuns s 5 = true ∧ s.get (Reg.CH 5 (s.sq 5).next) = 0x7F) ∧
    (let s := (linked 5 (rdy.put (Reg.SEQ_EN 5) 1)).setTl 5 { (linked 5 rdy).tl 5 with store := true }
     let u := s.setSq 5 { s.sq 5 with storeIdle := true }
     (u.tl 5).store = true ∧ (u.sq 5).storeIdle = true ∧ tableRuns (rdy.put (Reg.SEQ_EN 5) 0) 5 = false) ∧
    (let l := linked 5 rdy
     let s := l.setSq 5 { l.sq 5 with recheck := [17] }
     let u := l.setSq 5 { l.sq 5 with hostQ := [(0x11, 256)] }
     (s.sq 5).serving = none ∧ (s.sq 5).run = none ∧ (s.sq 5).recheck = 17 :: [] ∧ (u.sq 5).recheck = [] ∧ (u.sq 5).hostQ = (0x11, 256) :: []) ∧
    (let l := { linked 5 rdy with clk := ⟨0, 16⟩ }
     let v := l.setSq 5 { l.sq 5 with run := some (conv17 false false), recheck := [17] }
     let w := l.setSq 5 { l.sq 5 with serving := some (conv17 false false) }
     let c := (conv17 false false).cut (v.tl 5).period (seqNow v 5)
     (v.sq 5).serving = none ∧ (v.sq 5).run = some (conv17 false false) ∧ c.placed ≠ (conv17 false false).placed ∧
      (let d := (conv17 false false).cut (v.tl 5).period (32, 0); d.placed = (conv17 false false).placed) ∧
      ((v.sq 5).serving.orElse fun _ => (v.sq 5).run) = some (conv17 false false) ∧ (w.sq 5).serving = some (conv17 false false) ∧
      (seqPass 5 ((conv17 false false).endT (v.tl 5).period).1 v).isSome = true ∧ (conv17 false false).recheck = false ∧ (w.sq 5).hostQ = []) ∧
    (rdy.flag (Reg.OSC_SPARE_FAILED 5) = false ∧ (rdy.put (Reg.OSC_SPARE_FAILED 5) 1).flag (Reg.OSC_SPARE_FAILED 5) = true) := by
  and_intros <;> decide +kernel

/-- A tier 5 in an audit. -/
def audited (a : Audit) : State := (puts rdy [(Reg.S18_USE 5, 1), (Reg.S18_CELL 5, 17)]).setPr 5 { TierPrim.reset with audit := some a }

/-- Converter 17 of tier 5 without a transition for 5,000 grains. -/
def stuck17 : StuckConv := ⟨17, 5000, 5000, []⟩

/-- A tap test of tier 5 that runs on a cell whose converter has stopped. -/
def tapped (c : Nat) : State :=
  ((linked 5 rdy).setPr 5 { TierPrim.reset with taps := [(c, 2048)], tapOn := true }).setServe 5 c ⟨none, some 0, none, none⟩

theorem wit_ConvertersTapsAndDraws :
    (let s := linked 5 { rdy with clk := ⟨1, 0⟩ }
     let s1 := bring 5 (s.tierAt 5) stuck17.waves s
     (s.tl 5).supplied = true ∧ (s.tl 5).calibrating = false ∧ 4096 ≤ clocksIn s1 5 (min stuck17.ago stuck17.clampAgo) ∧
      clocksIn s1 5 (min stuck17.ago 0) < 4096 ∧ (rdy.tl 5).calibrating = true) ∧
    ((promisedTo (rdy.setPr 5 { TierPrim.reset with moves := [⟨18, some 17, 2, 0⟩] }) 5 17).isSome = true ∧
      servedBy (rdy.setPr 5 { TierPrim.reset with moves := [⟨18, some 17, 2, 0⟩] }) 5 17 = none) ∧
    (localOn rdy 5 17 = true ∧ bit (rdy.get (Reg.FAULTED 5)) 17 = false ∧ servedBy rdy 5 17 = none ∧ promisedTo rdy 5 17 = none ∧
      bit ((rdy.put (Reg.FAULTED 5) (2 ^ 17)).get (Reg.FAULTED 5)) 17 = true ∧ rdy.flag (Reg.AUTO_SPARE 5) = true ∧ spareToHad rdy 5 = some 18 ∧
      rdy.get (spareUse 5 18) = 0 ∧ movePending rdy 5 18 = false ∧ (rdy.put (Reg.AUTO_SPARE 5) 0).flag (Reg.AUTO_SPARE 5) = false ∧
      (let s := puts rdy [(Reg.S18_USE 5, 3), (Reg.S19_USE 5, 2)]; spareToHad s 5 = none ∧ bit (s.pr 5).exhausted 17 = false)) ∧
    (∀ m : Move, m = ⟨19, some 17, 2, 0⟩ ∨ m = ⟨18, none, 0, 0⟩ →
      ((rdy.setPr 5 { TierPrim.reset with moves := [m] }).pr 5).moves = [m] ∧
        (rdy.setPr 5 { TierPrim.reset with moves := [m] }).get (spareUse 5 m.spare) ≠ 2 ∧ m.span ≤ (rdy.tl 5).span ∧ (rdy.tl 5).span < m.span + 1 ∧
        ((rdy.setPr 5 { TierPrim.reset with moves := [m] }).pr 5).audit.any (fun a => a.stage == 0 && a.n + 1 == rdy.get (Reg.AUDIT_DWELL 5)) = false) ∧
    ((rdy.tl 5).store = false ∧ rdy.get (Reg.TAP_INT 5) ≠ 0 ∧ enabledCells rdy 5 ≠ [] ∧ (rdy.tl 5).span % rdy.get (Reg.TAP_INT 5) = 0 ∧
      rdy.clk.grain ≤ 2048 ∧ (rdy.pr 5).taps.any (fun x => decide (2048 ≤ x.2)) = false ∧ (rdy.put (Reg.TAP_INT 5) 0).get (Reg.TAP_INT 5) = 0) ∧
    (let s := tapped 17
     let u := s.passGrain (2048 % 4096 + quarterMs s 5 4)
     let v := bring 5 (u.tierAt 5) [] u
     (s.pr 5).taps.head? = some (17, 2048) ∧ (s.pr 5).tapOn = true ∧ 2048 + quarterMs s 5 4 ≤ u.tierAt 5 ∧
      -(16 * ((s.get (Reg.TAP_TH 5) : Int) * 4000)) < tapShift v 5 17 2048 ∧ (rdy.pr 5).tapOn = false) ∧
    (let s := (tapped 17).put (Reg.TAP_TH 5) 0
     let u := s.passGrain (2048 % 4096 + quarterMs s 5 4)
     let v := bring 5 (u.tierAt 5) [] u
     tapShift v 5 17 2048 ≤ -(16 * ((s.get (Reg.TAP_TH 5) : Int) * 4000))) ∧
    (let a : Audit := ⟨17, 18, 0, none, 4, 0, false, 0, 0, none, none⟩
     let s := audited a
     let th := s.get (Reg.AUDIT_TH 5) * 10
     (s.pr 5).audit = some a ∧ a.n ≠ 0 ∧ s.get (Reg.AUDIT_DWELL 5) ≤ a.n ∧ differs (auditUnit * th * 4 : Nat) th 4 = false ∧
      differs (auditUnit * th * 4 + 1 : Nat) th 4 = true ∧ auditable s 5 17 = true ∧ auditable (s.put (Reg.CELL_EN 5) 0) 5 17 = false ∧ nextAudited s 5 a.cell = some 0 ∧ s.get (spareUse 5 19) = 0 ∧
      movePending s 5 19 = false ∧ (s.put (Reg.S19_USE 5) 3).get (spareUse 5 19) ≠ 0 ∧ inTable (s.put (Reg.SEQ_EN 5) 0) 5 17 = false ∧
      inTable (puts s [(Reg.SEQ_EN 5, 1), (Reg.CH 5 0, 17)]) 5 17 = true ∧
      ((audited { a with stage := 1, first := some (19, 0, 4) }).pr 5).audit = some { a with stage := 1, first := some (19, 0, 4) } ∧
      ((audited { a with stage := 2 }).pr 5).audit = some { a with stage := 2 } ∧ th * (4 * 4) * auditUnit < ((auditUnit * th * 4 + 1 : Nat) * 4 - (0 : Int) * 4).natAbs ∧
      ((audited { a with next := some (0, 6) }).pr 5).audit = some { a with next := some (0, 6) } ∧ auditable s 5 0 = true) ∧
    (let a : Audit := ⟨0, 18, 0, some 1, rdy.get (Reg.AUDIT_DWELL 5) - 1, 0, false, 0, 0, none, none⟩
     let s := { (linked 5 (audited a)) with clk := ⟨1, 0⟩ }.setTl 5 { (linked 5 rdy).tl 5 with span := 1 }
     (s.pr 5).audit = some a ∧ a.stage = 0 ∧ a.next = none ∧ a.from_ = some 1 ∧ 1 ≤ (s.tl 5).span ∧ a.n + 1 = s.get (Reg.AUDIT_DWELL 5) ∧
      (s.put (Reg.AUDIT_EN 5) 1).flag (Reg.AUDIT_EN 5) = true ∧ (s.tl 5).store = false ∧ (s.pr 5).moves = [] ∧
      auditable ((s.put (Reg.AUDIT_EN 5) 1).passGrain 4080) 5 0 = true ∧ (nextAudited ((s.put (Reg.AUDIT_EN 5) 1).passGrain 4080) 5 0).isSome = true ∧
      tapDs ((s.put (Reg.AUDIT_EN 5) 1).passGrain 4080) 5 0 ((s.tl 5).span * 4096) ((s.tl 5).span * 4096 + 4096) = false) ∧
    (let s := { (rdy.put (Reg.NOTCH_FILLING 5) 1).setTl 5 { rdy.tl 5 with span := 1 } with clk := ⟨1, 0⟩ }
     let due := (s.pr 5).notchFrom + (notchLen16 s 5 + 15) / 16
     s.flag (Reg.NOTCH_FILLING 5) = true ∧ due / 4096 = (s.tl 5).span ∧ (rdy.pr 5).audit = none ∧
      (let u := s.setPr 5 { TierPrim.reset with notchFrom := 8192 }
       u.tierAt 5 < 8192 + (notchLen16 u 5 + 15) / 16 ∧ (8192 + (notchLen16 u 5 + 15) / 16) / 4096 ≠ (u.tl 5).span)) ∧
    (let s := linked 5 { rdy with clk := ⟨64, 0⟩ }
     s.linkUp 5 = true ∧ s.flag (Reg.BALLAST_EN 5) = true ∧ rdy.linkUp 5 = false ∧ s.pwr.drawAt + 64 ≤ s.clk.span ∧ rdy.clk.span < rdy.pwr.drawAt + 64) := by
  refine ⟨by decide +kernel, by decide +kernel, by decide +kernel, ?_, by decide +kernel, by decide +kernel, by decide +kernel, by decide +kernel,
    by decide +kernel, by decide +kernel, by decide +kernel⟩
  rintro m (rfl | rfl) <;> decide +kernel

theorem wit_TierLinksAndSupplies :
    (let s := linked 5 rdy; s.ready = true ∧ (s.tl 5).lane0 = true ∧ (s.tl 5).lane1 = true ∧ (s.tl 5).active ≤ 1 ∧ (s.tl 5).supplied = true) ∧
    ((rdy.tl 5).lane0 = false ∧ (rdy.tl 5).lane1 = false ∧ (rdy.tl 5).supplied = true ∧ 3 % 4 ≠ 0 ∧ (rdy.tl 5).calibrating = true ∧ (rdy.tl 5).draining = false) ∧
    (let s := rdy.setTl 5 { rdy.tl 5 with supplied := false }; (s.tl 5).supplied = false ∧ s.get (Reg.FAULTED 5) = 0) ∧
    (let s := linked 5 rdy
     let u := s.setTl 5 { s.tl 5 with draining := true }; u.linkUp 5 = true ∧ (u.tl 5).draining = true) ∧
    (let s := { rdy with pwr := { rdy.pwr with wakeCh := [(5, true)] } }
     (s.tl 0).supplied = true ∧ kvGet (fun _ => false) s.pwr.wakeCh 5 = true ∧ kvGet (fun _ => false) rdy.pwr.wakeCh 5 = false) ∧
    (let s := { linked 5 rdy with start := { rdy.start with testing := some (5, 5) } }
     (s.tl 5).supplied = true ∧ (s.tl 5).calibrating = false ∧ s.start.testing = some (5, 5) ∧ (linked 5 rdy).start.testing = none) := by decide +kernel

/-! ### Values that spec/ works out, and single steps -/

/-- The nine bytes of R387. -/
def nine : List Byte := [0x31, 0x32, 0x33, 0x34, 0x35, 0x36, 0x37, 0x38, 0x39]

/-- The check values of the table of R387. -/
theorem test_crc : crc8 nine = 0xB4 ∧ crc16 nine = 0x29B1 ∧ crc32 nine = 0xCBF43926 ∧ crc32c nine = 0xE3069283 := by decide +kernel

/-- The three words of the example after R90. -/
theorem test_legacy : legacyWord 0x7438A559 = 0x9103 ∧ legacyWord 0xC2FFD120 = 0 ∧ legacyWord 0x31557300 = 0xFFFF := by decide +kernel

/-- The cell of 3.7124 V in the note after R117: the pedestal 8,192 and SCODE 1,089 give 9,281. -/
theorem test_pedestal : pedestal 0 + secCode [1089] = 9281 := by decide


/-- The queue's front is what a step runs. -/
theorem test_step_front : (match step { rdy with pending := [.secUrgentWrite m0 0 0, .ident m0] } with
    | .next t => t.pending
    | _ => []) = [.ident m0] := by decide +kernel

/-- LEASE of SPI over class BALANCE for 10 spans in span 0 (R426): E = 11. -/
theorem test_lease : (match exec (.lease m0 0 10) rdy with
    | .next t => (leaseE t 0, t.get (Reg.HOLDER 0), leaseLive t 0)
    | _ => (0, 9, false)) = (11, 0, true) := by decide +kernel

/-- A raise of a masked source counts and does no more (R399). -/
theorem test_masked_raise : (match exec (.eventRaise 515 0 0 0 false false) (rdy.put (Reg.MASKED 515) 1) with
    | .next t => (t.get (Reg.COUNT 515), t.get (Reg.LATCHED 515))
    | _ => (9, 9)) = (1, 0) := by decide +kernel

/-- A broadcast PING is executed and counted in the broadcast counter of its source (R361). -/
theorem test_broadcast_counter : (match exec (.ping ⟨1, true, 65535, 0⟩ []) rdy with
    | .next t => (t.get (Reg.LAST_BHSEQ 1), t.get (Reg.LAST_HSEQ 1), t.host.twq.length)
    | _ => (0, 9, 9)) = (65535, 0, 1) := by decide +kernel

/-- A rail loss resets the base die and starts the hand-over (R438). -/
theorem test_rail_loss : (match exec (.railLoss true false) rdy with
    | .next t => (t.pwr.phase, t.get (Reg.PSTATE 0))
    | _ => (.ready, 9)) = (.handover, 0) := by decide +kernel


/-- 1.0 + 1.0 = 2.0 exactly, with no flag (R182). -/
theorem test_f32_add : F32.add 0x3F800000 0x3F800000 = (0x40000000, 0) := by decide +kernel

/-- 1.0 × 3.0 + 2⁻²⁵: the exact sum lies below a half of the last place, so round to nearest even gives 3.0 (R182). -/
theorem test_f32_fma : (F32.fma false 0x3F800000 0x40400000 0x33000000).1 = 0x40400000 := by decide +kernel

end Sys2Proof.Tests
end

section
/-!
The words and fields that an update leaves, and the frame of a raise (R397): an event can end leases and sweeps and put the module in HOLD, but
it leaves the clock, the time base, the log, the tiers' links and every word below 0x10000.
-/
namespace Sys2Proof.Machine

/-! ### Words and fields -/

theorem get_of_word (s t : State) (f : Field) (h : t.word f.a = s.word f.a) : t.get f = s.get f := by
  unfold State.word at h
  unfold State.get fieldAt
  rw [h]

theorem flag_of_get (s t : State) (f : Field) (h : t.get f = s.get f) : t.flag f = s.flag f := by
  unfold State.get at h
  unfold State.flag
  rw [h]

theorem put_word_ne (s : State) (f : Field) (v a : Nat) (h : f.a ≠ a) : (s.put f v).word a = s.word a := by
  unfold State.word State.put putField
  rw [wordAt_putWord, if_neg h]

theorem get_with_tb (s : State) (x : TimeBase) (f : Field) : ({ s with tb := x } : State).get f = s.get f := rfl

/-! ### What a raise leaves -/

/-- The two states differ in nothing but the parts that an event reaches, and in no word below 0x10000. -/
def raiseKeeps (s t : State) : Prop :=
  t = { s with regs := t.regs, evt := t.evt, host := t.host, chain := t.chain, pwr := t.pwr, ret := t.ret, tw := t.tw, prim := t.prim,
               exc := t.exc, fab := t.fab } ∧
    ∀ a, a < 0x10000 → t.word a = s.word a

theorem raiseKeeps_refl (s : State) : raiseKeeps s s := ⟨rfl, fun _ _ => rfl⟩

theorem raiseKeeps_trans {s t u : State} (h1 : raiseKeeps s t) (h2 : raiseKeeps t u) : raiseKeeps s u := by
  obtain ⟨e1, w1⟩ := h1
  obtain ⟨e2, w2⟩ := h2
  refine ⟨?_, fun a ha => (w2 a ha).trans (w1 a ha)⟩
  rw [e2, e1]

theorem raiseKeeps.clk {s t : State} (h : raiseKeeps s t) : t.clk = s.clk := by rw [h.1]
theorem raiseKeeps.tb {s t : State} (h : raiseKeeps s t) : t.tb = s.tb := by rw [h.1]
theorem raiseKeeps.link {s t : State} (h : raiseKeeps s t) : t.link = s.link := by rw [h.1]
theorem raiseKeeps.get {s t : State} (h : raiseKeeps s t) (f : Field) (hf : f.a < 0x10000) : t.get f = s.get f :=
  get_of_word _ _ _ (h.2 _ hf)

theorem put_raiseKeeps (s : State) (f : Field) (v : Nat) (hf : 0x10000 ≤ f.a) : raiseKeeps s (s.put f v) :=
  ⟨rfl, fun a ha => put_word_ne s f v a (by omega)⟩

theorem putFlag_raiseKeeps (s : State) (f : Field) (v : Bool) (hf : 0x10000 ≤ f.a) : raiseKeeps s (s.putFlag f v) :=
  put_raiseKeeps s f _ hf

theorem bump_raiseKeeps (s : State) (f : Field) (hf : 0x10000 ≤ f.a) : raiseKeeps s (s.bump f) := put_raiseKeeps s f _ hf

/-- An update of the parts that an event reaches. -/
theorem parts_raiseKeeps (s t : State) (evt : Events) (host : HostPort) (chain : Chain) (pwr : Power) (ret : Retention) (tw : TwoWire)
    (prim : KV TierPrim) (exc : Exc) (fab : Fab) (h : raiseKeeps s t) :
    raiseKeeps s { t with evt := evt, host := host, chain := chain, pwr := pwr, ret := ret, tw := tw, prim := prim, exc := exc, fab := fab } :=
  raiseKeeps_trans h ⟨rfl, fun _ _ => rfl⟩

theorem ite_raiseKeeps (c : Prop) [Decidable c] (s t u : State) (ht : raiseKeeps s t) (hu : raiseKeeps s u) :
    raiseKeeps s (if c then t else u) := by
  split
  · exact ht
  · exact hu

theorem when_raiseKeeps (s t : State) (b : Bool) (f : State → State) (h : raiseKeeps s t) (hf : ∀ u, raiseKeeps u (f u)) :
    raiseKeeps s (t.when b f) := State.when_keeps _ t b f h fun h' => raiseKeeps_trans h' (hf t)

theorem each_raiseKeeps (s t : State) (l : List Nat) (f : Nat → State → State) (h : raiseKeeps s t) (hf : ∀ k u, raiseKeeps u (f k u)) :
    raiseKeeps s (t.each l f) := State.each_keeps (raiseKeeps s) l f (fun k u hu => raiseKeeps_trans hu (hf k u)) t h

/-- A local frame of a chain port enters its queue or is counted as dropped (R337). -/
theorem txAdd_cases (p : Nat) (f : Frame) (s : State) :
    txAdd p f s = s.setPt p { s.pt p with txq := (s.pt p).txq ++ [f] } ∨ txAdd p f s = s.bump (Reg.TXQ_DROP p) := by
  simp only [txAdd]
  generalize (if f.ftype = 3 || f.ftype = 5 then 28 else 32) = room
  split
  · exact .inl rfl
  · exact .inr rfl

theorem txAdd_raiseKeeps (p : Nat) (f : Frame) (s : State) : raiseKeeps s (txAdd p f s) := by
  rcases txAdd_cases p f s with h | h <;> rw [h]
  · exact ⟨rfl, fun _ _ => rfl⟩
  · exact bump_raiseKeeps s _ (by simp only [Reg.TXQ_DROP, Wd.PC_DROP]; omega)

/-- A frame that enters the queue of a destination. -/
theorem sendTo_raiseKeeps (d : Dest) (f : Frame) (s : State) : raiseKeeps s (sendTo d f s) := by
  cases d with
  | spi =>
    simp only [sendTo, hqAdd]
    split_ifs
    · exact ⟨rfl, fun _ _ => rfl⟩
    · exact bump_raiseKeeps s _ (by decide)
    · exact ⟨rfl, fun _ _ => rfl⟩
    · exact raiseKeeps_refl s
  | tw =>
    simp only [sendTo, twqAdd]
    split_ifs
    · exact ⟨rfl, fun _ _ => rfl⟩
    · exact bump_raiseKeeps s _ (by decide)
    · exact ⟨rfl, fun _ _ => rfl⟩
    · exact raiseKeeps_refl s
  | port p => exact txAdd_raiseKeeps p _ s

/-- A report frame takes the next DSEQ and a place in the replay buffer before it is queued. -/
theorem issueFrame_raiseKeeps (kind : Nat) (dests : List Dest) (mk : Nat → List Byte) (s : State) :
    raiseKeeps s (issueFrame kind dests mk s) := by
  have queued : ∀ (f : Frame) (ds : List Dest) (t : State), raiseKeeps s t → raiseKeeps s (ds.foldl (fun u x => sendTo x f u) t) := by
    intro f ds
    induction ds with
    | nil => exact fun t h => h
    | cons d ds ih => exact fun t h => ih _ (raiseKeeps_trans h (sendTo_raiseKeeps d f t))
  unfold issueFrame
  exact queued _ dests _ (parts_raiseKeeps _ _ _ _ _ _ _ _ _ _ _ (put_raiseKeeps s Reg.LAST_DSEQ _ (by decide)))

theorem issueReport_raiseKeeps (kind : Nat) (dests : List Dest) (data : List Byte) (s : State) :
    raiseKeeps s (issueReport kind dests data s) := by
  unfold issueReport
  generalize payloads data = l
  suffices H : ∀ t, raiseKeeps s t → raiseKeeps s (l.foldl (fun t p => issueFrame kind dests (fun _ => p) t) t) from H s (raiseKeeps_refl s)
  induction l with
  | nil => exact fun t h => h
  | cons p l ih => exact fun t h => ih _ (raiseKeeps_trans h (issueFrame_raiseKeeps kind dests _ t))

theorem complete_raiseKeeps (t : Stamp) (op status : Nat) (m : Meta) (cause detail : Nat) (s : State) :
    raiseKeeps s (complete t op status m cause detail s) := issueReport_raiseKeeps _ _ _ _

end Sys2Proof.Machine
end

section
namespace Sys2Proof.Machine

/-! ### The steps of a raise (R397 to R410) -/

theorem orderBeacon_raiseKeeps (s : State) : raiseKeeps s (orderBeacon s) := ⟨rfl, fun _ _ => rfl⟩

theorem noteWake_raiseKeeps (src : Nat) (s : State) : raiseKeeps s (noteWake src s) := by
  unfold noteWake
  split
  · exact raiseKeeps_refl s
  · exact ⟨rfl, fun _ _ => rfl⟩

theorem assertWake_raiseKeeps (src : Nat) (s : State) : raiseKeeps s (assertWake src s) := by
  unfold assertWake
  split
  · exact raiseKeeps_trans (noteWake_raiseKeeps src s) ⟨rfl, fun _ _ => rfl⟩
  · exact raiseKeeps_refl s

theorem queueRecord_raiseKeeps (r : EvtRec) (s : State) : raiseKeeps s (queueRecord r s) := by
  unfold queueRecord
  split
  · exact ⟨rfl, fun _ _ => rfl⟩
  · exact ⟨rfl, fun _ _ => rfl⟩

/-- Opening a handling window, or counting a raise in it. -/
theorem handleRaise_raiseKeeps (src sev : Nat) (was : Bool) (s : State) : raiseKeeps s (handleRaise src sev was s).1 := by
  unfold handleRaise
  extract_lets c opens esc s1 _ s2 s3 s4 s1'
  have h1 : raiseKeeps s s1 := ⟨rfl, fun _ _ => rfl⟩
  have h2 : raiseKeeps s s2 := ite_raiseKeeps _ _ _ _ (parts_raiseKeeps _ _ _ _ _ _ _ _ _ _ _ h1) h1
  have h4 : raiseKeeps s s4 := when_raiseKeeps _ _ _ _ (when_raiseKeeps _ _ _ _ h2 orderBeacon_raiseKeeps) (assertWake_raiseKeeps src)
  have hcnt : 0x10000 ≤ Wd.CLASS_CNT c := by simp only [Wd.CLASS_CNT]; omega
  split
  · exact h4
  · exact when_raiseKeeps _ _ _ _ (bump_raiseKeeps s _ hcnt) fun u => put_raiseKeeps u _ _ hcnt

theorem evtState_high (i : Nat) : 0x10000 ≤ Wd.EVT_STATE i := by simp only [Wd.EVT_STATE]; omega

theorem raiseCore_raiseKeeps (src value : Nat) (t : Stamp) (late summary : Bool) (s : State) :
    raiseKeeps s (raiseCore src value t late summary s).1 := by
  unfold raiseCore
  extract_lets u1 s1 s2 fin s3 sev was
  have h1 : raiseKeeps s s1 := ite_raiseKeeps _ _ _ _ (raiseKeeps_refl s)
    (when_raiseKeeps _ _ _ _ (bump_raiseKeeps s _ (evtState_high src)) fun u => put_raiseKeeps u _ _ (evtState_high src))
  have h2 : raiseKeeps s s2 := raiseKeeps_trans h1 (put_raiseKeeps s1 _ _ (by simp only [Reg.EVT_LAST_LAST_SPAN, Wd.EVT_LAST]; omega))
  have h3 : raiseKeeps s s3 := when_raiseKeeps _ _ _ _ h2 fun u => putFlag_raiseKeeps u _ _ (evtState_high src)
  have hl : raiseKeeps s (s3.put (Reg.LATCHED src) 1) := raiseKeeps_trans h3 (put_raiseKeeps s3 _ _ (evtState_high src))
  split
  · exact h3
  · split
    rename_i s4 inWin esc heq
    have h4 : raiseKeeps s s4 := by
      split at heq
      · obtain ⟨rfl, -⟩ := Prod.mk.inj heq
        exact when_raiseKeeps _ _ _ _ h3 fun u => put_raiseKeeps u _ _ (evtState_high src)
      · split at heq
        · have e : (handleRaise src sev was (s3.put (Reg.LATCHED src) 1)).1 = s4 := congrArg Prod.fst heq
          rw [← e]
          exact raiseKeeps_trans hl (handleRaise_raiseKeeps _ _ _ _)
        · obtain ⟨rfl, -⟩ := Prod.mk.inj heq
          exact hl
    exact when_raiseKeeps _ _ _ _ h4 (queueRecord_raiseKeeps _)

/-- The raise of source 512 as a function: stated unapplied, so that checking it evaluates no raise. -/
theorem raise512_eq : raise512 = fun first src inHold s => (raiseCore 512 (escValue first src inHold) s.now false false s).1 := rfl

theorem raise512_raiseKeeps (first : Nat × Nat) (src : Nat) (inHold : Bool) (s : State) : raiseKeeps s (raise512 first src inHold s) := by
  rw [raise512_eq]
  exact raiseCore_raiseKeeps _ _ _ _ _ _

theorem raiseInHold_raiseKeeps (src value : Nat) (t : Stamp) (late summary : Bool) (s : State) :
    raiseKeeps s (raiseInHold src value t late summary s) := by
  have hcore := raiseCore_raiseKeeps src value t late summary s
  unfold raiseInHold
  split <;> rename_i heq <;> rw [heq] at hcore
  · exact hcore
  · refine ite_raiseKeeps _ _ _ _ hcore (raiseKeeps_trans hcore ?_)
    exact raiseKeeps_trans (bump_raiseKeeps _ Reg.ESC_COUNT (by decide)) (raise512_raiseKeeps _ _ _ _)

/-! ### What the entry to HOLD does (R410, R422) -/

theorem vcWrite_raiseKeeps (mv tries : Nat) (s : State) : raiseKeeps s (vcWrite mv tries s) := by
  unfold vcWrite
  extract_lets s1 _ s2
  have h1 : raiseKeeps s s1 := raiseKeeps_trans (put_raiseKeeps s Reg.VC_SET mv (by decide)) (put_raiseKeeps _ Reg.VC_CONFIRMED 0 (by decide))
  have h2 : raiseKeeps s s2 := parts_raiseKeeps _ _ _ _ _ _ _ _ _ _ _ h1
  exact ite_raiseKeeps _ _ _ _ h2 (parts_raiseKeeps _ _ _ _ _ _ _ _ _ _ _ h2)

theorem vcStep_raiseKeeps (s : State) : raiseKeeps s (vcStep s) :=
  ite_raiseKeeps _ _ _ _ (vcWrite_raiseKeeps _ _ s) (raiseKeeps_refl s)

theorem vcForMode_raiseKeeps (s : State) : raiseKeeps s (vcForMode s) :=
  raiseKeeps_trans ⟨rfl, fun _ _ => rfl⟩ (vcStep_raiseKeeps _)

theorem capFabric_raiseKeeps (s : State) : raiseKeeps s (capFabric s) :=
  ite_raiseKeeps _ _ _ _ (raiseKeeps_refl s)
    (parts_raiseKeeps _ _ _ _ _ _ _ _ _ _ _ (putFlag_raiseKeeps s Reg.FAB_CAPPED _ (by decide)))

theorem unexcite_raiseKeeps (ch : Nat) (s : State) : raiseKeeps s (unexcite ch s) := by
  have hch : 0x10000 ≤ (Reg.CH_STATE ch).a := by simp only [Reg.CH_STATE, Wd.CH_STATUS]; omega
  exact ite_raiseKeeps _ _ _ _ (parts_raiseKeeps _ _ _ _ _ _ _ _ _ _ _
    (parts_raiseKeeps _ _ _ _ _ _ _ _ _ _ _ (put_raiseKeeps s _ _ hch))) (raiseKeeps_refl s)

theorem excTier_high (k : Nat) : 0x10000 ≤ (Reg.EXC_CELL k).a := by simp only [Reg.EXC_CELL, Wd.EXC_TIER]; omega

theorem endSweep_raiseKeeps (status cause : Nat) (s : State) : raiseKeeps s (endSweep status cause s) := by
  unfold endSweep
  split
  · exact raiseKeeps_refl s
  · extract_lets now cut partial_ s1 s2 s3 _ s4
    have h1 : raiseKeeps s s1 := raiseKeeps_trans (put_raiseKeeps s Reg.EXC_CUT cut (by decide)) (put_raiseKeeps _ Reg.EXC_PARTIAL _ (by decide))
    have h2 : raiseKeeps s s2 := each_raiseKeeps _ _ _ _ h1 fun k u =>
      raiseKeeps_trans (unexcite_raiseKeeps _ u) (put_raiseKeeps _ _ _ (excTier_high k))
    have h4 : raiseKeeps s s4 := parts_raiseKeeps _ _ _ _ _ _ _ _ _ _ _ (raiseKeeps_trans h2 (put_raiseKeeps s2 Reg.EXC_STATE _ (by decide)))
    exact raiseKeeps_trans h4 (complete_raiseKeeps _ _ _ _ _ _ _)

/-- A raise that is handed to an operation keeps what a raise keeps. -/
def raises (r : Nat → Nat → State → State) : Prop := ∀ src v s, raiseKeeps s (r src v s)

theorem endLease_raiseKeeps (r : Nat → Nat → State → State) (hr : raises r) (c cause : Nat) (s : State) :
    raiseKeeps s (endLease r c cause s) := by
  have hlive : raiseKeeps s (s.put (Reg.LIVE c) 0) := put_raiseKeeps s _ 0 (by simp only [Reg.LIVE, Wd.LEASE_ST]; omega)
  unfold endLease
  refine ite_raiseKeeps _ _ _ _ ?_ (raiseKeeps_refl s)
  exact raiseKeeps_trans (ite_raiseKeeps _ _ _ _ (raiseKeeps_trans hlive (endSweep_raiseKeeps _ _ _)) hlive) (hr _ _ _)

theorem abandonLc_raiseKeeps (r : Nat → Nat → State → State) (hr : raises r) (src hseq : Nat) (s : State) :
    raiseKeeps s (abandonLc r src hseq s) := by
  unfold abandonLc
  split
  · exact raiseKeeps_refl s
  · extract_lets _ s1
    have h1 : raiseKeeps s s1 := raiseKeeps_trans (raiseKeeps_trans (parts_raiseKeeps _ _ _ _ _ _ _ _ _ _ _ (raiseKeeps_refl s))
      (put_raiseKeeps _ Reg.LC_TARGET 7 (by decide))) (put_raiseKeeps _ Reg.LC_STEPS_LEFT 0 (by decide))
    exact raiseKeeps_trans h1 (hr _ _ _)

theorem priStatus_high (k : Nat) : 0x10000 ≤ Wd.PRI_STATUS k := by simp only [Wd.PRI_STATUS]; omega

theorem restartPrim_raiseKeeps (k at_ : Nat) (sinc notch post : Bool) (s : State) : raiseKeeps s (restartPrim k at_ sinc notch post s) := by
  unfold restartPrim
  extract_lets p s1
  have h1 : raiseKeeps s s1 := ⟨rfl, fun _ _ => rfl⟩
  exact ite_raiseKeeps _ _ _ _ (raiseKeeps_trans h1 (putFlag_raiseKeeps s1 _ _ (priStatus_high k))) h1

theorem applyEffN_raiseKeeps (k : Nat) (s : State) : raiseKeeps s (applyEffN k s) := by
  unfold applyEffN
  extract_lets c _ s0
  have h0 : raiseKeeps s s0 := ⟨rfl, fun _ _ => rfl⟩
  refine ite_raiseKeeps _ _ _ _ h0 (parts_raiseKeeps _ _ _ _ _ _ _ _ _ _ _
    (raiseKeeps_trans (raiseKeeps_trans h0 ?_) (restartPrim_raiseKeeps k _ true false false _)))
  exact put_raiseKeeps s0 _ _ (priStatus_high k)

theorem changeMode_raiseKeeps (r : Nat → Nat → State → State) (hr : raises r) (new cause src hseq : Nat) (s : State) :
    raiseKeeps s (changeMode r new cause src hseq s) := by
  unfold changeMode
  extract_lets old fab s1 s2 _ s3 s4 s5 s6 _ s7 s8 s9
  have h1 : raiseKeeps s s1 := raiseKeeps_trans (raiseKeeps_trans (put_raiseKeeps s Reg.MODE_PREV old (by decide))
    (put_raiseKeeps _ Reg.MODE_NOW new (by decide))) (put_raiseKeeps _ Reg.MODE_CAUSE cause (by decide))
  have h2 : raiseKeeps s s2 := ite_raiseKeeps _ _ _ _ (raiseKeeps_trans h1 (put_raiseKeeps s1 Reg.HOLD_FABRIC fab (by decide))) h1
  have h3 : raiseKeeps s s3 := ite_raiseKeeps _ _ _ _ h2 (parts_raiseKeeps _ _ _ _ _ _ _ _ _ _ _ h2)
  have h4 : raiseKeeps s s4 := ite_raiseKeeps _ _ _ _ (raiseKeeps_trans h3 (endSweep_raiseKeeps _ _ s3)) h3
  have h5 : raiseKeeps s s5 := ite_raiseKeeps _ _ _ _ (each_raiseKeeps _ _ _ _ h4 fun c u => endLease_raiseKeeps r hr c 4 u) h4
  have h6 : raiseKeeps s s6 := each_raiseKeeps _ _ _ _ h5 applyEffN_raiseKeeps
  have h7 : raiseKeeps s s7 := parts_raiseKeeps _ _ _ _ _ _ _ _ _ _ _ h6
  have h8 : raiseKeeps s s8 := raiseKeeps_trans (raiseKeeps_trans h7 (vcForMode_raiseKeeps s7)) (capFabric_raiseKeeps _)
  exact raiseKeeps_trans (raiseKeeps_trans h8 (abandonLc_raiseKeeps r hr src hseq s8)) (hr _ _ _)

theorem enterHold_raiseKeeps (s : State) : raiseKeeps s (enterHold s) :=
  changeMode_raiseKeeps _ (fun _ _ _ => raiseInHold_raiseKeeps _ _ _ _ _ _) _ _ _ _ s

/-- A raise leaves the clock, the time base, the log, the links and the words below 0x10000, whatever it escalates to. -/
theorem raise_raiseKeeps (src value : Nat) (s : State) : raiseKeeps s (raise src value s) := by
  have hcore := raiseCore_raiseKeeps src value s.now false false s
  unfold raise raiseAt
  refine ite_raiseKeeps _ _ _ _ (raiseInHold_raiseKeeps _ _ _ _ _ s) ?_
  split <;> rename_i heq <;> rw [heq] at hcore
  · exact hcore
  · refine ite_raiseKeeps _ _ _ _ hcore (raiseKeeps_trans hcore (raiseKeeps_trans ?_ (raise512_raiseKeeps _ _ _ _)))
    exact raiseKeeps_trans (raiseKeeps_trans (put_raiseKeeps _ Reg.ESCALATED 1 (by decide)) (bump_raiseKeeps _ Reg.ESC_COUNT (by decide)))
      (enterHold_raiseKeeps _)

theorem tbEvent_raiseKeeps (cause detail : Nat) (s : State) : raiseKeeps s (tbEvent cause detail s) := raise_raiseKeeps _ _ _

end Sys2Proof.Machine
end

section
namespace Sys2Proof.Machine

/-! ### Commands that answer from the state as it stands -/

/-- A host command that is executable now and whose meaning leaves the state as it is answers, and leaves everything but its own record. -/
theorem answered_of_unchanged (c : Cmd) (m : Meta) (s : State) (h : accepts m s) (hs : (runCmd c m s).st = s)
    (hb : (runCmd c m s).status ≠ St.busy) :
    answered m (runCmd c m s).status (runCmd c m s).data s (receive false c m s) ∧ coreSame s (receive false c m s) ∧
      (receive false c m s).win = s.win ∧ wordsSame (replyWord m) s (receive false c m s) := by
  have e := exec_answered c m s h hb (by rw [hs]) (by rw [hs]) (by rw [hs]) (by rw [hs]) (by rw [hs])
  rwa [hs] at e

/-- A recorded answer that is sent is answered: for a record that holds the HSEQ and its reply, and leaves the host queue and the module's
place in the ring. -/
theorem answered_of_record (m : Meta) (status : Nat) (data : List Byte) (s r : State) (hm : metaOk m = true)
    (hget : r.get (seqField m.src m.bcast) = m.hseq) (hseq : r.seqSt (seqIdx m.src m.bcast) = ⟨true, cacheWith m status data s⟩)
    (hq : r.host.hq = s.host.hq) (hpos : r.get Reg.POS_UPH = s.get Reg.POS_UPH) (hhead : r.flag Reg.HEAD_NOW = s.flag Reg.HEAD_NOW) :
    answered m status data s (sendReply m status data r) := by
  obtain ⟨-, -, hseqs, hwords⟩ := sendReply_core m status data r
  have hne : (seqField m.src m.bcast).a ≠ (Reg.TXQ_DROP m.port).a := by
    simp only [metaOk, Bool.and_eq_true, decide_eq_true_eq] at hm
    cases m.bcast <;> simp only [seqField, Reg.LAST_HSEQ, Reg.LAST_BHSEQ, Reg.TXQ_DROP, Wd.SEQ_HSEQ, Wd.PC_DROP] <;> simp <;> omega
  refine ⟨?_, ?_, ?_, fun hsrc hroom => ?_⟩
  · have e := hwords _ hne
    unfold State.word at e
    unfold State.get fieldAt at hget ⊢
    rw [e]; exact hget
  · rw [hseqs, hseq]
  · rw [hseqs, hseq]; exact cacheWith_last _ _ _ _
  · rw [sendReply_spi m _ _ _ hsrc (by rw [hq]; exact hroom), hq]
    unfold replyFrames ownFrame isHead
    rw [hpos, hhead]

/-- SEQSTATE records its HSEQ whatever its class (R364): the counter and the cache of its source, and nothing else. -/
theorem record_seqstate (m : Meta) (status : Nat) (data : List Byte) (s : State) :
    record .seqstate m status data s =
      (s.put (seqField m.src m.bcast) m.hseq).setSeqSt (seqIdx m.src m.bcast) ⟨true, cacheWith m status data s⟩ := by
  simp [record, cacheWith]

/-- The words of the sequence counters of the SPI port hold neither the position nor the head bit. -/
theorem seqField_word_ne (src : Nat) (b : Bool) (a : Nat) (h : a < Wd.SEQ_HSEQ 0) : (seqField src b).a ≠ a := by
  have e : (seqField src b).a = Wd.SEQ_HSEQ src := by cases b <;> rfl
  rw [e]
  simp only [Wd.SEQ_HSEQ] at h ⊢
  omega

/-- SEQSTATE answers with the values from before it (R364). -/
theorem seqstate_answered (m : Meta) (s : State) (h : accepts m s) :
    let t := receive false .seqstate m s
    answered m (seqstateCmd m s).status (seqstateCmd m s).data s t ∧ coreSame s t ∧ wordsSame (replyWord m) s t := by
  have hm := h.2.1
  have hh : m.hseq < 2 ^ (seqField m.src m.bcast).w := by
    simp only [metaOk, Bool.and_eq_true, decide_eq_true_eq] at hm
    rw [seqField_w]; omega
  intro t
  set u := (seqstateCmd m s).st with hu
  set r := (u.put (seqField m.src m.bcast) m.hseq).setSeqSt (seqIdx m.src m.bcast)
    ⟨true, cacheWith m (seqstateCmd m s).status (seqstateCmd m s).data s⟩ with hr
  have ht : t = sendReply m (seqstateCmd m s).status (seqstateCmd m s).data r := by
    have e := exec_accepts .seqstate m s h
    have hb : (runCmd .seqstate m s).status ≠ St.busy := by simp [runCmd, seqstateCmd, answer, St.ok, St.busy]
    rw [if_neg hb, record_seqstate] at e
    exact e
  have hrw : ∀ a, a ≠ (seqField m.src m.bcast).a → r.word a = s.word a := fun a ha =>
    (put_word_ne u _ _ a ha.symm).trans (put_word_ne s _ _ a ha.symm)
  obtain ⟨qcore, -, -, qwords⟩ := sendReply_core m (seqstateCmd m s).status (seqstateCmd m s).data r
  rw [ht]
  refine ⟨answered_of_record m _ _ s r hm ?_ (State.seqSt_setSeqSt_same _ _ _) rfl ?_ ?_, coreSame_trans ?_ qcore, ?_⟩
  · rw [hr, State.setSeqSt_get, State.get_put _ _ _ (seqField_fits _ _), Nat.mod_eq_of_lt hh]
  · exact get_of_word _ _ _ (hrw _ (seqField_word_ne _ _ _ (by decide)).symm)
  · exact flag_of_get _ _ _ (get_of_word _ _ _ (hrw _ (seqField_word_ne _ _ _ (by decide)).symm))
  · rfl
  · intro a ha
    exact (qwords a fun e => ha (Or.inr e)).trans (hrw a fun e => ha (Or.inl e))

/-- The replay that REPLAY starts: of the held frames, from the first of them on. -/
def replayOf (m : Meta) (first count : Nat) (s : State) : Option Replay :=
  let held := heldRange first count s
  if held.length = 0 then none else some ⟨(held.head?.map (·.seq)).getD first, held.length, m.port⟩

/-- REPLAY leaves the replay that it starts, and nothing else, beside its record (R371). -/
theorem replay_answered (m : Meta) (first count : Nat) (s : State) (h : accepts m s) (h1 : 1 ≤ count) (h2 : count ≤ 4096) :
    let held := heldRange first count s
    let from_ := (held.head?.map (·.seq)).getD first
    let t := receive false (.replay first count) m s
    answered m (if held.length = count then 0x00 else 0x21)
      (leBytes 2 from_ ++ leBytes 2 held.length ++ leBytes 2 (oldestDseq s) ++ leBytes 2 (s.get Reg.LAST_DSEQ)) s t ∧ coreSame s t ∧
      wordsSame (replyWord m) s t ∧
      kvGet (fun _ => none) t.host.replays m.src = (if held.length = 0 then none else some ⟨from_, held.length, m.port⟩) := by
  intro held from_ t
  have hrun : runCmd (.replay first count) m s =
      ⟨if held.length = count then 0x00 else 0x21,
        leBytes 2 from_ ++ leBytes 2 held.length ++ leBytes 2 (oldestDseq s) ++ leBytes 2 (s.get Reg.LAST_DSEQ),
        { s with host := { s.host with replays := kvSet (fun _ => none) s.host.replays m.src (replayOf m first count s) } }⟩ := by
    have hc : (count = 0 || 4096 < count) = false := by simp; omega
    simp only [runCmd, replayCmd, hc, Bool.false_eq_true, if_false, St.ok, St.seqGap]
    rfl
  have hb : (runCmd (.replay first count) m s).status ≠ St.busy := by
    rw [hrun]
    show (if held.length = count then 0x00 else 0x21) ≠ 2
    split <;> decide
  obtain ⟨e1, e2, -, e4⟩ := exec_answered (.replay first count) m s h hb (by rw [hrun]; rfl) (by rw [hrun]; rfl) (by rw [hrun])
    (by rw [hrun]; rfl) (by rw [hrun]; rfl)
  have ehost := exec_host (.replay first count) m s h
  rw [hrun] at e1 e2 e4 ehost
  refine ⟨e1, coreSame_trans (coreSame_host _ _) e2, e4, ?_⟩
  have : t.host.replays = _ := congrArg HostPort.replays ehost
  rw [this]
  exact kvGet_kvSet_same _ _ _ _

/-- Settles O7: PING, IDENT, SEQSTATE and REPLAY answer, each from the lemma on what its meaning leaves. -/
theorem sessionCommandsAnswer : Obligations.SessionCommandsAnswer := by
  intro m s h
  refine ⟨fun echo he => ⟨_, rfl, ?_⟩, ⟨_, rfl, ?_⟩, ⟨_, rfl, ?_⟩, fun first count h1 h2 => ⟨_, rfl, ?_⟩⟩
  · have hrun : runCmd (.ping echo) m s = pingCmd echo s := by simp [runCmd]; omega
    obtain ⟨ha, hc, -, hw⟩ := answered_of_unchanged (.ping echo) m s h (by rw [hrun]; rfl) (by rw [hrun]; simp [pingCmd, answer, St.ok, St.busy])
    rw [hrun] at ha
    exact ⟨ha, hc, hw⟩
  · obtain ⟨ha, hc, -, hw⟩ := answered_of_unchanged .ident m s h rfl (by simp [runCmd, identCmd, answer, St.ok, St.busy])
    exact ⟨hc, hw, ha⟩
  · obtain ⟨ha, hc, hw⟩ := seqstate_answered m s h
    exact ⟨hc, hw, ha⟩
  · obtain ⟨ha, hc, hw, hr⟩ := replay_answered m first count s h h1 h2
    exact ⟨hc, hw, ha, hr⟩

end Sys2Proof.Machine
end

section
/-!
The time base between marks (R37 to R46, R59): what a loss, an acquisition and the return to FREE leave, and the statements on SPAN_IN edges
and on the holdover limit.
-/
namespace Sys2Proof.Machine

/-! ### Fields of one word -/

/-- Two fields do not share a bit, as a check. -/
def Field.apartB (f g : Field) : Bool :=
  f.a != g.a || (decide (f.lo + f.w ≤ 32) && (decide (g.lo + g.w ≤ f.lo) || decide (f.lo + f.w ≤ g.lo)))

theorem Field.apart_of_apartB (f g : Field) (h : f.apartB g = true) : f.apart g := by
  simpa [Field.apartB, Field.apart] using h

theorem State.get_put_of_apartB (s : State) (f g : Field) (v : Nat) (h : f.apartB g = true) : (s.put f v).get g = s.get g :=
  State.get_put_apart s f g v (Field.apart_of_apartB f g h)

theorem State.get_put_of_lt (s : State) (f : Field) (v : Nat) (hf : f.lo + f.w ≤ 32) (hv : v < 2 ^ f.w) : (s.put f v).get f = v := by
  rw [State.get_put s f v hf, Nat.mod_eq_of_lt hv]

theorem State.flag_iff_get (s : State) (f : Field) : s.flag f = true ↔ s.get f = 1 := by
  simp [State.flag, State.get]

/-- A one-bit field reads the truth value written to it. -/
theorem State.flag_putFlag_same (s : State) (f : Field) (b : Bool) (hf : f.lo + f.w ≤ 32) (hw : f.w = 1) : (s.putFlag f b).flag f = b := by
  have h : (s.putFlag f b).get f = b01 b := State.get_put_of_lt s f _ hf (by rw [hw]; cases b <;> decide)
  unfold State.get at h
  unfold State.flag
  rw [h]
  cases b <;> rfl

/-! ### Losses and acquisitions (R41, R42, R44) -/

/-- The two states differ in nothing but the time base and the field `STATE`, and in the time base not in what the edges of SPAN_IN have shown. -/
def edgesKept (s t : State) : Prop :=
  t = { s with regs := t.regs, tb := t.tb } ∧ t.tb.valids = s.tb.valids ∧ t.tb.lastPeriod = s.tb.lastPeriod ∧ t.tb.lastPre = s.tb.lastPre ∧
    t.tb.edges = s.tb.edges ∧ ∀ f, Reg.STATE.apart f → t.get f = s.get f

theorem edgesKept_refl (s : State) : edgesKept s s := ⟨rfl, rfl, rfl, rfl, rfl, fun _ _ => rfl⟩

theorem declareLoss_of_loss (cond : Nat) (s : State) (h : s.get Reg.STATE = 2 ∨ s.get Reg.STATE = 1) :
    declareLoss cond s = if s.tb.loss = 0 then { s with tb := { s.tb with loss := cond } } else s := by
  unfold declareLoss
  rcases h with h | h <;> simp only [h]

theorem declareLoss_of_no_source (cond : Nat) (s : State) (h : s.get Reg.STATE = 0 ∨ s.get Reg.STATE = 3) : declareLoss cond s = s := by
  unfold declareLoss
  rcases h with h | h <;> simp only [h]

theorem get_state_cases (s : State) : s.get Reg.STATE = 0 ∨ s.get Reg.STATE = 1 ∨ s.get Reg.STATE = 2 ∨ s.get Reg.STATE = 3 := by
  have h : s.get Reg.STATE < 4 := get_lt s Reg.STATE
  omega

/-- A declared loss is noted in the time base, and nothing else. -/
theorem declareLoss_tb (cond : Nat) (s : State) : ∃ l, declareLoss cond s = { s with tb := { s.tb with loss := l } } := by
  rcases get_state_cases s with h | h | h | h
  · exact ⟨_, declareLoss_of_no_source cond s (.inl h)⟩
  · rw [declareLoss_of_loss cond s (.inr h)]
    split
    · exact ⟨_, rfl⟩
    · exact ⟨s.tb.loss, rfl⟩
  · rw [declareLoss_of_loss cond s (.inl h)]
    split
    · exact ⟨_, rfl⟩
    · exact ⟨s.tb.loss, rfl⟩
  · exact ⟨_, declareLoss_of_no_source cond s (.inr h)⟩

theorem declareLoss_edgesKept (cond : Nat) (s : State) : edgesKept s (declareLoss cond s) := by
  obtain ⟨l, h⟩ := declareLoss_tb cond s
  rw [h]
  exact ⟨rfl, rfl, rfl, rfl, rfl, fun _ _ => rfl⟩

theorem acquire_edgesKept (from_ : AcqFrom) (p : Nat) (s : State) : edgesKept s (acquire from_ p s) :=
  ⟨rfl, rfl, rfl, rfl, rfl, fun f hf => State.get_put_apart s Reg.STATE f 1 hf⟩

theorem acquire_state (from_ : AcqFrom) (p : Nat) (s : State) : (acquire from_ p s).get Reg.STATE = 1 :=
  State.get_put_of_lt s Reg.STATE 1 (by decide) (by decide)

/-- A prescaled period qualifies the source, invalidates it, or does neither. -/
theorem periodDone_edgesKept (p old : Nat) (ok : Bool) (phase : Int) (s : State) : edgesKept s (periodDone p old ok phase s) := by
  unfold periodDone
  extract_lets two
  split
  · split
    · exact acquire_edgesKept _ _ s
    · exact edgesKept_refl s
  · split
    · exact acquire_edgesKept _ _ s
    · exact edgesKept_refl s
  · split
    · split
      · exact edgesKept_refl s
      · exact declareLoss_edgesKept 3 s
    · split
      · exact acquire_edgesKept _ _ s
      · split
        · exact edgesKept_refl s
        · exact declareLoss_edgesKept 3 s
  · split
    · exact declareLoss_edgesKept 3 s
    · split
      · exact declareLoss_edgesKept 2 s
      · exact edgesKept_refl s

/-- In FREE with SPAN_IN as the source two valid periods start the acquisition (R42). -/
theorem periodDone_free (p old : Nat) (ok : Bool) (phase : Int) (s : State) (hstate : s.get Reg.STATE = 0) (hsource : s.get Reg.SOURCE = 0)
    (htwo : 2 ≤ s.tb.valids) : periodDone p old ok phase s = acquire .free (meanPeriod p old) s := by
  simp [periodDone, hstate, hsource, htwo]

/-! ### SPAN_IN_EDGE (R37, R38) -/

/-- The edge is not within 1 µs of the last one. -/
def edgeSpaced (s : State) (t : Nat) : Prop := ∀ u, s.tb.lastEdge = some u → u + 400 ≤ t

theorem edgeSpaced_cases (s : State) (t : Nat) (h : edgeSpaced s t) :
    s.tb.lastEdge = none ∨ ∃ u, s.tb.lastEdge = some u ∧ ¬ t < u + 400 := by
  cases hlast : s.tb.lastEdge with
  | none => exact .inl rfl
  | some u => exact .inr ⟨u, rfl, Nat.not_lt.mpr (h u hlast)⟩

theorem spanInEdge_other_polarity (rising : Bool) (t : Nat) (phase : Int) (s : State) (h : rising = s.flag Reg.EDGE) :
    exec (.spanInEdge rising t phase) s = .next { s with tb := { s.tb with lastEdge := some t } } := by
  show execSpanInEdge rising t phase s = _
  simp [execSpanInEdge, h, done]

theorem spanInEdge_prescaled (rising : Bool) (t : Nat) (phase : Int) (s : State) (htb : s.tbUp = true) (hspaced : edgeSpaced s t)
    (hpol : rising ≠ s.flag Reg.EDGE) (hcount : s.tb.edges < s.get Reg.PRESCALE_M1) :
    exec (.spanInEdge rising t phase) s = .next { s with tb := { s.tb with lastEdge := some t, edges := s.tb.edges + 1 } } := by
  show execSpanInEdge rising t phase s = _
  have hedge := beq_eq_false_iff_ne.mpr hpol
  unfold execSpanInEdge
  obtain hlast | ⟨u, hlast, hsoon⟩ := edgeSpaced_cases s t hspaced
  · simp [htb, hlast, hedge, hcount, done]
  · simp [htb, hlast, hsoon, hedge, hcount, done]

/-- The state in which the period that an edge completes is taken: the period, the mean with the one before, and the count of valid periods. -/
def edgeDone (t v : Nat) (s : State) : State :=
  let p := t - v
  let old := s.tb.lastPeriod
  let near := old != 0 && 100 * (if p < old then old - p else p - old) ≤ old
  let valids := if s.tb.valids = 0 || !near then 1 else s.tb.valids + 1
  let since := if valids = 1 then s.tb.sincePre else s.tb.sinceEdge
  { s with tb := { s.tb with lastEdge := some t, edges := 0, lastPre := some t, preAt := s.abs, sincePre := 0, lastPeriod := p,
                             mean := meanPeriod p old, valids := valids, sinceEdge := since } }

/-- The state that `periodDone` receives: the period is shown, and the input valid from the second valid period on. -/
def edgeShown (t v : Nat) (s : State) : State :=
  ((edgeDone t v s).put Reg.IN_PERIOD (t - v)).putFlag Reg.INPUT_VALID (2 ≤ (edgeDone t v s).tb.valids)

/-- On a master the edge that completes the count of the prescaler gives a period from 1 to 40 million units (R38). -/
theorem spanInEdge_period (rising : Bool) (t v : Nat) (phase : Int) (s : State) (htb : s.tbUp = true) (hspaced : edgeSpaced s t)
    (hm : isMaster s = true) (hpol : rising ≠ s.flag Reg.EDGE) (hcount : s.get Reg.PRESCALE_M1 ≤ s.tb.edges) (hpre : s.tb.lastPre = some v)
    (hlo : v + 1000000 ≤ t) (hhi : t ≤ v + 40000000) :
    exec (.spanInEdge rising t phase) s = .next (periodDone (t - v) s.tb.lastPeriod true phase (edgeShown t v s)) := by
  show execSpanInEdge rising t phase s = _
  have hedge := beq_eq_false_iff_ne.mpr hpol
  have hcnt := Nat.not_lt.mpr hcount
  have hlong : 1000000 ≤ t - v := by omega
  have hshort : t - v ≤ 40000000 := by omega
  unfold execSpanInEdge
  obtain hlast | ⟨u, hlast, hsoon⟩ := edgeSpaced_cases s t hspaced
  · simp only [htb, hlast, hedge, hcnt, hpre, hlong, hshort, hm, done, edgeShown, edgeDone, decide_true, Bool.and_self, Bool.not_true,
      Bool.true_and, Bool.false_eq_true, if_true, if_false, decide_eq_true_eq]
    rfl
  · simp only [htb, hlast, hsoon, hedge, hcnt, hpre, hlong, hshort, hm, done, edgeShown, edgeDone, decide_true, Bool.and_self, Bool.not_true,
      Bool.true_and, Bool.false_eq_true, if_true, if_false, decide_eq_true_eq]
    rfl

/-- The period lies within 1 % of the one before it (R38). -/
def periodNear (old p : Nat) : Prop := old ≠ 0 ∧ 100 * (if p < old then old - p else p - old) ≤ old

theorem periodNear_iff (old p : Nat) :
    (old != 0 && decide (100 * (if p < old then old - p else p - old) ≤ old)) = true ↔ periodNear old p := by
  simp only [Bool.and_eq_true, bne_iff_ne, decide_eq_true_eq]
  exact Iff.rfl

theorem edgeDone_valids_near (t v : Nat) (s : State) (h0 : s.tb.valids ≠ 0) (hn : periodNear s.tb.lastPeriod (t - v)) :
    (edgeDone t v s).tb.valids = s.tb.valids + 1 := by
  have hnear := (periodNear_iff _ _).mpr hn
  simp only [edgeDone, hnear, h0, decide_false, Bool.not_true, Bool.or_self, Bool.false_eq_true, if_false]

theorem edgeDone_valids_first (t v : Nat) (s : State) (h : s.tb.valids = 0 ∨ ¬ periodNear s.tb.lastPeriod (t - v)) :
    (edgeDone t v s).tb.valids = 1 := by
  rcases h with h | h
  · simp only [edgeDone, h, decide_true, Bool.true_or, if_true]
  · have hnear := Bool.eq_false_iff.mpr fun e => h ((periodNear_iff _ _).mp e)
    simp only [edgeDone, hnear, Bool.not_false, Bool.or_true, if_true]

theorem edgeShown_inPeriod (t v : Nat) (s : State) (h : t - v < 2 ^ 32) : (edgeShown t v s).get Reg.IN_PERIOD = t - v := by
  unfold edgeShown State.putFlag
  rw [State.get_put_of_apartB _ _ _ _ (by decide), State.get_put_of_lt _ _ _ (by decide) (by exact h)]

theorem edgeShown_inputValid (t v : Nat) (s : State) :
    (edgeShown t v s).flag Reg.INPUT_VALID = decide (2 ≤ (edgeDone t v s).tb.valids) :=
  State.flag_putFlag_same _ _ _ (by decide) rfl

theorem edgeShown_get (t v : Nat) (s : State) (f : Field) (h1 : Reg.IN_PERIOD.apartB f = true) (h2 : Reg.INPUT_VALID.apartB f = true) :
    (edgeShown t v s).get f = s.get f := by
  unfold edgeShown State.putFlag
  rw [State.get_put_of_apartB _ _ _ _ h2, State.get_put_of_apartB _ _ _ _ h1]
  rfl

theorem edgeShown_tb (t v : Nat) (s : State) : (edgeShown t v s).tb = (edgeDone t v s).tb := by
  unfold edgeShown
  rw [State.putFlag_tb, State.put_tb]

theorem edgeShown_clk (t v : Nat) (s : State) : (edgeShown t v s).clk = s.clk := by
  unfold edgeShown
  rw [State.putFlag_clk, State.put_clk]
  rfl

theorem edgeShown_evt (t v : Nat) (s : State) : (edgeShown t v s).evt = s.evt := by
  unfold edgeShown
  rw [State.putFlag_evt, State.put_evt]
  rfl

/-- What the period that an edge completes leaves on a master: the period shown, the count of valid periods, and the acquisition that two of them
start in FREE. -/
theorem periodDone_edgeShown (t v : Nat) (phase : Int) (s w : State) (hw : w = periodDone (t - v) s.tb.lastPeriod true phase (edgeShown t v s))
    (hshort : t - v < 2 ^ 32) :
    w.get Reg.IN_PERIOD = t - v ∧ w.tb.lastPeriod = t - v ∧ w.tb.lastPre = some t ∧ w.tb.edges = 0 ∧ w.clk = s.clk ∧ w.evt = s.evt ∧
      w.tb.valids = (edgeDone t v s).tb.valids ∧ w.flag Reg.INPUT_VALID = decide (2 ≤ (edgeDone t v s).tb.valids) := by
  obtain ⟨hrest, hvalids, hperiod, hlast, hedges, hget⟩ := periodDone_edgesKept (t - v) s.tb.lastPeriod true phase (edgeShown t v s)
  rw [← hw] at hrest hvalids hperiod hlast hedges hget
  rw [edgeShown_tb] at hvalids hperiod hlast hedges
  refine ⟨?_, hperiod, hlast, hedges, ?_, ?_, hvalids, ?_⟩
  · exact (hget _ (Field.apart_of_apartB _ _ (by decide))).trans (edgeShown_inPeriod t v s hshort)
  · rw [hrest]; exact edgeShown_clk t v s
  · rw [hrest]; exact edgeShown_evt t v s
  · exact (flag_of_get _ _ _ (hget _ (Field.apart_of_apartB _ _ (by decide)))).trans (edgeShown_inputValid t v s)

/-! ### EDGE_MISSING_TIMEOUT (R44, R59, R60) -/

/-- A missing edge or mark of the direction in use, with no other direction to turn to. -/
theorem edgeMissing_loss (s : State) (htb : s.tbUp = true) (h : isMaster s = true ∨ (s.tb.otherDir = false ∧ s.tb.dirDue = false)) :
    exec .edgeMissingTimeout s =
      .next (let s1 := (declareLoss 1 s).put Reg.INPUT_VALID 0
        if isMaster s then { s1 with tb := { s1.tb with valids := 0, lastPre := none } }
        else { s1 with tb := { s1.tb with marks := 0, frames := 0 } }) := by
  show execEdgeMissingTimeout s = _
  rcases h with h | ⟨h1, h2⟩
  · simp [execEdgeMissingTimeout, htb, h, done]
  · simp [execEdgeMissingTimeout, htb, h1, h2, done]

theorem declareLoss_state (cond : Nat) (s : State) (f : Field) : (declareLoss cond s).get f = s.get f := by
  obtain ⟨l, h⟩ := declareLoss_tb cond s
  rw [h]
  rfl

theorem declareLoss_loss (s : State) (h : s.get Reg.STATE = 2 ∨ s.get Reg.STATE = 1) (h0 : s.tb.loss = 0) :
    (declareLoss 1 s).tb.loss = 1 := by
  rw [declareLoss_of_loss 1 s h, if_pos h0]

/-- The state that a missing edge leaves shows the input as not valid, and the state of the time base as it was. -/
theorem lossShown_get (s : State) :
    ((declareLoss 1 s).put Reg.INPUT_VALID 0).flag Reg.INPUT_VALID = false ∧
      ((declareLoss 1 s).put Reg.INPUT_VALID 0).get Reg.STATE = s.get Reg.STATE :=
  ⟨State.flag_putFlag_same (declareLoss 1 s) Reg.INPUT_VALID false (by decide) rfl,
    (State.get_put_of_apartB _ _ _ _ (by decide)).trans (declareLoss_state 1 s _)⟩

/-- Settles O11: the edges by what `periodDone` leaves of their measurement, and a missing edge by what a declared loss leaves. -/
theorem edgesAreMeasuredAndMissed : Obligations.EdgesAreMeasuredAndMissed := by
  refine ⟨fun rising t phase s htb hspaced => ⟨fun hpol => spanInEdge_other_polarity rising t phase s hpol,
    fun hpol hcount => spanInEdge_prescaled rising t phase s htb hspaced hpol hcount, ?_⟩,
    fun s htb => ⟨fun h => ⟨_, edgeMissing_loss s htb h, ?_⟩, ?_, ?_⟩⟩
  · intro v hm hpol hcount hpre hlo hhi
    obtain ⟨hin, hper, hlast, hedges, hclk, hevt, hvalids, hvalid⟩ := periodDone_edgeShown t v phase s _ rfl (by omega)
    refine ⟨_, spanInEdge_period rising t v phase s htb hspaced hm hpol hcount hpre hlo hhi, hin, hper, hlast, hedges, hclk, hevt, ?_, ?_, ?_⟩
    · intro h0 hn
      rw [edgeDone_valids_near t v s h0 hn] at hvalids hvalid
      exact ⟨hvalids, hvalid.trans (decide_eq_true (by omega))⟩
    · intro h
      rw [edgeDone_valids_first t v s h] at hvalids hvalid
      exact ⟨hvalids, hvalid⟩
    · intro h0 hn hstate hsource
      have hcnt : (edgeShown t v s).tb.valids = s.tb.valids + 1 := by rw [edgeShown_tb, edgeDone_valids_near t v s h0 hn]
      rw [periodDone_free (t - v) s.tb.lastPeriod true phase (edgeShown t v s) ((edgeShown_get t v s _ (by decide) (by decide)).trans hstate)
        ((edgeShown_get t v s _ (by decide) (by decide)).trans hsource) (by omega)]
      exact ⟨acquire_state _ _ _, rfl, rfl⟩
  · obtain ⟨hin, hstate⟩ := lossShown_get s
    obtain ⟨l, hloss⟩ := declareLoss_tb 1 s
    have hclk : (declareLoss 1 s).clk = s.clk := by rw [hloss]
    have hevt : (declareLoss 1 s).evt = s.evt := by rw [hloss]
    have hnone : s.get Reg.STATE = 0 ∨ s.get Reg.STATE = 3 → (declareLoss 1 s).tb.loss = s.tb.loss := fun h => by
      rw [declareLoss_of_no_source 1 s h]
    cases hm : isMaster s
    · exact ⟨hin, hstate, hclk, hevt, fun e => absurd e (by decide), fun _ => ⟨rfl, rfl⟩, declareLoss_loss s, hnone⟩
    · exact ⟨hin, hstate, hclk, hevt, fun _ => rfl, fun e => absurd e (by decide), declareLoss_loss s, hnone⟩
  · intro hm hdue
    show execEdgeMissingTimeout s = _
    simp [execEdgeMissingTimeout, htb, hm, hdue, done]
  · intro hm hdue hother
    show execEdgeMissingTimeout s = _
    simp [execEdgeMissingTimeout, htb, hm, hdue, hother, done, leaveDir]

end Sys2Proof.Machine
end

section
/-!
Periods and frequency steps in the tiers (R40, R43, R54, R544), the return to FREE on the internal span (R46), and the holdover limit (R45).
-/
namespace Sys2Proof.Machine

/-! ### A tier takes a period -/

/-- The two states differ in nothing but what a period brings to the tiers: the period itself, their converters and sequencers, and words of the
tiers' windows. -/
def periodKeeps (s t : State) : Prop :=
  t = { s with regs := t.regs, link := t.link, prim := t.prim, sec := t.sec } ∧ (∀ a, a < 0x10000 → t.word a = s.word a) ∧
    ∀ j, ∃ p, t.tl j = { s.tl j with period := p }

theorem periodKeeps_refl (s : State) : periodKeeps s s := ⟨rfl, fun _ _ => rfl, fun j => ⟨(s.tl j).period, rfl⟩⟩

theorem periodKeeps_trans {s t u : State} (h1 : periodKeeps s t) (h2 : periodKeeps t u) : periodKeeps s u := by
  obtain ⟨e1, w1, l1⟩ := h1
  obtain ⟨e2, w2, l2⟩ := h2
  refine ⟨?_, fun a ha => (w2 a ha).trans (w1 a ha), fun j => ?_⟩
  · rw [e2, e1]
  · obtain ⟨p, hp⟩ := l1 j
    obtain ⟨q, hq⟩ := l2 j
    exact ⟨q, by rw [hq, hp]⟩

theorem periodKeeps.clk {s t : State} (h : periodKeeps s t) : t.clk = s.clk := by rw [h.1]
theorem periodKeeps.tb {s t : State} (h : periodKeeps s t) : t.tb = s.tb := by rw [h.1]
theorem periodKeeps.evt {s t : State} (h : periodKeeps s t) : t.evt = s.evt := by rw [h.1]
theorem periodKeeps.get {s t : State} (h : periodKeeps s t) (f : Field) (hf : f.a < 0x10000) : t.get f = s.get f :=
  get_of_word _ _ _ (h.2.1 _ hf)

/-- A state that differs from another in its converters and in words of the tiers' windows only. -/
theorem periodKeeps_of_prim (s t : State) (h : t = { s with regs := t.regs, prim := t.prim }) (hw : ∀ a, a < 0x10000 → t.word a = s.word a) :
    periodKeeps s t := by
  have hl : t.link = s.link := by rw [h]
  refine ⟨?_, hw, fun j => ⟨(s.tl j).period, ?_⟩⟩
  · rw [h]
  · unfold State.tl; rw [hl]

theorem put_periodKeeps (s : State) (f : Field) (v : Nat) (hf : 0x10000 ≤ f.a) : periodKeeps s (s.put f v) :=
  periodKeeps_of_prim s _ rfl fun a ha => put_word_ne s f v a (by omega)

theorem ite_periodKeeps (c : Prop) [Decidable c] (s t u : State) (ht : periodKeeps s t) (hu : periodKeeps s u) :
    periodKeeps s (if c then t else u) := by
  split
  · exact ht
  · exact hu

theorem setPr_periodKeeps (s : State) (k : Nat) (p : TierPrim) : periodKeeps s (s.setPr k p) := periodKeeps_of_prim s _ rfl fun _ _ => rfl

theorem setSq_periodKeeps (s : State) (k : Nat) (q : TierSec) : periodKeeps s (s.setSq k q) :=
  ⟨rfl, fun _ _ => rfl, fun j => ⟨(s.tl j).period, rfl⟩⟩

theorem setTl_period_periodKeeps (s : State) (k p : Nat) : periodKeeps s (s.setTl k { s.tl k with period := p }) := by
  refine ⟨rfl, fun _ _ => rfl, fun j => ?_⟩
  rw [State.tl_setTl]
  split
  · next h => exact ⟨p, by rw [h]⟩
  · exact ⟨(s.tl j).period, rfl⟩

theorem updateNotch_periodKeeps (k : Nat) (s : State) : periodKeeps s (updateNotch k s) := by
  have hs := priStatus_high k
  unfold updateNotch
  split
  extract_lets inRange en act s1 len s2
  have h1 : periodKeeps s s1 := periodKeeps_trans (put_periodKeeps s _ _ hs) (put_periodKeeps _ _ _ hs)
  have h2 : periodKeeps s s2 := periodKeeps_trans h1 (put_periodKeeps s1 _ _ (by simp only [Reg.NOTCH_LEN, Wd.PRI_STATUS] at *; omega))
  exact ite_periodKeeps _ _ _ _ h2 (periodKeeps_trans h2 (put_periodKeeps s2 _ _ hs))

theorem restartPrim_periodKeeps (k at_ : Nat) (sinc notch post : Bool) (s : State) : periodKeeps s (restartPrim k at_ sinc notch post s) := by
  unfold restartPrim
  extract_lets p s1
  have h1 : periodKeeps s s1 := setPr_periodKeeps s k _
  exact ite_periodKeeps _ _ _ _ (periodKeeps_trans h1 (put_periodKeeps s1 _ _ (priStatus_high k))) h1

theorem pullTier_periodKeeps (new k : Nat) (s : State) : periodKeeps s (pullTier new k s) :=
  periodKeeps_trans (periodKeeps_trans (setTl_period_periodKeeps s k new) (setSq_periodKeeps _ k _)) (updateNotch_periodKeeps k _)

theorem stepTier_periodKeeps (new g k : Nat) (s : State) : periodKeeps s (stepTier new g k s) :=
  periodKeeps_trans (periodKeeps_trans (pullTier_periodKeeps new k s) (restartPrim_periodKeeps k _ true true true _)) (setPr_periodKeeps _ k _)

theorem changeTier_periodKeeps (new g k : Nat) (s : State) : periodKeeps s (changeTier new g k s) :=
  ite_periodKeeps _ _ _ _ (stepTier_periodKeeps new g k s) (pullTier_periodKeeps new k s)

theorem each_periodKeeps (s t : State) (l : List Nat) (f : Nat → State → State) (h : periodKeeps s t) (hf : ∀ k u, periodKeeps u (f k u)) :
    periodKeeps s (t.each l f) := State.each_keeps (periodKeeps s) l f (fun k u hu => periodKeeps_trans hu (hf k u)) t h

/-! ### A frequency step of the span (R40, R544) -/

/-- A frequency step gives the span its period and M its value; it leaves the clock, the events and every other word of the base die. -/
theorem stepPeriod_spec (new g : Nat) (s : State) :
    let t := stepPeriod new g s
    t.tb = { s.tb with period := new, nextPeriod := new, step := none, stepNow := some g } ∧ t.clk = s.clk ∧ t.evt = s.evt ∧
      t.get Reg.M_LOG2 = mLog2 new % 16 ∧ ∀ f : Field, f.a < 0x10000 → Reg.M_LOG2.apartB f = true → t.get f = s.get f := by
  intro t
  set s2 : State := { s.put Reg.M_LOG2 (mLog2 new) with
    tb := { s.tb with period := new, nextPeriod := new, step := none, stepNow := some g } } with hs2
  set s3 := s2.each ((List.range 6).filter s2.linkUp) (fun k t => stepTier new g k t) with hs3
  have h := each_periodKeeps s2 s2 ((List.range 6).filter s2.linkUp) _ (periodKeeps_refl s2) fun k u => stepTier_periodKeeps new g k u
  rw [← hs3] at h
  have htb : t.tb = s3.tb := rfl
  have hclk : t.clk = s3.clk := rfl
  have hevt : t.evt = s3.evt := rfl
  have hget : ∀ f, t.get f = s3.get f := fun _ => rfl
  refine ⟨htb.trans h.tb, hclk.trans h.clk, hevt.trans h.evt, ?_, fun f hf hm => ?_⟩
  · rw [hget, h.get _ (by decide)]
    exact State.get_put s Reg.M_LOG2 _ (by decide)
  · rw [hget, h.get f hf]
    exact State.get_put_of_apartB s Reg.M_LOG2 f _ hm

theorem mLog2_lt (p : Nat) : mLog2 p < 9 := by
  unfold mLog2
  cases h : [8, 7, 6, 5, 4, 3].find? (fun l => 2 ^ l * 16384000 ≤ 105 * p) with
  | none => decide
  | some l =>
    have := List.mem_of_find?_eq_some h
    simp only [Option.getD_some]
    fin_cases this <;> decide

/-! ### FREE (R46) and the holdover limit (R45, R61) -/

/-- An internal step leaves the clock, the state and the counts, and the span runs at `FREE_RATE`. -/
theorem internalStep_spec (s : State) :
    (internalStep s).tb.period = internalPeriod s ∧ (internalStep s).tb.nextPeriod = internalPeriod s ∧ (internalStep s).clk = s.clk ∧
      ∀ f : Field, f.a < 0x10000 → Reg.M_LOG2.apartB f = true → (internalStep s).get f = s.get f := by
  unfold internalStep
  extract_lets p t
  split
  · obtain ⟨htb, hclk, -, -, hget⟩ := stepPeriod_spec p s.clk.grain s
    refine ⟨?_, ?_, hclk, hget⟩
    · exact (congrArg TimeBase.period htb : t.tb.period = p)
    · exact (congrArg TimeBase.nextPeriod htb : t.tb.nextPeriod = p)
  · exact ⟨rfl, rfl, rfl, fun _ _ _ => rfl⟩

/-- What FREE clears before its internal step. -/
def cleared (s : State) : State := (s.put Reg.STATE 0).put Reg.HOLDOVER_COUNT 0

/-- Nothing is known of a source, and no loss and no step is due. -/
def forgetSource (s : State) : State :=
  { s with tb := { s.tb with valids := 0, marks := 0, frames := 0, acqFrom := .free, loss := 0, step := none } }

theorem forgetSource_get (s : State) (f : Field) : (forgetSource s).get f = s.get f := rfl
theorem forgetSource_clk (s : State) : (forgetSource s).clk = s.clk := rfl
theorem forgetSource_period (s : State) : (forgetSource s).tb.period = s.tb.period := rfl
theorem forgetSource_nextPeriod (s : State) : (forgetSource s).tb.nextPeriod = s.tb.nextPeriod := rfl

/-- FREE as it is entered, before the event: the state and the counts cleared, an internal step, and nothing known of a source. -/
def freed (s : State) : State := forgetSource (internalStep (cleared s))

/-- The count that FALLBACK carries (R69). -/
def fallbackCount (s : State) : Nat := if s.get Reg.HOLDOVER_SPANS = 0 then 0 else s.get Reg.HOLDOVER_COUNT

theorem enterFree_eq (fallback : Bool) (s : State) :
    enterFree fallback s = (freed s).when fallback (tbEvent 3 (fallbackCount s)) := by
  unfold enterFree
  extract_lets n s1 s2
  exact rfl

theorem enterFree_fallback (s : State) : enterFree true s = raise 480 (3 + 256 * fallbackCount s) (freed s) := by
  have hlt : fallbackCount s < 2 ^ 24 := by
    have h : s.get Reg.HOLDOVER_COUNT < 2 ^ 9 := get_lt s Reg.HOLDOVER_COUNT
    unfold fallbackCount
    split <;> omega
  rw [enterFree_eq, State.when_true, tbEvent, Nat.mod_eq_of_lt hlt]

theorem internalPeriod_put (s : State) (f : Field) (v : Nat) (h : f.apartB Reg.FREE_RATE = true) :
    internalPeriod (s.put f v) = internalPeriod s := by
  unfold internalPeriod
  rw [State.get_put_of_apartB s f _ v h]

theorem cleared_spec (s : State) :
    (cleared s).get Reg.STATE = 0 ∧ (cleared s).get Reg.HOLDOVER_COUNT = 0 ∧ (cleared s).clk = s.clk ∧
      internalPeriod (cleared s) = internalPeriod s := by
  unfold cleared
  refine ⟨?_, State.get_put_of_lt _ _ _ (by decide) (by decide), ?_, ?_⟩
  · rw [State.get_put_of_apartB _ _ _ _ (by decide), State.get_put_of_lt _ _ _ (by decide) (by decide)]
  · rw [State.put_clk, State.put_clk]
  · rw [internalPeriod_put _ _ _ (by decide), internalPeriod_put _ _ _ (by decide)]

theorem freed_spec (s : State) :
    (freed s).get Reg.STATE = 0 ∧ (freed s).get Reg.HOLDOVER_COUNT = 0 ∧ (freed s).clk = s.clk ∧ (freed s).tb.period = internalPeriod s ∧
      (freed s).tb.nextPeriod = internalPeriod s := by
  obtain ⟨hstate, hcount, hcclk, hfree⟩ := cleared_spec s
  obtain ⟨hperiod, hnext, hclk, hget⟩ := internalStep_spec (cleared s)
  unfold freed
  rw [forgetSource_get, forgetSource_get, forgetSource_clk, forgetSource_period, forgetSource_nextPeriod, hget _ (by decide) (by decide),
    hget _ (by decide) (by decide), hclk, hperiod, hnext]
  exact ⟨hstate, hcount, hcclk, hfree, hfree⟩

/-- A standby head takes over: its mastership, and no delay to a master any more (R61). -/
def tookOver (s : State) : State :=
  { s with tb := { s.tb with takeover := true, takeovers := (s.tb.takeovers + 1) % 128 } }.put Reg.MASTER_DELAY 0

theorem tookOver_spec (s : State) :
    (tookOver s).tb.takeover = true ∧ (tookOver s).tb.period = s.tb.period ∧ (tookOver s).clk = s.clk ∧
      (tookOver s).get Reg.STATE = s.get Reg.STATE := by
  unfold tookOver
  rw [State.put_tb, State.put_clk, State.get_put_of_apartB _ _ _ _ (by decide)]
  exact ⟨rfl, rfl, rfl, rfl⟩

theorem holdoverEnds_takeover (s : State) (h : takesOver s = true) :
    holdoverEnds s =
      let v := raise 480 (5 + 256 * (128 + (s.tb.takeovers + 1) % 128)) (tookOver s)
      if v.get Reg.SOURCE = 0 ∧ inputLive v = true then acquire .holdover v.tb.mean (v.put Reg.IN_PERIOD v.tb.lastPeriod)
      else enterFree true v := by
  have htag : masterTag { s with tb := { s.tb with takeover := true, takeovers := (s.tb.takeovers + 1) % 128 } } % 2 ^ 24 =
      128 + (s.tb.takeovers + 1) % 128 := by
    simp only [masterTag, if_true]; omega
  unfold holdoverEnds
  rw [if_pos h]
  simp only [tbEvent, htag, Bool.and_eq_true, decide_eq_true_eq]
  rfl

theorem holdoverLimit_reached (s : State) (htb : s.tbUp = true) (hg : s.clk.grain = 0) (hstate : s.get Reg.STATE = 3)
    (hlimit : s.get Reg.HOLDOVER_SPANS ≤ s.get Reg.HOLDOVER_COUNT) : exec .holdoverLimit s = .next (holdoverEnds s) := by
  show execHoldoverLimit s = _
  simp [execHoldoverLimit, hstate, hlimit, hg, htb, done]

/-- Settles O12: the limit by the state of FREE before its event, and the takeover by the state of the new master before its own. -/
theorem holdoverLimitFallsBackToFree : Obligations.HoldoverLimitFallsBackToFree := by
  intro s htb
  refine ⟨fun hg hstate hlimit hno => ⟨freed s, ?_, ?_⟩, fun hg hstate hlimit hyes => ?_, fun h => ?_⟩
  · rw [holdoverLimit_reached s htb hg hstate hlimit, holdoverEnds, if_neg (by rw [hno]; decide), enterFree_fallback, fallbackCount]
  · exact freed_spec s
  · obtain ⟨htake, hperiod, hclk, hst⟩ := tookOver_spec s
    refine ⟨tookOver s, htake, hperiod, hclk, hst.trans hstate, ?_⟩
    rw [holdoverLimit_reached s htb hg hstate hlimit, holdoverEnds_takeover s hyes]
  · show execHoldoverLimit s = _
    have hcond : (decide (s.get Reg.STATE = 3) && decide (s.get Reg.HOLDOVER_SPANS ≤ s.get Reg.HOLDOVER_COUNT) &&
        decide (s.clk.grain = 0) && s.tbUp) = false := by
      rcases h with h | h | h <;> simp [h]
    unfold execHoldoverLimit
    rw [hcond]
    rfl

end Sys2Proof.Machine
end

section
/-!
The frequency step at its grain (R40, R42), the forward jump (R48, R62, R67), and the marks that a tier loses (R54).
-/
namespace Sys2Proof.Machine

/-! ### FREQUENCY_STEP -/

theorem State.get_bump (s : State) (f : Field) (h : f.lo + f.w ≤ 32) : (s.bump f).get f = satAdd f.w (s.get f) 1 := by
  unfold State.bump State.bumpBy
  rw [State.get_put s f _ h]
  exact Nat.mod_eq_of_lt (by unfold satAdd; have := Nat.two_pow_pos f.w; omega)

theorem State.passTo_of_due (s : State) (g : Nat) (h : g ≤ s.abs ∨ g / 4096 = s.clk.span) :
    s.passTo g = some { s with clk := ⟨s.clk.span, if g ≤ s.abs then s.clk.grain else g % 4096⟩ } := by
  unfold State.passTo
  by_cases hle : g ≤ s.abs
  · rw [if_pos hle, if_pos hle]
  · rw [if_neg hle, if_neg hle, if_pos (h.resolve_left hle)]

theorem State.passTo_of_later (s : State) (g : Nat) (h : s.abs < g) (hspan : g / 4096 ≠ s.clk.span) : s.passTo g = none := by
  unfold State.passTo
  rw [if_neg (by omega), if_neg hspan]

theorem stepPeriod_mLog2 (p g : Nat) (s : State) : (stepPeriod p g s).get Reg.M_LOG2 = mLog2 p := by
  obtain ⟨-, -, -, hm, -⟩ := stepPeriod_spec p g s
  rw [hm, Nat.mod_eq_of_lt (by have := mLog2_lt p; omega)]

/-- A step whose grain has come is made in the state in which the grains up to it have passed. -/
theorem execFrequencyStep_due (s t : State) (g p : Nat) (hstep : s.tb.step = some (g, p)) (htb : s.tbUp = true)
    (hpass : s.passTo g = some t) :
    exec .frequencyStep s =
      let at_ := if g / 4096 = t.clk.span then g % 4096 else t.clk.grain
      let u := stepPeriod p at_ t
      .next (if s.tb.stepQuiet = true then u else raise 480 (9 + 256 * mLog2 p + 4096 * at_) u) := by
  show execFrequencyStep s = _
  simp only [execFrequencyStep, hstep, htb, hpass, stepPeriod_mLog2, done, Bool.not_true, Bool.false_eq_true, if_false]

theorem execFrequencyStep_later (s : State) (g p : Nat) (hstep : s.tb.step = some (g, p)) (hpass : s.passTo g = none) :
    exec .frequencyStep s = .next s := by
  show execFrequencyStep s = _
  simp only [execFrequencyStep, hstep, hpass, done, ite_self]

/-! ### SPAN_JUMP -/

/-- The tiers that counted the span with the base die take the higher number with it. -/
def tiersJump (n d : Nat) (links : List Nat) (s : State) : State :=
  s.each links fun k t => shiftSpans k d (t.setTl k { t.tl k with span := n, jumped := true })

theorem tiersJump_keeps (n d : Nat) (links : List Nat) (s : State) :
    (tiersJump n d links s).clk = s.clk ∧ (tiersJump n d links s).tb = s.tb ∧ (tiersJump n d links s).regs = s.regs :=
  State.each_keeps (fun t => t.clk = s.clk ∧ t.tb = s.tb ∧ t.regs = s.regs) links
    (fun k t => shiftSpans k d (t.setTl k { t.tl k with span := n, jumped := true })) (fun _ _ h => h) s ⟨rfl, rfl, rfl⟩

/-- The number of the base die as it jumps. -/
def baseJumps (n : Nat) (s : State) : State := { s with clk := ⟨n, 0⟩, tb := { s.tb with jumpTo := none, jumped := true } }

/-- The number as it jumps: that of the base die, then those of the tiers that are with it, and the stamp of the span. -/
def numberJumps (n : Nat) (s : State) : State :=
  takeMark (shiftBase (n - s.clk.span) (tiersJump n (n - s.clk.span)
    ((List.range 6).filter fun k => (baseJumps n s).linkUp k && ((baseJumps n s).tl k).span == s.clk.span) (baseJumps n s)))

theorem numberJumps_spec (n : Nat) (s : State) :
    (numberJumps n s).clk = ⟨n, 0⟩ ∧ (numberJumps n s).tb.jumped = true ∧ (numberJumps n s).tb.jumpTo = none ∧
      (numberJumps n s).get Reg.JUMP_COUNT = s.get Reg.JUMP_COUNT := by
  unfold numberJumps
  generalize (List.range 6).filter _ = links
  generalize n - s.clk.span = d
  obtain ⟨hclk, htb, hregs⟩ := tiersJump_keeps n d links (baseJumps n s)
  generalize tiersJump n d links (baseJumps n s) = t at hclk htb hregs
  refine ⟨hclk, ?_, ?_, ?_⟩
  · exact congrArg TimeBase.jumped htb
  · exact congrArg TimeBase.jumpTo htb
  · exact congrArg (fieldAt · Reg.JUMP_COUNT) hregs

theorem execSpanJump_ahead (s : State) (n g : Nat) (hjump : s.tb.jumpTo = some (n, g)) (htb : s.tbUp = true) (hgrain : s.clk.grain = 0)
    (hfrom : g ≤ s.clk.span) (hn : s.clk.span < n) :
    exec .spanJump s =
      let v := cancelUnqualified (cancelSkipped (s.clk.span - 1)
        (tbEvent 4 (min (n - s.clk.span) (2 ^ 24 - 1)) ((numberJumps n s).bump Reg.JUMP_COUNT)))
      .next (if spanWriteDue v = true then writeSpanMark v else v) := by
  have hcond : (!s.tbUp || s.clk.grain != 0 || decide (s.clk.span < g)) = false := by simp [htb, hgrain, hfrom]
  show execSpanJump s = _
  unfold execSpanJump
  simp only [hjump, hcond]
  rw [if_neg (by decide), if_neg (by omega)]
  rfl

theorem execSpanJump_dropped (s : State) (n g : Nat) (hjump : s.tb.jumpTo = some (n, g)) (htb : s.tbUp = true) (hgrain : s.clk.grain = 0)
    (hfrom : g ≤ s.clk.span) (hn : n ≤ s.clk.span) : exec .spanJump s = .next { s with tb := { s.tb with jumpTo := none } } := by
  have hcond : (!s.tbUp || s.clk.grain != 0 || decide (s.clk.span < g)) = false := by simp [htb, hgrain, hfrom]
  show execSpanJump s = _
  simp only [execSpanJump, hjump, hcond, if_pos hn, done, Bool.false_eq_true, if_false]

/-! ### TIER_MARK_TIMEOUT -/

theorem updateNotch_link (k : Nat) (s : State) : (updateNotch k s).link = s.link := by
  unfold updateNotch
  split
  extract_lets inRange en act s1 len s2
  have h2 : s2.link = s.link := by rw [State.put_link, State.putFlag_link, State.putFlag_link]
  have h3 : (s2.put (Reg.NOTCH_FILLING k) 0).link = s.link := (State.put_link _ _ _).trans h2
  rw [apply_ite State.link, h2, h3, ite_self]

theorem restartPrim_link (k at_ : Nat) (sinc notch post : Bool) (s : State) : (restartPrim k at_ sinc notch post s).link = s.link := by
  unfold restartPrim
  extract_lets p s1
  rw [apply_ite State.link, State.putFlag_link, ite_self]
  rfl

theorem pullTier_link (new k : Nat) (s : State) : (pullTier new k s).link = (s.setTl k { s.tl k with period := new }).link :=
  updateNotch_link k _

/-- A tier takes its period with a step or without. -/
theorem changeTier_link (new g k : Nat) (s : State) : (changeTier new g k s).link = (s.setTl k { s.tl k with period := new }).link := by
  unfold changeTier
  split
  · unfold stepTier restartAll
    extract_lets old s1
    rw [State.setPr_link, restartPrim_link, pullTier_link]
  · exact pullTier_link new k s

theorem tl_of_link {s t : State} (h : t.link = s.link) (k : Nat) : t.tl k = s.tl k := by
  unfold State.tl
  rw [h]

theorem tierInternal_spec (g k : Nat) (s : State) :
    (tierInternal g k s).tl k = { s.tl k with tstate := 0, tcount := 0, marks := 0, period := internalPeriod s } ∧
      (tierInternal g k s).clk = s.clk ∧ (tierInternal g k s).evt = s.evt := by
  have hkeeps := changeTier_periodKeeps (internalPeriod s) g k (s.setTl k { s.tl k with tstate := 0, tcount := 0, marks := 0 })
  refine ⟨?_, hkeeps.clk, hkeeps.evt⟩
  rw [tierInternal, tl_of_link (changeTier_link _ _ _ _), State.tl_setTl_same, State.tl_setTl_same]

theorem tierLoses_locked (k : Nat) (s : State) (h : (s.tl k).mstate = 2) :
    tierLoses k s = s.setTl k { s.tl k with tstate := 3, tcount := 0, marks := 0 } := by
  simp [tierLoses, h]

theorem tierLoses_holdover (k : Nat) (s : State) (h : (s.tl k).mstate = 3) :
    tierLoses k s = s.setTl k { s.tl k with tstate := 3, tcount := (s.tl k).mcount, marks := 0 } := by
  simp [tierLoses, h]

theorem tierLoses_free (k : Nat) (s : State) (h : (s.tl k).mstate < 2) : tierLoses k s = tierInternal s.clk.grain k s := by
  have h2 : (s.tl k).mstate ≠ 2 := by omega
  have h3 : (s.tl k).mstate ≠ 3 := by omega
  simp [tierLoses, h2, h3]

theorem execTierMarkTimeout_follows (k : Nat) (s : State) (hk : k ≤ 5) (h : (s.tl k).tstate = 1 ∨ (s.tl k).tstate = 2) :
    exec (.tierMarkTimeout k) s = .next (tierLoses k s) := by
  have h3 : (s.tl k).tstate ≠ 3 := by omega
  have h0 : (s.tl k).tstate ≠ 0 := by omega
  show execTierMarkTimeout k s = _
  simp [execTierMarkTimeout, h3, h0, hk, done]

theorem execTierMarkTimeout_alone (k : Nat) (s : State) (h : (s.tl k).tstate = 0 ∨ (s.tl k).tstate = 3) :
    exec (.tierMarkTimeout k) s = .next s := by
  show execTierMarkTimeout k s = _
  rcases h with h | h <;> simp [execTierMarkTimeout, h, done]

/-- Settles O14: the step and the jump by the state in which their event is raised, the lost marks by the three cases of `tierLoses`. -/
theorem stepsJumpsAndLostMarks : Obligations.StepsJumpsAndLostMarks := by
  refine ⟨fun s g p hstep htb => ⟨fun hdue => ?_, fun hlater hspan => ?_⟩, fun s n g hjump htb hgrain hfrom => ⟨fun hn => ?_, fun hn => ?_⟩,
    fun k s hk => ⟨fun hfollows => ⟨fun h => ?_, fun h => ?_, fun h => ?_⟩, execTierMarkTimeout_alone k s⟩⟩
  · have hpass := s.passTo_of_due g hdue
    set t : State := { s with clk := ⟨s.clk.span, if g ≤ s.abs then s.clk.grain else g % 4096⟩ } with ht
    have hat : (if g / 4096 = s.clk.span then g % 4096 else t.clk.grain) = if g / 4096 = s.clk.span then g % 4096 else s.clk.grain := by
      simp only [ht]
      split_ifs <;> omega
    obtain ⟨htbp, hclk, hevt, -, hget⟩ := stepPeriod_spec p (if g / 4096 = s.clk.span then g % 4096 else s.clk.grain) t
    refine ⟨stepPeriod p (if g / 4096 = s.clk.span then g % 4096 else s.clk.grain) t, ?_, ?_, ?_, ?_, stepPeriod_mLog2 p _ t, hclk, hevt,
      hget _ (by decide) (by decide)⟩
    · rw [execFrequencyStep_due s t g p hstep htb hpass]
      simp only [show t.clk.span = s.clk.span from rfl, hat]
    · rw [htbp]
    · rw [htbp]
    · rw [htbp]
  · exact execFrequencyStep_later s g p hstep (s.passTo_of_later g hlater hspan)
  · exact execSpanJump_dropped s n g hjump htb hgrain hfrom hn
  · obtain ⟨hclk, hjumped, hto, hcount⟩ := numberJumps_spec n s
    refine ⟨(numberJumps n s).bump Reg.JUMP_COUNT, execSpanJump_ahead s n g hjump htb hgrain hfrom hn, ?_, ?_, ?_, ?_⟩
    · exact hclk
    · exact hjumped
    · exact hto
    · rw [State.get_bump _ _ (by decide), satAdd, hcount]
  · rw [execTierMarkTimeout_follows k s hk hfollows, tierLoses_locked k s h]
  · rw [execTierMarkTimeout_follows k s hk hfollows, tierLoses_holdover k s h]
  · obtain ⟨htl, hclk, hevt⟩ := tierInternal_spec s.clk.grain k s
    refine ⟨_, execTierMarkTimeout_follows k s hk hfollows, ?_⟩
    rw [tierLoses_free k s h, htl]
    exact ⟨rfl, rfl, rfl, rfl, hclk, hevt⟩

end Sys2Proof.Machine
end

section
/-!
The frames and sets of the time base on a follower and on its master (R56, R57, R59, R62).
-/
namespace Sys2Proof.Machine

/-! ### Parameters and positions -/

theorem leNat_lt (l : List Byte) : leNat l < 256 ^ l.length := by
  induction l with
  | nil => decide
  | cons b l ih =>
    have hb : b.toNat < 256 := b.isLt
    rw [leNat, List.length_cons, Nat.pow_succ]
    omega

theorem par_lt (d : List Byte) (i k : Nat) : par d i k < 256 ^ k :=
  (leNat_lt _).trans_le (Nat.pow_le_pow_right (by decide) (List.length_take_le _ _))

theorem posOf_lt (s : State) (p : Nat) : posOf s p < 2 ^ 6 := by
  unfold posOf
  split
  · exact get_lt s Reg.POS_UPH
  · exact get_lt s Reg.POS_DNH

theorem posOf_put (s : State) (f : Field) (v p : Nat) (hu : f.apartB Reg.POS_UPH = true) (hd : f.apartB Reg.POS_DNH = true) :
    posOf (s.put f v) p = posOf s p := by
  unfold posOf
  rw [State.get_put_of_apartB s f _ v hu, State.get_put_of_apartB s f _ v hd]

/-! ### The direction in use (R59) -/

/-- What a direction brings: its port and its hop count. -/
def dirShown (p : Nat) (s : State) : State := (s.put Reg.MARK_DIR p).put Reg.HOPS_TO_MASTER (posOf s p)

/-- What a change of the direction brings besides: its delay. -/
def dirDelayShown (p : Nat) (s : State) : State :=
  ((dirShown p s).put Reg.MASTER_DELAY (kvGet (fun _ => 0) s.tb.dirDelay p - 1)).putFlag Reg.DELAY_VALID (kvGet (fun _ => 0) s.tb.dirDelay p != 0)

/-- The fields that belong to the direction in use. -/
def dirFields : List Field := [Reg.MARK_DIR, Reg.HOPS_TO_MASTER, Reg.MASTER_DELAY, Reg.DELAY_VALID]

theorem dirShown_spec (p : Nat) (hp : p ≤ 1) (s : State) :
    (dirShown p s).get Reg.MARK_DIR = p ∧ (dirShown p s).get Reg.HOPS_TO_MASTER = posOf s p := by
  unfold dirShown
  refine ⟨?_, State.get_put_of_lt _ _ _ (by decide) (posOf_lt s p)⟩
  rw [State.get_put_of_apartB _ _ _ _ (by decide), State.get_put_of_lt _ _ _ (by decide) (show p < 2 by omega)]

theorem dirShown_keeps (p : Nat) (s : State) :
    (dirShown p s).tb = s.tb ∧ (dirShown p s).clk = s.clk ∧ (dirShown p s).evt = s.evt ∧
      ∀ f, dirFields.all (·.apartB f) = true → (dirShown p s).get f = s.get f := by
  unfold dirShown
  rw [State.put_tb, State.put_tb, State.put_clk, State.put_clk, State.put_evt, State.put_evt]
  refine ⟨rfl, rfl, rfl, fun f hf => ?_⟩
  simp only [dirFields, List.all_cons, List.all_nil, Bool.and_true, Bool.and_eq_true] at hf
  obtain ⟨hdir, hhops, -, -⟩ := hf
  rw [State.get_put_of_apartB _ _ _ _ hhops, State.get_put_of_apartB _ _ _ _ hdir]

theorem dirDelayShown_get (p : Nat) (s : State) (f : Field) (hd : Reg.MASTER_DELAY.apartB f = true) (hv : Reg.DELAY_VALID.apartB f = true) :
    (dirDelayShown p s).get f = (dirShown p s).get f := by
  unfold dirDelayShown State.putFlag
  rw [State.get_put_of_apartB _ _ _ _ hv, State.get_put_of_apartB _ _ _ _ hd]

theorem dirDelayShown_tb (p : Nat) (s : State) : (dirDelayShown p s).tb = (dirShown p s).tb := by
  unfold dirDelayShown
  rw [State.putFlag_tb, State.put_tb]

theorem dirDelayShown_clk (p : Nat) (s : State) : (dirDelayShown p s).clk = (dirShown p s).clk := by
  unfold dirDelayShown
  rw [State.putFlag_clk, State.put_clk]

theorem delayCheck_raiseKeeps (ns : Nat) (s : State) : raiseKeeps s (delayCheck ns s) :=
  when_raiseKeeps s s _ _ (raiseKeeps_refl s) (tbEvent_raiseKeeps 6 (ns / 1000))

theorem useDir_same (p : Nat) (s : State) (h : p = s.get Reg.MARK_DIR) : useDir p s = dirShown p s := by
  unfold useDir dirShown
  exact if_pos h

theorem useDir_change (p : Nat) (s : State) (h : p ≠ s.get Reg.MARK_DIR) : raiseKeeps (dirDelayShown p s) (useDir p s) := by
  unfold useDir
  rw [if_neg h]
  exact when_raiseKeeps _ (dirDelayShown p s) _ _ (raiseKeeps_refl _) (delayCheck_raiseKeeps _)

/-- A direction taken shows itself; its delay may raise DELAY_RANGE where the direction changes, which leaves the clock and the time base. -/
theorem useDir_spec (p : Nat) (hp : p ≤ 1) (s : State) :
    (useDir p s).get Reg.MARK_DIR = p ∧ (useDir p s).get Reg.HOPS_TO_MASTER = posOf s p ∧ (useDir p s).tb = s.tb ∧
      (useDir p s).clk = s.clk ∧ ∀ f, f.a < 0x10000 → dirFields.all (·.apartB f) = true → (useDir p s).get f = s.get f := by
  obtain ⟨hdir, hhops⟩ := dirShown_spec p hp s
  obtain ⟨htb, hclk, -, hget⟩ := dirShown_keeps p s
  by_cases h : p = s.get Reg.MARK_DIR
  · rw [useDir_same p s h]
    exact ⟨hdir, hhops, htb, hclk, fun f _ hf => hget f hf⟩
  · have hkeeps := useDir_change p s h
    refine ⟨?_, ?_, (hkeeps.tb.trans (dirDelayShown_tb p s)).trans htb, (hkeeps.clk.trans (dirDelayShown_clk p s)).trans hclk,
      fun f ha hf => ?_⟩
    · rw [hkeeps.get _ (by decide), dirDelayShown_get p s _ (by decide) (by decide), hdir]
    · rw [hkeeps.get _ (by decide), dirDelayShown_get p s _ (by decide) (by decide), hhops]
    · have hall := hf
      simp only [dirFields, List.all_cons, List.all_nil, Bool.and_true, Bool.and_eq_true] at hall
      obtain ⟨-, -, hd, hv⟩ := hall
      rw [hkeeps.get f ha, dirDelayShown_get p s f hd hv, hget f hf]

theorem useDir_evt (p : Nat) (s : State) (h : p = s.get Reg.MARK_DIR) : (useDir p s).evt = s.evt := by
  rw [useDir_same p s h]
  exact (dirShown_keeps p s).2.2.1

theorem otherWay_of_dir (p : Nat) (s : State) (h : p = s.get Reg.MARK_DIR ∨ s.get Reg.INPUT_VALID = 0) : otherWay p s = false := by
  unfold otherWay
  rcases h with h | h
  · simp [h]
  · have hflag : s.flag Reg.INPUT_VALID = false := Bool.eq_false_iff.mpr fun hf => by
      rw [State.flag_iff_get, h] at hf
      exact absurd hf (by decide)
    rw [hflag, Bool.and_false]

/-! ### TIME_FRAME_RECEIVED -/

/-- The state `s` takes periods and steps from its source. -/
def followsSource (s : State) : Bool := s.get Reg.STATE = 1 || s.get Reg.STATE = 2

/-- The time frame shows a step that the module in `s` takes. -/
def takesStep (d : List Byte) (s : State) : Bool := bit (par d 6 2) 15 && followsSource s && differs01 s.tb.period (par d 8 4)

/-- What a time frame of the own span brings to the time base of `t`, which was that of `s` before. -/
def frameTaken (d : List Byte) (s t : State) : State :=
  { t with tb := { t.tb with frames := t.tb.frames + 1, tfPeriod := par d 8 4, ahead := false,
                             step := if takesStep d s then some (par d 0 6 * 4096 + par d 6 2 % 4096, par d 8 4) else t.tb.step,
                             stepQuiet := if takesStep d s then par d 13 1 % 4 == 0 else t.tb.stepQuiet,
                             nextPeriod := if followsSource s then par d 8 4 else t.tb.nextPeriod } }

/-- The words that a time frame brings. -/
def tagTaken (p tag : Nat) (s : State) : State := (useDir p (s.put Reg.MASTER_TAG tag)).put Reg.INPUT_VALID 1

theorem tagTaken_spec (p tag : Nat) (hp : p ≤ 1) (htag : tag < 256) (s : State) :
    (tagTaken p tag s).get Reg.MASTER_TAG = tag ∧ (tagTaken p tag s).get Reg.MARK_DIR = p ∧ (tagTaken p tag s).flag Reg.INPUT_VALID = true ∧
      (tagTaken p tag s).get Reg.HOPS_TO_MASTER = posOf s p ∧ (tagTaken p tag s).tb = s.tb ∧ (tagTaken p tag s).clk = s.clk ∧
      (tagTaken p tag s).get Reg.STATE = s.get Reg.STATE := by
  obtain ⟨hdir, hhops, htb, hclk, hget⟩ := useDir_spec p hp (s.put Reg.MASTER_TAG tag)
  unfold tagTaken
  refine ⟨?_, ?_, ?_, ?_, ?_, ?_, ?_⟩
  · rw [State.get_put_of_apartB _ _ _ _ (by decide), hget _ (by decide) (by decide), State.get_put_of_lt _ _ _ (by decide) htag]
  · rw [State.get_put_of_apartB _ _ _ _ (by decide), hdir]
  · rw [State.flag_iff_get, State.get_put_of_lt _ _ _ (by decide) (by decide)]
  · rw [State.get_put_of_apartB _ _ _ _ (by decide), hhops, posOf_put _ _ _ _ (by decide) (by decide)]
  · rw [State.put_tb, htb, State.put_tb]
  · rw [State.put_clk, hclk, State.put_clk]
  · rw [State.get_put_of_apartB _ _ _ _ (by decide), hget _ (by decide) (by decide), State.get_put_of_apartB _ _ _ _ (by decide)]

theorem tagTaken_evt (p tag : Nat) (s : State) (h : p = s.get Reg.MARK_DIR) : (tagTaken p tag s).evt = s.evt := by
  have h' : p = (s.put Reg.MASTER_TAG tag).get Reg.MARK_DIR := by rw [State.get_put_of_apartB _ _ _ _ (by decide), h]
  unfold tagTaken
  rw [State.put_evt, useDir_evt p _ h', State.put_evt]

theorem compareSpan_same (span tag : Nat) (s : State) (h : span = s.clk.span) :
    compareSpan span tag s = { s with tb := { s.tb with ahead := false } } := by
  unfold compareSpan
  rw [if_pos h]

theorem timeFrameIn_follows (p : Nat) (hp : p ≤ 1) (d : List Byte) (s : State) (hm : isMaster s = false) (ht : s.tb.takeover = false)
    (hdir : otherWay p s = false) (hspan : par d 0 6 = s.clk.span) :
    timeFrameIn p d s = frameTaken d s (tagTaken p (par d 12 1) s) := by
  obtain ⟨-, -, -, -, -, hclk, -⟩ := tagTaken_spec p (par d 12 1) hp (par_lt d 12 1) s
  have hs : par d 0 6 = (tagTaken p (par d 12 1) s).clk.span := by rw [hspan, hclk]
  unfold timeFrameIn
  extract_lets span step per tag _ s1 follows takes st quiet _ s2
  rw [if_neg (by rw [ht, Bool.false_and]; decide), if_neg (by rw [hm]; decide), if_neg (by rw [hdir]; decide)]
  exact compareSpan_same span tag s2 hs

theorem frameTaken_get (d : List Byte) (s t : State) (f : Field) : (frameTaken d s t).get f = t.get f := rfl
theorem frameTaken_flag (d : List Byte) (s t : State) (f : Field) : (frameTaken d s t).flag f = t.flag f := rfl
theorem frameTaken_clk (d : List Byte) (s t : State) : (frameTaken d s t).clk = t.clk := rfl
theorem frameTaken_evt (d : List Byte) (s t : State) : (frameTaken d s t).evt = t.evt := rfl

theorem frameTaken_tb (d : List Byte) (s t : State) (h : t.tb = s.tb) :
    (frameTaken d s t).tb.tfPeriod = par d 8 4 ∧ (frameTaken d s t).tb.frames = s.tb.frames + 1 ∧
      (frameTaken d s t).tb.period = s.tb.period ∧
      (frameTaken d s t).tb.nextPeriod = if s.get Reg.STATE = 1 ∨ s.get Reg.STATE = 2 then par d 8 4 else s.tb.nextPeriod := by
  rw [← h]
  refine ⟨rfl, rfl, rfl, ?_⟩
  show (if followsSource s = true then _ else _) = _
  simp only [followsSource, Bool.or_eq_true, decide_eq_true_eq]

theorem timeFrameReceived_follows (p : Nat) (d : List Byte) (s : State) (hready : s.ready = true) (hp : p ≤ 1) (hm : isMaster s = false)
    (ht : s.tb.takeover = false) (hdir : p = s.get Reg.MARK_DIR ∨ s.get Reg.INPUT_VALID = 0) (hspan : par d 0 6 = s.clk.span) :
    exec (.timeFrameReceived p d) s = .next (frameTaken d s (tagTaken p (par d 12 1) s)) := by
  show execTimeFrameReceived p d s = _
  rw [execTimeFrameReceived, if_pos hready, timeFrameIn_follows p hp d s hm ht (otherWay_of_dir p s hdir) hspan, done]

/-! ### DELAY_SET_RECEIVED and SPAN_REPORT_RECEIVED -/

/-- The words that the delay of the direction in use shows. -/
def delayShown (ns : Nat) (s : State) : State := (s.put Reg.MASTER_DELAY ns).put Reg.DELAY_VALID 1

/-- The delay of a direction is kept. -/
def delayKept (p ns : Nat) (s : State) : State :=
  { s with tb := { s.tb with dirDelay := kvSet (fun _ => 0) s.tb.dirDelay p (ns + 1) } }

theorem put_put_eq (s : State) (f g : Field) (v w : Nat) : (s.put f v).put g w = { s with regs := ((s.put f v).put g w).regs } := rfl

theorem delayShown_eq (ns : Nat) (s : State) : delayShown ns s = { s with regs := (delayShown ns s).regs } := put_put_eq s _ _ _ _

theorem delayShown_tb (ns : Nat) (s : State) : (delayShown ns s).tb = s.tb := by
  unfold delayShown
  rw [State.put_tb, State.put_tb]

theorem delayShown_spec (ns : Nat) (hns : ns < 2 ^ 18) (s : State) :
    (delayShown ns s).get Reg.MASTER_DELAY = ns ∧ (delayShown ns s).flag Reg.DELAY_VALID = true ∧
      (delayShown ns s).get Reg.MARK_LEAD = s.get Reg.MARK_LEAD := by
  unfold delayShown
  refine ⟨?_, ?_, ?_⟩
  · rw [State.get_put_of_apartB _ _ _ _ (by decide), State.get_put_of_lt _ _ _ (by decide) hns]
  · rw [State.flag_iff_get, State.get_put_of_lt _ _ _ (by decide) (by decide)]
  · rw [State.get_put_of_apartB _ _ _ _ (by decide), State.get_put_of_apartB _ _ _ _ (by decide)]

theorem delayKept_dirDelay (p ns : Nat) (s : State) : (delayKept p ns s).tb = { s.tb with dirDelay := (delayKept p ns s).tb.dirDelay } ∧
    kvGet (fun _ => 0) (delayKept p ns s).tb.dirDelay p = ns + 1 :=
  ⟨rfl, kvGet_kvSet_same _ s.tb.dirDelay p (ns + 1)⟩

/-- The delay that a follower takes changes the words that show it and what is kept of the directions, nothing else. -/
theorem delayTaken_eq (p ns : Nat) (s : State) :
    let t := delayShown ns (delayKept p ns s)
    t = { s with regs := t.regs, tb := { s.tb with dirDelay := t.tb.dirDelay } } := by
  intro t
  have hshown : t = { delayKept p ns s with regs := t.regs } := delayShown_eq ns _
  have htb : t.tb = (delayKept p ns s).tb := delayShown_tb ns _
  rw [htb]
  exact hshown

theorem delayCheck_within (ns : Nat) (s : State) (h : ns ≤ (s.get Reg.MARK_LEAD - 2) * 1000) : delayCheck ns s = s := by
  unfold delayCheck
  rw [decide_eq_false (by omega), State.when_false]

theorem delaySetReceived_dir (d : List Byte) (s : State) (hready : s.ready = true) (hm : isMaster s = false)
    (hdir : par d 4 1 % 2 = s.get Reg.MARK_DIR) (hns : par d 0 3 < 2 ^ 18) (hlead : par d 0 3 ≤ (s.get Reg.MARK_LEAD - 2) * 1000) :
    exec (.delaySetReceived d) s = .next (delayShown (par d 0 3) (delayKept (s.get Reg.MARK_DIR) (par d 0 3) s)) := by
  obtain ⟨-, -, hmarkLead⟩ := delayShown_spec _ hns (delayKept (s.get Reg.MARK_DIR) (par d 0 3) s)
  show execDelaySetReceived d s = _
  rw [execDelaySetReceived, if_pos hready, delaySetIn]
  simp only [hm, hdir, Nat.mod_eq_of_lt hns, bne_self_eq_false, Bool.false_eq_true, if_false]
  exact congrArg done (delayCheck_within _ (delayShown _ (delayKept _ _ s)) (by rw [hmarkLead]; exact hlead))

theorem spanReportReceived_first (d : List Byte) (s : State) (hready : s.ready = true) (hm : isMaster s = true) (hj : s.tb.jumpTo = none) :
    exec (.spanReportReceived d) s = .next { s with tb := { s.tb with
      jumpTo := some (par d 0 6 + 8, s.clk.span + if s.clk.grain = 0 then 2 else 3) } } := by
  show execSpanReportReceived d s = _
  simp only [execSpanReportReceived, spanReportIn, hready, hm, hj, if_true, done]

theorem spanReportReceived_further (d : List Byte) (s : State) (n g : Nat) (hready : s.ready = true) (hm : isMaster s = true)
    (hj : s.tb.jumpTo = some (n, g)) :
    exec (.spanReportReceived d) s = .next { s with tb := { s.tb with jumpTo := some (max n (par d 0 6 + 8), g) } } := by
  show execSpanReportReceived d s = _
  simp only [execSpanReportReceived, spanReportIn, hready, hm, hj, if_true, done]

/-! ### MARK_RECEIVED -/

/-- The two states differ in nothing but the chain. -/
def chainOnly (s t : State) : Prop := t = { s with chain := t.chain }

theorem relock_chainOnly (p : Nat) (s : State) : chainOnly s (relock p s) := by
  unfold relock
  split
  · exact rfl
  · exact rfl

theorem sendSet_chainOnly (p : Nat) (o : OSet) (s : State) : chainOnly s (sendSet p o s) := by
  unfold sendSet
  split
  · cases o <;> exact rfl
  · cases o <;> exact rfl
  · exact rfl

theorem chainOnly_trans {s t u : State} (h1 : chainOnly s t) (h2 : chainOnly t u) : chainOnly s u := by
  unfold chainOnly at *
  rw [h2, h1]

theorem chainOnly.tb {s t : State} (h : chainOnly s t) : t.tb = s.tb := by rw [h]
theorem chainOnly.clk {s t : State} (h : chainOnly s t) : t.clk = s.clk := by rw [h]
theorem chainOnly.evt {s t : State} (h : chainOnly s t) : t.evt = s.evt := by rw [h]
theorem chainOnly.get {s t : State} (h : chainOnly s t) (f : Field) : t.get f = s.get f := by rw [h]; rfl

/-- A mark of the direction in use is counted. -/
def markCounted (port : Nat) (s : State) : State :=
  let t := (useDir port s).put Reg.INPUT_VALID 1
  { t with tb := { t.tb with marks := t.tb.marks + 1, sinceEdge := if t.tb.marks = 0 then 0 else t.tb.sinceEdge } }

theorem markCounted_spec (port : Nat) (hp : port ≤ 1) (s : State) (hdir : port = s.get Reg.MARK_DIR) :
    (markCounted port s).flag Reg.INPUT_VALID = true ∧ (markCounted port s).get Reg.MARK_DIR = port ∧
      (markCounted port s).tb.marks = s.tb.marks + 1 ∧ (markCounted port s).get Reg.STATE = s.get Reg.STATE ∧
      (markCounted port s).clk = s.clk ∧ (markCounted port s).evt = s.evt := by
  obtain ⟨hmark, -, htb, hclk, hget⟩ := useDir_spec port hp s
  have hevt := useDir_evt port s hdir
  have hstate := hget Reg.STATE (by decide) (by decide)
  unfold markCounted
  generalize useDir port s = u at hmark htb hclk hevt hstate
  refine ⟨?_, ?_, ?_, ?_, hclk, hevt⟩
  · rw [State.flag_iff_get, get_with_tb, State.get_put_of_lt _ _ _ (by decide) (by decide)]
  · rw [get_with_tb, State.get_put_of_apartB _ _ _ _ (by decide), hmark]
  · rw [← htb]; rfl
  · rw [get_with_tb, State.get_put_of_apartB _ _ _ _ (by decide), hstate]

theorem acquire_clk (from_ : AcqFrom) (p : Nat) (s : State) : (acquire from_ p s).clk = s.clk := rfl
theorem acquire_evt (from_ : AcqFrom) (p : Nat) (s : State) : (acquire from_ p s).evt = s.evt := rfl
theorem acquire_marks (from_ : AcqFrom) (p : Nat) (s : State) : (acquire from_ p s).tb.marks = s.tb.marks := rfl

/-- In ACQUIRING a mark of the direction in use is counted, and may let the source qualify anew. -/
theorem markReceived_acquiring (port data : Nat) (phase : Int) (s : State) (hready : s.ready = true) (hm : isMaster s = false)
    (hdir : port = s.get Reg.MARK_DIR) (hstate : s.get Reg.STATE = 1) :
    let t := markCounted port (sendSet (1 - port) (.mark data) (relock port s))
    exec (.markReceived port data phase) s = .next t ∨ exec (.markReceived port data phase) s = .next (acquire t.tb.acqFrom t.tb.tfPeriod t) := by
  intro t
  have hother : otherWay port s = false := otherWay_of_dir port s (.inl hdir)
  have hexec : execMarkReceived port data phase s = if (decide (2 ≤ t.tb.marks) && decide (2 ≤ t.tb.frames) && t.flag Reg.DELAY_VALID) &&
      !t.tb.qualified then done (acquire t.tb.acqFrom t.tb.tfPeriod t) else done t := by
    unfold execMarkReceived
    simp only [hready, hm, hother, hstate, Bool.not_true, Bool.or_false, Bool.false_eq_true, if_false]
    rfl
  show execMarkReceived port data phase s = _ ∨ execMarkReceived port data phase s = _
  rw [hexec]
  split
  · exact .inr rfl
  · exact .inl rfl

/-! ### TIME_FRAME_SEND -/

theorem txAdd_time (p : Nat) (f : Frame) (s : State) (hlive : portLive s p = true) (htype : f.ftype = 4)
    (hroom : (s.pt p).txq.length < 32) : txAdd p f s = s.setPt p { s.pt p with txq := (s.pt p).txq ++ [f] } := by
  simp [txAdd, hlive, htype, hroom]

theorem portLive_of_portUp (s : State) (p : Nat) (h : portUp s p = true) : portLive s p = true := by
  unfold portUp at h
  unfold portLive
  rcases Bool.or_eq_true _ _ ▸ h with h | h <;> simp [beq_iff_eq.mp h]

theorem portsUp_single (s : State) (p : Nat) (hp : p ≤ 1) (h : ∀ q, q ≤ 1 → (portUp s q = true ↔ q = p)) :
    (List.range 2).filter (portUp s) = [p] := by
  have h0 := h 0 (by decide)
  have h1 := h 1 (by decide)
  obtain rfl | rfl : p = 0 ∨ p = 1 := by omega
  · simp [List.range_succ, h0, h1]
  · simp [List.range_succ, h0, h1]

/-- The state with the next `FH_SEQ` of a frame type taken. -/
def seqTaken (ftype : Nat) (s : State) : State :=
  { s with chain := { s.chain with
      txSeq := kvSet (fun _ => 0) s.chain.txSeq ftype ((kvGet (fun _ => 0) s.chain.txSeq ftype + 1) % 65536) } }

/-- A time frame with one port UP is queued on that port. -/
theorem castFrame_single (payload : List Byte) (s : State) (p : Nat) (hp : p ≤ 1) (hup : ∀ q, q ≤ 1 → (portUp s q = true ↔ q = p))
    (hroom : (s.pt p).txq.length < 32) :
    castFrame 4 0 payload s = (seqTaken 4 s).setPt p { s.pt p with
      txq := (s.pt p).txq ++ [routeAll s p (ownFrame s 4 (kvGet (fun _ => 0) s.chain.txSeq 4) 0 payload)] } := by
  have hports : (List.range 2).filter (portUp (seqTaken 4 s)) = [p] := portsUp_single s p hp hup
  have hlive : portLive (seqTaken 4 s) p = true := portLive_of_portUp s p ((hup p hp).mpr rfl)
  have hcast : castFrame 4 0 payload s = (seqTaken 4 s).each ((List.range 2).filter (portUp (seqTaken 4 s)))
      (fun p t => txAdd p (routeAll t p (ownFrame t 4 (kvGet (fun _ => 0) s.chain.txSeq 4) 0 payload)) t) := rfl
  rw [hcast, hports, State.each_cons, State.each_nil, txAdd_time p _ _ hlive rfl hroom]
  rfl

theorem timeFrameSend_due (s : State) (hready : s.ready = true) (hm : isMaster s = true) (hdue : frameDue s = true) :
    exec .timeFrameSend s = .next { castFrame 4 0 (timePayload s) s with
      tb := { (castFrame 4 0 (timePayload s) s).tb with frameAt := s.clk.span + 1, stepTold := (stepThisSpan s).isSome } } := by
  show execTimeFrameSend s = _
  simp only [execTimeFrameSend, hm, hready, hdue, Bool.and_self, if_true, done]

/-- Settles O16: what a follower takes by the state after its direction, what the master sends by its one port that is UP. -/
theorem timeFramesGuideTheFollower : Obligations.TimeFramesGuideTheFollower := by
  intro s hready
  refine ⟨fun port d hp hm htake hdir hspan => ?_, fun d hm hdir hns hlead => ?_, fun d hm => ⟨fun hj => ?_, fun n g hj => ?_⟩,
    fun port data phase hp hm hdir hstate => ?_, fun p hm hp hup hroom hdue => ?_, fun hm hdue => ?_⟩
  · obtain ⟨htag, hmark, hvalid, hhops, htb, hclk, hst⟩ := tagTaken_spec port (par d 12 1) hp (par_lt d 12 1) s
    obtain ⟨htf, hframes, hperiod, hnext⟩ := frameTaken_tb d s _ htb
    refine ⟨_, timeFrameReceived_follows port d s hready hp hm htake hdir hspan, ?_⟩
    rw [frameTaken_get, frameTaken_get, frameTaken_get, frameTaken_get, frameTaken_flag, frameTaken_clk, frameTaken_evt]
    exact ⟨htag, hmark, hvalid, hhops, htf, hframes, hclk, tagTaken_evt port _ s, hst, hperiod, hnext⟩
  · obtain ⟨hdelay, hvalid, -⟩ := delayShown_spec _ hns (delayKept (s.get Reg.MARK_DIR) (par d 0 3) s)
    refine ⟨_, delaySetReceived_dir d s hready hm hdir hns hlead, delayTaken_eq _ _ s, ?_, hdelay, hvalid⟩
    rw [delayShown_tb]
    exact (delayKept_dirDelay _ _ s).2
  · exact spanReportReceived_first d s hready hm hj
  · exact spanReportReceived_further d s n g hready hm hj
  · have hchain := chainOnly_trans (relock_chainOnly port s) (sendSet_chainOnly (1 - port) (.mark data) _)
    have hexec := markReceived_acquiring port data phase s hready hm hdir hstate
    generalize sendSet (1 - port) (.mark data) (relock port s) = s0 at hchain hexec
    obtain ⟨hvalid, hmark, hmarks, hst, hclk, hevt⟩ := markCounted_spec port hp s0 (hdir.trans (hchain.get _).symm)
    rw [hchain.tb] at hmarks
    rw [hchain.get, hstate] at hst
    rw [hchain.clk] at hclk
    rw [hchain.evt] at hevt
    rcases hexec with hexec | hexec
    · exact ⟨_, hexec, hvalid, hmark, hmarks, hst, hclk, hevt⟩
    · obtain ⟨-, -, -, -, -, hget⟩ := acquire_edgesKept (markCounted port s0).tb.acqFrom (markCounted port s0).tb.tfPeriod (markCounted port s0)
      refine ⟨_, hexec, (flag_of_get _ _ _ (hget _ (Field.apart_of_apartB _ _ (by decide)))).trans hvalid,
        (hget _ (Field.apart_of_apartB _ _ (by decide))).trans hmark, ?_, acquire_state _ _ _, ?_, ?_⟩
      · rw [acquire_marks, hmarks]
      · rw [acquire_clk, hclk]
      · rw [acquire_evt, hevt]
  · refine ⟨_, timeFrameSend_due s hready hm hdue, ?_⟩
    rw [castFrame_single (timePayload s) s p hp hup hroom]
    refine ⟨?_, rfl, rfl⟩
    exact congrArg Port.txq (State.pt_setPt_same (seqTaken 4 s) p _)
  · show execTimeFrameSend s = _
    simp only [execTimeFrameSend, hdue, Bool.and_false, Bool.false_eq_true, if_false, done]

end Sys2Proof.Machine
end

section
/-!
What leaves the clock and the links of the tiers: the effects of a part applied again (R388), of the sweeps at a mark (R222), of events and of
cancelled entries.
-/
namespace Sys2Proof.Machine

/-- The two states agree in the clock and in the links of the tiers. -/
def linkKeeps (s t : State) : Prop := t.clk = s.clk ∧ t.link = s.link

theorem linkKeeps_refl (s : State) : linkKeeps s s := ⟨rfl, rfl⟩

theorem linkKeeps.trans {s t u : State} (h1 : linkKeeps s t) (h2 : linkKeeps t u) : linkKeeps s u :=
  ⟨h2.1.trans h1.1, h2.2.trans h1.2⟩

theorem raiseKeeps.linkKeeps {s t : State} (h : raiseKeeps s t) : linkKeeps s t := ⟨h.clk, h.link⟩

/-- An update of any other part. -/
theorem record_linkKeeps {s t : State} {pending : List Instr} {regs : WordMap} {free : Nat} {evt : Events} {host : HostPort} {win : Windows}
    {tb : TimeBase} {chain : Chain} {pwr : Power} {ret : Retention} {tw : TwoWire} {start : Startup} {prim : KV TierPrim} {sec : KV TierSec}
    {temps : Temps} {cur : Cur} {exc : Exc} {fab : Fab} {bal : Bal} (h : linkKeeps s t) :
    linkKeeps s ⟨pending, t.clk, regs, free, evt, host, win, tb, chain, pwr, ret, tw, start, t.link, prim, sec, temps, cur, exc, fab, bal⟩ := h

theorem put_linkKeeps {s t : State} (f : Field) (v : Nat) (h : linkKeeps s t) : linkKeeps s (t.put f v) := record_linkKeeps h
theorem putFlag_linkKeeps {s t : State} (f : Field) (v : Bool) (h : linkKeeps s t) : linkKeeps s (t.putFlag f v) := put_linkKeeps f _ h
theorem putW_linkKeeps {s t : State} (a v : Nat) (h : linkKeeps s t) : linkKeeps s (t.putW a v) := record_linkKeeps h
theorem bump_linkKeeps {s t : State} (f : Field) (h : linkKeeps s t) : linkKeeps s (t.bump f) := put_linkKeeps f _ h
theorem bumpBy_linkKeeps {s t : State} (f : Field) (n : Nat) (h : linkKeeps s t) : linkKeeps s (t.bumpBy f n) := put_linkKeeps f _ h
theorem setPr_linkKeeps {s t : State} (k : Nat) (p : TierPrim) (h : linkKeeps s t) : linkKeeps s (t.setPr k p) := record_linkKeeps h
theorem setSq_linkKeeps {s t : State} (k : Nat) (q : TierSec) (h : linkKeeps s t) : linkKeeps s (t.setSq k q) := record_linkKeeps h
theorem setStrg_linkKeeps {s t : State} (k : Nat) (q : Strg) (h : linkKeeps s t) : linkKeeps s (t.setStrg k q) := record_linkKeeps h
theorem setPt_linkKeeps {s t : State} (p : Nat) (v : Port) (h : linkKeeps s t) : linkKeeps s (t.setPt p v) := record_linkKeeps h
theorem setCur_linkKeeps {s t : State} (f : Cur → Cur) (h : linkKeeps s t) : linkKeeps s (t.setCur f) := record_linkKeeps h
theorem setExc_linkKeeps {s t : State} (k : Nat) (e : Option ExcTier) (h : linkKeeps s t) : linkKeeps s (t.setExc k e) := record_linkKeeps h
theorem setChan_linkKeeps {s t : State} (n : Nat) (c : Chan) (h : linkKeeps s t) : linkKeeps s (t.setChan n c) := record_linkKeeps h

theorem ite_linkKeeps {c : Prop} [Decidable c] {s t u : State} (ht : linkKeeps s t) (hu : linkKeeps s u) :
    linkKeeps s (if c then t else u) := by
  split
  · exact ht
  · exact hu

theorem when_linkKeeps {s t : State} (b : Bool) {f : State → State} (h : linkKeeps s t) (hf : ∀ u, linkKeeps u (f u)) :
    linkKeeps s (t.when b f) := State.when_keeps _ t b f h fun h' => h'.trans (hf t)

theorem each_linkKeeps {s t : State} (l : List Nat) {f : Nat → State → State} (h : linkKeeps s t) (hf : ∀ k u, linkKeeps u (f k u)) :
    linkKeeps s (t.each l f) := State.each_keeps (linkKeeps s) l f (fun k u hu => hu.trans (hf k u)) t h

theorem foldl_linkKeeps {α : Type} {s : State} (l : List α) {f : State → α → State} (hf : ∀ u x, linkKeeps u (f u x)) :
    ∀ t, linkKeeps s t → linkKeeps s (l.foldl f t) := by
  induction l with
  | nil => exact fun _ h => h
  | cons x l ih => exact fun t h => ih _ (h.trans (hf t x))

theorem raise_linkKeeps {s t : State} (src value : Nat) (h : linkKeeps s t) : linkKeeps s (raise src value t) :=
  h.trans (raise_raiseKeeps src value t).linkKeeps

theorem tbEvent_linkKeeps {s t : State} (cause detail : Nat) (h : linkKeeps s t) : linkKeeps s (tbEvent cause detail t) :=
  raise_linkKeeps _ _ h

theorem complete_linkKeeps {s u : State} (t : Stamp) (op status : Nat) (m : Meta) (cause detail : Nat) (h : linkKeeps s u) :
    linkKeeps s (complete t op status m cause detail u) := h.trans (complete_raiseKeeps t op status m cause detail u).linkKeeps

/-! ### Sweeps and channels (R216, R222, R281) -/

theorem excite_linkKeeps (ch amp : Nat) (s : State) : linkKeeps s (excite ch amp s) :=
  record_linkKeeps (setChan_linkKeeps _ _ (put_linkKeeps _ _ (linkKeeps_refl s)))

theorem setWave_linkKeeps (ch b klo khi amp up : Nat) (s : State) : linkKeeps s (setWave ch b klo khi amp up s) :=
  record_linkKeeps (linkKeeps_refl s)

theorem nextCell_linkKeeps (k up : Nat) (e : ExcTier) (s0 : State) : linkKeeps s0 (nextCell k up e s0) := by
  have h : linkKeeps s0 (s0.bumpBy Reg.EXC_CUT (e.cells.takeWhile (exciteBlocked s0)).length) := bumpBy_linkKeeps _ _ (linkKeeps_refl s0)
  unfold nextCell
  generalize s0.bumpBy Reg.EXC_CUT (e.cells.takeWhile (exciteBlocked s0)).length = s at h
  dsimp only
  split
  · exact setExc_linkKeeps _ _ (put_linkKeeps _ _ h)
  · refine setExc_linkKeeps _ _ (put_linkKeeps _ _ ?_)
    split
    · exact h.trans (excite_linkKeeps _ _ s)
    · exact (h.trans (excite_linkKeeps _ _ s)).trans (setWave_linkKeeps _ _ _ _ _ _ _)

theorem tierDone_linkKeeps (k : Nat) (s : State) : linkKeeps s (tierDone k s) := by
  unfold tierDone
  split
  · exact linkKeeps_refl s
  · refine ite_linkKeeps ((setExc_linkKeeps k none (linkKeeps_refl s)).trans ?_) (linkKeeps_refl s)
    unfold sweepDone
    exact ite_linkKeeps (endSweep_raiseKeeps _ _ _).linkKeeps (linkKeeps_refl _)

theorem cutCell_linkKeeps (k : Nat) (s : State) : linkKeeps s (cutCell k s) := by
  unfold cutCell
  split
  · exact linkKeeps_refl s
  · refine ite_linkKeeps (linkKeeps_refl s) ?_
    exact (bump_linkKeeps Reg.EXC_CUT (linkKeeps_refl s)).trans ((nextCell_linkKeeps _ _ _ _).trans (tierDone_linkKeeps k _))

theorem orderStop_linkKeeps (n after : Nat) (s : State) : linkKeeps s (orderStop n after s) := by
  unfold orderStop
  extract_lets c s0 a _ s1 _
  have h0 : linkKeeps s s0 := by
    simp only [s0]
    split
    · exact raise_linkKeeps _ _ (bump_linkKeeps _ (linkKeeps_refl s))
    · exact linkKeeps_refl s
  have h1 : linkKeeps s s1 := setChan_linkKeeps _ _ (put_linkKeeps _ _ h0)
  exact ite_linkKeeps ((record_linkKeeps (record_linkKeeps h1)).trans (cutCell_linkKeeps _ _)) h1

theorem stopDisabled_linkKeeps (off : List Nat) (s : State) : linkKeeps s (stopDisabled off s) :=
  foldl_linkKeeps _ (fun t n => ite_linkKeeps (orderStop_linkKeeps n 0 t) (linkKeeps_refl t)) s (linkKeeps_refl s)

theorem endPeriod_linkKeeps (k : Nat) (s : State) : linkKeeps s (endPeriod k s) := by
  unfold endPeriod
  split
  · exact linkKeeps_refl s
  · split
    · exact linkKeeps_refl s
    · refine ite_linkKeeps (linkKeeps_refl s) ?_
      dsimp only
      refine ite_linkKeeps ?_ (setExc_linkKeeps _ _ (linkKeeps_refl s))
      split
      · exact setExc_linkKeeps _ _ ((unexcite_raiseKeeps _ s).linkKeeps.trans (nextCell_linkKeeps _ _ _ _))
      · exact (unexcite_raiseKeeps _ s).linkKeeps.trans (nextCell_linkKeeps _ _ _ _)

theorem excGuard_linkKeeps (s : State) : linkKeeps s (excGuard s) := by
  unfold excGuard
  refine ite_linkKeeps (put_linkKeeps _ _ (foldl_linkKeeps _ (fun t k => ?_) s (linkKeeps_refl s))) (linkKeeps_refl s)
  split
  · exact linkKeeps_refl t
  · dsimp only
    split
    · exact endPeriod_linkKeeps k t
    · exact setExc_linkKeeps _ _ ((endPeriod_linkKeeps k t).trans (unexcite_raiseKeeps _ _).linkKeeps)

/-! ### The effects of a part (R80, R111, R122, R388) -/

theorem seqRestart_linkKeeps (k : Nat) (s : State) : linkKeeps s (seqRestart k s) :=
  put_linkKeeps _ _ (put_linkKeeps _ _ (putFlag_linkKeeps _ _ (put_linkKeeps _ _ (setSq_linkKeeps k _ (linkKeeps_refl s)))))

theorem updateNotch_linkKeeps (k : Nat) (s : State) : linkKeeps s (updateNotch k s) :=
  ⟨(updateNotch_periodKeeps k s).clk, updateNotch_link k s⟩

theorem orderMove_linkKeeps (k i : Nat) (cell : Option Nat) (use : Nat) (s : State) : linkKeeps s (orderMove k i cell use s) :=
  setPr_linkKeeps _ _ (linkKeeps_refl s)

theorem endAudit_linkKeeps (k : Nat) (s : State) : linkKeeps s (endAudit k s) :=
  each_linkKeeps _ (setPr_linkKeeps k _ (linkKeeps_refl s)) fun _ u => ite_linkKeeps (put_linkKeeps _ _ (linkKeeps_refl u)) (linkKeeps_refl u)

theorem takeSpare_linkKeeps (k i c : Nat) (s : State) : linkKeeps s (takeSpare k i c s) :=
  (ite_linkKeeps (endAudit_linkKeeps k s) (linkKeeps_refl s)).trans (orderMove_linkKeeps _ _ _ _ _)

theorem dropDwell_linkKeeps (k c : Nat) (s : State) : linkKeeps s (dropDwell k c s) := by
  unfold dropDwell
  split
  · exact ite_linkKeeps (endAudit_linkKeeps k s) (linkKeeps_refl s)
  · exact linkKeeps_refl s

theorem spareForce_linkKeeps (k : Nat) (s : State) : linkKeeps s (spareForce k s) := by
  refine put_linkKeeps _ _ (put_linkKeeps _ _ (ite_linkKeeps ?_ (ite_linkKeeps ?_ (linkKeeps_refl s))))
  · split
    · exact (dropDwell_linkKeeps k _ s).trans (takeSpare_linkKeeps _ _ _ _)
    · exact linkKeeps_refl s
  · split
    · exact orderMove_linkKeeps _ _ _ _ s
    · exact linkKeeps_refl s

theorem primCommit_linkKeeps (k : Nat) (sinc notch post : Bool) (newCells : List Nat) (s : State) :
    linkKeeps s (primCommit k sinc notch post newCells s) := by
  unfold primCommit
  extract_lets s1 s2 s3
  have h1 : linkKeeps s s1 := (applyEffN_raiseKeeps k s).linkKeeps
  have h2 : linkKeeps s s2 := ite_linkKeeps (h1.trans (updateNotch_linkKeeps k s1)) h1
  have h3 : linkKeeps s s3 := ite_linkKeeps (h2.trans (restartPrim_raiseKeeps _ _ _ _ _ s2).linkKeeps) h2
  exact each_linkKeeps _ h3 fun c u => setPr_linkKeeps _ _ (setPr_linkKeeps _ _ (linkKeeps_refl u))

theorem hallTable_linkKeeps (s : State) : linkKeeps s (hallTable s) := ite_linkKeeps (linkKeeps_refl s) (setCur_linkKeeps _ (linkKeeps_refl s))

theorem endRuns_linkKeeps (k : Nat) (s : State) : linkKeeps s (endRuns k s) :=
  each_linkKeeps _ (linkKeeps_refl s) fun _ u =>
    put_linkKeeps _ _ (put_linkKeeps _ _ (putFlag_linkKeeps _ _ (putFlag_linkKeeps _ _ (setSq_linkKeeps k _ (linkKeeps_refl u)))))

theorem freeSpares_linkKeeps (k : Nat) (s : State) : linkKeeps s (freeSpares k s) :=
  each_linkKeeps _ (linkKeeps_refl s) fun _ u => orderMove_linkKeeps _ _ _ _ u

theorem stringOff_linkKeeps (k j : Nat) (s : State) : linkKeeps s (stringOff k j s) := put_linkKeeps _ _ (setStrg_linkKeeps _ _ (linkKeeps_refl s))

theorem tierEffects_linkKeeps (old : WordMap) (k : Nat) (s : State) : linkKeeps s (tierEffects old k s) := by
  unfold tierEffects
  extract_lets ch was on s1 s2 s3 s4 s5 off _ _ s6
  have h1 : linkKeeps s s1 := primCommit_linkKeeps _ _ _ _ _ s
  have h2 : linkKeeps s s2 := when_linkKeeps _ h1 (spareForce_linkKeeps k)
  have h3 : linkKeeps s s3 := when_linkKeeps _ h2 fun u => when_linkKeeps _ (seqRestart_linkKeeps k u) hallTable_linkKeeps
  have h4 : linkKeeps s s4 := when_linkKeeps _ h3 (endRuns_linkKeeps k)
  have h5 : linkKeeps s s5 := each_linkKeeps _ h4 (stringOff_linkKeeps k)
  have h6 : linkKeeps s s6 := ite_linkKeeps h5
    (((h5.trans (freeSpares_linkKeeps k s5)).trans (record_linkKeeps (linkKeeps_refl _))).trans (stopDisabled_linkKeeps off _))
  exact ite_linkKeeps (record_linkKeeps h6) h6

theorem accCommit_linkKeeps (s : State) : linkKeeps s (accCommit s) := by
  unfold accCommit
  extract_lets preset s1 s2
  have h1 : linkKeeps s s1 := ite_linkKeeps (put_linkKeeps _ _ (setCur_linkKeeps _ (linkKeeps_refl s))) (linkKeeps_refl s)
  have h2 : linkKeeps s s2 := ite_linkKeeps (put_linkKeeps _ _ (put_linkKeeps _ _ (setCur_linkKeeps _ h1))) h1
  exact put_linkKeeps _ _ (put_linkKeeps _ _ h2)

theorem currentEffects_linkKeeps (old : WordMap) (s : State) : linkKeeps s (currentEffects old s) :=
  when_linkKeeps _ (when_linkKeeps _ (linkKeeps_refl s) fun u => setCur_linkKeeps _ (put_linkKeeps _ _ (linkKeeps_refl u))) accCommit_linkKeeps

theorem cbJudge_linkKeeps (s : State) : linkKeeps s (cbJudge s) := by
  unfold cbJudge
  split
  · exact put_linkKeeps _ _ (linkKeeps_refl s)
  · exact ite_linkKeeps (linkKeeps_refl s) (raise_linkKeeps _ _ (put_linkKeeps _ _ (linkKeeps_refl s)))
  · exact linkKeeps_refl s

/-! ### The rest of a mark (R173, R286, R320, R378, R441) -/

theorem cbAtMark_linkKeeps (s : State) : linkKeeps s (cbAtMark s) := by
  unfold cbAtMark
  extract_lets t p got due now
  have h : linkKeeps s t := cbJudge_linkKeeps s
  exact ite_linkKeeps h (setCur_linkKeeps _ (bumpBy_linkKeeps _ _ h))

theorem showRails_linkKeeps (vcore vio aux : Nat) (s : State) : linkKeeps s (showRails vcore vio aux s) :=
  put_linkKeeps _ _ (put_linkKeeps _ _ (put_linkKeeps _ _ (linkKeeps_refl s)))

theorem baseTemps_linkKeeps (t : List Int) (s : State) : linkKeeps s (baseTemps t s) := by
  unfold baseTemps
  extract_lets s1
  have h1 : linkKeeps s s1 := each_linkKeeps _ (record_linkKeeps (linkKeeps_refl s)) fun i u => by
    split
    · exact record_linkKeeps (linkKeeps_refl u)
    · exact linkKeeps_refl u
  split
  · exact h1
  · exact ite_linkKeeps (ite_linkKeeps (raise_linkKeeps _ _ (record_linkKeeps h1)) h1)
      (ite_linkKeeps (raise_linkKeeps _ _ (record_linkKeeps h1)) h1)

theorem noteCalTemp_linkKeeps (s : State) : linkKeeps s (noteCalTemp s) :=
  each_linkKeeps _ (linkKeeps_refl s) fun _ u => ite_linkKeeps (setPt_linkKeeps _ _ (linkKeeps_refl u)) (linkKeeps_refl u)

theorem cancelEntry_linkKeeps (e : Entry) (s : State) : linkKeeps s (cancelEntry e s) := by
  unfold cancelEntry
  extract_lets s1 s2
  have h1 : linkKeeps s s1 := record_linkKeeps (linkKeeps_refl s)
  exact complete_linkKeeps _ _ _ _ _ _ (ite_linkKeeps (record_linkKeeps h1) h1)

theorem cancelWhere_linkKeeps (p : Entry → Bool) (s : State) : linkKeeps s (cancelWhere p s) :=
  foldl_linkKeeps _ (fun t e => cancelEntry_linkKeeps e t) s (linkKeeps_refl s)

theorem cancelUnqualified_linkKeeps (s : State) : linkKeeps s (cancelUnqualified s) :=
  ite_linkKeeps (linkKeeps_refl s) (cancelWhere_linkKeeps _ s)

end Sys2Proof.Machine
end

section
/-!
The span mark (R43, R48, R54): the count of the tiers, and the time base of a master at a mark (R41 to R45).
-/
namespace Sys2Proof.Machine

/-! ### The clock and the tiers' counts -/

/-- The two states agree in the clock and in the span numbers of the tiers. -/
def spansKeep (s t : State) : Prop := t.clk = s.clk ∧ ∀ k, (t.tl k).span = (s.tl k).span

theorem spansKeep_refl (s : State) : spansKeep s s := ⟨rfl, fun _ => rfl⟩

theorem spansKeep.trans {s t u : State} (h1 : spansKeep s t) (h2 : spansKeep t u) : spansKeep s u :=
  ⟨h2.1.trans h1.1, fun k => (h2.2 k).trans (h1.2 k)⟩

theorem linkKeeps.spansKeep {s t : State} (h : linkKeeps s t) : spansKeep s t := ⟨h.1, fun k => by rw [tl_of_link h.2 k]⟩

theorem periodKeeps.spansKeep {s t : State} (h : periodKeeps s t) : spansKeep s t :=
  ⟨h.clk, fun k => by
    obtain ⟨p, hp⟩ := h.2.2 k
    rw [hp]⟩

/-- A tier's link changes, but not its span number. -/
theorem setTl_spansKeep {s : State} (k : Nat) (l : TierLink) (h : l.span = (s.tl k).span) : spansKeep s (s.setTl k l) := by
  refine ⟨rfl, fun j => ?_⟩
  rw [State.tl_setTl]
  split
  · next hj => rw [h, hj]
  · rfl

theorem ite_spansKeep {c : Prop} [Decidable c] {s t u : State} (ht : spansKeep s t) (hu : spansKeep s u) :
    spansKeep s (if c then t else u) := by
  split
  · exact ht
  · exact hu

theorem when_spansKeep {s t : State} (b : Bool) {f : State → State} (h : spansKeep s t) (hf : ∀ u, spansKeep u (f u)) :
    spansKeep s (t.when b f) := State.when_keeps _ t b f h fun h' => h'.trans (hf t)

theorem each_spansKeep {s t : State} (l : List Nat) {f : Nat → State → State} (h : spansKeep s t) (hf : ∀ k u, spansKeep u (f k u)) :
    spansKeep s (t.each l f) := State.each_keeps (spansKeep s) l f (fun k u hu => hu.trans (hf k u)) t h

/-! ### Unit 0 (R388) -/

theorem partMismatch_linkKeeps (p : Nat) (told : Bool) (s : State) : linkKeeps s (partMismatch p told s) := by
  unfold partMismatch
  extract_lets s1
  have h1 : linkKeeps s s1 := put_linkKeeps _ _ (linkKeeps_refl s)
  exact ite_linkKeeps h1 (raise_linkKeeps _ _ h1)

theorem checkBase_linkKeeps (s : State) : linkKeeps s (checkBase s) :=
  record_linkKeeps (ite_linkKeeps (partMismatch_linkKeeps 0 _ s) (linkKeeps_refl s))

theorem redeliver_spansKeep (k : Nat) (s : State) : spansKeep s (redeliver k s) := by
  unfold redeliver
  extract_lets ws s1 _ s2 s3
  have h1 : linkKeeps s s1 := foldl_linkKeeps _ (fun t e => by
    split
    · exact putW_linkKeeps _ _ (linkKeeps_refl t)
    · exact linkKeeps_refl t) s (linkKeeps_refl s)
  have h2 : spansKeep s s2 := h1.spansKeep.trans (setTl_spansKeep k _ (by rfl))
  have h3 : linkKeeps s2 s3 := tierEffects_linkKeeps s.regs k s2
  have h4 : linkKeeps s2 (if k = 0 then currentEffects s.regs s3 else s3) := ite_linkKeeps (h3.trans (currentEffects_linkKeeps _ s3)) h3
  exact h2.trans (h4.trans (cbJudge_linkKeeps _)).spansKeep

/-- A part that has been delivered again is applied before the check. -/
def applyAgain (k : Nat) (s : State) : State := if (s.tl k).partDiff && !(s.tl k).held.isEmpty then redeliver k s else s

/-- The CRC of the part of tier `k` is shown. -/
def showPart (k : Nat) (s : State) : State := s.put (Reg.PART_NOW (1 + k)) (partCrc s (1 + k))

/-- The part of tier `k` differs from what is expected. -/
def partBad (k : Nat) (s : State) : Bool := s.get (Reg.PART_NOW (1 + k)) != s.get (Reg.PART_EXPECT (1 + k))

/-- The tier remembers whether its part differs. -/
def notePartDiff (k : Nat) (bad : Bool) (s : State) : State := s.setTl k { s.tl k with partDiff := bad }

/-- A part that differs is told, once. -/
def tellPart (k : Nat) (told : Bool) (s : State) : State :=
  notePartDiff k (partBad k s) (if partBad k s then partMismatch (1 + k) told s else s)

/-- The check of a tier in its steps: stated by name, so that comparing them evaluates no CRC. -/
theorem checkTier_eq (k : Nat) (s : State) : checkTier k s = tellPart k (s.tl k).partDiff (showPart k (applyAgain k s)) := rfl

theorem notePartDiff_spansKeep (k : Nat) (bad : Bool) (s : State) : spansKeep s (notePartDiff k bad s) := setTl_spansKeep k _ (by rfl)

theorem checkTier_spansKeep (k : Nat) (s : State) : spansKeep s (checkTier k s) := by
  rw [checkTier_eq]
  have happly : spansKeep s (applyAgain k s) := ite_spansKeep (redeliver_spansKeep k s) (spansKeep_refl s)
  have hshow : linkKeeps (applyAgain k s) (showPart k (applyAgain k s)) := put_linkKeeps _ _ (linkKeeps_refl _)
  generalize showPart k (applyAgain k s) = t at hshow
  have htell : linkKeeps t (if partBad k t then partMismatch (1 + k) (s.tl k).partDiff t else t) :=
    ite_linkKeeps (partMismatch_linkKeeps _ _ t) (linkKeeps_refl t)
  exact (happly.trans (hshow.trans htell).spansKeep).trans (notePartDiff_spansKeep k _ _)

theorem unitZero_spansKeep (s : State) : spansKeep s (unitZero s) := by
  unfold unitZero
  refine ite_spansKeep (spansKeep_refl s) ?_
  extract_lets s1 s2 s3
  have h1 : linkKeeps s s1 := (put_linkKeeps _ _ (linkKeeps_refl s)).trans (checkBase_linkKeeps _)
  have h2 : spansKeep s s2 := each_spansKeep _ h1.spansKeep checkTier_spansKeep
  have h3 : spansKeep s s3 := h2.trans (put_linkKeeps _ _ (linkKeeps_refl s2)).spansKeep
  exact when_spansKeep _ h3 fun u => (bump_linkKeeps _ (linkKeeps_refl u)).spansKeep

/-! ### The time base at a mark (R41 to R46) -/

theorem internalStep_spansKeep (s : State) : spansKeep s (internalStep s) := by
  unfold internalStep stepPeriod
  extract_lets p s1 _ s2 s3 mark _ _ t
  have h2 : linkKeeps s s2 := record_linkKeeps (put_linkKeeps _ _ (linkKeeps_refl s))
  have h3 : spansKeep s s3 := each_spansKeep _ h2.spansKeep fun k u => (stepTier_periodKeeps _ _ k u).spansKeep
  exact ite_spansKeep (h3.trans (record_linkKeeps (linkKeeps_refl s3)).spansKeep) (record_linkKeeps (linkKeeps_refl s)).spansKeep

theorem enterFree_spansKeep (fallback : Bool) (s : State) : spansKeep s (enterFree fallback s) := by
  rw [enterFree_eq]
  have h : spansKeep s (freed s) :=
    ((put_linkKeeps _ _ (put_linkKeeps _ _ (linkKeeps_refl s))).spansKeep.trans (internalStep_spansKeep _)).trans
      (record_linkKeeps (linkKeeps_refl _)).spansKeep
  exact when_spansKeep _ h fun u => (tbEvent_linkKeeps _ _ (linkKeeps_refl u)).spansKeep

theorem acquire_linkKeeps (from_ : AcqFrom) (p : Nat) (s : State) : linkKeeps s (acquire from_ p s) :=
  record_linkKeeps (put_linkKeeps _ _ (linkKeeps_refl s))

theorem holdoverEnds_spansKeep (s : State) : spansKeep s (holdoverEnds s) := by
  unfold holdoverEnds
  extract_lets _ s1 s2
  have h2 : linkKeeps s s2 := tbEvent_linkKeeps _ _ (put_linkKeeps _ _ (record_linkKeeps (linkKeeps_refl s)))
  exact ite_spansKeep (ite_spansKeep ((put_linkKeeps _ _ h2).trans (acquire_linkKeeps _ _ _)).spansKeep
    (h2.spansKeep.trans (enterFree_spansKeep true s2))) (enterFree_spansKeep true s)

theorem enterHoldover_spansKeep (cond count : Nat) (s : State) : spansKeep s (enterHoldover cond count s) := by
  unfold enterHoldover
  extract_lets s1 _ s2 s3
  have h1 : linkKeeps s s1 := put_linkKeeps _ _ (bump_linkKeeps _ (put_linkKeeps _ _ (linkKeeps_refl s)))
  have h2 : linkKeeps s s2 := record_linkKeeps h1
  have h3 : linkKeeps s s3 := tbEvent_linkKeeps _ _ (when_linkKeeps _ h2 fun u => record_linkKeeps (linkKeeps_refl u))
  exact when_spansKeep _ h3.spansKeep holdoverEnds_spansKeep

theorem acquisitionFails_spansKeep (s : State) : spansKeep s (acquisitionFails s) := by
  unfold acquisitionFails
  extract_lets count
  split
  · exact (record_linkKeeps (linkKeeps_refl s)).spansKeep.trans (enterFree_spansKeep false _)
  · exact enterHoldover_spansKeep _ _ s

theorem setPeriod_linkKeeps (p next : Nat) (s : State) : linkKeeps s (setPeriod p next s) := record_linkKeeps (linkKeeps_refl s)

theorem useDir_linkKeeps (p : Nat) (s : State) : linkKeeps s (useDir p s) := by
  unfold useDir
  extract_lets d s1
  have h1 : linkKeeps s s1 := put_linkKeeps _ _ (put_linkKeeps _ _ (linkKeeps_refl s))
  exact ite_linkKeeps h1 (when_linkKeeps _ (putFlag_linkKeeps _ _ (put_linkKeeps _ _ h1)) fun u => (delayCheck_raiseKeeps _ u).linkKeeps)

/-- The spans since the last edge and the last prescaled period count the span that ends. -/
def countSince (s : State) : State :=
  { s with tb := { s.tb with sinceEdge := s.tb.sinceEdge + 1, sincePre := s.tb.sincePre + 1 } }

/-- A follower's direction changes at the mark where that is due. -/
def markStart (s : State) : State := if s.tb.dirDue then switchDir (countSince s) else countSince s

theorem markStart_linkKeeps (s : State) : linkKeeps s (markStart s) := by
  have h : linkKeeps s (countSince s) := record_linkKeeps (linkKeeps_refl s)
  exact ite_linkKeeps ((record_linkKeeps h).trans (useDir_linkKeeps _ _)) h

theorem switchDir_spec (s : State) :
    (switchDir s).tb.period = s.tb.period ∧ (switchDir s).tb.sinceEdge = s.tb.sinceEdge ∧
      ∀ f, f.a < 0x10000 → dirFields.all (·.apartB f) = true → (switchDir s).get f = s.get f := by
  obtain ⟨-, -, htb, -, hget⟩ := useDir_spec (1 - s.get Reg.MARK_DIR) (by omega)
    { s with tb := { s.tb with dirDue := false, otherDir := s.tb.dirFailed.isNone } }
  unfold switchDir
  rw [htb]
  exact ⟨rfl, rfl, fun f ha hf => hget f ha hf⟩

theorem markStart_spec (s : State) :
    (markStart s).tb.period = s.tb.period ∧ (markStart s).tb.sinceEdge = s.tb.sinceEdge + 1 ∧
      ∀ f, f.a < 0x10000 → dirFields.all (·.apartB f) = true → (markStart s).get f = s.get f := by
  unfold markStart
  split
  · exact switchDir_spec (countSince s)
  · exact ⟨rfl, rfl, fun _ _ _ => rfl⟩

/-- What a mark does in LOCKED. -/
theorem tbAtMark_locked (phase : Int) (s : State) (h : s.get Reg.STATE = 2) :
    tbAtMark phase s = if s.tb.loss != 0 then enterHoldover s.tb.loss 0 (markStart s)
      else if sourcePeriod s = 0 || s.tb.step.isSome then markStart s
      else if isMaster s then
        setPeriod (tracked s.tb.period (sourcePeriod s) phase) (tracked (tracked s.tb.period (sourcePeriod s) phase) (sourcePeriod s)
          (leftOver (tracked s.tb.period (sourcePeriod s) phase) (sourcePeriod s) phase)) (markStart s)
      else setPeriod (followed (sourcePeriod s) phase) (sourcePeriod s) (markStart s) := by
  unfold tbAtMark
  simp only [h]
  rfl

/-- The period that a mark gives in ACQUIRING. -/
def acquirePeriod (phase : Int) (s : State) : State :=
  setPeriod (pulled (sourcePeriod s) phase)
    (if isMaster s then pulled (sourcePeriod s) (leftOver (pulled (sourcePeriod s) phase) (sourcePeriod s) phase) else sourcePeriod s) (markStart s)

/-- What a mark does in ACQUIRING. -/
theorem tbAtMark_acquiring (phase : Int) (s : State) (h : s.get Reg.STATE = 1) :
    tbAtMark phase s = if s.tb.loss != 0 then acquisitionFails (markStart s)
      else if !s.tb.qualified || s.tb.step.isSome || sourcePeriod s = 0 then markStart s
      else if phase.natAbs ≤ 1 && near100 (pulled (sourcePeriod s) phase) (sourcePeriod s) && mayLock s then
        tbEvent 1 (acquirePeriod phase s).tb.sinceEdge (((acquirePeriod phase s).put Reg.STATE 2).put Reg.HOLDOVER_COUNT 0)
      else acquirePeriod phase s := by
  unfold tbAtMark
  simp only [h]
  rfl

theorem tbAtMark_holdover (phase : Int) (s : State) (h : s.get Reg.STATE = 3) :
    tbAtMark phase s = (markStart s).put Reg.HOLDOVER_COUNT (min 256 (s.get Reg.HOLDOVER_COUNT + 1)) := by
  unfold tbAtMark
  simp only [h]
  rfl

theorem tbAtMark_free (phase : Int) (s : State) (h : s.get Reg.STATE = 0) : tbAtMark phase s = markStart s := by
  unfold tbAtMark
  simp only [h]
  rfl

theorem tbAtMark_spansKeep (phase : Int) (s : State) : spansKeep s (tbAtMark phase s) := by
  have hstart := markStart_linkKeeps s
  rcases get_state_cases s with h | h | h | h
  · rw [tbAtMark_free phase s h]
    exact hstart.spansKeep
  · have hperiod : linkKeeps s (acquirePeriod phase s) := hstart.trans (setPeriod_linkKeeps _ _ _)
    rw [tbAtMark_acquiring phase s h]
    refine ite_spansKeep (hstart.spansKeep.trans (acquisitionFails_spansKeep _)) (ite_spansKeep hstart.spansKeep (ite_spansKeep ?_ hperiod.spansKeep))
    exact (tbEvent_linkKeeps _ _ (put_linkKeeps _ _ (put_linkKeeps _ _ hperiod))).spansKeep
  · rw [tbAtMark_locked phase s h]
    exact ite_spansKeep (hstart.spansKeep.trans (enterHoldover_spansKeep _ _ _)) (ite_spansKeep hstart.spansKeep
      (ite_spansKeep (hstart.trans (setPeriod_linkKeeps _ _ _)).spansKeep (hstart.trans (setPeriod_linkKeeps _ _ _)).spansKeep))
  · rw [tbAtMark_holdover phase s h]
    exact (put_linkKeeps _ _ hstart).spansKeep

/-! ### The tiers at a mark (R54) -/

theorem tierInternal_spansKeep (g k : Nat) (s : State) : spansKeep s (tierInternal g k s) :=
  (setTl_spansKeep k _ (by rfl)).trans (changeTier_periodKeeps _ g k _).spansKeep

theorem tierLoses_spansKeep (k : Nat) (s : State) : spansKeep s (tierLoses k s) :=
  ite_spansKeep (setTl_spansKeep k _ (by rfl)) (tierInternal_spansKeep _ k s)

theorem followMark_spansKeep (k : Nat) (e : Int) (s : State) : spansKeep s (followMark k e s) := by
  unfold followMark
  extract_lets l src p
  split
  · exact ite_spansKeep (tierLoses_spansKeep k s) (pullTier_periodKeeps _ k s).spansKeep
  · exact (setTl_spansKeep k _ (by rfl)).trans (pullTier_periodKeeps p k _).spansKeep
  · exact ite_spansKeep ((setTl_spansKeep k _ (by rfl)).trans (changeTier_periodKeeps src 0 k _).spansKeep) (setTl_spansKeep k _ (by rfl))

theorem markState_spansKeep (k : Nat) (s : State) : spansKeep s (markState k s) := setTl_spansKeep k _ (by rfl)

/-- What follows the count of the tiers at a mark. -/
def afterCount (phase : MarkPhase) (vcore vio aux : Nat) (temps : List Int) (links : List Nat) (s : State) : State :=
  let s2 := takeMark (((tbAtMark phase.base s).each links (fun k t => followMark k (phase.tiers.getD k 0) t)).each links markState)
  excGuard (noteCalTemp <| baseTemps temps (cbAtMark (showRails vcore vio aux s2)))

theorem afterCount_spansKeep (phase : MarkPhase) (vcore vio aux : Nat) (temps : List Int) (links : List Nat) (s : State) :
    spansKeep s (afterCount phase vcore vio aux temps links s) := by
  unfold afterCount
  extract_lets s2
  have h2 : spansKeep s s2 := (each_spansKeep _ (each_spansKeep _ (tbAtMark_spansKeep _ s) fun k u => followMark_spansKeep k _ u)
    markState_spansKeep).trans (record_linkKeeps (linkKeeps_refl _)).spansKeep
  exact h2.trans (((((showRails_linkKeeps _ _ _ s2).trans (cbAtMark_linkKeeps _)).trans (baseTemps_linkKeeps _ _)).trans
    (noteCalTemp_linkKeeps _)).trans (excGuard_linkKeeps _)).spansKeep

theorem markBase_spansKeep (phase : MarkPhase) (vcore vio aux : Nat) (temps : List Int) (s : State) :
    spansKeep ((nextSpan s).each ((List.range 6).filter s.linkUp) countTier) (markBase phase vcore vio aux temps s) := by
  have h := afterCount_spansKeep phase vcore vio aux temps ((List.range 6).filter s.linkUp)
    ((nextSpan s).each ((List.range 6).filter s.linkUp) countTier)
  have h4 := ite_spansKeep (c := s.get Reg.EXC_STATE = 3) (h.trans (put_linkKeeps Reg.EXC_STATE 0 (linkKeeps_refl _)).spansKeep) h
  exact (h4.trans (unitZero_spansKeep _)).trans (cancelUnqualified_linkKeeps _).spansKeep

/-! ### The count of a tier (R48) -/

theorem shiftSpans_linkKeeps (k d : Nat) (s : State) : linkKeeps s (shiftSpans k d s) :=
  setSq_linkKeeps _ _ (setPr_linkKeeps _ _ (linkKeeps_refl s))

theorem jumpEvent_linkKeeps (d : Nat) (s : State) : linkKeeps s (jumpEvent d s) := tbEvent_linkKeeps _ _ (bump_linkKeeps _ (linkKeeps_refl s))

/-- A tier takes the number after its span, or keeps a higher count; the other tiers keep theirs. -/
theorem numberTier_spec (k n : Nat) (s : State) :
    (numberTier k n s).clk = s.clk ∧ ∀ j, ((numberTier k n s).tl j).span = if k = j then max (s.tl k).span n else (s.tl j).span := by
  unfold numberTier
  extract_lets old _ s1
  have h : linkKeeps s1 (s1.when (old + 1 < n) fun t => jumpEvent (n - (old + 1)) (shiftSpans k (n - (old + 1)) t)) :=
    when_linkKeeps _ (linkKeeps_refl s1) fun u => (shiftSpans_linkKeeps _ _ u).trans (jumpEvent_linkKeeps _ _)
  refine ⟨h.1, fun j => ?_⟩
  rw [tl_of_link h.2 j, State.tl_setTl]
  split <;> rfl

theorem countTier_spec (k : Nat) (s : State) :
    (countTier k s).clk = s.clk ∧ ∀ j, ((countTier k s).tl j).span = if k = j then max (s.tl k).span s.clk.span else (s.tl j).span := by
  unfold countTier
  extract_lets l closes _ s1 s2
  have h1 : spansKeep s s1 := (setTl_spansKeep k _ (by rfl)).trans (setPr_linkKeeps k _ (linkKeeps_refl _)).spansKeep
  obtain ⟨hclk, hspan⟩ := numberTier_spec k s.clk.span s1
  have h : spansKeep s2 (s2.when l.store fun u => seqRestart k (leaveStoreRuns k (restartAll k (u.tierAt k) (updateNotch k u)))) :=
    when_spansKeep _ (spansKeep_refl s2) fun u => ((((updateNotch_linkKeeps k u).trans (restartPrim_raiseKeeps _ _ _ _ _ _).linkKeeps).trans
      (setSq_linkKeeps k _ (linkKeeps_refl _))).trans (seqRestart_linkKeeps k _)).spansKeep
  refine ⟨(h.1.trans hclk).trans h1.1, fun j => ?_⟩
  rw [h.2 j, hspan j, h1.2 k, h1.2 j]

/-- The tiers named count the span of the clock, each once; the others keep their numbers. -/
theorem each_countTier_spec (l : List Nat) (hl : l.Nodup) (s : State) :
    (s.each l countTier).clk = s.clk ∧
      ∀ j, ((s.each l countTier).tl j).span = if j ∈ l then max (s.tl j).span s.clk.span else (s.tl j).span := by
  induction l generalizing s with
  | nil => exact ⟨rfl, fun _ => rfl⟩
  | cons k l ih =>
    obtain ⟨hk, hl'⟩ := List.nodup_cons.mp hl
    obtain ⟨hclk, hspan⟩ := countTier_spec k s
    obtain ⟨ihclk, ihspan⟩ := ih hl' (countTier k s)
    rw [State.each_cons]
    refine ⟨ihclk.trans hclk, fun j => ?_⟩
    rw [ihspan j, hspan j, hclk]
    by_cases hj : k = j
    · subst hj
      simp [hk]
    · simp [hj, Ne.symm hj]

theorem spanMark_base (phase : MarkPhase) (vcore vio aux : Nat) (temps : List Int) (s : State) (htb : s.tbUp = true) :
    exec (.spanMark phase vcore vio aux temps) s = .next (markBase phase vcore vio aux temps s) := by
  show execSpanMark phase vcore vio aux temps s = _
  rw [execSpanMark, if_pos htb, done]

theorem markBase_spec (phase : MarkPhase) (vcore vio aux : Nat) (temps : List Int) (s : State) :
    (markBase phase vcore vio aux temps s).clk = ⟨s.clk.span + 1, 0⟩ ∧
      ∀ k, k < 6 → s.linkUp k = true → ((markBase phase vcore vio aux temps s).tl k).span = max (s.tl k).span (s.clk.span + 1) := by
  obtain ⟨hclk, hspan⟩ := markBase_spansKeep phase vcore vio aux temps s
  obtain ⟨hclk', hspan'⟩ := each_countTier_spec ((List.range 6).filter s.linkUp) (List.nodup_range.filter _) (nextSpan s)
  refine ⟨hclk.trans hclk', fun k hk hup => ?_⟩
  rw [hspan k, hspan' k, if_pos (List.mem_filter.mpr ⟨List.mem_range.mpr hk, hup⟩)]
  rfl

end Sys2Proof.Machine
end

section
namespace Sys2Proof.Machine

/-! ### The time base of a master at a mark (R41 to R45) -/

theorem clampI_mem (lo hi i : Int) (h : lo ≤ hi) : lo ≤ clampI lo hi i ∧ clampI lo hi i ≤ hi := by
  unfold clampI
  split_ifs <;> omega

/-- The corrected period of a span stays within 1 % of that of the span before (R44). -/
theorem tracked_within (old src : Nat) (phase : Int) :
    tracked old src phase ≤ old + old / 100 ∧ old ≤ tracked old src phase + old / 100 := by
  have h := clampI_mem ((old : Int) - (old / 100 : Nat)) ((old : Int) + (old / 100 : Nat)) (corrected src phase src) (by omega)
  unfold tracked
  omega

theorem sourcePeriod_master (s : State) (hm : isMaster s = true) : sourcePeriod s = s.get Reg.IN_PERIOD := by
  unfold sourcePeriod
  rw [if_pos hm]

theorem setPeriod_get (p next : Nat) (s : State) (f : Field) : (setPeriod p next s).get f = s.get f := rfl
theorem setPeriod_period (p next : Nat) (s : State) : (setPeriod p next s).tb.period = p := rfl
theorem setPeriod_sinceEdge (p next : Nat) (s : State) : (setPeriod p next s).tb.sinceEdge = s.tb.sinceEdge := rfl

theorem get_of_regs {s t : State} (h : t.regs = s.regs) (f : Field) : t.get f = s.get f := by
  unfold State.get
  rw [h]

/-- LOCKED follows its source (R44). -/
theorem tbAtMark_tracks (phase : Int) (s : State) (hm : isMaster s = true) (hstate : s.get Reg.STATE = 2) (hloss : s.tb.loss = 0)
    (hstep : s.tb.step = none) (hin : s.get Reg.IN_PERIOD ≠ 0) :
    (tbAtMark phase s).get Reg.STATE = 2 ∧ (tbAtMark phase s).tb.period = tracked s.tb.period (s.get Reg.IN_PERIOD) phase := by
  obtain ⟨-, -, hget⟩ := markStart_spec s
  have hnext : tbAtMark phase s = setPeriod (tracked s.tb.period (s.get Reg.IN_PERIOD) phase)
      (tracked (tracked s.tb.period (s.get Reg.IN_PERIOD) phase) (s.get Reg.IN_PERIOD)
        (leftOver (tracked s.tb.period (s.get Reg.IN_PERIOD) phase) (s.get Reg.IN_PERIOD) phase)) (markStart s) := by
    rw [tbAtMark_locked phase s hstate, sourcePeriod_master s hm]
    simp only [hloss, hstep, hm, hin, bne_self_eq_false, Option.isSome_none, decide_false, Bool.or_self, Bool.false_eq_true, if_false, if_true]
  rw [hnext, setPeriod_get, setPeriod_period]
  exact ⟨(hget _ (by decide) (by decide)).trans hstate, rfl⟩

/-- The words that HOLDOVER shows. -/
def holdoverShown (count : Nat) (s : State) : State := ((s.put Reg.HOLDOVER_COUNT count).bump Reg.LOSS_COUNT).put Reg.STATE 3

theorem holdoverShown_spec (count : Nat) (hcount : count < 2 ^ 9) (s : State) :
    (holdoverShown count s).get Reg.STATE = 3 ∧ (holdoverShown count s).get Reg.HOLDOVER_COUNT = count ∧
      (holdoverShown count s).tb = s.tb := by
  unfold holdoverShown State.bump State.bumpBy
  refine ⟨State.get_put_of_lt _ _ _ (by decide) (by decide), ?_, ?_⟩
  · rw [State.get_put_of_apartB _ _ _ _ (by decide), State.get_put_of_apartB _ _ _ _ (by decide),
      State.get_put_of_lt _ _ _ (by decide) hcount]
  · rw [State.put_tb, State.put_tb, State.put_tb]

/-- The period in force goes on, and nothing is due any more. -/
def holdPeriod (s : State) : State :=
  { s with tb := { s.tb with nextPeriod := s.tb.period, loss := 0, step := none, marks := 0, frames := 0 } }

/-- A master forgets the valid periods of its source. -/
def forgetValids (s : State) : State := s.when (isMaster s) (fun t => { t with tb := { t.tb with valids := 0 } })

theorem forgetValids_spec (s : State) :
    (forgetValids s).regs = s.regs ∧ (forgetValids s).tb.period = s.tb.period ∧ (forgetValids s).tb.nextPeriod = s.tb.nextPeriod := by
  unfold forgetValids
  cases isMaster s
  · exact ⟨rfl, rfl, rfl⟩
  · exact ⟨rfl, rfl, rfl⟩

/-- HOLDOVER as it is entered, before the event (R45). -/
def heldOver (count : Nat) (s : State) : State := forgetValids (holdPeriod (holdoverShown count s))

theorem enterHoldover_eq (cond count : Nat) (s : State) :
    enterHoldover cond count s = (tbEvent 2 cond (heldOver count s)).when (s.get Reg.HOLDOVER_SPANS = 0) holdoverEnds := rfl

theorem enterHoldover_limit (cond count : Nat) (s : State) (h : s.get Reg.HOLDOVER_SPANS ≠ 0) :
    enterHoldover cond count s = tbEvent 2 cond (heldOver count s) := by
  rw [enterHoldover_eq, decide_eq_false h, State.when_false]

theorem holdPeriod_spec (s : State) :
    (holdPeriod s).regs = s.regs ∧ (holdPeriod s).tb.period = s.tb.period ∧ (holdPeriod s).tb.nextPeriod = s.tb.period := ⟨rfl, rfl, rfl⟩

theorem heldOver_spec (count : Nat) (hcount : count < 2 ^ 9) (s : State) :
    (heldOver count s).get Reg.STATE = 3 ∧ (heldOver count s).get Reg.HOLDOVER_COUNT = count ∧
      (heldOver count s).tb.period = s.tb.period ∧ (heldOver count s).tb.nextPeriod = s.tb.period := by
  obtain ⟨hstate, hc, htb⟩ := holdoverShown_spec count hcount s
  obtain ⟨hregs, hperiod, hnext⟩ := holdPeriod_spec (holdoverShown count s)
  obtain ⟨hregs', hperiod', hnext'⟩ := forgetValids_spec (holdPeriod (holdoverShown count s))
  have hget : ∀ f, (heldOver count s).get f = (holdoverShown count s).get f := fun f => get_of_regs (hregs'.trans hregs) f
  rw [hget, hget, ← htb]
  exact ⟨hstate, hc, hperiod'.trans hperiod, hnext'.trans hnext⟩

/-- A declared loss ends LOCKED in HOLDOVER (R44, R45). -/
theorem tbAtMark_loses (phase : Int) (s : State) (hstate : s.get Reg.STATE = 2) (hloss : s.tb.loss ≠ 0) (hspans : s.get Reg.HOLDOVER_SPANS ≠ 0) :
    tbAtMark phase s = tbEvent 2 s.tb.loss (heldOver 0 (markStart s)) := by
  obtain ⟨-, -, hget⟩ := markStart_spec s
  rw [tbAtMark_locked phase s hstate, if_pos (bne_iff_ne.mpr hloss),
    enterHoldover_limit _ _ _ (by rw [hget _ (by decide) (by decide)]; exact hspans)]

theorem mayLock_master (s : State) (hm : isMaster s = true) : mayLock s = true := by
  unfold mayLock
  rw [hm, Bool.true_or]

theorem acquirePeriod_spec (phase : Int) (s : State) (hm : isMaster s = true) :
    (acquirePeriod phase s).tb.period = pulled (s.get Reg.IN_PERIOD) phase ∧ (acquirePeriod phase s).tb.sinceEdge = s.tb.sinceEdge + 1 ∧
      (acquirePeriod phase s).get Reg.STATE = s.get Reg.STATE := by
  obtain ⟨-, hsince, hget⟩ := markStart_spec s
  unfold acquirePeriod
  rw [setPeriod_period, setPeriod_sinceEdge, setPeriod_get, sourcePeriod_master s hm]
  exact ⟨rfl, hsince, hget _ (by decide) (by decide)⟩

/-- A qualified source is pulled to in ACQUIRING, and locked to once it is near (R42). -/
theorem tbAtMark_pulls (phase : Int) (s : State) (hm : isMaster s = true) (hstate : s.get Reg.STATE = 1) (hloss : s.tb.loss = 0)
    (hstep : s.tb.step = none) (hqual : s.tb.qualified = true) (hin : s.get Reg.IN_PERIOD ≠ 0) :
    tbAtMark phase s = if phase.natAbs ≤ 1 && near100 (pulled (s.get Reg.IN_PERIOD) phase) (s.get Reg.IN_PERIOD) then
        tbEvent 1 (s.tb.sinceEdge + 1) (((acquirePeriod phase s).put Reg.STATE 2).put Reg.HOLDOVER_COUNT 0)
      else acquirePeriod phase s := by
  obtain ⟨-, hsince, -⟩ := acquirePeriod_spec phase s hm
  rw [tbAtMark_acquiring phase s hstate, sourcePeriod_master s hm, mayLock_master s hm, hsince]
  simp only [hloss, hstep, hqual, hin, bne_self_eq_false, Option.isSome_none, decide_false, Bool.or_self, Bool.not_true, Bool.and_true,
    Bool.false_eq_true, if_false]

theorem lockedPut_spec (s : State) :
    ((s.put Reg.STATE 2).put Reg.HOLDOVER_COUNT 0).get Reg.STATE = 2 ∧ ((s.put Reg.STATE 2).put Reg.HOLDOVER_COUNT 0).get Reg.HOLDOVER_COUNT = 0 ∧
      ((s.put Reg.STATE 2).put Reg.HOLDOVER_COUNT 0).tb = s.tb := by
  refine ⟨?_, State.get_put_of_lt _ _ _ (by decide) (by decide), ?_⟩
  · rw [State.get_put_of_apartB _ _ _ _ (by decide), State.get_put_of_lt _ _ _ (by decide) (by decide)]
  · rw [State.put_tb, State.put_tb]

/-- HOLDOVER counts its spans (R45). -/
theorem tbAtMark_counts (phase : Int) (s : State) (hstate : s.get Reg.STATE = 3) :
    (tbAtMark phase s).get Reg.HOLDOVER_COUNT = min 256 (s.get Reg.HOLDOVER_COUNT + 1) ∧ (tbAtMark phase s).get Reg.STATE = 3 ∧
      (tbAtMark phase s).tb.period = s.tb.period := by
  obtain ⟨hperiod, -, hget⟩ := markStart_spec s
  rw [tbAtMark_holdover phase s hstate]
  refine ⟨State.get_put_of_lt _ _ _ (by decide) (show min 256 _ < 2 ^ 9 by omega), ?_, ?_⟩
  · rw [State.get_put_of_apartB _ _ _ _ (by decide), hget _ (by decide) (by decide), hstate]
  · rw [State.put_tb, hperiod]

/-! ### SPAN_MARK -/

theorem spanMark_store (phase : MarkPhase) (vcore vio aux : Nat) (temps : List Int) (s : State) (h : s.pwr.phase = .store) :
    exec (.spanMark phase vcore vio aux temps) s = .next s := by
  have htb : s.tbUp = false := by
    unfold State.tbUp
    rw [h]
  show execSpanMark phase vcore vio aux temps s = _
  rw [execSpanMark, htb, if_neg Bool.false_ne_true, if_pos h, done]

theorem spanMark_alone (phase : MarkPhase) (vcore vio aux : Nat) (temps : List Int) (s : State) (h : s.pwr.phase ≠ .store)
    (htb : s.tbUp = false) : exec (.spanMark phase vcore vio aux temps) s = .next (nextSpan s) := by
  show execSpanMark phase vcore vio aux temps s = _
  rw [execSpanMark, htb, if_neg Bool.false_ne_true, if_neg h, done]

/-- Settles O13: the clock and the tiers' numbers by what every part of a mark leaves of them, the time base of a master state by state. -/
theorem spanMarkMovesTheTimeBase : Obligations.SpanMarkMovesTheTimeBase := by
  refine ⟨fun phase vcore vio aux temps s => ⟨spanMark_store phase vcore vio aux temps s, fun h htb => ?_, fun htb => ?_⟩,
    fun phase s hm => ⟨fun hstate hloss hstep hin => ?_, fun hstate hloss hspans => ?_, fun hstate hloss hstep hqual hin => ?_,
      tbAtMark_counts phase s⟩⟩
  · exact ⟨_, spanMark_alone phase vcore vio aux temps s h htb, rfl, rfl, rfl⟩
  · exact ⟨_, spanMark_base phase vcore vio aux temps s htb, markBase_spec phase vcore vio aux temps s⟩
  · obtain ⟨hst, hperiod⟩ := tbAtMark_tracks phase s hm hstate hloss hstep hin
    rw [hperiod]
    exact ⟨hst, rfl, tracked_within s.tb.period _ phase⟩
  · obtain ⟨hst, hcount, hperiod, hnext⟩ := heldOver_spec 0 (by decide) (markStart s)
    obtain ⟨hstart, -, -⟩ := markStart_spec s
    exact ⟨_, tbAtMark_loses phase s hstate hloss hspans, hst, hcount, hperiod.trans hstart, hnext.trans hstart⟩
  · obtain ⟨hperiod, -, hst⟩ := acquirePeriod_spec phase s hm
    have hpulls := tbAtMark_pulls phase s hm hstate hloss hstep hqual hin
    refine ⟨fun hnear hclose => ?_, fun hfar => ?_⟩
    · obtain ⟨hlocked, hcount, htb⟩ := lockedPut_spec (acquirePeriod phase s)
      rw [if_pos (by rw [hclose, Bool.and_true, decide_eq_true hnear])] at hpulls
      exact ⟨_, hpulls, hlocked, hcount, by rw [htb, hperiod]⟩
    · have hnot : ¬ (decide (phase.natAbs ≤ 1) && near100 (pulled (s.get Reg.IN_PERIOD) phase) (s.get Reg.IN_PERIOD)) = true := by
        rcases hfar with h | h
        · simp [Nat.not_le.mpr h]
        · simp [h]
      rw [if_neg hnot] at hpulls
      rw [hpulls]
      exact ⟨hst.trans hstate, hperiod⟩

end Sys2Proof.Machine
end

section
/-!
The schedule (R64 to R67, R375): what a report leaves, and the entries as they execute and as they are cancelled.
-/
namespace Sys2Proof.Machine

/-! ### What a report leaves (R367, R371) -/

/-- The two states differ in nothing but configuration space, the chain, and the queues and the replay buffer of the host ports. -/
def reportKeeps (s t : State) : Prop :=
  t = { s with regs := t.regs, chain := t.chain,
               host := { s.host with hq := t.host.hq, twq := t.host.twq, replayBuf := t.host.replayBuf } }

theorem reportKeeps.trans {s t u : State} (h1 : reportKeeps s t) (h2 : reportKeeps t u) : reportKeeps s u := by
  unfold reportKeeps at *
  rw [h2, h1]

theorem reportKeeps.clk {s t : State} (h : reportKeeps s t) : t.clk = s.clk := by rw [h]
theorem reportKeeps.evt {s t : State} (h : reportKeeps s t) : t.evt = s.evt := by rw [h]
theorem reportKeeps.exc {s t : State} (h : reportKeeps s t) : t.exc = s.exc := by rw [h]
theorem reportKeeps.shadow {s t : State} (h : reportKeeps s t) : t.host.shadow = s.host.shadow := by rw [h]
theorem reportKeeps.owner {s t : State} (h : reportKeeps s t) : t.host.owner = s.host.owner := by rw [h]
theorem reportKeeps.sched {s t : State} (h : reportKeeps s t) : t.host.sched = s.host.sched := by rw [h]
theorem reportKeeps.seqs {s t : State} (h : reportKeeps s t) : t.host.seqs = s.host.seqs := by rw [h]

theorem put_reportKeeps (s : State) (f : Field) (v : Nat) : reportKeeps s (s.put f v) := rfl

theorem sendTo_reportKeeps (d : Dest) (f : Frame) (s : State) : reportKeeps s (sendTo d f s) := by
  cases d with
  | spi =>
    simp only [sendTo, hqAdd]
    split_ifs
    · exact rfl
    · exact put_reportKeeps s _ _
    · exact rfl
    · exact rfl
  | tw =>
    simp only [sendTo, twqAdd]
    split_ifs
    · exact rfl
    · exact put_reportKeeps s _ _
    · exact rfl
    · exact rfl
  | port p =>
    rcases txAdd_cases p (routeTo s p f) s with h | h
    · exact (congrArg (reportKeeps s) h).mpr rfl
    · exact (congrArg (reportKeeps s) h).mpr (put_reportKeeps s _ _)

theorem replayBuf_reportKeeps (s : State) (b : List Frame) : reportKeeps s { s with host := { s.host with replayBuf := b } } := rfl

theorem issueFrame_reportKeeps (kind : Nat) (dests : List Dest) (mk : Nat → List Byte) (s : State) :
    reportKeeps s (issueFrame kind dests mk s) := by
  have queued : ∀ (f : Frame) (ds : List Dest) (t : State), reportKeeps s t → reportKeeps s (ds.foldl (fun u x => sendTo x f u) t) := by
    intro f ds
    induction ds with
    | nil => exact fun _ h => h
    | cons d ds ih => exact fun t h => ih _ (h.trans (sendTo_reportKeeps d f t))
  unfold issueFrame
  extract_lets d f buf _ _ s1
  exact queued f dests s1 ((put_reportKeeps s Reg.LAST_DSEQ d).trans (replayBuf_reportKeeps (s.put Reg.LAST_DSEQ d) _))

theorem complete_reportKeeps (t : Stamp) (op status : Nat) (m : Meta) (cause detail : Nat) (s : State) :
    reportKeeps s (complete t op status m cause detail s) := by
  unfold complete issueReport
  generalize payloads _ = l
  suffices H : ∀ u, reportKeeps s u → reportKeeps s (l.foldl (fun t p => issueFrame 0x02 [destOf m] (fun _ => p) t) u) from H s rfl
  induction l with
  | nil => exact fun _ h => h
  | cons p l ih => exact fun u h => ih _ (h.trans (issueFrame_reportKeeps _ _ _ u))

/-! ### The entry that is due (R66) -/

theorem dropEntry_now (e : Entry) (s : State) : (dropEntry e s).now = s.now := rfl
theorem dropEntry_commitRefusal (e : Entry) (s : State) : commitRefusal (dropEntry e s) = commitRefusal s := rfl
theorem dropEntry_shadowCrc (e : Entry) (s : State) : shadowCrc (dropEntry e s) = shadowCrc s := rfl
theorem dropEntry_modeRefused (e : Entry) (new others : Nat) (s : State) : modeRefused new others (dropEntry e s) = modeRefused new others s := rfl
theorem dropEntry_exciteRefusal (e : Entry) (src cells klo khi amp reps : Nat) (b : Bool) (s : State) :
    exciteRefusal src cells klo khi amp reps b (dropEntry e s) = exciteRefusal src cells klo khi amp reps b s := rfl

theorem toDue_of_due (s : State) (e : Entry) (h : nextDue s = some e) : toDue s = s := by
  unfold toDue
  rw [h]
  rfl

/-- An entry that is due executes in the row of its rank. -/
theorem execRank_due (r : Nat) (s : State) (e : Entry) (hready : s.ready = true) (h : nextDue s = some e) (hp : e.pending = false)
    (hr : e.act.rank = r) : execRank r s = .next (runAction e.act e.who (dropEntry e s)) := by
  unfold execRank takeDue
  rw [toDue_of_due s e h, h]
  simp only [hr, hready, hp, decide_true, Bool.not_false, Bool.and_self, if_true, done]

theorem execRank_other (r : Nat) (s : State) (e : Entry) (h : nextDue s = some e) (hr : e.act.rank ≠ r) : execRank r s = .next s := by
  unfold execRank takeDue
  rw [toDue_of_due s e h, h]
  simp only [hr, decide_false, Bool.false_and, Bool.false_eq_true, if_false, done]

/-! ### Commits and modes (R384, R422) -/

theorem runCommit_acked (m : Meta) (s : State) (hack : (affected s).all (fun k => s.host.acked.contains k) = true)
    (hok : commitRefusal s = none) :
    runCommit m s = complete (applyShadow s).now 0x13 0x00 m 0 (shadowCrc s)
      { applyShadow s with host := { (applyShadow s).host with acked := [] } } := by
  unfold runCommit
  rw [if_neg (by rw [hack]; decide), hok]
  rfl

theorem runCommit_unacked (m : Meta) (s : State) (hack : (affected s).all (fun k => s.host.acked.contains k) = false) :
    runCommit m s = complete s.now 0x13 St.timeout m 0 0 (keepShadow s) := by
  unfold runCommit
  rw [if_pos (by rw [hack]; rfl)]

theorem runAction_mode (new : Nat) (m : Meta) (s : State) (h : modeRefused new s.host.sched.length s = false) :
    runAction (.mode new) m s = complete s.now 0x50 0x00 m 0 new (runMode new m s) := by
  unfold runAction
  simp only [h, Bool.false_eq_true, if_false, St.ok]

theorem runAction_mode_refused (new : Nat) (m : Meta) (s : State) (h : modeRefused new s.host.sched.length s = true) :
    runAction (.mode new) m s = complete s.now 0x50 0x12 m 0 new s := by
  unfold runAction
  simp only [h, if_true, St.badState]

/-! ### Sweeps (R216) -/

/-- The two states agree in the sweep in progress, in what it shows of its state, in the schedule and in the log. -/
def sweepKeeps (s t : State) : Prop :=
  t.exc.sweep = s.exc.sweep ∧ t.exc.begun = s.exc.begun ∧ t.host = s.host ∧ t.evt = s.evt ∧ t.get Reg.EXC_STATE = s.get Reg.EXC_STATE ∧
    t.get Reg.EXC_COMPLETE = s.get Reg.EXC_COMPLETE

theorem sweepKeeps_refl (s : State) : sweepKeeps s s := ⟨rfl, rfl, rfl, rfl, rfl, rfl⟩

theorem sweepKeeps.trans {s t u : State} (h1 : sweepKeeps s t) (h2 : sweepKeeps t u) : sweepKeeps s u := by
  obtain ⟨a1, b1, c1, d1, e1, f1⟩ := h1
  obtain ⟨a2, b2, c2, d2, e2, f2⟩ := h2
  exact ⟨a2.trans a1, b2.trans b1, c2.trans c1, d2.trans d1, e2.trans e1, f2.trans f1⟩

theorem put_sweepKeeps (s : State) (f : Field) (v : Nat) (hs : f.apart Reg.EXC_STATE) (hc : f.apart Reg.EXC_COMPLETE) :
    sweepKeeps s (s.put f v) :=
  ⟨rfl, rfl, rfl, rfl, State.get_put_apart s f _ v hs, State.get_put_apart s f _ v hc⟩

theorem setChan_sweepKeeps (s : State) (n : Nat) (c : Chan) : sweepKeeps s (s.setChan n c) := ⟨rfl, rfl, rfl, rfl, rfl, rfl⟩
theorem setExc_sweepKeeps (s : State) (k : Nat) (e : Option ExcTier) : sweepKeeps s (s.setExc k e) := ⟨rfl, rfl, rfl, rfl, rfl, rfl⟩

theorem held_sweepKeeps (s : State) (h : KV Nat) : sweepKeeps s { s with exc := { s.exc with held := h } } := ⟨rfl, rfl, rfl, rfl, rfl, rfl⟩

theorem excite_sweepKeeps (ch amp : Nat) (s : State) : sweepKeeps s (excite ch amp s) := by
  have hword : ∀ f : Field, f.a = Wd.EXC_STATUS → (Reg.CH_STATE ch).apart f := fun f hf => by
    left
    rw [hf]
    simp only [Reg.CH_STATE, Wd.CH_STATUS, Wd.EXC_STATUS]
    omega
  unfold excite
  exact ((put_sweepKeeps s _ _ (hword _ rfl) (hword _ rfl)).trans (setChan_sweepKeeps _ ch _)).trans (held_sweepKeeps _ _)

theorem setWave_sweepKeeps (ch b klo khi amp up : Nat) (s : State) : sweepKeeps s (setWave ch b klo khi amp up s) := ⟨rfl, rfl, rfl, rfl, rfl, rfl⟩

theorem excCell_sweepKeeps (k v : Nat) (s : State) : sweepKeeps s (s.put (Reg.EXC_CELL k) v) := by
  have hword : ∀ f : Field, f.a = Wd.EXC_STATUS → (Reg.EXC_CELL k).apart f := fun f hf => by
    left
    rw [hf]
    simp only [Reg.EXC_CELL, Wd.EXC_TIER, Wd.EXC_STATUS]
    omega
  exact put_sweepKeeps s _ _ (hword _ rfl) (hword _ rfl)

theorem nextCell_sweepKeeps (k up : Nat) (e : ExcTier) (s0 : State) : sweepKeeps s0 (nextCell k up e s0) := by
  have h : sweepKeeps s0 (s0.bumpBy Reg.EXC_CUT (e.cells.takeWhile (exciteBlocked s0)).length) :=
    put_sweepKeeps s0 _ _ (Field.apart_of_apartB _ _ (by decide)) (Field.apart_of_apartB _ _ (by decide))
  unfold nextCell
  generalize s0.bumpBy Reg.EXC_CUT (e.cells.takeWhile (exciteBlocked s0)).length = s at h
  dsimp only
  split
  · exact (h.trans (excCell_sweepKeeps k _ s)).trans (setExc_sweepKeeps _ k _)
  · refine (sweepKeeps.trans ?_ (excCell_sweepKeeps k _ _)).trans (setExc_sweepKeeps _ k _)
    split
    · exact h.trans (excite_sweepKeeps _ _ s)
    · exact (h.trans (excite_sweepKeeps _ _ s)).trans (setWave_sweepKeeps _ _ _ _ _ _ _)

/-- The words of a sweep that begins. -/
def sweepShown (s : State) : State := (((s.put Reg.EXC_COMPLETE 0).put Reg.EXC_PARTIAL 0).put Reg.EXC_CUT 0).put Reg.EXC_STATE 1

theorem sweepShown_spec (s : State) :
    (sweepShown s).get Reg.EXC_STATE = 1 ∧ (sweepShown s).get Reg.EXC_COMPLETE = 0 ∧ (sweepShown s).host = s.host ∧
      (sweepShown s).evt = s.evt := by
  unfold sweepShown
  refine ⟨State.get_put_of_lt _ _ _ (by decide) (by decide), ?_, ?_, ?_⟩
  · rw [State.get_put_of_apartB _ _ _ _ (by decide), State.get_put_of_apartB _ _ _ _ (by decide), State.get_put_of_apartB _ _ _ _ (by decide),
      State.get_put_of_lt _ _ _ (by decide) (by decide)]
  · rw [State.put_host, State.put_host, State.put_host, State.put_host]
  · rw [State.put_evt, State.put_evt, State.put_evt, State.put_evt]

/-- A sweep as it begins, before its cells. -/
def sweepBegun (m : Meta) (klo khi amp reps : Nat) (now_ : Stamp) (s : State) : State :=
  { s with exc := { s.exc with sweep := some (m, klo, khi, amp, reps), tiers := [], begun := some now_ } }

theorem sweepBegun_get (m : Meta) (klo khi amp reps : Nat) (now_ : Stamp) (s : State) (f : Field) :
    (sweepBegun m klo khi amp reps now_ s).get f = s.get f := rfl

theorem sweepBegun_keeps (m : Meta) (klo khi amp reps : Nat) (now_ : Stamp) (s : State) :
    (sweepBegun m klo khi amp reps now_ s).host = s.host ∧ (sweepBegun m klo khi amp reps now_ s).evt = s.evt := ⟨rfl, rfl⟩

theorem startSweep_eq (m : Meta) (cells klo khi amp reps : Nat) (s : State) :
    startSweep m cells klo khi amp reps s = (List.range 6).foldl (fun t k =>
      match (maskCells cells).filter (fun c => tierOf c == k) with
      | [] => t
      | cs => nextCell k t.abs ⟨cs, [], 0, false, [], [], 0, false, false, none, false, true, 0, 0, none⟩ t)
      (sweepBegun m klo khi amp reps s.now (sweepShown s)) := rfl

theorem startSweep_sweepKeeps (m : Meta) (cells klo khi amp reps : Nat) (s : State) :
    sweepKeeps (sweepBegun m klo khi amp reps s.now (sweepShown s)) (startSweep m cells klo khi amp reps s) := by
  rw [startSweep_eq]
  generalize sweepBegun m klo khi amp reps s.now (sweepShown s) = s0
  suffices H : ∀ (l : List Nat) (t : State), sweepKeeps s0 t → sweepKeeps s0 (l.foldl (fun t k =>
      match (maskCells cells).filter (fun c => tierOf c == k) with
      | [] => t
      | cs => nextCell k t.abs ⟨cs, [], 0, false, [], [], 0, false, false, none, false, true, 0, 0, none⟩ t) t) from H _ s0 (sweepKeeps_refl s0)
  intro l
  induction l with
  | nil => exact fun _ h => h
  | cons k l ih =>
    refine fun t h => ih _ ?_
    dsimp only
    split
    · exact h
    · exact h.trans (nextCell_sweepKeeps _ _ _ _)

/-- A sweep that starts shows itself as RUNNING with nothing complete; the schedule and the log stay. -/
theorem startSweep_spec (m : Meta) (cells klo khi amp reps : Nat) (s : State) :
    let t := startSweep m cells klo khi amp reps s
    t.exc.sweep = some (m, klo, khi, amp, reps) ∧ t.get Reg.EXC_STATE = 1 ∧ t.get Reg.EXC_COMPLETE = 0 ∧ t.exc.begun = some s.now ∧
      t.host = s.host ∧ t.evt = s.evt := by
  obtain ⟨hsweep, hbegun, hhost, hevt, hstate, hcomplete⟩ := startSweep_sweepKeeps m cells klo khi amp reps s
  obtain ⟨hstate', hcomplete', hhost', hevt'⟩ := sweepShown_spec s
  obtain ⟨hhost'', hevt''⟩ := sweepBegun_keeps m klo khi amp reps s.now (sweepShown s)
  rw [sweepBegun_get] at hstate hcomplete
  rw [hhost''] at hhost
  rw [hevt''] at hevt
  exact ⟨hsweep, hstate.trans hstate', hcomplete.trans hcomplete', hbegun, hhost.trans hhost', hevt.trans hevt'⟩

/-! ### The restart of FW_SWAP (R472) -/

theorem remap_ret (s : State) (p : Nat → Bool) (f : Nat → Nat → Nat) : (s.remap p f).ret = s.ret := by
  unfold State.remap
  suffices H : ∀ (l : WordMap) (t : State), t.ret = s.ret → (l.foldl (fun t e => if p e.1 then t.putW e.1 (f e.1 e.2.toNat) else t) t).ret = s.ret
    from H _ s rfl
  intro l
  induction l with
  | nil => exact fun _ h => h
  | cons e l ih =>
    refine fun t h => ih _ ?_
    dsimp only
    split
    · exact (State.putW_ret _ _ _).trans h
    · exact h

/-- A tier without its link, and without a difference of its part. -/
def tierDropped (k : Nat) (s : State) : State := (dropLink k s).setTl k { (dropLink k s).tl k with partDiff := false }

theorem tierDropped_keeps (k : Nat) (s : State) : (tierDropped k s).ret = s.ret ∧ (tierDropped k s).host = s.host := by
  unfold tierDropped dropLink
  extract_lets l last _ s1 u
  exact ⟨rfl, rfl⟩

theorem baseReset_spec (s : State) : (baseReset s).ret = s.ret ∧ (baseReset s).host.sched = [] := by
  unfold baseReset
  extract_lets cut s1 s2 seqs ports _ _ _ _ _ _ _ _ _ s3
  have h2 : s2.ret = s.ret := by
    rw [State.put_ret, State.put_ret, State.put_ret, State.put_ret, State.put_ret]
    exact remap_ret s _ _
  clear_value s2 seqs ports
  have h3 : s3.ret = s.ret ∧ s3.host.sched = [] := ⟨h2, rfl⟩
  clear_value s3
  refine State.each_keeps (fun t => t.ret = s.ret ∧ t.host.sched = []) _ tierDropped (fun k t h => ?_) s3 h3
  obtain ⟨hret, hhost⟩ := tierDropped_keeps k t
  rw [hret, hhost]
  exact h

theorem restart_spec (cause : Nat) (s : State) :
    (restart cause s).pwr.phase = .starting ∧ (restart cause s).ret.cause = (if s.ret.ok then cause else 1) ∧
      (restart cause s).host.sched = [] := by
  obtain ⟨hret, hsched⟩ := baseReset_spec s
  unfold restart beginStart
  generalize baseReset s = t at hret hsched
  rw [← hret]
  exact ⟨rfl, rfl, hsched⟩

/-- FW_SWAP at its instant: the base die starts anew with the other bank on trial, where that is valid (R472). -/
theorem runAction_fwSwap (v : Nat) (m : Meta) (s : State) (h : s.flag (bankValid (inactiveBank s)) = true) :
    runAction (.fwSwap v) m s =
      { restart 6 s with ret := { (restart 6 s).ret with bank := inactiveBank s, trial := true } } := by
  unfold runAction
  extract_lets k t
  rw [if_pos h]

theorem runAction_fwSwap_invalid (v : Nat) (m : Meta) (s : State) (h : s.flag (bankValid (inactiveBank s)) = false) :
    runAction (.fwSwap v) m s = bankEvent 5 0 (s.get (Reg.FW_VER (inactiveBank s))) s := by
  unfold runAction
  extract_lets k t
  rw [if_neg (by rw [h]; decide)]

/-! ### One entry in the schedule (R65, R67) -/

theorem nextDue_single (s : State) (e : Entry) (h : s.host.sched = [e]) : nextDue s = if dueNow s e then some e else none := by
  unfold nextDue
  rw [h]
  cases hd : dueNow s e
  · simp [hd]
  · simp [hd]

/-- The grains up to the instant of the one entry pass, where it lies in the span in progress. -/
theorem toDue_single (s : State) (e : Entry) (h : s.host.sched = [e]) (hnone : nextDue s = none) (hp : e.pending = false)
    (hspan : e.span = s.clk.span) (hgrain : e.grain < 4096) : toDue s = { s with clk := ⟨s.clk.span, e.grain⟩ } := by
  have hnot : ¬ e.span * 4096 + e.grain ≤ s.abs := fun hle => by
    rw [nextDue_single s e h, if_pos (by simp [dueNow, hp, hle])] at hnone
    exact absurd hnone (by simp)
  have hpass : s.passTo (e.span * 4096 + e.grain) = some { s with clk := ⟨s.clk.span, e.grain⟩ } := by
    rw [State.passTo_of_due s _ (.inr (by omega)), if_neg hnot]
    simp only [Option.some.injEq, State.mk.injEq, Clock.mk.injEq, and_true, true_and]
    omega
  have hmin : (s.host.sched.filterMap (dueAt s)).min? = some (e.span * 4096 + e.grain) := by
    rw [h]
    simp [dueAt, hp, hspan]
  unfold toDue
  simp only [hnone, hmin, hpass, Option.isSome_none, Bool.false_eq_true, if_false, Option.getD_some]

theorem toDue_unqualified (s : State) (e : Entry) (h : s.host.sched = [e]) (hp : e.pending = true) (htq : timeQualified s = false) :
    toDue s = s ∧ nextDue s = none := by
  have hnone : nextDue s = none := by
    rw [nextDue_single s e h, if_neg (by simp [dueNow, hp, htq])]
  refine ⟨?_, hnone⟩
  unfold toDue
  rw [hnone, h]
  simp [dueAt, hp, htq]

/-- The pending entry runs once the module is time-qualified, at a grain that suits it (R67). -/
theorem pendingActionRun_due (s : State) (e : Entry) (hready : s.ready = true) (h : nextDue s = some e) (hp : e.pending = true) :
    exec .pendingActionRun s = .next (runAction e.act e.who (dropEntry e s)) := by
  show execPendingActionRun s = _
  unfold execPendingActionRun
  rw [toDue_of_due s e h]
  simp only [h, hready, hp, Bool.and_self, if_true, done]

theorem pendingActionRun_none (s : State) (h : toDue s = s) (hnone : nextDue s = none) : exec .pendingActionRun s = .next s := by
  show execPendingActionRun s = _
  unfold execPendingActionRun
  rw [h]
  simp only [hnone, done]

theorem cancelWhere_single (p : Entry → Bool) (s : State) (e : Entry) (h : s.host.sched = [e]) :
    cancelWhere p s = if p e then cancelEntry e s else s := by
  unfold cancelWhere
  rw [h]
  cases hp : p e
  · simp [hp]
  · simp [hp]

theorem dropEntry_single (e : Entry) (s : State) (h : s.host.sched = [e]) :
    dropEntry e s = { s with host := { s.host with sched := [] } } := by
  unfold dropEntry
  rw [h, List.erase_cons_head]

theorem cancelEntry_snap (e : Entry) (req : Bool) (s : State) (hact : e.act = .snap req) :
    cancelEntry e s = complete s.now 0x20 0x30 e.who 0 0 (dropEntry e s) := by
  unfold cancelEntry
  extract_lets s1 s2
  have h2 : s2 = s1 := if_neg (by rw [hact]; exact Action.noConfusion)
  rw [h2, hact]
  exact congrArg (fun t => complete t 0x20 St.timeout e.who 0 0 (dropEntry e s)) (dropEntry_now e s)

theorem cancelEntry_commit (e : Entry) (s : State) (hact : e.act = .commit) :
    cancelEntry e s = complete s.now 0x13 0x30 e.who 0 0 (keepShadow (dropEntry e s)) := by
  unfold cancelEntry
  extract_lets s1 s2
  have h2 : s2 = keepShadow s1 := if_pos hact
  rw [h2, hact]
  exact congrArg (fun t => complete t 0x13 St.timeout e.who 0 0 (keepShadow (dropEntry e s))) (dropEntry_now e s)

theorem runAction_snap_single (s : State) (e : Entry) (req : Bool) (h : s.host.sched = [e]) :
    runAction (.snap req) e.who (dropEntry e s) =
      { s with host := { s.host with sched := [] }, win := { s.win with snapArm := s.win.snapArm ++ [(s.now, e.who)] } } := by
  rw [dropEntry_single e s h]
  rfl

theorem schedSnapExec_single (s : State) (e : Entry) (req : Bool) (hready : s.ready = true) (h : s.host.sched = [e]) (hnone : nextDue s = none)
    (hp : e.pending = false) (hact : e.act = .snap req) (hspan : e.span = s.clk.span) (hgrain : e.grain < 4096) :
    exec .schedSnapExec s = .next { s with
      clk := ⟨s.clk.span, e.grain⟩, host := { s.host with sched := [] },
      win := { s.win with snapArm := s.win.snapArm ++ [(s.stampAt e.grain, e.who)] } } := by
  show execRank 3 s = _
  have hto := toDue_single s e h hnone hp hspan hgrain
  set t : State := { s with clk := ⟨s.clk.span, e.grain⟩ } with ht
  have hsched : t.host.sched = [e] := h
  have hdue : nextDue t = some e := by
    rw [nextDue_single t e hsched, if_pos (by simp [dueNow, hp, hspan, State.abs, ht])]
  have htake : takeDue 3 t = some (e, dropEntry e t) := by
    unfold takeDue
    rw [hdue]
    simp only [hact, Action.rank, show t.ready = true from hready, hp, decide_true, Bool.not_false, Bool.and_self, if_true]
  unfold execRank
  rw [hto, htake]
  simp only [hact, done]
  rw [runAction_snap_single t e req hsched]
  rfl

theorem pendTimeout_single (s : State) (e : Entry) (hready : s.ready = true) (h : s.host.sched = [e]) :
    exec .pendTimeout s = .next (if e.pending = true ∧ e.since + s.get Reg.PEND_TIMEOUT ≤ s.clk.span then cancelEntry e s else s) := by
  show execPendTimeout s = _
  unfold execPendTimeout
  rw [if_pos hready, cancelWhere_single _ s e h]
  simp only [Bool.and_eq_true, decide_eq_true_eq, done]

/-! ### The delivery of a commit (R385) -/

/-- The tiers that have not acknowledged the words of the commit. -/
def unacked (s : State) : List Nat := (affected s).filter (fun k => !s.host.acked.contains k)

theorem commitDeliveryDeadline_eq (s : State) (e : Entry) (hready : s.ready = true) (h : s.host.sched = [e]) (hact : e.act = .commit)
    (hspan : e.span = s.clk.span + 1) :
    exec .commitDeliveryDeadline s = .next (
      if s.clk.grain < 3840 ∨ unacked s = [] then s
      else if s.clk.grain = 3840 ∧ (unacked s).all s.linkUp = true then { s with host := { s.host with acked := s.host.acked ++ unacked s } }
      else cancelEntry e s) := by
  show execCommitDeliveryDeadline s = _
  have hfind : s.host.sched.find? (fun e => e.act == .commit && e.span == s.clk.span + 1) = some e := by
    rw [h]
    simp [hact, hspan]
  unfold execCommitDeliveryDeadline unacked
  rw [hfind]
  simp only [hready, Bool.not_true, Bool.false_or, List.isEmpty_iff, Bool.or_eq_true, Bool.and_eq_true, decide_eq_true_eq, done]
  split_ifs <;> rfl

/-- At the deadline tiers whose links are up acknowledge the words of the commit. -/
theorem commitDeliveryDeadline_acks (s : State) (e : Entry) (hready : s.ready = true) (h : s.host.sched = [e]) (hact : e.act = .commit)
    (hspan : e.span = s.clk.span + 1) (hgrain : s.clk.grain = 3840) (hup : (affected s).all s.linkUp = true) :
    exec .commitDeliveryDeadline s = .next { s with host := { s.host with acked := s.host.acked ++ unacked s } } := by
  rw [commitDeliveryDeadline_eq s e hready h hact hspan]
  by_cases hnil : unacked s = []
  · rw [if_pos (.inr hnil), hnil, List.append_nil]
  · have hall : (unacked s).all s.linkUp = true :=
      List.all_eq_true.mpr fun k hk => List.all_eq_true.mp hup k (List.mem_of_mem_filter hk)
    rw [if_neg (not_or.mpr ⟨by omega, hnil⟩), if_pos ⟨hgrain, hall⟩]

theorem acked_append_unacked (s : State) : ∀ k ∈ affected s, (s.host.acked ++ unacked s).contains k = true := by
  intro k hk
  by_cases hacked : s.host.acked.contains k = true
  · simp_all
  · have : k ∈ unacked s := List.mem_filter.mpr ⟨hk, by simpa using hacked⟩
    simp [this]

/-- A commit that lacks an acknowledgement which can no longer come is cancelled. -/
theorem commitDeliveryDeadline_cancels (s : State) (e : Entry) (hready : s.ready = true) (h : s.host.sched = [e]) (hact : e.act = .commit)
    (hspan : e.span = s.clk.span + 1)
    (hlate : 3840 < s.clk.grain ∨ (s.clk.grain = 3840 ∧ (affected s).any (fun k => !s.host.acked.contains k && !s.linkUp k) = true))
    (hlack : (affected s).any (fun k => !s.host.acked.contains k) = true) :
    exec .commitDeliveryDeadline s = .next (cancelEntry e s) := by
  obtain ⟨j, hj, hjack⟩ := List.any_eq_true.mp hlack
  have hnil : unacked s ≠ [] := List.ne_nil_of_mem (List.mem_filter.mpr ⟨hj, hjack⟩)
  have hnot : ¬ (s.clk.grain = 3840 ∧ (unacked s).all s.linkUp = true) := by
    rintro ⟨hgrain, hall⟩
    obtain ⟨k, hk, hdown⟩ := List.any_eq_true.mp (hlate.resolve_left (by omega)).2
    rw [Bool.and_eq_true] at hdown
    have hup := List.all_eq_true.mp hall k (List.mem_filter.mpr ⟨hk, hdown.1⟩)
    rw [hup] at hdown
    exact absurd hdown.2 (by decide)
  rw [commitDeliveryDeadline_eq s e hready h hact hspan, if_neg (not_or.mpr ⟨by omega, hnil⟩), if_neg hnot]

/-! ### The rows of the schedule -/

/-- A commit whose tiers have not acknowledged is answered TIMEOUT and keeps its shadow set (R383). -/
theorem runCommit_timeout_keeps (m : Meta) (s : State) (hack : (affected s).all (fun k => s.host.acked.contains k) = false) :
    (runCommit m s).host.shadow = s.host.shadow ∧ (runCommit m s).host.owner = s.host.owner ∧ (runCommit m s).host.sched = s.host.sched ∧
      (runCommit m s).clk = s.clk ∧ (runCommit m s).evt = s.evt := by
  have h := complete_reportKeeps s.now 0x13 St.timeout m 0 0 (keepShadow s)
  rw [runCommit_unacked m s hack]
  exact ⟨h.shadow, h.owner, h.sched, h.clk, h.evt⟩

theorem runAction_excite (m : Meta) (cells klo khi amp reps : Nat) (s : State) (h : exciteRefusal m.src cells klo khi amp reps false s = none) :
    runAction (.excite cells klo khi amp reps) m s = startSweep m cells klo khi amp reps s := by
  unfold runAction
  simp only [h]

theorem runAction_excite_refused (m : Meta) (cells klo khi amp reps st : Nat) (s : State)
    (h : exciteRefusal m.src cells klo khi amp reps false s = some st) :
    runAction (.excite cells klo khi amp reps) m s = complete s.now 0x32 st m 4 0 s := by
  unfold runAction
  simp only [h]

theorem runMode_cases (new : Nat) (m : Meta) (s : State) :
    (new = s.modeNow → runMode new m s = s) ∧
      (new ≠ s.modeNow → new ≠ 0 → runMode new m s = changeMode raise new 0 m.src m.hseq s) ∧
      (new ≠ s.modeNow → new = 0 → runMode new m s = enterStore m.src m.hseq s) := by
  unfold runMode
  exact ⟨fun h => if_pos h, fun h h0 => by rw [if_neg h, if_neg h0], fun h h0 => by rw [if_neg h, if_pos h0]⟩

/-- The rows of an entry that is due, by its action. -/
theorem dueEntryExecutes (s : State) (e : Entry) (hready : s.ready = true) (h : nextDue s = some e) (hp : e.pending = false) :
    (e.act = .commit → exec .schedCommitExec s = .next (runCommit e.who (dropEntry e s))) ∧
    (∀ new, e.act = .mode new → exec .schedModeExec s = .next (runAction (.mode new) e.who (dropEntry e s))) ∧
    (∀ cells klo khi amp reps, e.act = .excite cells klo khi amp reps →
      exec .schedExciteExec s = .next (runAction (.excite cells klo khi amp reps) e.who (dropEntry e s))) ∧
    (∀ req, e.act = .snap req → exec .schedSnapExec s = .next (runAction (.snap req) e.who (dropEntry e s))) ∧
    (∀ v, e.act = .fwSwap v → exec .schedFwSwapExec s = .next (runAction (.fwSwap v) e.who (dropEntry e s))) := by
  have hrow : ∀ r a, e.act = a → a.rank = r → execRank r s = .next (runAction a e.who (dropEntry e s)) := fun r a ha hr => by
    rw [← ha]
    exact execRank_due r s e hready h hp (by rw [ha, hr])
  exact ⟨fun ha => hrow 0 _ ha rfl, fun _ ha => hrow 1 _ ha rfl, fun _ _ _ _ _ ha => hrow 2 _ ha rfl, fun _ ha => hrow 3 _ ha rfl,
    fun _ ha => hrow 4 _ ha rfl⟩

/-- Settles O29: the rows by what each action does to the state without its entry, the cancellations by the one entry that they name. -/
theorem scheduledActionsExecute : Obligations.ScheduledActionsExecute := by
  intro s e hready
  refine ⟨fun h hp => ?_, fun req hnone hsched hp hact hspan hgrain => ?_, fun req hsched hp hact => ⟨fun htq hg => ?_, fun htq => ?_, fun hto => ?_,
    fun hto => ?_⟩, fun hsched hact hspan => ⟨fun hg hup => ?_, fun hlate hlack => ?_, fun hg => ?_⟩⟩
  · obtain ⟨hcommit, hmode, hexcite, hsnap, hswap⟩ := dueEntryExecutes s e hready h hp
    refine ⟨fun ha hack hok => ?_, fun ha hack => ?_, fun new ha hok => ?_, fun new ha hno => ?_,
      fun cells klo khi amp reps ha => ⟨fun hok => ?_, fun st hno => ?_⟩, fun req ha => hsnap req ha, fun v ha => ⟨fun hv => ?_, fun hv => ?_⟩,
      execRank_other 0 s e h, execRank_other 1 s e h, execRank_other 2 s e h, execRank_other 3 s e h, execRank_other 4 s e h⟩
    · refine ⟨_, ?_, rfl⟩
      rw [hcommit ha, runCommit_acked e.who (dropEntry e s) hack ((dropEntry_commitRefusal e s).trans hok), dropEntry_shadowCrc]
    · exact ⟨_, hcommit ha, runCommit_timeout_keeps e.who (dropEntry e s) hack⟩
    · obtain ⟨hsame, hother, hstore⟩ := runMode_cases new e.who (dropEntry e s)
      refine ⟨runMode new e.who (dropEntry e s), ?_, hsame, hother, hstore⟩
      rw [hmode new ha, runAction_mode new e.who (dropEntry e s) ((dropEntry_modeRefused e new _ s).trans hok), dropEntry_now]
    · rw [hmode new ha, runAction_mode_refused new e.who (dropEntry e s) ((dropEntry_modeRefused e new _ s).trans hno), dropEntry_now]
    · obtain ⟨hsweep, hstate, hcomplete, hbegun, hhost, hevt⟩ := startSweep_spec e.who cells klo khi amp reps (dropEntry e s)
      refine ⟨_, ?_, hsweep, hstate, hcomplete, hbegun, congrArg HostPort.sched hhost, hevt⟩
      rw [hexcite _ _ _ _ _ ha, runAction_excite _ _ _ _ _ _ (dropEntry e s) ((dropEntry_exciteRefusal ..).trans hok)]
    · rw [hexcite _ _ _ _ _ ha, runAction_excite_refused _ _ _ _ _ _ st (dropEntry e s) ((dropEntry_exciteRefusal ..).trans hno),
        dropEntry_now]
    · obtain ⟨hphase, hcause, hsched⟩ := restart_spec 6 (dropEntry e s)
      exact ⟨_, (hswap v ha).trans (congrArg done (runAction_fwSwap v e.who (dropEntry e s) hv)), hphase, rfl, rfl, hcause, hsched⟩
    · rw [hswap v ha, runAction_fwSwap_invalid v e.who (dropEntry e s) hv]
      rfl
  · rw [schedSnapExec_single s e req hready hsched hnone hp hact hspan hgrain]
  · have hdue : nextDue s = some e := by
      rw [nextDue_single s e hsched, if_pos (by simp [dueNow, hp, htq, hact, grainFits, Action.rank, hg])]
    rw [pendingActionRun_due s e hready hdue hp, hact, runAction_snap_single s e req hsched]
  · obtain ⟨htoDue, hnone⟩ := toDue_unqualified s e hsched hp htq
    exact pendingActionRun_none s htoDue hnone
  · refine ⟨_, ?_, dropEntry_single e s hsched⟩
    rw [pendTimeout_single s e hready hsched, if_pos ⟨hp, hto⟩, cancelEntry_snap e req s hact]
  · rw [pendTimeout_single s e hready hsched, if_neg (fun h => by omega)]
  · exact ⟨_, commitDeliveryDeadline_acks s e hready hsched hact hspan hg hup, acked_append_unacked s, rfl⟩
  · refine ⟨keepShadow (dropEntry e s), ?_, ?_, rfl, rfl⟩
    · rw [commitDeliveryDeadline_cancels s e hready hsched hact hspan hlate hlack, cancelEntry_commit e s hact]
    · exact congrArg (fun u => u.host.sched) (dropEntry_single e s hsched)
  · rw [commitDeliveryDeadline_eq s e hready hsched hact hspan, if_pos (.inl hg)]

end Sys2Proof.Machine
end

section
/-!
The commands that enter the schedule (R64, R65, R67, R375, R378), and EXCITE STOP (R215).
-/
namespace Sys2Proof.Machine

/-! ### Refusals and entries as answers -/

/-- The command is answered with a status, and nothing changes but its record. -/
def answersOnly (m : Meta) (s : State) (i : Instr) (st : Nat) : Prop :=
  ∃ t, exec i s = .next t ∧ recorded m st [] t ∧ coreSame s t ∧ wordsSame (replyWord m) s t ∧ t.host.sched = s.host.sched

/-- The command is answered with a status and enters the schedule, and nothing else changes but its record. -/
def takesEntry (m : Meta) (s : State) (i : Instr) (status : Nat) (e : Entry) : Prop :=
  ∃ t, exec i s = .next t ∧ recorded m status [] t ∧ coreSame s t ∧ t.win = s.win ∧ wordsSame (replyWord m) s t ∧
    t.host.sched = s.host.sched ++ [e]

theorem recorded_of_answered {m : Meta} {status : Nat} {data : List Byte} {s t : State} (h : answered m status data s t) :
    recorded m status data t := by
  obtain ⟨hseq, hvalid, hcache, -⟩ := h
  exact ⟨hseq, hvalid, hcache⟩

theorem sched_of_hostRest {h h' : HostPort} (e : hostRest h h') : h'.sched = h.sched := by rw [e]

theorem answersOnly_of_refusal (c : Cmd) (m : Meta) (s : State) (i : Instr) (st : Nat) (h : accepts m s)
    (hexec : exec i s = .next (receive false c m s)) (hrun : runCmd c m s = refuse st s) (hst : st ≠ 2) : answersOnly m s i st := by
  obtain ⟨ha, hcore, -, hwords⟩ := answered_of_unchanged c m s h (by rw [hrun]; rfl) (by rw [hrun]; exact hst)
  have hhost := exec_host c m s h
  rw [hrun] at ha hhost
  exact ⟨_, hexec, recorded_of_answered ha, hcore, hwords, sched_of_hostRest hhost⟩

/-- BUSY is not recorded (R362). -/
theorem exec_busy (c : Cmd) (m : Meta) (s : State) (i : Instr) (h : accepts m s) (hexec : exec i s = .next (receive false c m s))
    (hrun : runCmd c m s = refuse 2 s) : exec i s = .next (sendReply m 0x02 [] s) := by
  rw [hexec, exec_accepts c m s h, hrun]
  rfl

theorem takesEntry_of_entry (c : Cmd) (m : Meta) (s : State) (i : Instr) (st : Nat) (a : Action) (at_ : Nat × Nat) (pend named : Bool) (since : Nat)
    (h : accepts m s) (hexec : exec i s = .next (receive false c m s)) (hrun : runCmd c m s = ⟨st, [], addEntry a m at_ pend named since s⟩)
    (hst : st ≠ 2) : takesEntry m s i st ⟨a, at_.1, at_.2, pend, named, since, m⟩ := by
  obtain ⟨ha, hcore, hwin, hwords⟩ := exec_answered c m s h (by rw [hrun]; exact hst) (by rw [hrun]; rfl) (by rw [hrun]; rfl)
    (by rw [hrun]; rfl) (by rw [hrun]; rfl) (by rw [hrun]; rfl)
  have hhost := exec_host c m s h
  rw [hrun] at ha hcore hwin hwords hhost
  exact ⟨_, hexec, recorded_of_answered ha, coreSame_trans (coreSame_host _ _) hcore, hwin, hwords, sched_of_hostRest hhost⟩

/-! ### The instants of an action (R64, R65, R67) -/

/-- The command waits for its instant: BUSY with a full schedule, else an entry for its instant, its target, or none yet. -/
def waitsFor (m : Meta) (s : State) (i : Instr) (a : Action) (tq : Bool) (at_ : Target) (now : Nat × Nat) : Prop :=
  (32 ≤ s.host.sched.length → exec i s = .next (sendReply m 0x02 [] s)) ∧
  (s.host.sched.length < 32 →
    (at_.span = 0 → (tq = false ∨ timeQualified s = true) → takesEntry m s i 0x00 ⟨a, now.1, now.2, false, false, s.clk.span, m⟩) ∧
    (at_.span = 0 → tq = true → timeQualified s = false → takesEntry m s i 0x01 ⟨a, 0, 0, true, false, s.clk.span, m⟩) ∧
    (at_.span ≠ 0 → takesEntry m s i 0x00 ⟨a, (raiseGrain at_.span at_.grain).1, (raiseGrain at_.span at_.grain).2, false, true, at_.span, m⟩))

theorem schedule_full (a : Action) (t : Target) (m : Meta) (s : State) (h : 32 ≤ s.host.sched.length) : schedule a t m s = refuse 2 s := by
  unfold schedule
  rw [if_pos h]
  rfl

theorem schedule_now (a : Action) (t : Target) (m : Meta) (s : State) (h : s.host.sched.length < 32) (ht : t.span = 0)
    (htq : needsTq a m.bcast = false ∨ timeQualified s = true) :
    schedule a t m s = ⟨0, [], addEntry a m (immediateAt a s) false false s.clk.span s⟩ := by
  unfold schedule
  rw [if_neg (by omega), if_pos ht, if_neg (by rcases htq with h | h <;> simp [h])]
  rfl

theorem schedule_pending (a : Action) (t : Target) (m : Meta) (s : State) (h : s.host.sched.length < 32) (ht : t.span = 0)
    (hneeds : needsTq a m.bcast = true) (htq : timeQualified s = false) :
    schedule a t m s = ⟨1, [], addEntry a m (0, 0) true false s.clk.span s⟩ := by
  unfold schedule
  rw [if_neg (by omega), if_pos ht, if_pos (by simp [hneeds, htq])]
  rfl

theorem schedule_named (a : Action) (t : Target) (m : Meta) (s : State) (h : s.host.sched.length < 32) (ht : t.span ≠ 0) :
    schedule a t m s = ⟨0, [], addEntry a m (raiseGrain t.span t.grain) false true t.span s⟩ := by
  unfold schedule
  rw [if_neg (by omega), if_neg ht]
  rfl

/-- A command that passes its refusals waits for its instant. -/
theorem waitsFor_of_schedule (c : Cmd) (m : Meta) (s : State) (i : Instr) (a : Action) (at_ : Target) (h : accepts m s)
    (hexec : exec i s = .next (receive false c m s)) (hrun : runCmd c m s = schedule a at_ m s) :
    waitsFor m s i a (needsTq a m.bcast) at_ (immediateAt a s) := by
  refine ⟨fun hfull => exec_busy c m s i h hexec (hrun.trans (schedule_full a at_ m s hfull)), fun hroom => ⟨fun ht htq => ?_,
    fun ht hneeds htq => ?_, fun ht => ?_⟩⟩
  · exact takesEntry_of_entry c m s i 0 a _ false false _ h hexec (hrun.trans (schedule_now a at_ m s hroom ht htq)) (by decide)
  · exact takesEntry_of_entry c m s i 1 a (0, 0) true false _ h hexec (hrun.trans (schedule_pending a at_ m s hroom ht hneeds htq)) (by decide)
  · exact takesEntry_of_entry c m s i 0 a _ false true _ h hexec (hrun.trans (schedule_named a at_ m s hroom ht)) (by decide)

/-! ### The four commands (R378, R421, R215, R472) -/

theorem snap_answers (m : Meta) (s : State) (at_ : Target) (h : accepts m s) :
    (prefixBad false true at_ s = true → answersOnly m s (.snap m at_) 0x11) ∧
      (prefixBad false true at_ s = false →
        waitsFor m s (.snap m at_) (.snap at_.reqTq) (m.bcast || at_.reqTq) at_ (s.clk.span + 1, 0)) := by
  refine ⟨fun hbad => ?_, fun hok => ?_⟩
  · exact answersOnly_of_refusal (.snap at_) m s _ _ h rfl (if_pos hbad) (by decide)
  · exact waitsFor_of_schedule (.snap at_) m s _ _ at_ h rfl (if_neg (by rw [hok]; decide))

theorem mode_answers (m : Meta) (s : State) (at_ : Target) (new : Nat) (h : accepts m s) :
    (prefixBad false false at_ s = true ∨ 5 < new → answersOnly m s (.mode m at_ new) 0x11) ∧
      (prefixBad false false at_ s = false → new ≤ 5 →
        (modeRefused new s.host.sched.length s = true → answersOnly m s (.mode m at_ new) 0x12) ∧
        (modeRefused new s.host.sched.length s = false → waitsFor m s (.mode m at_ new) (.mode new) false at_ (s.clk.span + 1, 0))) := by
  have hrun : runCmd (.mode at_ new) m s = modeCmd m at_ new s := rfl
  unfold modeCmd at hrun
  refine ⟨fun hbad => ?_, fun hok hnew => ?_⟩
  · exact answersOnly_of_refusal _ m s _ _ h rfl (hrun.trans (if_pos (by simpa using hbad))) (by decide)
  · replace hrun := hrun.trans (if_neg (by simp [hok, Nat.not_lt.mpr hnew]))
    refine ⟨fun href => ?_, fun href => ?_⟩
    · exact answersOnly_of_refusal _ m s _ _ h rfl (hrun.trans (if_pos href)) (by decide)
    · exact waitsFor_of_schedule _ m s _ _ at_ h rfl (hrun.trans (if_neg (by rw [href]; decide)))

theorem exciteStart_answers (m : Meta) (s : State) (at_ : Target) (cells klo khi amp reps : Nat) (h : accepts m s) :
    (prefixBad true false at_ s = true → answersOnly m s (.exciteStart m at_ cells klo khi amp reps) 0x11) ∧
      (∀ st : Nat, prefixBad true false at_ s = false → exciteRefusal m.src cells klo khi amp reps (exciteDue s) s = some st →
        (st = 0x02 → exec (.exciteStart m at_ cells klo khi amp reps) s = .next (sendReply m 0x02 [] s)) ∧
        (st ≠ 0x02 → answersOnly m s (.exciteStart m at_ cells klo khi amp reps) st)) ∧
      (prefixBad true false at_ s = false → exciteRefusal m.src cells klo khi amp reps (exciteDue s) s = none →
        waitsFor m s (.exciteStart m at_ cells klo khi amp reps) (.excite cells klo khi amp reps) true at_
          (raiseGrain s.clk.span (s.clk.grain + 1))) := by
  have hrun : runCmd (.exciteStart at_ cells klo khi amp reps) m s = exciteStartCmd m at_ cells klo khi amp reps s := rfl
  unfold exciteStartCmd at hrun
  refine ⟨fun hbad => ?_, fun st hok href => ?_, fun hok hnone => ?_⟩
  · exact answersOnly_of_refusal _ m s _ _ h rfl (hrun.trans (if_pos hbad)) (by decide)
  · rw [if_neg (by rw [hok]; decide), href] at hrun
    refine ⟨fun hst => ?_, fun hst => answersOnly_of_refusal _ m s _ _ h rfl hrun hst⟩
    subst hst
    exact exec_busy _ m s _ h rfl hrun
  · rw [if_neg (by rw [hok]; decide), hnone] at hrun
    exact waitsFor_of_schedule _ m s _ _ at_ h rfl hrun

theorem fwSwap_answers (m : Meta) (s : State) (at_ : Target) (version : Nat) (h : accepts m s) :
    (prefixBad false false at_ s = true → answersOnly m s (.fwSwap m at_ version) 0x11) ∧
      (prefixBad false false at_ s = false →
        (s.modeNow ≠ 4 ∨ s.flag (bankValid (inactiveBank s)) = false → answersOnly m s (.fwSwap m at_ version) 0x12) ∧
        (s.modeNow = 4 → s.flag (bankValid (inactiveBank s)) = true →
          (version ≠ 0 → version ≠ s.get (Reg.FW_VER (inactiveBank s)) → answersOnly m s (.fwSwap m at_ version) 0x20) ∧
          (version = 0 ∨ version = s.get (Reg.FW_VER (inactiveBank s)) →
            waitsFor m s (.fwSwap m at_ version) (.fwSwap version) false at_ (s.clk.span + 1, 0)))) := by
  have hrun : runCmd (.fwSwap at_ version) m s = fwSwapCmd m at_ version s := rfl
  unfold fwSwapCmd at hrun
  refine ⟨fun hbad => ?_, fun hok => ?_⟩
  · exact answersOnly_of_refusal _ m s _ _ h rfl (hrun.trans (if_pos hbad)) (by decide)
  · replace hrun := hrun.trans (if_neg (by rw [hok]; decide))
    refine ⟨fun hno => ?_, fun hmode hvalid => ?_⟩
    · exact answersOnly_of_refusal _ m s _ _ h rfl (hrun.trans (if_pos (by rcases hno with hno | hno <;> simp [hno]))) (by decide)
    · replace hrun := hrun.trans (if_neg (by simp [hmode, hvalid]))
      refine ⟨fun h0 hver => ?_, fun hver => ?_⟩
      · exact answersOnly_of_refusal _ m s _ _ h rfl (hrun.trans (if_pos (by simp [h0, hver]))) (by decide)
      · exact waitsFor_of_schedule _ m s _ _ at_ h rfl (hrun.trans (if_neg (by rcases hver with hver | hver <;> simp [hver])))

/-! ### EXCITE STOP (R215, R225) -/

theorem State.each_keeps_mem (p : State → Prop) (l : List Nat) (f : Nat → State → State) (hf : ∀ k ∈ l, ∀ t, p t → p (f k t)) (s : State) (h : p s) :
    p (s.each l f) := by
  induction l generalizing s with
  | nil => exact h
  | cons k l ih => exact ih (fun j hj => hf j (List.mem_cons_of_mem k hj)) _ (hf k List.mem_cons_self s h)

/-- The two states agree in the caches of the sources, and in the words of the ports and of the sequence counters. -/
def countersKeep (s t : State) : Prop := t.host.seqs = s.host.seqs ∧ ∀ a, 0x50000 ≤ a → t.word a = s.word a

theorem countersKeep.trans {s t u : State} (h1 : countersKeep s t) (h2 : countersKeep t u) : countersKeep s u :=
  ⟨h2.1.trans h1.1, fun a ha => (h2.2 a ha).trans (h1.2 a ha)⟩

theorem put_countersKeep (s : State) (f : Field) (v : Nat) (hf : f.a < 0x50000) : countersKeep s (s.put f v) :=
  ⟨rfl, fun a ha => put_word_ne s f v a (by omega)⟩

theorem exc_countersKeep (s : State) (x : Exc) : countersKeep s { s with exc := x } := ⟨rfl, fun _ _ => rfl⟩

theorem unexcite_countersKeep (ch : Nat) (hch : ch < 128) (s : State) : countersKeep s (unexcite ch s) := by
  unfold unexcite
  split
  · have hput : countersKeep s (s.put (Reg.CH_STATE ch) (if kvGet (fun _ => 0) s.exc.held ch = 0 then 0 else 1)) :=
      put_countersKeep s _ _ (by simp only [Reg.CH_STATE, Wd.CH_STATUS]; omega)
    exact (hput.trans (exc_countersKeep _ _)).trans (exc_countersKeep _ _)
  · exact ⟨rfl, fun _ _ => rfl⟩

/-- A sweep that ends reports it from a state in which there is none. -/
theorem endSweep_reports (status cause : Nat) (s : State) (m : Meta) (r : Nat × Nat × Nat × Nat) (h : s.exc.sweep = some (m, r)) :
    ∃ (u : State) (t : Stamp) (detail : Nat), endSweep status cause s = complete t 0x32 status m cause detail u ∧ u.exc.sweep = none ∧
      u.exc.tiers = [] ∧ u.get Reg.EXC_STATE = (if s.get Reg.EXC_STATE = 1 then 3 else 0) ∧ countersKeep s u := by
  unfold endSweep
  split
  · next hnone => exact absurd (h.symm.trans hnone) (by simp)
  · next m' r' hsome =>
    obtain ⟨rfl, -⟩ := Prod.mk.inj (Option.some.inj (h.symm.trans hsome))
    extract_lets now cut partial_ s1 s2 s3 _ s4
    have h1 : countersKeep s s1 := (put_countersKeep s _ _ (by decide)).trans (put_countersKeep _ _ _ (by decide))
    have h2 : countersKeep s s2 := State.each_keeps_mem (countersKeep s) now _ (fun k hk t ht => by
      have hcell : t.get (Reg.EXC_CELL k) < 128 := get_lt t _
      have hk6 : k < 6 := List.mem_range.mp (List.mem_of_mem_filter hk)
      exact (ht.trans (unexcite_countersKeep _ hcell t)).trans (put_countersKeep _ _ _ (by simp only [Reg.EXC_CELL, Wd.EXC_TIER]; omega))) s1 h1
    have h3 : countersKeep s s3 := h2.trans (put_countersKeep s2 _ _ (by decide))
    refine ⟨s4, _, _, rfl, rfl, rfl, ?_, h3.trans (exc_countersKeep s3 _)⟩
    exact State.get_put_of_lt s2 Reg.EXC_STATE _ (by decide) (by split <;> decide)

/-! ### The counters under a report -/

/-- Of the words that show the sequence counters, a report may advance one by one, where the port that it was to leave by counts in it. -/
def counted (s t : State) : Prop :=
  ∀ (src : Nat) (b : Bool), src < 4 → t.get (seqField src b) = s.get (seqField src b) ∨ t.get (seqField src b) = satAdd 16 (s.get (seqField src b)) 1

theorem seqField_a (src : Nat) (b : Bool) : (seqField src b).a = Wd.SEQ_HSEQ src := by cases b <;> rfl

theorem put_seqField_word (s : State) (f : Field) (v src : Nat) (b : Bool) (h : f.a ≠ Wd.SEQ_HSEQ src) :
    (s.put f v).get (seqField src b) = s.get (seqField src b) :=
  State.get_put_word s f _ v (by rw [seqField_a]; exact h)

/-- The drop count of a chain port shares at most the counter of the broadcasts. -/
theorem bumpDrop_counted (p : Nat) (s : State) : counted s (s.bump (Reg.TXQ_DROP p)) := by
  intro src b _
  by_cases ha : (Reg.TXQ_DROP p).a = Wd.SEQ_HSEQ src
  · cases b with
    | false =>
      left
      exact State.get_put_apart s _ _ _ (.inr ⟨Nat.le_refl 32, .inl (Nat.le_refl 16)⟩)
    | true =>
      right
      have hf : seqField src true = Reg.TXQ_DROP p := by
        simp only [seqField, Reg.LAST_BHSEQ, Reg.TXQ_DROP, if_true, Field.mk.injEq, and_true]
        exact ha.symm
      rw [hf]
      exact State.get_bump s (Reg.TXQ_DROP p) (by simp only [Reg.TXQ_DROP]; decide)
  · left
    exact put_seqField_word s _ _ src b ha

theorem sendTo_counted (d : Dest) (f : Frame) (s : State) : counted s (sendTo d f s) := by
  cases d with
  | spi =>
    refine fun src b hsrc => .inl ?_
    simp only [sendTo, hqAdd]
    split_ifs
    · rfl
    · exact put_seqField_word s _ _ src b (by simp only [Reg.HQ_DROP, Wd.HP_COUNTS2, Wd.SEQ_HSEQ]; omega)
    · rfl
    · rfl
  | tw =>
    refine fun src b hsrc => .inl ?_
    simp only [sendTo, twqAdd]
    split_ifs
    · rfl
    · exact put_seqField_word s _ _ src b (by simp only [Reg.TW_DROP, Wd.TW_COUNTS2, Wd.SEQ_HSEQ]; omega)
    · rfl
    · rfl
  | port p =>
    have h := txAdd_cases p (routeTo s p f) s
    rw [show sendTo (.port p) f s = txAdd p (routeTo s p f) s from rfl]
    rcases h with h | h
    · rw [h]
      exact fun _ _ _ => .inl rfl
    · rw [h]
      exact bumpDrop_counted p s

/-- A report leaves the words below those of the ports. -/
theorem sendTo_low (d : Dest) (f : Frame) (s : State) (a : Nat) (ha : a < 0x50000) : (sendTo d f s).word a = s.word a := by
  cases d with
  | spi =>
    simp only [sendTo, hqAdd]
    split_ifs
    · rfl
    · exact put_word_ne s _ _ a (by simp only [Reg.HQ_DROP, Wd.HP_COUNTS2]; omega)
    · rfl
    · rfl
  | tw =>
    simp only [sendTo, twqAdd]
    split_ifs
    · rfl
    · exact put_word_ne s _ _ a (by simp only [Reg.TW_DROP, Wd.TW_COUNTS2]; omega)
    · rfl
    · rfl
  | port p =>
    rw [show sendTo (.port p) f s = txAdd p (routeTo s p f) s from rfl]
    rcases txAdd_cases p (routeTo s p f) s with h | h
    · rw [h]
      rfl
    · rw [h]
      exact put_word_ne s _ _ a (by simp only [Reg.TXQ_DROP, Wd.PC_DROP]; omega)

theorem leBytes_length (k n : Nat) : (leBytes k n).length = k := by
  induction k generalizing n with
  | zero => rfl
  | succ k ih => rw [leBytes, List.length_cons, ih]

theorem payloads_short (d : List Byte) (h : d.length ≤ 51) : payloads d = [byte 128 :: d] := by
  simp [payloads, parts, h, payloadsFrom]

theorem issueReport_short (kind : Nat) (dests : List Dest) (d : List Byte) (s : State) (h : d.length ≤ 51) :
    issueReport kind dests d s = issueFrame kind dests (fun _ => byte 128 :: d) s := by
  have hp := payloads_short d h
  unfold issueReport
  simp only [hp, List.foldl_cons, List.foldl_nil]

/-- The state with a DSEQ taken and a frame held for a replay. -/
def issued (x : Nat) (buf : List Frame) (s : State) : State := { s.put Reg.LAST_DSEQ x with host := { s.host with replayBuf := buf } }

theorem issued_regs (x : Nat) (buf : List Frame) (s : State) : (issued x buf s).regs = (s.put Reg.LAST_DSEQ x).regs := rfl

theorem issued_seqField (x : Nat) (buf : List Frame) (s : State) (src : Nat) (b : Bool) (hsrc : src < 4) :
    (issued x buf s).get (seqField src b) = s.get (seqField src b) := by
  rw [get_of_regs (issued_regs x buf s)]
  exact put_seqField_word s Reg.LAST_DSEQ x src b (by simp only [Reg.LAST_DSEQ, Wd.SEQ_DSEQ, Wd.SEQ_HSEQ]; omega)

theorem issued_low (x : Nat) (buf : List Frame) (s : State) (a : Nat) (ha : a < 0x50000) : (issued x buf s).word a = s.word a := by
  rw [State.word, issued_regs, ← State.word]
  exact put_word_ne s Reg.LAST_DSEQ x a (by simp only [Reg.LAST_DSEQ, Wd.SEQ_DSEQ]; omega)

/-- A report frame as it takes the next DSEQ and its place in the replay buffer. -/
theorem issueFrame_single (kind : Nat) (d : Dest) (mk : Nat → List Byte) (s : State) :
    ∃ (x : Nat) (buf : List Frame) (f : Frame),
      issueFrame kind [d] mk s = sendTo d f (issued x buf s) :=
  ⟨_, _, _, rfl⟩

/-- A completion report is one frame to one destination. -/
theorem complete_frame (t : Stamp) (op status : Nat) (m : Meta) (cause detail : Nat) (s : State) :
    ∃ (x : Nat) (buf : List Frame) (f : Frame), complete t op status m cause detail s =
      sendTo (destOf m) f (issued x buf s) := by
  have hlen : (completionData t op status m cause detail).length ≤ 51 := by
    simp [completionData, leBytes_length]
  unfold complete
  rw [issueReport_short _ _ _ s hlen]
  exact issueFrame_single 0x02 (destOf m) _ s

theorem complete_counted (t : Stamp) (op status : Nat) (m : Meta) (cause detail : Nat) (s : State) :
    counted s (complete t op status m cause detail s) ∧
      ∀ a, a < 0x50000 → (complete t op status m cause detail s).word a = s.word a := by
  obtain ⟨x, buf, f, h⟩ := complete_frame t op status m cause detail s
  rw [h]
  refine ⟨fun src b hsrc => ?_, fun a ha => ?_⟩
  · rw [← issued_seqField x buf s src b hsrc]
    exact sendTo_counted (destOf m) f _ src b hsrc
  · rw [sendTo_low (destOf m) f _ a ha, issued_low x buf s a ha]

/-! ### The record after a report -/

/-- The HSEQ of the command does not lie behind the counter of its source. -/
def notBehind (m : Meta) (s : State) : Prop :=
  (s.seqSt (seqIdx m.src m.bcast)).valid = false ∨ ¬ 32768 < (m.hseq + 65536 - s.get (seqField m.src m.bcast)) % 65536

/-- The record of a command whose HSEQ does not lie behind the counter. -/
theorem record_notBehind (c : Cmd) (m : Meta) (status : Nat) (data : List Byte) (s : State) (h : notBehind m s) :
    record c m status data s = (s.put (seqField m.src m.bcast) m.hseq).setSeqSt (seqIdx m.src m.bcast) ⟨true, cacheWith m status data s⟩ := by
  have hback : ((s.seqSt (seqIdx m.src m.bcast)).valid && decide (32768 < (m.hseq + 65536 - s.get (seqField m.src m.bcast)) % 65536)
      && c != .seqstate) = false := by
    rcases h with h | h <;> simp [h]
  unfold record
  simp only [hback, Bool.false_eq_true, if_false]
  rfl

/-- A counter that a report has advanced has not passed the next command of its source. -/
theorem notBehind_of_counted (m : Meta) (s t : State) (h : accepts m s) (hseqs : t.host.seqs = s.host.seqs) (hcount : counted s t) :
    notBehind m t := by
  obtain ⟨-, hm, -, -, hnext⟩ := h
  simp only [metaOk, Bool.and_eq_true, decide_eq_true_eq] at hm
  have hlt : s.get (seqField m.src m.bcast) < 2 ^ 16 := (get_lt s _).trans_eq (by rw [seqField_w])
  rcases hnext with hnext | hnext
  · left
    unfold State.seqSt at hnext ⊢
    rw [hseqs, hnext]
  · right
    rcases hcount m.src m.bcast hm.1.1 with hc | hc <;> rw [hc] <;> unfold satAdd at * <;> omega

theorem exciteStop_none (s : State) (h : s.exc.sweep = none) : endSweep St.ok 3 s = s := by
  unfold endSweep
  simp only [h]

/-- What EXCITE STOP leaves before its record. -/
theorem endSweep_stop (m : Meta) (s : State) (h : accepts m s) :
    let u := endSweep St.ok 3 s
    notBehind m u ∧ u.exc.sweep = none ∧
      (s.exc.sweep.isSome = true → u.exc.tiers = [] ∧ u.get Reg.EXC_STATE = if s.get Reg.EXC_STATE = 1 then 3 else 0) := by
  intro u
  cases hsweep : s.exc.sweep with
  | none =>
    have hu : u = s := exciteStop_none s hsweep
    rw [hu]
    exact ⟨notBehind_of_counted m s s h rfl (fun _ _ _ => .inl rfl), hsweep, fun e => absurd e (by decide)⟩
  | some x =>
    obtain ⟨v, t, detail, hend, hnone, htiers, hstate, hkeep⟩ := endSweep_reports St.ok 3 s x.1 x.2 hsweep
    obtain ⟨hcount, hlow⟩ := complete_counted t 0x32 St.ok x.1 3 detail v
    have hreport := complete_reportKeeps t 0x32 St.ok x.1 3 detail v
    have hu : u = complete t 0x32 St.ok x.1 3 detail v := hend
    rw [hu]
    refine ⟨notBehind_of_counted m s _ h (hreport.seqs.trans hkeep.1) fun src b hsrc => ?_, ?_, fun _ => ⟨?_, ?_⟩⟩
    · have hv : v.get (seqField src b) = s.get (seqField src b) :=
        get_of_word _ _ _ (hkeep.2 _ (by rw [seqField_a]; simp only [Wd.SEQ_HSEQ]; omega))
      rw [← hv]
      exact hcount src b hsrc
    · rw [hreport.exc, hnone]
    · rw [hreport.exc, htiers]
    · rw [get_of_word _ _ _ (hlow _ (by decide)), hstate]

/-- The state with the command of `m` in the counter and, answered OK, in the cache of its source. -/
def withRecord (m : Meta) (s : State) : State :=
  (s.put (seqField m.src m.bcast) m.hseq).setSeqSt (seqIdx m.src m.bcast) ⟨true, cacheWith m 0 [] s⟩

theorem withRecord_get (m : Meta) (s : State) (f : Field) (hf : f.a < Wd.SEQ_HSEQ 0) : (withRecord m s).get f = s.get f := by
  unfold withRecord
  rw [State.setSeqSt_get, State.get_put_word _ _ _ _ (seqField_word_ne _ _ _ hf)]

theorem withRecord_counter (m : Meta) (s : State) (hm : metaOk m = true) :
    (withRecord m s).get (seqField m.src m.bcast) = m.hseq ∧ (withRecord m s).seqSt (seqIdx m.src m.bcast) = ⟨true, cacheWith m 0 [] s⟩ := by
  simp only [metaOk, Bool.and_eq_true, decide_eq_true_eq] at hm
  unfold withRecord
  refine ⟨?_, State.seqSt_setSeqSt_same _ _ _⟩
  rw [State.setSeqSt_get, State.get_put _ _ _ (seqField_fits _ _), seqField_w]
  exact Nat.mod_eq_of_lt hm.1.2

theorem withRecord_exc (m : Meta) (s : State) : (withRecord m s).exc = s.exc := by
  unfold withRecord
  rw [State.setSeqSt_exc, State.put_exc]

theorem withRecord_hq (m : Meta) (s : State) : (withRecord m s).host.hq = s.host.hq := rfl

/-- A command that is recorded with OK is answered so; its reply leaves the sweep and its state. -/
theorem sendReply_withRecord (m : Meta) (s : State) (hm : metaOk m = true) :
    let t := sendReply m 0 [] (withRecord m s)
    recorded m 0 [] t ∧ t.exc = s.exc ∧ t.get Reg.EXC_STATE = s.get Reg.EXC_STATE := by
  obtain ⟨hseq, hcache⟩ := withRecord_counter m s hm
  obtain ⟨hcore, -, -, hwords⟩ := sendReply_core m 0 [] (withRecord m s)
  refine ⟨recorded_of_answered (answered_of_record m 0 [] s (withRecord m s) hm hseq hcache (withRecord_hq m s) (withRecord_get m s _ (by decide))
    (flag_of_get _ _ _ (withRecord_get m s _ (by decide)))), ?_, ?_⟩
  · rw [hcore]
    exact withRecord_exc m s
  · have hreply : (sendReply m 0 [] (withRecord m s)).word Wd.EXC_STATUS = (withRecord m s).word Wd.EXC_STATUS :=
      hwords _ (by simp only [Reg.TXQ_DROP, Wd.PC_DROP, Wd.EXC_STATUS]; omega)
    rw [get_of_word _ _ Reg.EXC_STATE hreply, withRecord_get m s _ (by decide)]

/-- EXCITE STOP is answered OK and recorded, after what ends the sweep (R215). -/
theorem exciteStop_exec (m : Meta) (s : State) (h : accepts m s) (hbehind : notBehind m (endSweep St.ok 3 s)) :
    exec (.exciteStop m) s = .next (sendReply m 0 [] (withRecord m (endSweep St.ok 3 s))) := by
  have hrun : runCmd .exciteStop m s = answer [] (endSweep St.ok 3 s) := rfl
  have hexec := exec_accepts .exciteStop m s h
  rw [hrun] at hexec
  generalize endSweep St.ok 3 s = u at hexec hbehind
  have hrecord : record .exciteStop m (answer [] u).status (answer [] u).data (answer [] u).st = withRecord m u :=
    record_notBehind _ m 0 [] u hbehind
  rw [if_neg (show ¬ (answer [] u).status = St.busy from Nat.zero_ne_add_one 1), hrecord] at hexec
  exact congrArg done hexec

theorem exciteStop_answers (m : Meta) (s : State) (h : accepts m s) :
    ∃ t, exec (.exciteStop m) s = .next t ∧ recorded m 0x00 [] t ∧ t.exc.sweep = none ∧
      (s.exc.sweep.isSome = true → t.exc.tiers = [] ∧ t.get Reg.EXC_STATE = if s.get Reg.EXC_STATE = 1 then 3 else 0) := by
  obtain ⟨hbehind, hnone, hsome⟩ := endSweep_stop m s h
  obtain ⟨hrec, hexc, hstate⟩ := sendReply_withRecord m (endSweep St.ok 3 s) h.2.1
  refine ⟨_, exciteStop_exec m s h hbehind, hrec, by rw [hexc, hnone], fun hrun => ?_⟩
  rw [hexc, hstate]
  exact hsome hrun

/-- Settles O28: each command by its refusals and by what `schedule` answers, EXCITE STOP by what a sweep that ends leaves of the counters. -/
theorem actionsAreScheduled : Obligations.ActionsAreScheduled := by
  intro m s h
  exact ⟨fun at_ => snap_answers m s at_ h, fun at_ new => mode_answers m s at_ new h,
    fun at_ cells klo khi amp reps => exciteStart_answers m s at_ cells klo khi amp reps h, fun at_ version => fwSwap_answers m s at_ version h,
    exciteStop_answers m s h⟩

end Sys2Proof.Machine
end

section
namespace Sys2Proof.Machine

/-! ### The average of the round trips (R57) -/

/-- A MASTER head whose up port is UP, with 15 round trips of 1,600 ns summed up for position 1 through its down port, less the 800 ns each
that the follower waits, and a probe of that position on its way. -/
def echoDueAtMaster : State :=
  let s := (((State.reset.put (Reg.PSTATE 1) 2).put Reg.HEAD_NOW 1).put Reg.ROLE 1)
  { s with pwr := { s.pwr with phase := .ready }, tb := { s.tb with probeOut := some (0, 1), probes := [(1, (15, 12000, 0))] } }

/-- A round trip shorter than the 800 ns counts as 0 in the model, which averages 12,000 ns to 375. -/
theorem echoReceived_short_delay :
    (match exec (.echoReceived 0 1 0) echoDueAtMaster with
      | .next t => kvGet (fun _ => 0) t.tb.delays 1
      | _ => 0) = 375 := by decide +kernel

/-- Refutes O15: the statement takes the 800 ns off as integers, so that a round trip of 0 ns counts as −800 ns (350 ns on average), while
the model counts it as 0 (375 ns). -/
theorem not_timeSetsTravelTheChain : ¬ Obligations.TimeSetsTravelTheChain := by
  intro h
  obtain ⟨-, -, -, -, hecho, -⟩ := h echoDueAtMaster (by decide +kernel)
  obtain ⟨t, ht, -, -, -, hdelay⟩ := (hecho 0 1 0 15 12000 0 (by decide) (by decide +kernel) (by decide +kernel) (by decide +kernel)
    (by decide +kernel)).2 rfl
  have hmodel := echoReceived_short_delay
  rw [ht] at hmodel
  have hstated : (Config.roundQ ((12000 : Nat) + ((0 : Nat) - 800)) 32).toNat % 2 ^ 18 = 350 := by decide +kernel
  exact absurd ((hmodel.symm.trans hdelay).trans hstated) (by decide)

end Sys2Proof.Machine
end

section
namespace Sys2Proof.Machine

/-! ### A wear event that ends a sweep -/

/-- A READY module in CHARGE with a sweep in progress that names chain port 20,506, a log of one sector erased 50,000 times, the wear
event at fatal severity, and a fatal window open in another class, so that the wear event escalates. -/
def wornInSweep : State :=
  let s := ((State.reset.put (Reg.SEV 491) 3).put Reg.ESC_EN 1).put Reg.MODE_NOW 3
  { s with pwr := { s.pwr with phase := .ready },
           start := { s.start with log := { s.start.log with sectors := 1, erases := [(0, 50000)] } },
           evt := { s.evt with windows := [(0, some ⟨0, 3, 0, 0⟩)] },
           exc := { s.exc with sweep := some (⟨2, false, 0, 20506⟩, 0, 0, 0, 0) } }

/-- The accumulators are recorded, and then the wear event escalates, which ends the sweep; the completion report finds no port, and the
drop counter of port 20,506 is the upper half of `REC_LAST[2]`. -/
theorem accumulators_last_record_overwritten :
    (match exec .accTunWrite wornInSweep with
      | .next t => t.get (Reg.REC_LAST 2)
      | _ => 0) = wornInSweep.get Reg.REC_NEXT + 65536 := by decide +kernel

/-- Refutes O54: the record of the accumulators finds space, but the wear event that it brings can escalate and end a sweep whose source
names a chain port that no module has; the drop of the completion report is then counted in the word that shows the latest record of kind 2. -/
theorem not_recordsAreAppended : ¬ Obligations.RecordsAreAppended := by
  intro h
  obtain ⟨-, -, hacc, -⟩ := h wornInSweep (by decide +kernel)
  obtain ⟨t, -, ht, -, -, -, hlast, -⟩ := hacc (by decide +kernel)
  have hmodel := accumulators_last_record_overwritten
  rw [ht] at hmodel
  exact absurd (hlast.symm.trans hmodel) (by omega)

end Sys2Proof.Machine
end

section
/-!
The rules of the primary path's own operations (R100 to R110): a set of bits, the words of a tier's spares, the moves that are due, the audit in
progress, and what a converter fault event leaves.
-/
namespace Sys2Proof.Machine

/-! ### Sets of bits -/

theorem bit_eq_testBit (n i : Nat) : bit n i = n.testBit i := by
  rw [Nat.testBit_eq_decide_div_mod_eq]
  rfl

/-- Setting a bit is putting a field of one bit. -/
theorem setBit_eq_putBits (n i : Nat) (b : Bool) : setBit n i b = putBits n i 1 (b01 b) := by
  have hparts : n = n % 2 ^ i + n / 2 ^ i % 2 * 2 ^ i + n / 2 ^ (i + 1) * 2 ^ (i + 1) := by
    have hhigh : n / 2 ^ (i + 1) = n / 2 ^ i / 2 := by rw [pow_succ, Nat.div_div_eq_div_mul]
    calc n = n % 2 ^ i + 2 ^ i * (n / 2 ^ i) := (Nat.mod_add_div n (2 ^ i)).symm
      _ = n % 2 ^ i + 2 ^ i * (n / 2 ^ i % 2 + 2 * (n / 2 ^ i / 2)) := by rw [Nat.mod_add_div (n / 2 ^ i) 2]
      _ = _ := by rw [hhigh, pow_succ]; ring
  have hbit : bit n i = (n / 2 ^ i % 2 == 1) := rfl
  unfold setBit putBits
  rcases Nat.mod_two_eq_zero_or_one (n / 2 ^ i) with h | h <;> rw [h] at hparts hbit <;> rw [hbit] <;> cases b <;> simp [b01] <;> omega

theorem bit_setBit (n i j : Nat) (b : Bool) : bit (setBit n i b) j = if j = i then b else bit n j := by
  rw [setBit_eq_putBits, bit_eq_testBit, bit_eq_testBit, testBit_putBits]
  by_cases h : j = i
  · subst h
    cases b <;> simp [b01]
  · rw [if_neg h, if_neg (by omega)]

theorem setBit_lt (n i w : Nat) (b : Bool) (hn : n < 2 ^ w) (hi : i < w) : setBit n i b < 2 ^ w := by
  refine Nat.lt_pow_two_of_testBit _ fun j hj => ?_
  rw [← bit_eq_testBit, bit_setBit, if_neg (by omega), bit_eq_testBit]
  exact Nat.testBit_lt_two_pow (hn.trans_le (Nat.pow_le_pow_right (by decide) hj))

/-! ### The words of a tier's spares and converters -/

theorem spareCell_eq (k i : Nat) : spareCell k i = ⟨Wd.SPARE_STATUS k, if i = 18 then 0 else 8, 5⟩ := by
  unfold spareCell
  split <;> rfl

theorem spareUse_eq (k i : Nat) : spareUse k i = ⟨Wd.SPARE_STATUS k, if i = 18 then 5 else 13, 2⟩ := by
  unfold spareUse
  split <;> rfl

theorem spareCell_apart_spareUse (k i j : Nat) : (spareCell k i).apart (spareUse k j) := by
  rw [spareCell_eq, spareUse_eq]
  exact .inr ⟨by dsimp only; split_ifs <;> omega, by dsimp only; split_ifs <;> omega⟩

theorem spareUse_apart_spareCell (k i j : Nat) : (spareUse k i).apart (spareCell k j) := by
  rw [spareCell_eq, spareUse_eq]
  exact .inr ⟨by dsimp only; split_ifs <;> omega, by dsimp only; split_ifs <;> omega⟩

theorem get_put_spareUse (s : State) (k i v : Nat) (hv : v < 4) : (s.put (spareUse k i) v).get (spareUse k i) = v := by
  rw [State.get_put _ _ _ (by rw [spareUse_eq]; dsimp only; split_ifs <;> omega), spareUse_eq]
  exact Nat.mod_eq_of_lt hv

theorem get_put_spareCell (s : State) (k i v : Nat) (hv : v < 32) : (s.put (spareCell k i) v).get (spareCell k i) = v := by
  rw [State.get_put _ _ _ (by rw [spareCell_eq]; dsimp only; split_ifs <;> omega), spareCell_eq]
  exact Nat.mod_eq_of_lt hv

theorem get_spareUse_lt (s : State) (k i : Nat) : s.get (spareUse k i) < 4 := by
  rw [spareUse_eq]
  exact get_lt s _

theorem faulted_apart_spareUse (k i : Nat) : (Reg.FAULTED k).apart (spareUse k i) := by
  refine .inl ?_
  rw [spareUse_eq]
  simp only [Reg.FAULTED, Wd.CONV_FAULT, Wd.SPARE_STATUS]
  omega

theorem spareUse_apart_faulted (k i : Nat) : (spareUse k i).apart (Reg.FAULTED k) := by
  refine .inl ?_
  rw [spareUse_eq]
  simp only [Reg.FAULTED, Wd.CONV_FAULT, Wd.SPARE_STATUS]
  omega

/-- The converter `c` of tier `k` is declared faulty. -/
def markFaulted (k c : Nat) (s : State) : State := s.put (Reg.FAULTED k) (setBit (s.get (Reg.FAULTED k)) c true)

theorem bit_markFaulted (k c j : Nat) (s : State) (hc : c < 20) :
    bit ((markFaulted k c s).get (Reg.FAULTED k)) j = if j = c then true else bit (s.get (Reg.FAULTED k)) j := by
  have hlt : setBit (s.get (Reg.FAULTED k)) c true < 2 ^ 20 := setBit_lt _ _ _ _ (get_lt s _) hc
  have hget : (markFaulted k c s).get (Reg.FAULTED k) = setBit (s.get (Reg.FAULTED k)) c true :=
    (State.get_put _ _ _ (by simp [Reg.FAULTED])).trans (Nat.mod_eq_of_lt hlt)
  rw [hget, bit_setBit]

/-! ### What an update leaves of the fields -/

theorem fieldsSame_of_regs {l : List Field} {s t : State} (h : t.regs = s.regs) : fieldsSame l s t := fun f _ => by
  unfold State.get
  rw [h]

theorem fieldsSame_trans {l : List Field} {s t u : State} (h1 : fieldsSame l s t) (h2 : fieldsSame l t u) : fieldsSame l s u :=
  fun f hf => (h2 f hf).trans (h1 f hf)

theorem put_fieldsSame {l : List Field} (s : State) (f : Field) (v : Nat) (h : f ∈ l) : fieldsSame l s (s.put f v) := fun g hg =>
  State.get_put_apart s f g v <| (hg f h).imp_right fun ⟨hw, ho⟩ => ⟨hw, ho⟩

theorem restSame_trans {s t u : State} (h1 : restSame s t) (h2 : restSame t u) : restSame s u := by
  unfold restSame
  rw [h2, h1]

theorem put_restSame (s : State) (f : Field) (v : Nat) : restSame s (s.put f v) := rfl

/-- The two states differ in the primary path and in configuration words only. -/
def primSame (s t : State) : Prop := t = { s with prim := t.prim, regs := t.regs }

theorem primSame_refl (s : State) : primSame s s := rfl

theorem primSame.trans {s t u : State} (h1 : primSame s t) (h2 : primSame t u) : primSame s u := by
  unfold primSame
  rw [h2, h1]

theorem primSame_of_regs (s : State) (r : WordMap) : primSame s { s with regs := r } := rfl
theorem primSame_of_prim (s : State) (p : KV TierPrim) : primSame s { s with prim := p } := rfl
theorem put_primSame (s : State) (f : Field) (v : Nat) : primSame s (s.put f v) := primSame_of_regs s _
theorem setPr_primSame (s : State) (k : Nat) (v : TierPrim) : primSame s (s.setPr k v) := primSame_of_prim s _

theorem ite_primSame {c : Prop} [Decidable c] {s t u : State} (ht : primSame s t) (hu : primSame s u) : primSame s (if c then t else u) := by
  split
  · exact ht
  · exact hu

theorem primSame.evt {s t : State} (h : primSame s t) : t.evt = s.evt := by rw [h]
theorem primSame.clk {s t : State} (h : primSame s t) : t.clk = s.clk := by rw [h]
theorem primSame.link {s t : State} (h : primSame s t) : t.link = s.link := by rw [h]

end Sys2Proof.Machine
end

section
/-!
Stopped modulators and the spares that a fault asks for (R106 to R110).
-/
namespace Sys2Proof.Machine

/-! ### What the readings leave -/

/-- Readings that arrive change the primary path only. -/
theorem bring_rest (k upto : Nat) (waves : List Wave) (s : State) : bring k upto waves s = { s with prim := (bring k upto waves s).prim } := by
  unfold bring
  dsimp only
  split <;> rfl

@[simp] theorem bring_regs (k upto : Nat) (waves : List Wave) (s : State) : (bring k upto waves s).regs = s.regs := by rw [bring_rest]
@[simp] theorem bring_evt (k upto : Nat) (waves : List Wave) (s : State) : (bring k upto waves s).evt = s.evt := by rw [bring_rest]
@[simp] theorem bring_clk (k upto : Nat) (waves : List Wave) (s : State) : (bring k upto waves s).clk = s.clk := by rw [bring_rest]

@[simp] theorem bring_get (k upto : Nat) (waves : List Wave) (s : State) (f : Field) : (bring k upto waves s).get f = s.get f := by
  unfold State.get
  rw [bring_regs]

@[simp] theorem bring_localOn (k upto : Nat) (waves : List Wave) (s : State) (c : Nat) :
    localOn (bring k upto waves s) k c = localOn s k c := by
  unfold localOn
  rw [bring_get]

/-! ### The end of an audit (R104) -/

/-- A spare that audits becomes idle. -/
def idleAuditor (k i : Nat) (s : State) : State := if s.get (spareUse k i) = 1 then s.put (spareUse k i) 0 else s

theorem endAudit_eq (k : Nat) (s : State) : endAudit k s = idleAuditor k 19 (idleAuditor k 18
    (s.setPr k { s.pr k with audit := none, moves := (s.pr k).moves.filter (fun m => m.use != 1) })) := rfl

theorem idleAuditor_primSame (k i : Nat) (s : State) : primSame s (idleAuditor k i s) := ite_primSame (put_primSame s _ _) (primSame_refl s)

theorem idleAuditor_get (k i : Nat) (s : State) (f : Field) (h : (spareUse k i).apart f) : (idleAuditor k i s).get f = s.get f := by
  unfold idleAuditor
  split
  · exact State.get_put_apart _ _ _ _ h
  · rfl

theorem idleAuditor_pr (k i : Nat) (s : State) : (idleAuditor k i s).pr k = s.pr k := by
  unfold idleAuditor
  split
  · exact State.put_pr _ _ _ _
  · rfl

theorem endAudit_primSame (k : Nat) (s : State) : primSame s (endAudit k s) := by
  rw [endAudit_eq]
  exact (setPr_primSame s k _).trans ((idleAuditor_primSame k 18 _).trans (idleAuditor_primSame k 19 _))

theorem endAudit_pr (k : Nat) (s : State) :
    (endAudit k s).pr k = { s.pr k with audit := none, moves := (s.pr k).moves.filter (fun m => m.use != 1) } := by
  rw [endAudit_eq, idleAuditor_pr, idleAuditor_pr, State.pr_setPr_same]

theorem endAudit_get (k : Nat) (s : State) (f : Field) (h : ∀ i, (spareUse k i).apart f) : (endAudit k s).get f = s.get f := by
  rw [endAudit_eq, idleAuditor_get _ _ _ _ (h 19), idleAuditor_get _ _ _ _ (h 18), State.setPr_get]

/-- A cell whose dwell is dropped is audited no longer. -/
theorem dropDwell_audit (k c : Nat) (s : State) : ((dropDwell k c s).pr k).audit.all (fun a => a.cell != c) = true := by
  unfold dropDwell
  split
  · rename_i a ha
    split
    · rw [endAudit_pr]; rfl
    · rename_i hne; rw [ha]; simpa using hne
  · rename_i ha; rw [ha]; rfl

/-! ### Faults (R107, R109, R110) -/

theorem convEvent_zero (k c cause i : Nat) (s : State) :
    convEvent k c cause i 0 s = raiseTier k (4 * (18 * k + c) + 3) (cause + 256 * i) s := rfl

theorem convFault_declared (k c cause : Nat) (diff : Int) (s : State) (h : bit (s.get (Reg.FAULTED k)) c = true) :
    convFault k c cause diff s = s := if_pos h

/-- A new fault: what follows depends on the spare that the cell has, or waits for. -/
theorem convFault_new (k c cause : Nat) (diff : Int) (s : State) (h : bit (s.get (Reg.FAULTED k)) c = false) :
    let v := dropDwell k c (convEvent k c cause c diff (markFaulted k c s))
    ((servedBy v k c).isSome = true → convFault k c cause diff s = v) ∧
      (servedBy v k c = none → (promisedTo v k c).isSome = true → convFault k c cause diff s = cellDown k c v) ∧
      (servedBy v k c = none → promisedTo v k c = none → convFault k c cause diff s = needSpare k c (cellDown k c v)) := by
  intro v
  have heq : convFault k c cause diff s = if (servedBy v k c).isSome then v
      else if (promisedTo v k c).isSome then cellDown k c v else needSpare k c (cellDown k c v) := if_neg (by rw [h]; decide)
  refine ⟨fun hs => ?_, fun hs hp => ?_, fun hs hp => ?_⟩ <;> rw [heq]
  · rw [if_pos hs]
  · rw [hs, if_neg (by decide), if_pos hp]
  · rw [hs, hp, if_neg (by decide), if_neg (by decide)]

/-- A spare that has failed, before what follows for the cell that it measured. -/
def spareFailed (k i : Nat) (s : State) : State :=
  let s1 := markFaulted k i s
  let s2 := (if s.get (spareUse k i) = 1 then endAudit k s1 else s1).put (spareUse k i) 3
  s2.setPr k { s2.pr k with moves := (s2.pr k).moves.filter (fun m => m.spare != i) }

theorem spareFault_failed (k i : Nat) (s : State) (h : s.get (spareUse k i) = 3) : spareFault k i s = s := if_pos h

theorem spareFault_idle (k i : Nat) (s : State) (h : s.get (spareUse k i) = 0) : spareFault k i s = spareFailed k i s := by
  unfold spareFault spareFailed markFaulted
  simp [h]

theorem spareFault_auditing (k i : Nat) (s : State) (h : s.get (spareUse k i) = 1) :
    spareFault k i s = convEvent k (s.get (spareCell k i)) 6 i 0 (spareFailed k i s) := by
  unfold spareFault spareFailed markFaulted
  simp [h]

theorem spareFault_replacing (k i : Nat) (s : State) (h : s.get (spareUse k i) = 2) :
    let c := s.get (spareCell k i)
    spareFault k i s = needSpare k c (cellDown k c (convEvent k c 6 i 0 (spareFailed k i s))) := by
  unfold spareFault spareFailed markFaulted
  simp [h]

theorem spareFailed_get (k i : Nat) (s : State) (f : Field) (h : ∀ j, (spareUse k j).apart f) :
    (spareFailed k i s).get f = (markFaulted k i s).get f := by
  unfold spareFailed
  dsimp only
  rw [State.setPr_get, State.get_put_apart _ _ _ _ (h i)]
  split
  · exact endAudit_get k _ f h
  · rfl

theorem spareFailed_use (k i : Nat) (s : State) : (spareFailed k i s).get (spareUse k i) = 3 := by
  unfold spareFailed
  dsimp only
  rw [State.setPr_get, get_put_spareUse _ _ _ _ (by decide)]

theorem spareFailed_primSame (k i : Nat) (s : State) : primSame s (spareFailed k i s) := by
  have h1 : primSame s (markFaulted k i s) := put_primSame s _ _
  unfold spareFailed
  extract_lets s1 s2
  exact ((ite_primSame (h1.trans (endAudit_primSame k s1)) h1).trans (put_primSame _ _ _)).trans (setPr_primSame s2 k _)

theorem spareFailed_moves (k i : Nat) (s : State) : ((spareFailed k i s).pr k).moves.all (fun m => m.spare != i) = true := by
  unfold spareFailed
  dsimp only
  rw [State.pr_setPr_same, List.all_eq_true]
  exact fun m hm => (List.mem_filter.mp hm).2

theorem spareFailed_audit (k i : Nat) (s : State) (h : s.get (spareUse k i) = 1) : ((spareFailed k i s).pr k).audit = none := by
  unfold spareFailed
  dsimp only
  rw [State.pr_setPr_same, if_pos h, State.put_pr, endAudit_pr]

theorem spareFailed_fields (k i : Nat) (s : State) (h : s.get (spareUse k i) = 0) :
    fieldsSame [Reg.FAULTED k, spareUse k i] s (spareFailed k i s) := by
  unfold spareFailed
  dsimp only
  rw [if_neg (by rw [h]; decide)]
  have hfault : fieldsSame [Reg.FAULTED k, spareUse k i] s (markFaulted k i s) := put_fieldsSame s (Reg.FAULTED k) _ (by simp)
  have huse := put_fieldsSame (l := [Reg.FAULTED k, spareUse k i]) (markFaulted k i s) (spareUse k i) 3 (by simp)
  exact fieldsSame_trans (fieldsSame_trans hfault huse) (fieldsSame_of_regs (State.setPr_regs _ _ _))

/-! ### MODULATOR_STUCK (R106) -/

theorem modulatorStuck_idle (s : State) (k : Nat) (st : StuckConv) (h : ¬ ((s.tl k).supplied = true ∧ (s.tl k).calibrating = false)) :
    exec (.modulatorStuck k st) s = .next s := by
  refine if_pos (α := Out) ?_
  revert h
  cases (s.tl k).supplied <;> cases (s.tl k).calibrating <;> simp

theorem modulatorStuck_working (s : State) (k : Nat) (st : StuckConv) (hk : k ≤ 5)
    (h : (s.tl k).supplied = true ∧ (s.tl k).calibrating = false) :
    let s1 := bring k (s.tierAt k) st.waves s
    exec (.modulatorStuck k st) s = .next (if clocksIn s1 k (min st.ago st.clampAgo) < 4096 then s1
      else if st.conv < 18 then (if localOn s k st.conv then convFault k st.conv 2 0 s1 else s1)
      else if st.conv < 20 then spareFault k st.conv s1 else s1) := by
  obtain ⟨hsup, hcal⟩ := h
  have hlive : (decide (5 < k) || !(s.tl k).supplied || (s.tl k).calibrating) = false := by simp [hsup, hcal, hk]
  intro s1
  show execModulatorStuck k st s = _
  unfold execModulatorStuck done
  dsimp only
  rw [hlive, if_neg (by decide), bring_localOn]
  split_ifs <;> rfl

/-- What leaves the converters as they are: too few clocks, a converter that the tier does not have, a disabled cell, a declared fault. -/
theorem modulatorStuck_excused (s : State) (k : Nat) (st : StuckConv) (hk : k ≤ 5)
    (h : (s.tl k).supplied = true ∧ (s.tl k).calibrating = false)
    (hex : clocksIn (bring k (s.tierAt k) st.waves s) k (min st.ago st.clampAgo) < 4096 ∨ 20 ≤ st.conv ∨
      (st.conv < 18 ∧ (localOn s k st.conv = false ∨ bit (s.get (Reg.FAULTED k)) st.conv = true))) :
    exec (.modulatorStuck k st) s = .next (bring k (s.tierAt k) st.waves s) := by
  rw [modulatorStuck_working s k st hk h]
  congr 1
  split_ifs with h1 h2 h3 h4
  · rfl
  · refine convFault_declared _ _ _ _ _ ?_
    rw [bring_get]
    simpa [h1, h2, h3, show ¬ 20 ≤ st.conv by omega] using hex
  · rfl
  · omega
  · rfl

theorem modulatorStuck_cell (s : State) (k : Nat) (st : StuckConv) (hk : k ≤ 5)
    (h : (s.tl k).supplied = true ∧ (s.tl k).calibrating = false)
    (hclocks : 4096 ≤ clocksIn (bring k (s.tierAt k) st.waves s) k (min st.ago st.clampAgo)) (hc : st.conv < 18)
    (hon : localOn s k st.conv = true) :
    exec (.modulatorStuck k st) s = .next (convFault k st.conv 2 0 (bring k (s.tierAt k) st.waves s)) := by
  rw [modulatorStuck_working s k st hk h, if_neg (by omega), if_pos hc, if_pos hon]

theorem modulatorStuck_spare (s : State) (k : Nat) (st : StuckConv) (hk : k ≤ 5)
    (h : (s.tl k).supplied = true ∧ (s.tl k).calibrating = false)
    (hclocks : 4096 ≤ clocksIn (bring k (s.tierAt k) st.waves s) k (min st.ago st.clampAgo)) (hc : st.conv = 18 ∨ st.conv = 19) :
    exec (.modulatorStuck k st) s = .next (spareFault k st.conv (bring k (s.tierAt k) st.waves s)) := by
  rw [modulatorStuck_working s k st hk h, if_neg (by omega), if_neg (by omega), if_pos (by omega)]

/-! ### A cell needs a spare (R107, R108) -/

theorem needSpare_idle (s : State) (k c i : Nat) (hauto : s.flag (Reg.AUTO_SPARE k) = true) (hi : spareToHad s k = some i)
    (huse : s.get (spareUse k i) = 0) (hpend : movePending s k i = false) :
    needSpare k c s = s.setPr k { s.pr k with
      moves := (s.pr k).moves ++ [⟨i, some c, 2, (s.tl k).span + (if 4079 < s.clk.grain then 1 else 0)⟩] } := by
  have hkeep : (s.pr k).moves.filter (fun m => m.spare != i) = (s.pr k).moves := by
    unfold movePending at hpend
    simpa [List.filter_eq_self] using hpend
  unfold needSpare takeSpare orderMove
  simp [hi, hauto, huse, hpend, hkeep]

theorem needSpare_manual (s : State) (k c i : Nat) (hauto : s.flag (Reg.AUTO_SPARE k) = false) (hi : spareToHad s k = some i) :
    needSpare k c s = s := by
  unfold needSpare
  simp [hi, hauto]

theorem needSpare_exhausted (s : State) (k c : Nat) (hi : spareToHad s k = none) (hnew : bit (s.pr k).exhausted c = false) :
    needSpare k c s = raiseTier k (4 * (18 * k + c) + 3) (5 + 256 * c)
      (s.setPr k { s.pr k with exhausted := setBit (s.pr k).exhausted c true }) := by
  unfold needSpare
  simp [hi, hnew, convEvent_zero]

end Sys2Proof.Machine
end

section
/-!
The crossbar (R103, R104, R107): which moves are due, what a move makes of the spare and of its cell, and the audit that goes on ahead.
-/
namespace Sys2Proof.Machine

/-! ### Grains that pass -/

theorem passGrain_eq (s : State) (g : Nat) :
    s.passGrain g = { s with clk := { s.clk with grain := if g < 4096 ∧ s.clk.grain < g then g else s.clk.grain } } := by
  unfold State.passGrain
  simp only [Bool.and_eq_true, decide_eq_true_eq]
  split <;> rfl

@[simp] theorem passGrain_regs (s : State) (g : Nat) : (s.passGrain g).regs = s.regs := by rw [passGrain_eq]
@[simp] theorem passGrain_prim (s : State) (g : Nat) : (s.passGrain g).prim = s.prim := by rw [passGrain_eq]
@[simp] theorem passGrain_pr (s : State) (g k : Nat) : (s.passGrain g).pr k = s.pr k := by rw [passGrain_eq]; rfl
@[simp] theorem passGrain_tl (s : State) (g k : Nat) : (s.passGrain g).tl k = s.tl k := by rw [passGrain_eq]; rfl
@[simp] theorem passGrain_get (s : State) (g : Nat) (f : Field) : (s.passGrain g).get f = s.get f := by rw [passGrain_eq]; rfl

/-- The state in which a tier's crossbar moves: grain 4,080 has come, but in STORE. -/
def atCrossbar (k : Nat) (s : State) : State := if (s.tl k).store then s else s.passGrain 4080

theorem atCrossbar_regs (k : Nat) (s : State) : (atCrossbar k s).regs = s.regs := by
  unfold atCrossbar
  split
  · rfl
  · exact passGrain_regs s _

theorem atCrossbar_pr (k j : Nat) (s : State) : (atCrossbar k s).pr j = s.pr j := by
  unfold atCrossbar
  split
  · rfl
  · exact passGrain_pr s _ _

theorem atCrossbar_tl (k j : Nat) (s : State) : (atCrossbar k s).tl j = s.tl j := by
  unfold atCrossbar
  split
  · rfl
  · exact passGrain_tl s _ _

theorem atCrossbar_get (k : Nat) (s : State) (f : Field) : (atCrossbar k s).get f = s.get f := by
  unfold State.get
  rw [atCrossbar_regs]

theorem get_eq_of_regs {s t : State} (h : t.regs = s.regs) (f : Field) : t.get f = s.get f := by
  unfold State.get
  rw [h]

/-! ### Moves that are due (R103, R111) -/

/-- The move is made at the end of the present span: its span has come, and it is none into AUDIT in STORE. -/
def moveDue (s : State) (k : Nat) (m : Move) : Bool := m.span ≤ (s.tl k).span && (m.use != 1 || !(s.tl k).store)

theorem moveDue_early {s : State} {k i use at_ : Nat} {cell : Option Nat} (h : (s.tl k).span < at_ ∨ ((s.tl k).store = true ∧ use = 1)) :
    moveDue s k ⟨i, cell, use, at_⟩ = false := by
  unfold moveDue
  rcases h with h | ⟨hstore, huse⟩
  · simp; omega
  · simp [hstore, huse]

/-- The moves of a tier that are due are made. -/
def movesMade (k : Nat) (s : State) : State :=
  ((s.pr k).moves.filter (moveDue s k)).foldl (fun t m => moveSpare k ((s.tl k).span + 1) m t)
    (s.setPr k { s.pr k with moves := (s.pr k).moves.filter (fun m => !moveDue s k m) })

theorem crossbarMove_idle (s : State) (k : Nat) (h : ¬ ((s.tl k).supplied = true ∧ (s.tl k).calibrating = false)) :
    exec (.crossbarMove k) s = .next s := by
  refine if_pos (α := Out) ?_
  revert h
  cases (s.tl k).supplied <;> cases (s.tl k).calibrating <;> simp

theorem crossbarMove_working (s : State) (k : Nat) (hk : k ≤ 5) (h : (s.tl k).supplied = true ∧ (s.tl k).calibrating = false) :
    exec (.crossbarMove k) s = .next (if (s.tl k).store then movesMade k (atCrossbar k s) else auditAhead k (movesMade k (atCrossbar k s))) := by
  obtain ⟨hsup, hcal⟩ := h
  have hlive : (decide (5 < k) || !(s.tl k).supplied || (s.tl k).calibrating) = false := by simp [hsup, hcal, hk]
  show execCrossbarMove k s = _
  unfold execCrossbarMove movesMade moveDue
  rw [atCrossbar_tl]
  dsimp only
  rw [hlive, if_neg (by decide)]
  rfl

/-- Nothing is due: the moves stay. -/
theorem movesMade_none (k : Nat) (s : State) (h : ∀ m ∈ (s.pr k).moves, moveDue s k m = false) : movesMade k s = s.setPr k (s.pr k) := by
  have hdue : (s.pr k).moves.filter (moveDue s k) = [] := by
    rw [List.filter_eq_nil_iff]
    intro m hm
    rw [h m hm]
    decide
  have hstay : (s.pr k).moves.filter (fun m => !moveDue s k m) = (s.pr k).moves := by
    rw [List.filter_eq_self]
    intro m hm
    rw [h m hm]
    rfl
  unfold movesMade
  rw [hdue, hstay]
  rfl

/-- The only move is due. -/
theorem movesMade_single (k : Nat) (s : State) (m : Move) (hm : (s.pr k).moves = [m]) (h : moveDue s k m = true) :
    movesMade k s = moveSpare k ((s.tl k).span + 1) m (s.setPr k { s.pr k with moves := [] }) := by
  unfold movesMade
  simp [hm, h]

/-! ### The audit that goes on (R104) -/

/-- The audit stands before the last compared span of a first dwell. -/
def lastDwellSpan (s : State) (k : Nat) : Bool := (s.pr k).audit.any (fun a => a.stage == 0 && a.n + 1 == s.get (Reg.AUDIT_DWELL k))

theorem auditAhead_stays (k : Nat) (s : State) (h : lastDwellSpan s k = false) : auditAhead k s = s := by
  unfold auditAhead
  dsimp only
  split
  · rfl
  · rename_i a ha
    unfold lastDwellSpan at h
    rw [ha] at h
    refine if_neg ?_
    revert h
    rw [Option.any_some]
    cases a.stage == 0 <;> cases (a.n + 1 == s.get (Reg.AUDIT_DWELL k)) <;> simp

theorem lastDwellSpan_congr {s t : State} {k : Nat} (hregs : t.get (Reg.AUDIT_DWELL k) = s.get (Reg.AUDIT_DWELL k))
    (haudit : (t.pr k).audit = (s.pr k).audit) : lastDwellSpan t k = lastDwellSpan s k := by
  unfold lastDwellSpan
  rw [hregs, haudit]

/-- The last compared span of a first dwell takes the spare on to the next cell. -/
theorem auditAhead_goes (k : Nat) (s : State) (a : Audit) (f d : Nat) (ha : (s.pr k).audit = some a) (hstage : a.stage = 0)
    (hnext : a.next = none) (hfrom : a.from_ = some f) (hf : f ≤ (s.tl k).span) (hn : a.n + 1 = s.get (Reg.AUDIT_DWELL k))
    (hen : s.flag (Reg.AUDIT_EN k) = true) (hcell : auditable s k a.cell = true) (hpend : movePending s k a.spare = false)
    (htap : tapDs s k a.cell ((s.tl k).span * 4096) ((s.tl k).span * 4096 + 4096) = false) (hd : nextAudited s k a.cell = some d) :
    auditAhead k s = (s.put (spareCell k a.spare) d).setPr k { s.pr k with audit := some { a with next := some (d, (s.tl k).span + 2) } } := by
  unfold auditAhead
  simp [ha, hstage, hnext, hfrom, hf, hn, hen, hcell, hpend, htap, hd]

theorem nextAudited_lt {s : State} {k c d : Nat} (h : nextAudited s k c = some d) : d < 18 := by
  obtain ⟨i, -, rfl⟩ := List.mem_map.mp (List.mem_of_find?_eq_some h)
  exact Nat.mod_lt _ (by decide)

/-! ### One move (R103, R107, R110) -/

@[simp] theorem setServe_pr (s : State) (k c : Nat) (v : Serve) :
    (s.setServe k c v).pr k = { s.pr k with serve := kvSet (fun _ => Serve.reset) (s.pr k).serve c v } := State.pr_setPr_same _ _ _

/-- What measures a cell once a converter takes charge of it. -/
def servedFrom (v : Serve) (i : Option Nat) (f : Nat) : Serve :=
  ⟨match v.from_ with
    | some _ => v.now
    | none => v.old,
    match v.from_ with
    | some _ => none
    | none => v.down, i, some f⟩

theorem cellUp_eq (k c : Nat) (i : Option Nat) (f : Nat) (s : State) :
    cellUp k c i f s = s.setServe k c (servedFrom (s.serve k c) i f) := rfl

/-- The words that a move into `use` leaves: the cell and the use of its spare. -/
def spareMoved (k i c use : Nat) (s : State) : State := (s.put (spareCell k i) c).put (spareUse k i) use

theorem moveSpare_replace (k next i c at_ : Nat) (s : State) (huse : s.get (spareUse k i) ≠ 2) (hon : localOn s k c = true) :
    moveSpare k next ⟨i, some c, 2, at_⟩ s = cellUp k c (some i) next (restartCell k c next (spareMoved k i c 2 s)) := by
  unfold moveSpare
  simp [huse, hon, spareMoved]

theorem moveSpare_other (k next i c use at_ : Nat) (s : State) (huse : s.get (spareUse k i) ≠ 2) (hon : localOn s k c = true) (hne : use ≠ 2) :
    moveSpare k next ⟨i, some c, use, at_⟩ s = auditMoved k i next (spareMoved k i c use s) := by
  unfold moveSpare
  simp [huse, hon, hne, spareMoved]

/-- A spare without a cell to go to becomes idle. -/
theorem moveSpare_idle (k next i at_ use : Nat) (cell : Option Nat) (s : State) (huse : s.get (spareUse k i) ≠ 2)
    (hoff : cell.any (localOn s k) = false) : moveSpare k next ⟨i, cell, use, at_⟩ s = s.put (spareUse k i) 0 := by
  unfold moveSpare
  cases cell with
  | none => simp [huse]
  | some c =>
    have hc : localOn s k c = false := hoff
    simp [huse, hc]

theorem auditMoved_cases (k i next : Nat) (s : State) :
    auditMoved k i next s = s ∨ ∃ a, (s.pr k).audit = some a ∧
      auditMoved k i next s = s.setPr k { s.pr k with audit := some { a with from_ := some (next + 1) } } := by
  unfold auditMoved
  split
  · rename_i a ha
    split
    · exact .inr ⟨a, ha, rfl⟩
    · exact .inl rfl
  · exact .inl rfl

theorem auditMoved_keeps (k i next : Nat) (s : State) : (auditMoved k i next s).regs = s.regs ∧ primSame s (auditMoved k i next s) ∧
    ((auditMoved k i next s).pr k).moves = (s.pr k).moves ∧ lastDwellSpan (auditMoved k i next s) k = lastDwellSpan s k := by
  rcases auditMoved_cases k i next s with h | ⟨a, ha, h⟩ <;> rw [h]
  · exact ⟨rfl, primSame_refl s, rfl, rfl⟩
  · refine ⟨rfl, setPr_primSame s k _, by rw [State.pr_setPr_same], ?_⟩
    unfold lastDwellSpan
    rw [State.pr_setPr_same, ha]
    rfl

theorem spareMoved_fields (k i c use : Nat) (s : State) : fieldsSame [spareCell k i, spareUse k i] s (spareMoved k i c use s) :=
  fieldsSame_trans (put_fieldsSame s (spareCell k i) c (by simp)) (put_fieldsSame _ (spareUse k i) use (by simp))

theorem spareMoved_cell (k i c use : Nat) (s : State) (hc : c < 18) : (spareMoved k i c use s).get (spareCell k i) = c :=
  (State.get_put_apart _ _ _ _ (spareUse_apart_spareCell k i i)).trans (get_put_spareCell s k i c (by omega))

theorem spareMoved_use (k i c use : Nat) (s : State) (huse : use ≤ 2) : (spareMoved k i c use s).get (spareUse k i) = use :=
  get_put_spareUse _ k i use (by omega)

theorem auditDwell_apart (k i : Nat) : (spareCell k i).apart (Reg.AUDIT_DWELL k) ∧ (spareUse k i).apart (Reg.AUDIT_DWELL k) := by
  rw [spareCell_eq, spareUse_eq]
  constructor <;> (refine .inl ?_; simp only [Reg.AUDIT_DWELL, Wd.SPARE_CTRL, Wd.SPARE_STATUS]; omega)

theorem put_spareUse_dwell (k i v : Nat) (s : State) : lastDwellSpan (s.put (spareUse k i) v) k = lastDwellSpan s k :=
  lastDwellSpan_congr (State.get_put_apart _ _ _ _ (auditDwell_apart k i).2) (by rw [State.put_pr])

theorem put_spareCell_dwell (k i v : Nat) (s : State) : lastDwellSpan (s.put (spareCell k i) v) k = lastDwellSpan s k :=
  lastDwellSpan_congr (State.get_put_apart _ _ _ _ (auditDwell_apart k i).1) (by rw [State.put_pr])

theorem spareMoved_dwell (k i c use : Nat) (s : State) : lastDwellSpan (spareMoved k i c use s) k = lastDwellSpan s k :=
  (put_spareUse_dwell k i use _).trans (put_spareCell_dwell k i c s)

/-- What a spare's way to an enabled cell leaves (R103, R107). -/
theorem moveSpare_spec (k next i c use at_ : Nat) (s : State) (huse : s.get (spareUse k i) ≠ 2) (hon : localOn s k c = true) (hc : c < 18)
    (h2 : use ≤ 2) :
    let t := moveSpare k next ⟨i, some c, use, at_⟩ s
    primSame s t ∧ (t.pr k).moves = (s.pr k).moves ∧ lastDwellSpan t k = lastDwellSpan s k ∧ t.get (spareCell k i) = c ∧
      t.get (spareUse k i) = use ∧ fieldsSame [spareCell k i, spareUse k i] s t ∧
      (use = 2 → (t.serve k c).now = some i ∧ (t.serve k c).from_ = some next ∧ kvGet (fun _ => 0) (t.pr k).cellFrom c = next * 4096) := by
  have hmoved : primSame s (spareMoved k i c use s) := (put_primSame s _ _).trans (put_primSame _ _ _)
  have hpr : (spareMoved k i c use s).pr k = s.pr k := (State.put_pr _ _ _ _).trans (State.put_pr _ _ _ _)
  have hcell := spareMoved_cell k i c use s hc
  have huse' := spareMoved_use k i c use s h2
  have hfields := spareMoved_fields k i c use s
  intro t
  by_cases hrep : use = 2
  · subst hrep
    have ht : t = cellUp k c (some i) next (restartCell k c next (spareMoved k i c 2 s)) := moveSpare_replace k next i c at_ s huse hon
    have hregs : t.regs = (spareMoved k i c 2 s).regs := by rw [ht, cellUp_eq]; rfl
    have hprim : t.pr k = { s.pr k with cellFrom := kvSet (fun _ => 0) (s.pr k).cellFrom c (next * 4096), serve := (t.pr k).serve } := by
      rw [ht, cellUp_eq, setServe_pr, restartCell, State.pr_setPr_same, hpr]
    have hserve : t.serve k c = servedFrom ((restartCell k c next (spareMoved k i c 2 s)).serve k c) (some i) next := by
      rw [ht, cellUp_eq]
      unfold State.serve
      rw [setServe_pr, kvGet_kvSet_same]
    have hsame : primSame s t := by
      rw [ht, cellUp_eq]
      exact (hmoved.trans (setPr_primSame _ k _)).trans (setPr_primSame _ k _)
    refine ⟨hsame, by rw [hprim], ?_, (get_eq_of_regs hregs _).trans hcell, (get_eq_of_regs hregs _).trans huse',
      fieldsSame_trans hfields (fieldsSame_of_regs hregs), fun _ => ⟨by rw [hserve]; rfl, by rw [hserve]; rfl, ?_⟩⟩
    · rw [lastDwellSpan_congr (get_eq_of_regs hregs _) (by rw [hprim, hpr]), spareMoved_dwell]
    · rw [hprim, kvGet_kvSet_same]
  · have ht : t = auditMoved k i next (spareMoved k i c use s) := moveSpare_other k next i c use at_ s huse hon hrep
    obtain ⟨hregs, hsame, hmoves, hdwell⟩ := auditMoved_keeps k i next (spareMoved k i c use s)
    rw [← ht] at hregs hsame hmoves hdwell
    exact ⟨hmoved.trans hsame, by rw [hmoves, hpr], hdwell.trans (spareMoved_dwell k i c use s), (get_eq_of_regs hregs _).trans hcell,
      (get_eq_of_regs hregs _).trans huse', fieldsSame_trans hfields (fieldsSame_of_regs hregs), fun h => absurd h hrep⟩

/-! ### CROSSBAR_MOVE -/

/-- The crossbar has moved, and the audit stands before no last span: nothing goes on ahead. -/
theorem crossbarMove_staying (s : State) (k : Nat) (hk : k ≤ 5) (h : (s.tl k).supplied = true ∧ (s.tl k).calibrating = false)
    (hstay : (s.tl k).store = true ∨ lastDwellSpan s k = false)
    (hdwell : lastDwellSpan (movesMade k (atCrossbar k s)) k = lastDwellSpan s k) :
    exec (.crossbarMove k) s = .next (movesMade k (atCrossbar k s)) := by
  rw [crossbarMove_working s k hk h]
  split
  · rfl
  · rename_i hstore
    rw [auditAhead_stays k _ (hdwell.trans (hstay.resolve_left hstore))]

/-- With no move due the crossbar stays, and the tier's primary path with it. -/
theorem crossbarMove_none (s : State) (k : Nat) (hk : k ≤ 5) (h : (s.tl k).supplied = true ∧ (s.tl k).calibrating = false)
    (hstay : (s.tl k).store = true ∨ lastDwellSpan s k = false) (hnone : ∀ m ∈ (s.pr k).moves, moveDue s k m = false) :
    ∃ t, exec (.crossbarMove k) s = .next t ∧ t.pr k = s.pr k ∧ t = { atCrossbar k s with prim := t.prim } := by
  have hmade : movesMade k (atCrossbar k s) = (atCrossbar k s).setPr k (s.pr k) := by
    rw [movesMade_none, atCrossbar_pr]
    rw [atCrossbar_pr]
    intro m hm
    unfold moveDue
    rw [atCrossbar_tl]
    exact hnone m hm
  refine ⟨_, crossbarMove_staying s k hk h hstay ?_, ?_, ?_⟩
  · refine lastDwellSpan_congr ?_ ?_
    · rw [hmade, State.setPr_get, atCrossbar_get]
    · rw [hmade, State.pr_setPr_same]
  · rw [hmade, State.pr_setPr_same]
  · rw [hmade]; rfl

/-- The state in which the only move of a tier is made. -/
def onlyMove (k : Nat) (s : State) : State := (atCrossbar k s).setPr k { s.pr k with moves := [] }

theorem onlyMove_regs (k : Nat) (s : State) : (onlyMove k s).regs = s.regs := atCrossbar_regs k s
theorem onlyMove_get (k : Nat) (s : State) (f : Field) : (onlyMove k s).get f = s.get f := get_eq_of_regs (onlyMove_regs k s) f

theorem onlyMove_pr (k : Nat) (s : State) : (onlyMove k s).pr k = { s.pr k with moves := [] } := State.pr_setPr_same _ _ _

theorem onlyMove_primSame (k : Nat) (s : State) : primSame (atCrossbar k s) (onlyMove k s) := setPr_primSame _ _ _

theorem onlyMove_localOn (k c : Nat) (s : State) : localOn (onlyMove k s) k c = localOn s k c := by
  unfold localOn
  rw [onlyMove_get]

theorem onlyMove_dwell (k : Nat) (s : State) : lastDwellSpan (onlyMove k s) k = lastDwellSpan s k :=
  lastDwellSpan_congr (onlyMove_get k s _) (by rw [onlyMove_pr])

theorem movesMade_only (k : Nat) (s : State) (m : Move) (hm : (s.pr k).moves = [m]) (hdue : moveDue s k m = true) :
    movesMade k (atCrossbar k s) = moveSpare k ((s.tl k).span + 1) m (onlyMove k s) := by
  have hdue' : moveDue (atCrossbar k s) k m = true := by
    unfold moveDue at hdue ⊢
    rwa [atCrossbar_tl]
  rw [movesMade_single k _ m ((congrArg TierPrim.moves (atCrossbar_pr k k s)).trans hm) hdue', atCrossbar_tl, atCrossbar_pr]
  rfl

/-- The only move is due and takes a spare that measures no cell to an enabled cell. -/
theorem crossbarMove_to (s : State) (k i c use at_ : Nat) (hk : k ≤ 5) (h : (s.tl k).supplied = true ∧ (s.tl k).calibrating = false)
    (hstay : (s.tl k).store = true ∨ lastDwellSpan s k = false) (hspan : at_ ≤ (s.tl k).span) (hidle : s.get (spareUse k i) ≠ 2) (hc : c < 18)
    (hon : localOn s k c = true) (huse : use ≤ 2) (hstore : use = 1 → (s.tl k).store = false)
    (hm : (s.pr k).moves = [⟨i, some c, use, at_⟩]) :
    ∃ t, exec (.crossbarMove k) s = .next t ∧ (t.pr k).moves = [] ∧ t.get (spareCell k i) = c ∧ t.get (spareUse k i) = use ∧
      t = { atCrossbar k s with prim := t.prim, regs := t.regs } ∧
      (use = 2 → (t.serve k c).now = some i ∧ (t.serve k c).from_ = some ((s.tl k).span + 1) ∧
        kvGet (fun _ => 0) (t.pr k).cellFrom c = ((s.tl k).span + 1) * 4096) ∧
      fieldsSame [spareCell k i, spareUse k i] s t := by
  have hdue : moveDue s k ⟨i, some c, use, at_⟩ = true := by
    unfold moveDue
    by_cases h1 : use = 1
    · simp [hspan, hstore h1]
    · simp [hspan, h1]
  obtain ⟨hsame, hmoves, hdwell, hcell, huse', hfields, hserve⟩ := moveSpare_spec k ((s.tl k).span + 1) i c use at_ (onlyMove k s)
    (by rwa [onlyMove_get]) (by rwa [onlyMove_localOn]) hc huse
  rw [← movesMade_only k s _ hm hdue] at hsame hmoves hdwell hcell huse' hfields hserve
  exact ⟨_, crossbarMove_staying s k hk h hstay (hdwell.trans (onlyMove_dwell k s)), hmoves.trans (congrArg TierPrim.moves (onlyMove_pr k s)),
    hcell, huse', (onlyMove_primSame k s).trans hsame, hserve, fieldsSame_trans (fieldsSame_of_regs (onlyMove_regs k s)) hfields⟩

/-- The only move is due and has no enabled cell to go to. -/
theorem crossbarMove_nowhere (s : State) (k i at_ use : Nat) (cell : Option Nat) (hk : k ≤ 5)
    (h : (s.tl k).supplied = true ∧ (s.tl k).calibrating = false) (hstay : (s.tl k).store = true ∨ lastDwellSpan s k = false)
    (hspan : at_ ≤ (s.tl k).span) (hidle : s.get (spareUse k i) ≠ 2) (hstore : use = 1 → (s.tl k).store = false)
    (hm : (s.pr k).moves = [⟨i, cell, use, at_⟩]) (hoff : cell.any (localOn s k) = false) :
    ∃ t, exec (.crossbarMove k) s = .next t ∧ (t.pr k).moves = [] ∧ t.get (spareUse k i) = 0 ∧ fieldsSame [spareUse k i] s t := by
  have hdue : moveDue s k ⟨i, cell, use, at_⟩ = true := by
    unfold moveDue
    by_cases h1 : use = 1
    · simp [hspan, hstore h1]
    · simp [hspan, h1]
  have hmade : movesMade k (atCrossbar k s) = (onlyMove k s).put (spareUse k i) 0 := by
    rw [movesMade_only k s _ hm hdue, moveSpare_idle _ _ _ _ _ _ _ (by rwa [onlyMove_get])]
    cases cell with
    | none => rfl
    | some c => exact (onlyMove_localOn k c s).trans hoff
  have hdwell : lastDwellSpan (movesMade k (atCrossbar k s)) k = lastDwellSpan s k := by
    rw [hmade, put_spareUse_dwell, onlyMove_dwell]
  refine ⟨_, crossbarMove_staying s k hk h hstay hdwell, ?_, ?_, ?_⟩ <;> rw [hmade]
  · rw [State.put_pr, onlyMove_pr]
  · exact get_put_spareUse _ k i 0 (by decide)
  · exact fieldsSame_trans (fieldsSame_of_regs (onlyMove_regs k s)) (put_fieldsSame _ _ _ (by simp))

/-! ### The spare that goes on ahead (R103, R104) -/

theorem auditable_congr {s t : State} {k : Nat} (hregs : t.regs = s.regs) (hmoves : (t.pr k).moves = (s.pr k).moves) :
    auditable t k = auditable s k := by
  funext c
  unfold auditable localOn servedBy
  simp only [get_eq_of_regs hregs, hmoves]

theorem nextAudited_congr {s t : State} {k : Nat} (hregs : t.regs = s.regs) (hmoves : (t.pr k).moves = (s.pr k).moves) (c : Nat) :
    nextAudited t k c = nextAudited s k c := by
  unfold nextAudited
  rw [auditable_congr hregs hmoves]

theorem tapDs_congr {s t : State} {k : Nat} (htl : t.tl k = s.tl k) (htaps : (t.pr k).taps = (s.pr k).taps) (c a b : Nat) :
    tapDs t k c a b = tapDs s k c a b := by
  unfold tapDs quarterMs
  rw [htl, htaps]

/-- In the grains of the crossbar the spare of a first dwell goes on to the next cell with the last compared span. -/
theorem crossbarMove_goesOn (s : State) (k : Nat) (a : Audit) (f d : Nat) (hk : k ≤ 5) (h : (s.tl k).supplied = true ∧ (s.tl k).calibrating = false)
    (hstore : (s.tl k).store = false) (hm : (s.pr k).moves = []) (ha : (s.pr k).audit = some a) (hstage : a.stage = 0) (hnext : a.next = none)
    (hfrom : a.from_ = some f) (hf : f ≤ (s.tl k).span) (hn : a.n + 1 = s.get (Reg.AUDIT_DWELL k)) (hen : s.flag (Reg.AUDIT_EN k) = true)
    (hcell : auditable (atCrossbar k s) k a.cell = true)
    (htap : tapDs (atCrossbar k s) k a.cell ((s.tl k).span * 4096) ((s.tl k).span * 4096 + 4096) = false)
    (hd : nextAudited (atCrossbar k s) k a.cell = some d) :
    ∃ t, exec (.crossbarMove k) s = .next t ∧ t.get (spareCell k a.spare) = d ∧
      (t.pr k).audit = some { a with next := some (d, (s.tl k).span + 2) } ∧ t = { atCrossbar k s with prim := t.prim, regs := t.regs } ∧
      fieldsSame [spareCell k a.spare] s t := by
  let u := onlyMove k s
  have hregs : u.regs = (atCrossbar k s).regs := rfl
  have hmoves : (u.pr k).moves = ((atCrossbar k s).pr k).moves := by rw [onlyMove_pr, atCrossbar_pr, hm]
  have hpr : u.pr k = s.pr k := by rw [onlyMove_pr, ← hm]
  have htl : u.tl k = s.tl k := atCrossbar_tl k k s
  have hmade : movesMade k (atCrossbar k s) = u := by
    rw [movesMade_none _ _ (by rw [atCrossbar_pr, hm]; simp), atCrossbar_pr]
    show (atCrossbar k s).setPr k (s.pr k) = (atCrossbar k s).setPr k { s.pr k with moves := [] }
    rw [← hm]
  have hahead := auditAhead_goes k u a f d (by rw [hpr, ha]) hstage hnext hfrom (by rwa [htl]) (by rwa [onlyMove_get])
    ((flag_of_get s u _ (onlyMove_get k s _)).trans hen) (by rwa [auditable_congr hregs hmoves])
    (by unfold movePending; rw [hpr, hm]; rfl)
    (by rwa [htl, tapDs_congr (htl.trans (atCrossbar_tl k k s).symm) (by rw [hpr, atCrossbar_pr])])
    (by rwa [nextAudited_congr hregs hmoves])
  rw [htl] at hahead
  refine ⟨_, (crossbarMove_working s k hk h).trans (by rw [hstore, if_neg (by decide), hmade, hahead]), ?_, ?_, ?_, ?_⟩
  · rw [State.setPr_get]
    exact get_put_spareCell u k a.spare d ((nextAudited_lt hd).trans (by decide))
  · rw [State.pr_setPr_same]
  · exact (onlyMove_primSame k s).trans ((put_primSame _ _ _).trans (setPr_primSame _ _ _))
  · exact fieldsSame_trans (fieldsSame_of_regs (onlyMove_regs k s)) (fieldsSame_trans (put_fieldsSame u _ _ (by simp)) (fieldsSame_of_regs (State.setPr_regs _ _ _)))

end Sys2Proof.Machine
end

section
/-!
Tap tests (R100 to R102), the judgement of a dwell (R104, R105), the notch (R83) and the draws (R112).
-/
namespace Sys2Proof.Machine

/-! ### The tap test (R100, R101) -/

/-- A tap test begins: the tier works outside STORE, the span's number is a multiple of `TAP_INT`, a cell is enabled, grain 2,048 has not passed,
and this span's test has not begun. -/
def tapTurn (s : State) (k : Nat) : Prop :=
  s.get (Reg.TAP_INT k) ≠ 0 ∧ (s.tl k).span % s.get (Reg.TAP_INT k) = 0 ∧ enabledCells s k ≠ [] ∧ s.clk.grain ≤ 2048 ∧
    (s.pr k).taps.any (fun x => (s.tl k).span * 4096 + 2048 ≤ x.2) = false

/-- The cell whose turn the span is. -/
def tapCell (s : State) (k : Nat) : Nat :=
  (enabledCells s k).getD ((s.tl k).span / s.get (Reg.TAP_INT k) % (enabledCells s k).length) 0

theorem tapTestStart_stays (s : State) (k : Nat)
    (h : ¬ ((s.tl k).supplied = true ∧ (s.tl k).calibrating = false) ∨ (s.tl k).store = true ∨ ¬ tapTurn s k) :
    exec (.tapTestStart k) s = .next s := by
  refine if_neg (α := Out) fun hstart => ?_
  simp only [Bool.and_eq_true, Bool.not_eq_true', decide_eq_true_eq, bne_iff_ne, List.isEmpty_eq_false_iff] at hstart
  obtain ⟨⟨⟨⟨⟨⟨⟨⟨-, hsup⟩, hstore⟩, hcal⟩, hgrain⟩, hint⟩, hmod⟩, hon⟩, htaps⟩ := hstart
  rcases h with h | h | h
  · exact h ⟨hsup, hcal⟩
  · rw [hstore] at h
    exact absurd h (by decide)
  · exact h ⟨hint, hmod, hon, hgrain, htaps⟩

theorem tapTestStart_turn (s : State) (k : Nat) (hk : k ≤ 5) (hworks : (s.tl k).supplied = true ∧ (s.tl k).calibrating = false)
    (hstore : (s.tl k).store = false) (h : tapTurn s k) :
    exec (.tapTestStart k) s = .next ((s.passGrain 2048).setPr k
      { s.pr k with taps := ((tapCell s k, (s.tl k).span * 4096 + 2048) :: (s.pr k).taps).take 8, tapOn := true }) := by
  obtain ⟨hsup, hcal⟩ := hworks
  obtain ⟨hint, hmod, hon, hgrain, htaps⟩ := h
  show execTapTestStart k s = _
  unfold execTapTestStart
  dsimp only
  rw [if_pos (by simp [show k < 6 by omega, hsup, hcal, hstore, hint, hmod, hon, hgrain, htaps]), passGrain_pr]
  rfl

theorem tapCell_mem (s : State) (k : Nat) (h : enabledCells s k ≠ []) :
    (enabledCells s k)[(s.tl k).span / s.get (Reg.TAP_INT k) % (enabledCells s k).length]? = some (tapCell s k) := by
  have hlt := Nat.mod_lt ((s.tl k).span / s.get (Reg.TAP_INT k)) (List.length_pos_iff.mpr h)
  unfold tapCell
  rw [List.getD_eq_getElem _ _ hlt, List.getElem?_eq_getElem hlt]

theorem tapTestEnd_off (s : State) (k : Nat) (waves : List Wave) (h : (s.pr k).tapOn = false ∨ (s.pr k).taps = []) :
    exec (.tapTestEnd k waves) s = .next s := by
  show execTapTestEnd k waves s = _
  unfold execTapTestEnd
  rcases h with h | h <;> rw [h]
  · cases (s.pr k).taps.head? <;> rfl
  · rfl

/-- The state in which a tap test that began at `t0` is judged: its time has passed and the readings up to then have arrived. -/
def tapJudged (s : State) (k t0 : Nat) (waves : List Wave) : State :=
  let u := s.passGrain (t0 % 4096 + quarterMs s k 4)
  (bring k (u.tierAt k) waves u).setPr k { (bring k (u.tierAt k) waves u).pr k with tapOn := false }

theorem tapJudged_localOn (s : State) (k t0 : Nat) (waves : List Wave) : localOn (tapJudged s k t0 waves) k = localOn s k := by
  funext c
  unfold localOn tapJudged
  dsimp only
  rw [State.setPr_get, bring_get, passGrain_get]

theorem tapTestEnd_running (s : State) (k c t0 : Nat) (waves : List Wave) (hhead : (s.pr k).taps.head? = some (c, t0))
    (hon : (s.pr k).tapOn = true) :
    let v := tapJudged s k t0 waves
    let th : Int := 16 * (s.get (Reg.TAP_TH k) * 4000)
    exec (.tapTestEnd k waves) s = .next (
      if (s.passGrain (t0 % 4096 + quarterMs s k 4)).tierAt k < t0 + quarterMs s k 4 then s
      else if tapShift v k c t0 ≤ -th then
        convEvent k c 1 (openTap v k c th (fun i => tapShift v k i t0)) (Config.roundQ (tapShift v k c t0) 16) v
      else v) := by
  intro v th
  show execTapTestEnd k waves s = _
  unfold execTapTestEnd
  rw [hhead, hon]
  exact (apply_ite Host.Outcome.next _ _ _).symm

/-- The event of a tap or converter carries its cause, its index and a difference. -/
theorem convEvent_eq (k c cause index : Nat) (diff : Int) (s : State) :
    ∃ d, convEvent k c cause index diff s = raiseTier k (4 * (18 * k + c) + 3) (cause + 256 * index + 65536 * d) s := ⟨_, rfl⟩

/-- The tap above a cell is open where the next cell's reading has risen (R101). -/
theorem openTap_above (s : State) (k c : Nat) (th : Int) (sh : Nat → Int) (hc : c + 1 < 18) (hon : localOn s k (c + 1) = true)
    (hrose : th ≤ sh (c + 1)) : openTap s k c th sh = 18 * k + c + 1 := by
  refine if_pos ?_
  simp [hc, hon, hrose]

/-! ### Moves and dwells that are ordered (R103, R104) -/

/-- The move of a spare that is ordered now. -/
def ordered (s : State) (k i c : Nat) : Move := ⟨i, some c, 1, (s.tl k).span + (if 4079 < s.clk.grain then 1 else 0)⟩

theorem orderMove_eq (k i c : Nat) (s : State) :
    orderMove k i (some c) 1 s = s.setPr k { s.pr k with moves := (s.pr k).moves.filter (fun m => m.spare != i) ++ [ordered s k i c] } := rfl

theorem orderMove_last (k i c : Nat) (s : State) : ((orderMove k i (some c) 1 s).pr k).moves.getLast? = some (ordered s k i c) := by
  rw [orderMove_eq, State.pr_setPr_same]
  simp

theorem beginDwell_spec (k i c stage : Nat) (first : Option (Nat × Int × Nat)) (s : State) :
    let t := beginDwell k i c stage first s
    (t.pr k).audit = some ⟨c, i, stage, none, 0, 0, false, 0, 0, first, none⟩ ∧ (t.pr k).moves.getLast? = some (ordered s k i c) ∧
      t = { s with prim := t.prim } := by
  intro t
  have hpr : t.pr k = _ := State.pr_setPr_same (orderMove k i (some c) 1 s) k _
  refine ⟨by rw [hpr], ?_, rfl⟩
  rw [hpr]
  exact orderMove_last k i c s

theorem setDwell_spec (k i c stage : Nat) (from_ : Option Nat) (first : Option (Nat × Int × Nat)) (s : State) :
    let t := setDwell k i c stage from_ first s
    (t.pr k).audit = some ⟨c, i, stage, from_, 0, 0, false, 0, 0, first, none⟩ ∧ (t.pr k).moves = (s.pr k).moves ∧ t = { s with prim := t.prim } := by
  intro t
  have hpr : t.pr k = _ := State.pr_setPr_same s k _
  exact ⟨by rw [hpr], by rw [hpr], rfl⟩

theorem auditOn_gone (k : Nat) (a : Audit) (d f : Nat) (s : State) (ha : (s.pr k).audit = some a) (hnext : a.next = some (d, f))
    (hd : auditable s k d = true) : auditOn k a.spare a.cell s = setDwell k a.spare d 0 (some f) none s := by
  have hgone : goneOn s k a.spare = some (d, f) := by
    unfold goneOn
    simp [ha, hnext, hd]
  unfold auditOn
  rw [hgone]

theorem auditOn_next (k : Nat) (a : Audit) (d : Nat) (s : State) (ha : (s.pr k).audit = some a) (hnext : a.next = none)
    (hd : nextAudited s k a.cell = some d) : auditOn k a.spare a.cell s = beginDwell k a.spare d 0 none s := by
  have hgone : goneOn s k a.spare = none := by
    unfold goneOn
    simp [ha, hnext]
  unfold auditOn
  rw [hgone, hd]

/-! ### The end of a dwell (R104, R105) -/

/-- The dwell has its spans. -/
def dwellEnded (s : State) (k : Nat) (a : Audit) : Prop := a.n ≠ 0 ∧ s.get (Reg.AUDIT_DWELL k) ≤ a.n

/-- The limit of a dwell's mean difference, µV. -/
def dwellLimit (s : State) (k : Nat) (a : Audit) : Nat := s.get (Reg.AUDIT_TH k) * 10 + (if a.wide then 1000 else 0)

/-- A dwell that has its spans is judged by its stage. -/
def judgeDwell (s : State) (k : Nat) (a : Audit) : State :=
  if a.stage = 0 then firstDwell k a (dwellLimit s k a) s
  else if a.stage = 1 then secondDwell k a (dwellLimit s k a) s
  else thirdDwell k a s

theorem auditDwellEnd_none (s : State) (k : Nat) (h : (s.pr k).audit = none) : exec (.auditDwellEnd k) s = .next s := by
  show execAuditDwellEnd k s = _
  unfold execAuditDwellEnd
  rw [h]
  rfl

section
variable {s : State} {k : Nat} {a : Audit} (ha : (s.pr k).audit = some a)
include ha

theorem auditDwellEnd_early (h : ¬ dwellEnded s k a) : exec (.auditDwellEnd k) s = .next s := by
  show execAuditDwellEnd k s = _
  unfold execAuditDwellEnd
  rw [ha]
  refine if_pos (α := Out) ?_
  unfold dwellEnded at h
  simp only [Bool.or_eq_true, decide_eq_true_eq]
  omega

theorem auditDwellEnd_dropped (h : dwellEnded s k a) (hcell : auditable s k a.cell = false) :
    exec (.auditDwellEnd k) s = .next (if a.stage = 1 then endAudit k s else auditOn k a.spare a.cell s) := by
  obtain ⟨hn, hdwell⟩ := h
  show execAuditDwellEnd k s = _
  unfold execAuditDwellEnd
  rw [ha]
  dsimp only
  rw [if_neg (by simp only [Bool.or_eq_true, decide_eq_true_eq]; omega), hcell]
  rfl

theorem auditDwellEnd_judged (h : dwellEnded s k a) (hcell : auditable s k a.cell = true) :
    exec (.auditDwellEnd k) s = .next (judgeDwell s k a) := by
  obtain ⟨hn, hdwell⟩ := h
  show execAuditDwellEnd k s = _
  unfold execAuditDwellEnd
  rw [ha]
  dsimp only
  rw [if_neg (by simp only [Bool.or_eq_true, decide_eq_true_eq]; omega), hcell]
  rw [if_neg (by decide)]
  unfold judgeDwell
  split
  · rename_i hstage
    rw [if_pos hstage]
    rfl
  · rename_i hstage
    rw [if_neg (show ¬ a.stage = 0 by omega), if_pos hstage]
    rfl
  · rename_i h0 h1
    rw [if_neg h0, if_neg h1]
    rfl

end

theorem firstDwell_agrees (k th : Nat) (a : Audit) (s : State) (h : differs a.sum th a.n = false) :
    firstDwell k a th s = auditOn k a.spare a.cell s := by
  unfold firstDwell
  simp [h]

/-- A mismatch where the other spare is free seeks it as arbiter. -/
theorem firstDwell_arbiter (k th : Nat) (a : Audit) (s : State) (hdiff : differs a.sum th a.n = true)
    (huse : s.get (spareUse k (if a.spare = 18 then 19 else 18)) = 0) (hpend : movePending s k (if a.spare = 18 then 19 else 18) = false) :
    firstDwell k a th s = beginDwell k (if a.spare = 18 then 19 else 18) a.cell 1 (some (a.spare, a.sum, a.n)) s := by
  unfold firstDwell
  simp [hdiff, huse, hpend]

/-- The dwell against the secondary results that follows a first one. -/
def thirdStage (a : Audit) : Audit := { a with stage := 2, n := 0, sum := 0, wide := false, convSec := 0, spareSec := 0, next := none }

/-- Without an arbiter a mismatch of a cell in the sequence table is judged against the secondary results. -/
theorem firstDwell_table (k th : Nat) (a : Audit) (s : State) (hdiff : differs a.sum th a.n = true)
    (hother : s.get (spareUse k (if a.spare = 18 then 19 else 18)) ≠ 0 ∨ movePending s k (if a.spare = 18 then 19 else 18) = true)
    (htab : inTable s k a.cell = true) :
    firstDwell k a th s = if a.next.isSome then auditBack k (thirdStage a) s else s.setPr k { s.pr k with audit := some (thirdStage a) } := by
  have hno : ¬ ((s.get (spareUse k (if a.spare = 18 then 19 else 18)) = 0 && !movePending s k (if a.spare = 18 then 19 else 18)) = true) := by
    rcases hother with h | h <;> simp [h]
  unfold firstDwell
  dsimp only
  rw [hdiff, if_neg (by decide), if_neg hno, if_pos htab]
  rfl

theorem firstDwell_unresolved (k th : Nat) (a : Audit) (s : State) (hdiff : differs a.sum th a.n = true)
    (hother : s.get (spareUse k (if a.spare = 18 then 19 else 18)) ≠ 0 ∨ movePending s k (if a.spare = 18 then 19 else 18) = true)
    (htab : inTable s k a.cell = false) :
    firstDwell k a th s = auditOn k a.spare a.cell (unresolved k a.cell (meanDiff a.sum a.n) s) := by
  have hno : ¬ ((s.get (spareUse k (if a.spare = 18 then 19 else 18)) = 0 && !movePending s k (if a.spare = 18 then 19 else 18)) = true) := by
    rcases hother with h | h <;> simp [h]
  unfold firstDwell
  dsimp only
  rw [hdiff, if_neg (by decide), if_neg hno, if_neg (by rw [htab]; decide)]

/-- What the start of the dwell against the secondary results leaves; a spare that has gone on is called back. -/
theorem thirdStage_spec (k : Nat) (a : Audit) (s : State) :
    let t := if a.next.isSome then auditBack k (thirdStage a) s else s.setPr k { s.pr k with audit := some (thirdStage a) }
    t = { s with prim := t.prim } ∧
      (t.pr k).audit = some { a with stage := 2, n := 0, sum := 0, wide := false, convSec := 0, spareSec := 0, next := none,
                                     from_ := if a.next.isSome then none else a.from_ } ∧
      (a.next.isSome = true → (t.pr k).moves.getLast? = some (ordered s k a.spare a.cell)) := by
  intro t
  by_cases hgone : a.next.isSome = true
  · have ht : t = auditBack k (thirdStage a) s := if_pos hgone
    have hpr : t.pr k = _ := (congrArg (fun u => State.pr u k) ht).trans (State.pr_setPr_same (orderMove k a.spare (some a.cell) 1 s) k _)
    refine ⟨by rw [ht]; rfl, ?_, fun _ => ?_⟩
    · rw [hpr, if_pos hgone]; rfl
    · rw [hpr]; exact orderMove_last k a.spare a.cell s
  · have ht : t = s.setPr k { s.pr k with audit := some (thirdStage a) } := if_neg hgone
    refine ⟨by rw [ht]; rfl, ?_, fun h => absurd h hgone⟩
    rw [ht, State.pr_setPr_same, if_neg hgone]; rfl

theorem secondDwell_converter (k th i n : Nat) (sum : Int) (a : Audit) (s : State) (hfirst : a.first = some (i, sum, n))
    (hdiff : differs a.sum th a.n = true) : secondDwell k a th s = convFault k a.cell 3 (meanDiff a.sum a.n) s := by
  unfold secondDwell
  simp [hfirst, hdiff]

theorem secondDwell_accuser (k th i n : Nat) (sum : Int) (a : Audit) (s : State) (hfirst : a.first = some (i, sum, n))
    (hdiff : differs a.sum th a.n = false) (hfar : th * (n * a.n) * auditUnit < (sum * a.n - a.sum * n).natAbs) :
    secondDwell k a th s = endAudit k (spareFault k i s) := by
  unfold secondDwell
  simp [hfirst, hdiff, hfar]

theorem thirdDwell_converter (k : Nat) (a : Audit) (s : State) (hbad : differs a.convSec (2 * (s.get (Reg.AUDIT_TH k) * 10)) a.n = true)
    (hsp : differs a.spareSec (2 * (s.get (Reg.AUDIT_TH k) * 10)) a.n = false) :
    thirdDwell k a s = convFault k a.cell 3 (meanDiff a.sum a.n) s := by
  unfold thirdDwell
  simp [hbad, hsp]

theorem thirdDwell_spare (k : Nat) (a : Audit) (s : State) (hbad : differs a.convSec (2 * (s.get (Reg.AUDIT_TH k) * 10)) a.n = false)
    (hsp : differs a.spareSec (2 * (s.get (Reg.AUDIT_TH k) * 10)) a.n = true) : thirdDwell k a s = spareFault k a.spare s := by
  unfold thirdDwell
  simp [hbad, hsp]

/-! ### The notch (R83) -/

/-- The instant at which the notch line holds its history again. -/
def notchDue (s : State) (k : Nat) : Nat := (s.pr k).notchFrom + (notchLen16 s k + 15) / 16

/-- The state in which the notch line is looked at: its instant has passed, where it lies in the present span. -/
def atNotch (s : State) (k : Nat) : State := if notchDue s k / 4096 = (s.tl k).span then s.passGrain (notchDue s k % 4096) else s

theorem notchFilled_off (s : State) (k : Nat) (h : s.flag (Reg.NOTCH_FILLING k) = false) : exec (.notchFilled k) s = .next s := by
  refine if_pos (α := Out) ?_
  rw [h]
  simp

theorem notchFilled_filling (s : State) (k : Nat) (hk : k ≤ 5) (h : s.flag (Reg.NOTCH_FILLING k) = true) :
    exec (.notchFilled k) s = .next (if notchDue s k ≤ (atNotch s k).tierAt k then (atNotch s k).put (Reg.NOTCH_FILLING k) 0 else s) := by
  show execNotchFilled k s = _
  unfold execNotchFilled
  dsimp only
  rw [h, if_neg (by simpa using hk)]
  exact (apply_ite Host.Outcome.next _ _ _).symm

theorem atNotch_eq (s : State) (k : Nat) : atNotch s k = { s with clk := { s.clk with
    grain := if notchDue s k / 4096 = (s.tl k).span then max s.clk.grain (notchDue s k % 4096) else s.clk.grain } } := by
  have hlt := Nat.mod_lt (notchDue s k) (show 4096 > 0 by decide)
  unfold atNotch
  by_cases hspan : notchDue s k / 4096 = (s.tl k).span
  · have hgrain : (if notchDue s k % 4096 < 4096 ∧ s.clk.grain < notchDue s k % 4096 then notchDue s k % 4096 else s.clk.grain) =
        max s.clk.grain (notchDue s k % 4096) := by split <;> omega
    rw [if_pos hspan, if_pos hspan, passGrain_eq, hgrain]
  · rw [if_neg hspan, if_neg hspan]

theorem atNotch_due (s : State) (k : Nat) (h : notchDue s k ≤ s.tierAt k ∨ notchDue s k / 4096 = (s.tl k).span) :
    notchDue s k ≤ (atNotch s k).tierAt k := by
  have htier : s.tierAt k = (s.tl k).span * 4096 + s.clk.grain := rfl
  have hmod := Nat.div_add_mod (notchDue s k) 4096
  rw [atNotch_eq]
  show _ ≤ (s.tl k).span * 4096 + _
  dsimp only
  split <;> omega

theorem notchFilled_resumes (s : State) (k : Nat) (hk : k ≤ 5) (h : s.flag (Reg.NOTCH_FILLING k) = true)
    (hdue : notchDue s k ≤ s.tierAt k ∨ notchDue s k / 4096 = (s.tl k).span) :
    ∃ t, exec (.notchFilled k) s = .next t ∧ t.flag (Reg.NOTCH_FILLING k) = false ∧ fieldsSame [Reg.NOTCH_FILLING k] s t ∧
      t = { s with clk := t.clk, regs := t.regs } ∧ t.clk.span = s.clk.span ∧
      t.clk.grain = (if notchDue s k / 4096 = (s.tl k).span then max s.clk.grain (notchDue s k % 4096) else s.clk.grain) := by
  have hregs : (atNotch s k).regs = s.regs := by rw [atNotch_eq]
  have hget : ((atNotch s k).put (Reg.NOTCH_FILLING k) 0).get (Reg.NOTCH_FILLING k) = 0 := State.get_put _ _ _ (by simp [Reg.NOTCH_FILLING])
  refine ⟨_, (notchFilled_filling s k hk h).trans (by rw [if_pos (atNotch_due s k hdue)]), ?_, ?_, ?_, ?_, ?_⟩
  · unfold State.get at hget
    unfold State.flag
    rw [hget]
    rfl
  · exact fieldsSame_trans (fieldsSame_of_regs hregs) (put_fieldsSame _ _ _ (by simp))
  · rw [atNotch_eq]; rfl
  · rw [State.put_clk, atNotch_eq]
  · rw [State.put_clk, atNotch_eq]

theorem notchFilled_waits (s : State) (k : Nat) (hk : k ≤ 5) (h : s.flag (Reg.NOTCH_FILLING k) = true) (hdue : s.tierAt k < notchDue s k)
    (hspan : notchDue s k / 4096 ≠ (s.tl k).span) : exec (.notchFilled k) s = .next s := by
  have hat : atNotch s k = s := if_neg hspan
  rw [notchFilled_filling s k hk h, hat, if_neg (by omega)]

end Sys2Proof.Machine
end

section
/-!
The matching of the supply draws (R112, R113).
-/
namespace Sys2Proof.Machine

/-! ### Operations that each act on a field of their own -/

/-- Over a list of distinct numbers, an operation that writes its own field and leaves what the others read and write: each number of the list has
its value, every other its old one. -/
theorem each_get_own (f : Nat → State → State) (own : Nat → Field) (value : Nat → State → Nat) (hown : ∀ k t, (f k t).get (own k) = value k t)
    (hother : ∀ k j t, k ≠ j → (f k t).get (own j) = t.get (own j)) (hvalue : ∀ k j t, k ≠ j → value j (f k t) = value j t)
    (l : List Nat) (hl : l.Nodup) (s : State) (j : Nat) : (s.each l f).get (own j) = if j ∈ l then value j s else s.get (own j) := by
  induction l generalizing s with
  | nil => simp
  | cons k l ih =>
    obtain ⟨hk, hl⟩ := List.nodup_cons.mp hl
    rw [State.each_cons, ih hl]
    by_cases hj : k = j
    · subst hj
      rw [if_neg hk, if_pos List.mem_cons_self, hown]
    · rw [hvalue k j s hj, hother k j s hj]
      simp [Ne.symm hj]

/-- The largest of a list, and of 0. -/
theorem foldl_max_spec (l : List Nat) (a : Nat) : a ≤ l.foldl max a ∧ (∀ x ∈ l, x ≤ l.foldl max a) ∧ (l.foldl max a = a ∨ l.foldl max a ∈ l) := by
  induction l generalizing a with
  | nil => simp
  | cons b l ih =>
    obtain ⟨hle, hall, hin⟩ := ih (max a b)
    rw [List.foldl_cons]
    refine ⟨(le_max_left a b).trans hle, ?_, ?_⟩
    · intro x hx
      rcases List.mem_cons.mp hx with rfl | hx
      · exact (le_max_right a x).trans hle
      · exact hall x hx
    · rcases hin with hin | hin
      · rw [hin]
        rcases max_choice a b with h | h <;> rw [h] <;> simp
      · exact .inr (List.mem_cons_of_mem _ hin)

/-! ### The averages of the tiers (R112) -/

/-- What a tier shows as the average of its supply draw. -/
def shownSupply (ua : List Nat) (k : Nat) (s : State) : Nat :=
  if (s.tl k).supplied && decide ((s.pr k).drawAt + 64 ≤ (s.tl k).span) then min 65535 (ua.getD k 0) else s.get (Reg.SUPPLY_UA k)

theorem showSupply_primSame (ua k : Nat) (s : State) : primSame s (showSupply ua k s) :=
  ite_primSame ((put_primSame s _ _).trans (setPr_primSame _ k _)) (primSame_refl s)

theorem showSupply_get (ua k : Nat) (s : State) (f : Field) (h : (Reg.SUPPLY_UA k).apart f) : (showSupply ua k s).get f = s.get f := by
  unfold showSupply
  dsimp only
  split
  · rw [State.setPr_get, State.get_put_apart _ _ _ _ h]
  · rfl

theorem showSupply_own (ua : List Nat) (k : Nat) (s : State) :
    (showSupply (ua.getD k 0) k s).get (Reg.SUPPLY_UA k) = shownSupply ua k s := by
  unfold showSupply shownSupply
  dsimp only
  split
  · rw [State.setPr_get, State.get_put _ _ _ (by simp [Reg.SUPPLY_UA])]
    exact Nat.mod_eq_of_lt (by simp only [Reg.SUPPLY_UA]; omega)
  · rfl

theorem showSupply_tl (ua k j : Nat) (s : State) : (showSupply ua k s).tl j = s.tl j := by rw [showSupply_primSame ua k s]; rfl

theorem showSupply_pr (ua k j : Nat) (s : State) (h : k ≠ j) : (showSupply ua k s).pr j = s.pr j := by
  unfold showSupply
  dsimp only
  split
  · rw [State.pr_setPr, if_neg h, State.put_pr]
  · rfl

theorem supply_apart (k j : Nat) (h : k ≠ j) : (Reg.SUPPLY_UA k).apart (Reg.SUPPLY_UA j) :=
  .inl (by simp only [Reg.SUPPLY_UA, Wd.TIER_DRAW]; omega)

/-- The draws of the six tiers are shown. -/
@[irreducible] def suppliesShown (ua : List Nat) (s : State) : State := s.each (List.range 6) (fun k t => showSupply (ua.getD k 0) k t)

theorem suppliesShown_primSame (ua : List Nat) (s : State) : primSame s (suppliesShown ua s) := by
  unfold suppliesShown
  exact State.each_keeps (primSame s) _ _ (fun _ _ ht => ht.trans (showSupply_primSame _ _ _)) s (primSame_refl s)

theorem suppliesShown_get (ua : List Nat) (s : State) (f : Field) (h : ∀ k, (Reg.SUPPLY_UA k).apart f) : (suppliesShown ua s).get f = s.get f := by
  unfold suppliesShown
  exact State.each_keeps (fun t => t.get f = s.get f) _ _ (fun k t ht => (showSupply_get _ k t f (h k)).trans ht) s rfl

theorem suppliesShown_supply (ua : List Nat) (s : State) (j : Nat) (hj : j < 6) :
    (suppliesShown ua s).get (Reg.SUPPLY_UA j) = shownSupply ua j s := by
  unfold suppliesShown
  refine (each_get_own _ Reg.SUPPLY_UA (shownSupply ua) (showSupply_own ua) (fun k j t h => showSupply_get _ k t _ (supply_apart k j h))
    (fun k j t h => ?_) _ List.nodup_range s j).trans (if_pos (List.mem_range.mpr hj))
  unfold shownSupply
  rw [showSupply_tl, showSupply_pr _ k j t h, showSupply_get _ k t _ (supply_apart k j h)]

/-! ### The ballasts (R112, R113) -/

/-- The tiers that the base die equalises. -/
def equalised (s : State) : List Nat := (List.range 6).filter s.linkUp

/-- The draw that the ballasts bring every tier to. -/
def drawTarget (s : State) : Nat :=
  (((equalised s).filter (fun k => s.flag (Reg.BALLAST_EN k))).map (fun k => s.get (Reg.SUPPLY_UA k))).foldl max 0 + 10

/-- The base die sets the ballast of a tier. -/
def setBallast (target k : Nat) (t : State) : State :=
  if t.flag (Reg.BALLAST_EN k) then
    (t.put (Reg.BALLAST_UA k) (min (target - t.get (Reg.SUPPLY_UA k)) 1000)).putFlag (Reg.BALLAST_SAT k)
      (decide (1000 < target - t.get (Reg.SUPPLY_UA k)))
  else (t.put (Reg.BALLAST_UA k) 0).put (Reg.BALLAST_SAT k) 0

theorem matchTiers_eq (s : State) : matchTiers s = s.each (equalised s) (setBallast (drawTarget s)) := by
  unfold matchTiers drawTarget equalised setBallast
  rfl

theorem setBallast_rest (target k : Nat) (t : State) : restSame t (setBallast target k t) := by
  unfold setBallast
  split
  · exact restSame_trans (put_restSame _ _ _) (put_restSame _ (Reg.BALLAST_SAT k) _)
  · exact restSame_trans (put_restSame _ _ _) (put_restSame _ _ _)

theorem setBallast_get (target k : Nat) (t : State) (f : Field) (h1 : (Reg.BALLAST_UA k).apart f) (h2 : (Reg.BALLAST_SAT k).apart f) :
    (setBallast target k t).get f = t.get f := by
  unfold setBallast State.putFlag
  split <;> rw [State.get_put_apart _ _ _ _ h2, State.get_put_apart _ _ _ _ h1]

/-- The ballast that a tier is to draw, and whether it falls short. -/
def wantedBallast (target k : Nat) (s : State) : Nat := if s.flag (Reg.BALLAST_EN k) then min (target - s.get (Reg.SUPPLY_UA k)) 1000 else 0

def ballastShort (target k : Nat) (s : State) : Nat := if s.flag (Reg.BALLAST_EN k) then b01 (decide (1000 < target - s.get (Reg.SUPPLY_UA k))) else 0

theorem ballast_fields_apart (k : Nat) : (Reg.BALLAST_SAT k).apart (Reg.BALLAST_UA k) ∧ (Reg.BALLAST_UA k).apart (Reg.BALLAST_SAT k) := by
  constructor <;> exact .inr ⟨by simp [Reg.BALLAST_UA, Reg.BALLAST_SAT], by simp [Reg.BALLAST_UA, Reg.BALLAST_SAT]⟩

theorem setBallast_ballast (target k : Nat) (t : State) : (setBallast target k t).get (Reg.BALLAST_UA k) = wantedBallast target k t := by
  obtain ⟨hsat, -⟩ := ballast_fields_apart k
  unfold setBallast wantedBallast State.putFlag
  split <;> rw [State.get_put_apart _ _ _ _ hsat, State.get_put _ _ _ (by simp [Reg.BALLAST_UA])]
  · exact Nat.mod_eq_of_lt (by simp only [Reg.BALLAST_UA]; omega)
  · rfl

theorem setBallast_sat (target k : Nat) (t : State) : (setBallast target k t).get (Reg.BALLAST_SAT k) = ballastShort target k t := by
  unfold setBallast ballastShort State.putFlag
  split <;> rw [State.get_put _ _ _ (by simp [Reg.BALLAST_SAT])]
  · cases decide (1000 < target - t.get (Reg.SUPPLY_UA k)) <;> rfl
  · rfl

theorem drawWord_ne {k j : Nat} (h : k ≠ j) : Wd.TIER_DRAW k ≠ Wd.TIER_DRAW j := by simp only [Wd.TIER_DRAW]; omega

theorem drawCtrl_ne (k j : Nat) : Wd.TIER_DRAW k ≠ Wd.DRAW_CTRL j := by simp only [Wd.TIER_DRAW, Wd.DRAW_CTRL]; omega

theorem supply_apart_ballast (k j : Nat) : (Reg.BALLAST_UA k).apart (Reg.SUPPLY_UA j) ∧ (Reg.BALLAST_SAT k).apart (Reg.SUPPLY_UA j) := by
  constructor <;> exact .inr ⟨by simp [Reg.BALLAST_UA, Reg.BALLAST_SAT], by simp [Reg.BALLAST_UA, Reg.BALLAST_SAT, Reg.SUPPLY_UA]⟩

theorem setBallast_supply (target k j : Nat) (t : State) : (setBallast target k t).get (Reg.SUPPLY_UA j) = t.get (Reg.SUPPLY_UA j) := by
  obtain ⟨h1, h2⟩ := supply_apart_ballast k j
  exact setBallast_get target k t _ h1 h2

theorem setBallast_en (target k j : Nat) (t : State) : (setBallast target k t).flag (Reg.BALLAST_EN j) = t.flag (Reg.BALLAST_EN j) :=
  flag_of_get _ _ _ (setBallast_get target k t _ (.inl (drawCtrl_ne k j)) (.inl (drawCtrl_ne k j)))

theorem matchTiers_rest (s : State) : restSame s (matchTiers s) :=
  State.each_keeps (restSame s) _ _ (fun _ _ ht => restSame_trans ht (setBallast_rest _ _ _)) s rfl

theorem equalised_nodup (s : State) : (equalised s).Nodup := List.nodup_range.filter _

theorem mem_equalised (s : State) (j : Nat) : j ∈ equalised s ↔ j < 6 ∧ s.linkUp j = true := by
  unfold equalised
  rw [List.mem_filter, List.mem_range]

theorem matchTiers_supply (s : State) (j : Nat) : (matchTiers s).get (Reg.SUPPLY_UA j) = s.get (Reg.SUPPLY_UA j) :=
  State.each_keeps (fun t => t.get (Reg.SUPPLY_UA j) = s.get (Reg.SUPPLY_UA j)) _ _ (fun k t ht => (setBallast_supply _ k j t).trans ht) s rfl

theorem matchTiers_ballast (s : State) (j : Nat) : (matchTiers s).get (Reg.BALLAST_UA j) =
    if j ∈ equalised s then wantedBallast (drawTarget s) j s else s.get (Reg.BALLAST_UA j) := by
  rw [matchTiers_eq]
  refine each_get_own _ Reg.BALLAST_UA (wantedBallast (drawTarget s)) (setBallast_ballast _) (fun k j t h => ?_) (fun k j t _ => ?_) _
    (equalised_nodup s) s j
  · exact setBallast_get _ k t _ (.inl (drawWord_ne h)) (.inl (drawWord_ne h))
  · unfold wantedBallast
    rw [setBallast_en, setBallast_supply]

theorem matchTiers_sat (s : State) (j : Nat) : (matchTiers s).get (Reg.BALLAST_SAT j) =
    if j ∈ equalised s then ballastShort (drawTarget s) j s else s.get (Reg.BALLAST_SAT j) := by
  rw [matchTiers_eq]
  refine each_get_own _ Reg.BALLAST_SAT (ballastShort (drawTarget s)) (setBallast_sat _) (fun k j t h => ?_) (fun k j t _ => ?_) _
    (equalised_nodup s) s j
  · exact setBallast_get _ k t _ (.inl (drawWord_ne h)) (.inl (drawWord_ne h))
  · unfold ballastShort
    rw [setBallast_en, setBallast_supply]

/-- The target lies 10 µA above every tier with a ballast. -/
theorem drawTarget_above (s : State) (j : Nat) (hj : j < 6) (hup : s.linkUp j = true) (hen : s.flag (Reg.BALLAST_EN j) = true) :
    s.get (Reg.SUPPLY_UA j) + 10 ≤ drawTarget s := by
  have hmem : s.get (Reg.SUPPLY_UA j) ∈ ((equalised s).filter (fun k => s.flag (Reg.BALLAST_EN k))).map (fun k => s.get (Reg.SUPPLY_UA k)) :=
    List.mem_map_of_mem (List.mem_filter.mpr ⟨(mem_equalised s j).mpr ⟨hj, hup⟩, hen⟩)
  exact Nat.add_le_add_right ((foldl_max_spec _ 0).2.1 _ hmem) 10

/-- Where a tier has a ballast, the target lies 10 µA above one of them. -/
theorem drawTarget_attained (s : State) (j : Nat) (hj : j < 6) (hup : s.linkUp j = true) (hen : s.flag (Reg.BALLAST_EN j) = true) :
    ∃ i, i < 6 ∧ s.linkUp i = true ∧ s.flag (Reg.BALLAST_EN i) = true ∧ drawTarget s = s.get (Reg.SUPPLY_UA i) + 10 := by
  have habove := drawTarget_above s j hj hup hen
  obtain ⟨-, -, hzero | hin⟩ := foldl_max_spec (((equalised s).filter (fun k => s.flag (Reg.BALLAST_EN k))).map (fun k => s.get (Reg.SUPPLY_UA k))) 0
  · have htarget : drawTarget s = 0 + 10 := congrArg (· + 10) hzero
    exact ⟨j, hj, hup, hen, by omega⟩
  · obtain ⟨i, hi, hmax⟩ := List.mem_map.mp hin
    obtain ⟨hmem, heni⟩ := List.mem_filter.mp hi
    obtain ⟨hi6, hupi⟩ := (mem_equalised s i).mp hmem
    exact ⟨i, hi6, hupi, heni, congrArg (· + 10) hmax.symm⟩

/-! ### DRAW_MATCH -/

/-- The state in which the base die matches the tiers: their averages shown, the instant noted. -/
def drawsNoted (ua : List Nat) (s : State) : State :=
  let s1 := suppliesShown ua s
  { s1 with pwr := { s1.pwr with drawAt := s1.clk.span } }

theorem drawsNoted_get (ua : List Nat) (s : State) (f : Field) : (drawsNoted ua s).get f = (suppliesShown ua s).get f :=
  get_eq_of_regs (by rw [drawsNoted]) f

theorem drawMatch_eq (ua : List Nat) (s : State) : exec (.drawMatch ua) s =
    .next (if s.ready = true ∧ s.pwr.drawAt + 64 ≤ s.clk.span then matchTiers (drawsNoted ua s) else suppliesShown ua s) := by
  have hsame := suppliesShown_primSame ua s
  have hready : (suppliesShown ua s).ready = s.ready := by rw [hsame]; rfl
  have hpwr : (suppliesShown ua s).pwr = s.pwr := by rw [hsame]
  have hshown : s.each (List.range 6) (fun k t => showSupply (ua.getD k 0) k t) = suppliesShown ua s := by rw [suppliesShown]
  show execDrawMatch ua s = _
  unfold execDrawMatch done
  rw [hshown]
  dsimp only
  rw [hready, hpwr, hsame.clk, apply_ite Host.Outcome.next]
  unfold drawsNoted
  simp only [Bool.and_eq_true, decide_eq_true_eq, hpwr, hsame.clk]

end Sys2Proof.Machine
end

section
/-!
The statement on converters, taps and draws, clause by clause.
-/
namespace Sys2Proof.Machine

/-! ### DRAW_MATCH leaves -/

theorem suppliesShown_ballast (ua : List Nat) (s : State) (j : Nat) :
    (suppliesShown ua s).get (Reg.BALLAST_UA j) = s.get (Reg.BALLAST_UA j) :=
  suppliesShown_get ua s _ fun _ => .inr ⟨by simp [Reg.SUPPLY_UA], by simp [Reg.SUPPLY_UA, Reg.BALLAST_UA]⟩

/-- What the base die reads when it matches is what stood before the averages were shown. -/
theorem drawsNoted_reads (ua : List Nat) (s : State) (j : Nat) :
    (drawsNoted ua s).linkUp j = s.linkUp j ∧ (drawsNoted ua s).flag (Reg.BALLAST_EN j) = s.flag (Reg.BALLAST_EN j) ∧
      (drawsNoted ua s).get (Reg.BALLAST_UA j) = s.get (Reg.BALLAST_UA j) := by
  have hlink : (drawsNoted ua s).link = s.link := (suppliesShown_primSame ua s).link
  refine ⟨?_, flag_of_get _ _ _ ?_, ?_⟩
  · unfold State.linkUp State.tl
    rw [hlink]
  · rw [drawsNoted_get]
    exact suppliesShown_get ua s _ fun k => .inl (drawCtrl_ne k j)
  · rw [drawsNoted_get, suppliesShown_ballast]

/-- Between two matches every tier goes on averaging, and the ballasts stay. -/
theorem drawMatch_between (ua : List Nat) (s : State) (h : ¬ (s.ready = true ∧ s.pwr.drawAt + 64 ≤ s.clk.span)) :
    ∃ t, exec (.drawMatch ua) s = .next t ∧ primSame s t ∧ (∀ j, j < 6 → t.get (Reg.SUPPLY_UA j) = shownSupply ua j s) ∧
      ∀ j, t.get (Reg.BALLAST_UA j) = s.get (Reg.BALLAST_UA j) :=
  ⟨_, (drawMatch_eq ua s).trans (by rw [if_neg h]), suppliesShown_primSame ua s, suppliesShown_supply ua s,
    suppliesShown_ballast ua s⟩

/-- A match sets the ballast of each tier whose link is up. -/
theorem drawMatch_matches (ua : List Nat) (s : State) (h : s.ready = true ∧ s.pwr.drawAt + 64 ≤ s.clk.span) :
    ∃ t, exec (.drawMatch ua) s = .next t ∧ t = { s with pwr := { s.pwr with drawAt := s.clk.span }, prim := t.prim, regs := t.regs } ∧
      (∀ j, j < 6 → t.get (Reg.SUPPLY_UA j) = shownSupply ua j s) ∧
      (∀ j, j < 6 → s.linkUp j = true →
        (s.flag (Reg.BALLAST_EN j) = true → t.get (Reg.SUPPLY_UA j) + 10 ≤ drawTarget (drawsNoted ua s) ∧
          t.get (Reg.BALLAST_UA j) = min (drawTarget (drawsNoted ua s) - t.get (Reg.SUPPLY_UA j)) 1000 ∧
          t.flag (Reg.BALLAST_SAT j) = decide (1000 < drawTarget (drawsNoted ua s) - t.get (Reg.SUPPLY_UA j))) ∧
        (s.flag (Reg.BALLAST_EN j) = false → t.get (Reg.BALLAST_UA j) = 0)) ∧
      ((∃ j, j < 6 ∧ s.linkUp j = true ∧ s.flag (Reg.BALLAST_EN j) = true) → ∃ j, j < 6 ∧ s.linkUp j = true ∧
        s.flag (Reg.BALLAST_EN j) = true ∧ drawTarget (drawsNoted ua s) = t.get (Reg.SUPPLY_UA j) + 10) ∧
      ∀ j, j < 6 → s.linkUp j = false → t.get (Reg.BALLAST_UA j) = s.get (Reg.BALLAST_UA j) := by
  let n := drawsNoted ua s
  have hreads := drawsNoted_reads ua s
  have hsupply : ∀ j, (matchTiers n).get (Reg.SUPPLY_UA j) = n.get (Reg.SUPPLY_UA j) := matchTiers_supply n
  refine ⟨_, (drawMatch_eq ua s).trans (by rw [if_pos h]), ?_, ?_, ?_, ?_, ?_⟩
  · have hnoted : n = { s with pwr := { s.pwr with drawAt := s.clk.span }, prim := n.prim, regs := n.regs } := by
      have hsame := suppliesShown_primSame ua s
      show ({ suppliesShown ua s with pwr := { (suppliesShown ua s).pwr with drawAt := (suppliesShown ua s).clk.span } } : State) = _
      rw [hsame]
      rfl
    have hrest : restSame n (matchTiers n) := matchTiers_rest n
    show matchTiers n = _
    rw [hrest, hnoted]
  · intro j hj
    exact (hsupply j).trans (suppliesShown_supply ua s j hj)
  · intro j hj hup
    obtain ⟨hlink, hen, -⟩ := hreads j
    have hmem : j ∈ equalised n := (mem_equalised n j).mpr ⟨hj, hlink.trans hup⟩
    have hballast : (matchTiers n).get (Reg.BALLAST_UA j) = wantedBallast (drawTarget n) j n := (matchTiers_ballast n j).trans (if_pos hmem)
    have hsat : (matchTiers n).get (Reg.BALLAST_SAT j) = ballastShort (drawTarget n) j n := (matchTiers_sat n j).trans (if_pos hmem)
    refine ⟨fun hon => ?_, fun hoff => ?_⟩
    · have hon' : n.flag (Reg.BALLAST_EN j) = true := hen.trans hon
      rw [hsupply]
      refine ⟨drawTarget_above n j hj (hlink.trans hup) hon', hballast.trans (if_pos hon'), ?_⟩
      have hshort : ballastShort (drawTarget n) j n = b01 (decide (1000 < drawTarget n - n.get (Reg.SUPPLY_UA j))) := if_pos hon'
      have hflag : (matchTiers n).flag (Reg.BALLAST_SAT j) = ((matchTiers n).get (Reg.BALLAST_SAT j) == 1) := rfl
      rw [hflag, hsat, hshort]
      cases decide (1000 < drawTarget n - n.get (Reg.SUPPLY_UA j)) <;> rfl
    · exact hballast.trans (if_neg (by rw [hen.trans hoff]; decide))
  · rintro ⟨j, hj, hup, hon⟩
    obtain ⟨hlink, hen, -⟩ := hreads j
    obtain ⟨i, hi, hupi, heni, htarget⟩ := drawTarget_attained n j hj (hlink.trans hup) (hen.trans hon)
    obtain ⟨hlinki, hen', -⟩ := hreads i
    exact ⟨i, hi, hlinki.symm.trans hupi, hen'.symm.trans heni, by rw [hsupply]; exact htarget⟩
  · intro j hj hdown
    obtain ⟨hlink, -, hkeep⟩ := hreads j
    refine (matchTiers_ballast n j).trans ((if_neg fun hmem => ?_).trans hkeep)
    have hup := ((mem_equalised n j).mp hmem).2
    rw [hlink, hdown] at hup
    exact absurd hup (by decide)

/-! ### Converters that stop -/

theorem markFaulted_spec (s s1 : State) (k c : Nat) (hregs : s1.regs = s.regs) (hc : c < 20) :
    restSame s1 (markFaulted k c s1) ∧ bit ((markFaulted k c s1).get (Reg.FAULTED k)) c = true ∧
      (∀ j, j ≠ c → bit ((markFaulted k c s1).get (Reg.FAULTED k)) j = bit (s.get (Reg.FAULTED k)) j) ∧
      fieldsSame [Reg.FAULTED k] s (markFaulted k c s1) := by
  refine ⟨put_restSame _ _ _, ?_, fun j hj => ?_, ?_⟩
  · rw [bit_markFaulted k c c s1 hc, if_pos rfl]
  · rw [bit_markFaulted k c j s1 hc, if_neg hj, get_eq_of_regs hregs]
  · exact fieldsSame_trans (fieldsSame_of_regs hregs) (put_fieldsSame _ _ _ (by simp))

/-- A stopped spare, once its failure shows. -/
theorem spareFailed_spec (s : State) (k i : Nat) (hi : i < 20) :
    (spareFailed k i s).get (spareUse k i) = 3 ∧ bit ((spareFailed k i s).get (Reg.FAULTED k)) i = true ∧
      ((spareFailed k i s).pr k).moves.all (fun m => m.spare != i) = true :=
  ⟨spareFailed_use k i s, by rw [spareFailed_get k i s _ (fun j => spareUse_apart_faulted k j), bit_markFaulted k i i s hi, if_pos rfl],
    spareFailed_moves k i s⟩

/-- Settles O58: converters, taps and draws, from the rules of each row. -/
theorem convertersTapsAndDraws : Obligations.ConvertersTapsAndDraws := by
  intro s k hk works q
  refine ⟨?_, ?_, crossbarMove_idle s k, ?_, ?_, ?_, ?_, ?_, auditDwellEnd_none s k, ?_, ?_, notchFilled_off s k, ?_⟩
  · intro st s1 c clocks stuck
    refine ⟨modulatorStuck_idle s k st, modulatorStuck_excused s k st hk, ?_, ?_⟩
    · rintro ⟨hworks, hclocks⟩ hc hon hnew
      obtain ⟨hrest, hself, hothers, hfields⟩ := markFaulted_spec s s1 k c (bring_regs _ _ _ _) (by omega)
      have hexec : exec (.modulatorStuck k st) s = .next (convFault k c 2 0 s1) := modulatorStuck_cell s k st hk hworks hclocks hc hon
      have hget : s1.get (Reg.FAULTED k) = s.get (Reg.FAULTED k) := bring_get _ _ _ _ _
      obtain ⟨hserved, hpromised, hneeds⟩ := convFault_new k c 2 0 s1 (by rw [hget]; exact hnew)
      rw [convEvent_zero] at hserved hpromised hneeds
      exact ⟨markFaulted k c s1, hrest, hself, hothers, hfields, dropDwell_audit k c _, fun h => hexec.trans (congrArg _ (hserved h)),
        fun h hp => hexec.trans (congrArg _ (hpromised h hp)), fun h hp => hexec.trans (congrArg _ (hneeds h hp))⟩
    · rintro ⟨hworks, hclocks⟩ hc use cell
      have hexec := modulatorStuck_spare s k st hk hworks hclocks hc
      have huse : s1.get (spareUse k c) = use := bring_get _ _ _ _ _
      have hcell : s1.get (spareCell k c) = cell := bring_get _ _ _ _ _
      refine ⟨fun h3 => hexec.trans (congrArg _ (spareFault_failed k c s1 (huse.trans h3))), fun h3 => ?_⟩
      obtain ⟨h1, h2, h3⟩ := spareFailed_spec s1 k c (by omega)
      have hsame := spareFailed_primSame k c s1
      refine ⟨spareFailed k c s1, h1, h2, hsame.evt.trans (bring_evt _ _ _ _), hsame.clk.trans (bring_clk _ _ _ _), h3, fun h0 => ?_,
        fun h1 => ?_, fun h2 => ?_⟩
      · exact ⟨hexec.trans (congrArg _ (spareFault_idle k c s1 (huse.trans h0))),
          fieldsSame_trans (fieldsSame_of_regs (bring_regs _ _ _ _)) (spareFailed_fields k c s1 (huse.trans h0))⟩
      · refine ⟨spareFailed_audit k c s1 (huse.trans h1), hexec.trans (congrArg _ ?_)⟩
        rw [spareFault_auditing k c s1 (huse.trans h1), convEvent_zero, hcell]
      · refine hexec.trans (congrArg _ ?_)
        rw [spareFault_replacing k c s1 (huse.trans h2), convEvent_zero, hcell]
  · exact fun c i => ⟨needSpare_idle s k c i, needSpare_manual s k c i, needSpare_exhausted s k c⟩
  · rintro (h | h)
    · exact tapTestStart_stays s k (.inl h)
    · exact tapTestStart_stays s k (.inr (.inl h))
  · intro hworks to_ store u staying
    refine ⟨fun hm hstay => ?_, ?_, fun i at_ _ hstay => ⟨fun cell use hm hdue => ?_, fun hspan hidle => ⟨?_, ?_⟩⟩⟩
    · exact crossbarMove_none s k hk hworks hstay (by rw [hm]; simp)
    · intro a f d hstore hm ha hstage hnext hfrom hf hn hen hcell htap hd
      exact crossbarMove_goesOn s k a f d hk hworks hstore hm ha hstage hnext hfrom hf hn hen hcell htap hd
    · refine crossbarMove_none s k hk hworks hstay fun m hmem => ?_
      rw [hm, List.mem_singleton] at hmem
      rw [hmem]
      exact moveDue_early hdue
    · intro c use hc hon h2 hstore hm
      exact crossbarMove_to s k i c use at_ hk hworks hstay hspan hidle hc hon h2 hstore hm
    · intro cell use hstore hm hoff
      exact crossbarMove_nowhere s k i at_ use cell hk hworks hstay hspan hidle hstore hm hoff
  · intro hworks hstore int due turn
    refine ⟨fun hturn => ?_, fun hturn => tapTestStart_stays s k (.inr (.inr hturn))⟩
    refine ⟨_, tapCell s k, tapTestStart_turn s k hk hworks hstore hturn, rfl, tapCell_mem s k hturn.2.2.1, ?_, ?_⟩ <;> rw [State.pr_setPr_same]
    rfl
  · intro c t0 waves hhead hon u v th
    have hexec := tapTestEnd_running s k c t0 waves hhead hon
    refine ⟨fun hearly => hexec.trans (congrArg _ (if_pos hearly)), fun hdue hshift => ?_, fun hdue hshift => ?_⟩
    · exact hexec.trans (congrArg _ ((if_neg (not_lt.mpr hdue)).trans (if_neg (not_le.mpr hshift))))
    · obtain ⟨d, hd⟩ := convEvent_eq k c 1 (openTap v k c th (fun i => tapShift v k i t0)) (Config.roundQ (tapShift v k c t0) 16) v
      refine ⟨_, d, hexec.trans (congrArg _ ((if_neg (not_lt.mpr hdue)).trans ((if_pos hshift).trans hd))), fun hc hon' hrose => ?_⟩
      exact openTap_above v k c th _ hc ((congrFun (tapJudged_localOn s k t0 waves) (c + 1)).trans hon') hrose
  · exact fun h waves => tapTestEnd_off s k waves h
  · intro a ha th other move ended judged
    refine ⟨auditDwellEnd_early ha, auditDwellEnd_dropped ha, ?_, ?_, ?_⟩
    · rintro ⟨hended, hcell⟩ hstage
      have hexec : exec (.auditDwellEnd k) s = .next (firstDwell k a th s) :=
        (auditDwellEnd_judged ha hended hcell).trans (congrArg _ (if_pos hstage))
      refine ⟨fun hsame d f hnext hd => ?_, fun hsame hnext d hd => ?_, fun hdiff huse hpend => ?_, fun hdiff hother htab => ?_,
        fun hdiff hother htab => ?_⟩
      · rw [hexec, firstDwell_agrees k th a s hsame, auditOn_gone k a d f s ha hnext hd]
        exact ⟨_, rfl, setDwell_spec k a.spare d 0 (some f) none s⟩
      · rw [hexec, firstDwell_agrees k th a s hsame, auditOn_next k a d s ha hnext hd]
        exact ⟨_, rfl, beginDwell_spec k a.spare d 0 none s⟩
      · rw [hexec, firstDwell_arbiter k th a s hdiff huse hpend]
        exact ⟨_, rfl, beginDwell_spec k other a.cell 1 (some (a.spare, a.sum, a.n)) s⟩
      · rw [hexec, firstDwell_table k th a s hdiff hother htab]
        exact ⟨_, rfl, thirdStage_spec k a s⟩
      · obtain ⟨d, hd⟩ := convEvent_eq k a.cell 4 a.cell (meanDiff a.sum a.n) s
        refine ⟨_, hexec.trans (congrArg _ ((firstDwell_unresolved k th a s hdiff hother htab).trans (congrArg _ hd))), ?_⟩
        omega
    · rintro ⟨hended, hcell⟩ hstage i sum n hfirst
      have hexec : exec (.auditDwellEnd k) s = .next (secondDwell k a th s) :=
        (auditDwellEnd_judged ha hended hcell).trans (congrArg _ ((if_neg (by omega)).trans (if_pos hstage)))
      exact ⟨fun hdiff => hexec.trans (congrArg _ (secondDwell_converter k th i n sum a s hfirst hdiff)),
        fun hdiff hfar => hexec.trans (congrArg _ (secondDwell_accuser k th i n sum a s hfirst hdiff hfar))⟩
    · rintro ⟨hended, hcell⟩ hstage bad spBad
      have hexec : exec (.auditDwellEnd k) s = .next (thirdDwell k a s) :=
        (auditDwellEnd_judged ha hended hcell).trans (congrArg _ ((if_neg (by omega)).trans (if_neg (by omega))))
      exact ⟨fun hbad hsp => hexec.trans (congrArg _ (thirdDwell_converter k a s hbad hsp)),
        fun hbad hsp => hexec.trans (congrArg _ (thirdDwell_spare k a s hbad hsp))⟩
  · intro hfill due
    exact ⟨notchFilled_resumes s k hk hfill, notchFilled_waits s k hk hfill⟩
  · intro ua
    by_cases hmatch : s.ready = true ∧ s.pwr.drawAt + 64 ≤ s.clk.span
    · obtain ⟨t, hexec, ht, hsupply, hballast, htarget, hdown⟩ := drawMatch_matches ua s hmatch
      refine ⟨t, drawTarget (drawsNoted ua s), hexec, by rw [ht], hsupply, fun h => ?_, fun _ _ => ⟨by rw [ht], hballast, htarget⟩, hdown⟩
      rcases h with h | h
      · rw [hmatch.1] at h
        exact absurd h (by decide)
      · omega
    · obtain ⟨t, hexec, ht, hsupply, hballast⟩ := drawMatch_between ua s hmatch
      exact ⟨t, 0, hexec, by rw [ht], hsupply, fun _ => ⟨by rw [ht], fun j _ => hballast j⟩, fun h1 h2 => absurd ⟨h1, h2⟩ hmatch,
        fun j _ _ => hballast j⟩

end Sys2Proof.Machine
end

section
/-!
The words of the cubits, 0xA0100 to 0xA01FC, under a raise (R397): an event writes at most the upper half of one of them, where the drop
counter of a chain port that no module has would lie.
-/
namespace Sys2Proof.Machine

/-! ### The lower halves of the words of the cubits -/

/-- No field in the lower half of a word of the cubits has changed. -/
def cubitsKeep (s t : State) : Prop := ∀ f : Field, 0xA0100 ≤ f.a → f.a < 0xA0200 → f.lo + f.w ≤ 16 → t.get f = s.get f

theorem cubitsKeep_refl (s : State) : cubitsKeep s s := fun _ _ _ _ => rfl

theorem cubitsKeep.trans {s t u : State} (h1 : cubitsKeep s t) (h2 : cubitsKeep t u) : cubitsKeep s u :=
  fun f ha hb hw => (h2 f ha hb hw).trans (h1 f ha hb hw)

theorem cubitsKeep_of_regs {s t u : State} (h : cubitsKeep s t) (hregs : u.regs = t.regs) : cubitsKeep s u :=
  h.trans fun f _ _ _ => get_eq_of_regs hregs f

/-- An update of any part but the words. -/
theorem parts_cubitsKeep {s t : State} {pending : List Instr} {clk : Clock} {free : Nat} {evt : Events} {host : HostPort} {win : Windows}
    {tb : TimeBase} {chain : Chain} {pwr : Power} {ret : Retention} {tw : TwoWire} {start : Startup} {link : KV TierLink} {prim : KV TierPrim}
    {sec : KV TierSec} {temps : Temps} {cur : Cur} {exc : Exc} {fab : Fab} {bal : Bal} (h : cubitsKeep s t) : cubitsKeep s
      ⟨pending, clk, t.regs, free, evt, host, win, tb, chain, pwr, ret, tw, start, link, prim, sec, temps, cur, exc, fab, bal⟩ := h

/-- The field lies outside the words of the cubits, or in the upper half of a word. -/
def beside (f : Field) : Prop := f.a < 0xA0100 ∨ 0xA0200 ≤ f.a ∨ (16 ≤ f.lo ∧ f.lo + f.w ≤ 32)

theorem put_cubitsKeep {s t : State} (f : Field) (v : Nat) (hf : beside f) (h : cubitsKeep s t) : cubitsKeep s (t.put f v) :=
  h.trans fun g ha hb hw => State.get_put_apart t f g v <| by
    rcases hf with hlow | hhigh | ⟨hlo, hwide⟩
    · exact .inl (by omega)
    · exact .inl (by omega)
    · exact .inr ⟨hwide, .inl (by omega)⟩

theorem putFlag_cubitsKeep {s t : State} (f : Field) (b : Bool) (hf : beside f) (h : cubitsKeep s t) : cubitsKeep s (t.putFlag f b) :=
  put_cubitsKeep f _ hf h

theorem bump_cubitsKeep {s t : State} (f : Field) (hf : beside f) (h : cubitsKeep s t) : cubitsKeep s (t.bump f) := put_cubitsKeep f _ hf h

theorem ite_cubitsKeep {c : Prop} [Decidable c] {s t u : State} (ht : cubitsKeep s t) (hu : cubitsKeep s u) : cubitsKeep s (if c then t else u) := by
  split
  · exact ht
  · exact hu

theorem when_cubitsKeep {s t : State} (b : Bool) {f : State → State} (h : cubitsKeep s t) (hf : cubitsKeep s t → cubitsKeep s (f t)) :
    cubitsKeep s (t.when b f) := State.when_keeps _ t b f h hf

theorem foldl_cubitsKeep {α : Type} {s : State} (l : List α) {f : State → α → State} (hf : ∀ u, ∀ x ∈ l, cubitsKeep s u → cubitsKeep s (f u x))
    (t : State) (h : cubitsKeep s t) : cubitsKeep s (l.foldl f t) := by
  induction l generalizing t with
  | nil => exact h
  | cons x l ih => exact ih (fun u y hy => hf u y (List.mem_cons_of_mem x hy)) _ (hf t x List.mem_cons_self h)

/-! ### Reports and records -/

theorem beside_drop (p : Nat) : beside (Reg.TXQ_DROP p) := .inr (.inr ⟨le_refl 16, le_refl 32⟩)

theorem sendTo_cubitsKeep {s t : State} (d : Dest) (f : Frame) (h : cubitsKeep s t) : cubitsKeep s (sendTo d f t) := by
  cases d with
  | spi =>
    simp only [sendTo, hqAdd]
    split_ifs
    · exact h
    · exact bump_cubitsKeep _ (.inl (by decide)) h
    · exact h
    · exact h
  | tw =>
    simp only [sendTo, twqAdd]
    split_ifs
    · exact h
    · exact bump_cubitsKeep _ (.inl (by decide)) h
    · exact h
    · exact h
  | port p =>
    show cubitsKeep s (txAdd p (routeTo t p f) t)
    rcases txAdd_cases p (routeTo t p f) t with e | e <;> rw [e]
    · exact h
    · exact bump_cubitsKeep _ (beside_drop p) h

theorem issueFrame_cubitsKeep {s t : State} (kind : Nat) (dests : List Dest) (mk : Nat → List Byte) (h : cubitsKeep s t) :
    cubitsKeep s (issueFrame kind dests mk t) :=
  foldl_cubitsKeep dests (fun _ d _ hu => sendTo_cubitsKeep d _ hu) _ (parts_cubitsKeep (put_cubitsKeep Reg.LAST_DSEQ _ (.inl (by decide)) h))

theorem complete_cubitsKeep {s u : State} (t : Stamp) (op status : Nat) (m : Meta) (cause detail : Nat) (h : cubitsKeep s u) :
    cubitsKeep s (complete t op status m cause detail u) :=
  foldl_cubitsKeep _ (fun _ _ _ hu => issueFrame_cubitsKeep _ _ _ hu) u h

theorem noteWake_cubitsKeep {s t : State} (src : Nat) (h : cubitsKeep s t) : cubitsKeep s (noteWake src t) :=
  ite_cubitsKeep h (parts_cubitsKeep h)

theorem assertWake_cubitsKeep {s t : State} (src : Nat) (h : cubitsKeep s t) : cubitsKeep s (assertWake src t) :=
  ite_cubitsKeep (parts_cubitsKeep (noteWake_cubitsKeep src h)) h

theorem queueRecord_cubitsKeep {s t : State} (r : EvtRec) (h : cubitsKeep s t) : cubitsKeep s (queueRecord r t) :=
  ite_cubitsKeep (parts_cubitsKeep h) (parts_cubitsKeep h)

/-! ### The steps of a raise (R397 to R410) -/

theorem evtClass_lt : ∀ src < 544, evtClass src < 16 := by decide +kernel

theorem classCount_low {src : Nat} (h : src < 544) : Wd.CLASS_CNT (evtClass src) < 0xA0100 := by
  have := evtClass_lt src h
  simp only [Wd.CLASS_CNT]
  omega

theorem evtState_low {src : Nat} (h : src < 544) : Wd.EVT_STATE src < 0xA0100 := by
  simp only [Wd.EVT_STATE]
  omega

theorem handleRaise_cubitsKeep {s t : State} (src sev : Nat) (was : Bool) (hsrc : src < 544) (h : cubitsKeep s t) : cubitsKeep s (handleRaise src sev was t).1 := by
  unfold handleRaise
  extract_lets c opens esc s1 _ s2 s3 s4 s1'
  have h2 : cubitsKeep s s2 := ite_cubitsKeep (parts_cubitsKeep (parts_cubitsKeep h)) (parts_cubitsKeep h)
  have h3 : cubitsKeep s s3 := when_cubitsKeep _ h2 fun hu => parts_cubitsKeep hu
  have h4 : cubitsKeep s s4 := when_cubitsKeep _ h3 fun hu => assertWake_cubitsKeep src hu
  split
  · exact h4
  · exact when_cubitsKeep _ (bump_cubitsKeep _ (.inl (classCount_low hsrc)) h) fun hu => put_cubitsKeep _ _ (.inl (classCount_low hsrc)) hu

theorem raiseCore_cubitsKeep {s u : State} (src value : Nat) (t : Stamp) (late summary : Bool) (hsrc : src < 544) (h : cubitsKeep s u) :
    cubitsKeep s (raiseCore src value t late summary u).1 := by
  unfold raiseCore
  extract_lets u1 s1 s2 fin s3 sev was
  have h1 : cubitsKeep s s1 := ite_cubitsKeep h (when_cubitsKeep _ (bump_cubitsKeep _ (.inl (evtState_low hsrc)) h) fun hu =>
    put_cubitsKeep _ _ (.inl (evtState_low hsrc)) hu)
  have h2 : cubitsKeep s s2 := put_cubitsKeep _ _ (.inl (by simp only [Reg.EVT_LAST_LAST_SPAN, Wd.EVT_LAST]; omega)) h1
  have h3 : cubitsKeep s s3 := when_cubitsKeep _ h2 fun hu => putFlag_cubitsKeep _ _ (.inl (evtState_low hsrc)) hu
  have hl : cubitsKeep s (s3.put (Reg.LATCHED src) 1) := put_cubitsKeep _ _ (.inl (evtState_low hsrc)) h3
  split
  · exact h3
  · split
    rename_i s4 inWin esc heq
    have h4 : cubitsKeep s s4 := by
      split at heq
      · obtain ⟨rfl, -⟩ := Prod.mk.inj heq
        exact when_cubitsKeep _ h3 fun hu => put_cubitsKeep _ _ (.inl (evtState_low hsrc)) hu
      · split at heq
        · have e : (handleRaise src sev was (s3.put (Reg.LATCHED src) 1)).1 = s4 := congrArg Prod.fst heq
          rw [← e]
          exact handleRaise_cubitsKeep _ _ _ hsrc hl
        · obtain ⟨rfl, -⟩ := Prod.mk.inj heq
          exact hl
    exact when_cubitsKeep _ h4 fun hu => queueRecord_cubitsKeep _ hu

theorem raise512_cubitsKeep {s t : State} (first : Nat × Nat) (src : Nat) (inHold : Bool) (h : cubitsKeep s t) :
    cubitsKeep s (raise512 first src inHold t) := by
  rw [raise512_eq]
  exact raiseCore_cubitsKeep _ _ _ _ _ (by decide) h

theorem raiseInHold_cubitsKeep {s u : State} (src value : Nat) (t : Stamp) (late summary : Bool) (hsrc : src < 544) (h : cubitsKeep s u) :
    cubitsKeep s (raiseInHold src value t late summary u) := by
  have hcore := raiseCore_cubitsKeep src value t late summary hsrc h
  unfold raiseInHold
  split <;> rename_i heq <;> rw [heq] at hcore
  · exact hcore
  · exact ite_cubitsKeep hcore (raise512_cubitsKeep _ _ _ (bump_cubitsKeep _ (.inl (by decide)) hcore))

/-! ### What the entry to HOLD does (R410, R422) -/

theorem vcStep_cubitsKeep {s t : State} (h : cubitsKeep s t) : cubitsKeep s (vcStep t) := by
  have hset : ∀ mv, cubitsKeep s (vcWrite mv 0 t) := fun mv => by
    have h2 : cubitsKeep s ((t.put Reg.VC_SET mv).put Reg.VC_CONFIRMED 0) :=
      put_cubitsKeep _ _ (.inl (by decide)) (put_cubitsKeep _ _ (.inl (by decide)) h)
    exact ite_cubitsKeep (parts_cubitsKeep h2) (parts_cubitsKeep (parts_cubitsKeep h2))
  exact ite_cubitsKeep (hset _) h

theorem capFabric_cubitsKeep {s t : State} (h : cubitsKeep s t) : cubitsKeep s (capFabric t) :=
  ite_cubitsKeep h (parts_cubitsKeep (putFlag_cubitsKeep Reg.FAB_CAPPED _ (.inl (by decide)) h))

theorem unexcite_cubitsKeep {s t : State} (ch : Nat) (hch : ch < 128) (h : cubitsKeep s t) : cubitsKeep s (unexcite ch t) :=
  ite_cubitsKeep (parts_cubitsKeep (parts_cubitsKeep (put_cubitsKeep (Reg.CH_STATE ch) _
    (.inl (by simp only [Reg.CH_STATE, Wd.CH_STATUS]; omega)) h))) h

theorem endSweep_cubitsKeep {s t : State} (status cause : Nat) (h : cubitsKeep s t) : cubitsKeep s (endSweep status cause t) := by
  unfold endSweep
  split
  · exact h
  · extract_lets now cut partial_ s1 s2 s3 _ s4
    have h1 : cubitsKeep s s1 := put_cubitsKeep _ _ (.inl (by decide)) (put_cubitsKeep _ _ (.inl (by decide)) h)
    have h2 : cubitsKeep s s2 := State.each_keeps_mem (cubitsKeep s) now _ (fun k hk u hu => by
      have hcell : u.get (Reg.EXC_CELL k) < 128 := get_lt u _
      have hk6 : k < 6 := List.mem_range.mp (List.mem_of_mem_filter hk)
      exact put_cubitsKeep _ _ (.inl (by simp only [Reg.EXC_CELL, Wd.EXC_TIER]; omega)) (unexcite_cubitsKeep _ hcell hu)) s1 h1
    exact complete_cubitsKeep _ _ _ _ _ _ (parts_cubitsKeep (put_cubitsKeep Reg.EXC_STATE _ (.inl (by decide)) h2))

/-- A raise that is handed to an operation keeps the words of the cubits. -/
def keepsCubits (r : Nat → Nat → State → State) : Prop := ∀ src v s t, src < 544 → cubitsKeep s t → cubitsKeep s (r src v t)

theorem endLease_cubitsKeep {s t : State} (r : Nat → Nat → State → State) (hr : keepsCubits r) (c cause : Nat) (hc : c < 3)
    (h : cubitsKeep s t) : cubitsKeep s (endLease r c cause t) := by
  have hlive : cubitsKeep s (t.put (Reg.LIVE c) 0) := put_cubitsKeep _ _ (.inl (by simp only [Reg.LIVE, Wd.LEASE_ST]; omega)) h
  exact ite_cubitsKeep (hr _ _ _ _ (by decide) (ite_cubitsKeep (endSweep_cubitsKeep _ _ hlive) hlive)) h

theorem abandonLc_cubitsKeep {s t : State} (r : Nat → Nat → State → State) (hr : keepsCubits r) (src hseq : Nat) (h : cubitsKeep s t) :
    cubitsKeep s (abandonLc r src hseq t) := by
  unfold abandonLc
  split
  · exact h
  · exact hr _ _ _ _ (by decide) (put_cubitsKeep _ _ (.inl (by decide)) (put_cubitsKeep _ _ (.inl (by decide)) (parts_cubitsKeep h)))

theorem applyEffN_cubitsKeep {s t : State} (k : Nat) (hk : k < 6) (h : cubitsKeep s t) : cubitsKeep s (applyEffN k t) := by
  have hstat : Wd.PRI_STATUS k < 0xA0100 := by simp only [Wd.PRI_STATUS]; omega
  unfold applyEffN
  extract_lets c _ s0
  have h0 : cubitsKeep s s0 := h
  exact ite_cubitsKeep h0 (parts_cubitsKeep (cubitsKeep_of_regs (put_cubitsKeep (Reg.EFF_SUBWIN k) c (.inl hstat) h0) rfl))

theorem changeMode_cubitsKeep {s t : State} (r : Nat → Nat → State → State) (hr : keepsCubits r) (new cause src hseq : Nat)
    (h : cubitsKeep s t) : cubitsKeep s (changeMode r new cause src hseq t) := by
  unfold changeMode
  extract_lets old fab s1 s2 _ s3 s4 s5 s6 _ s7 s8 s9
  have h1 : cubitsKeep s s1 := put_cubitsKeep _ _ (.inl (by decide)) (put_cubitsKeep _ _ (.inl (by decide)) (put_cubitsKeep _ _ (.inl (by decide)) h))
  have h2 : cubitsKeep s s2 := ite_cubitsKeep (put_cubitsKeep _ _ (.inl (by decide)) h1) h1
  have h3 : cubitsKeep s s3 := ite_cubitsKeep h2 (parts_cubitsKeep h2)
  have h4 : cubitsKeep s s4 := ite_cubitsKeep (endSweep_cubitsKeep _ _ h3) h3
  have h5 : cubitsKeep s s5 := ite_cubitsKeep (State.each_keeps_mem (cubitsKeep s) _ _ (fun c hc u hu =>
    endLease_cubitsKeep r hr c 4 (by simp at hc; omega) hu) s4 h4) h4
  have h6 : cubitsKeep s s6 := State.each_keeps_mem (cubitsKeep s) _ _ (fun k hk u hu => applyEffN_cubitsKeep k (List.mem_range.mp hk) hu) s5 h5
  have h8 : cubitsKeep s s8 := capFabric_cubitsKeep (vcStep_cubitsKeep (parts_cubitsKeep (parts_cubitsKeep h6)))
  exact hr _ _ _ _ (by decide) (abandonLc_cubitsKeep r hr src hseq h8)

/-- A raise leaves what is shown of the cubits, whatever it escalates to. -/
theorem raise_cubitsKeep {s t : State} (src value : Nat) (hsrc : src < 544) (h : cubitsKeep s t) : cubitsKeep s (raise src value t) := by
  have hcore := raiseCore_cubitsKeep src value t.now false false hsrc h
  have hhold : ∀ u, cubitsKeep s u → cubitsKeep s (enterHold u) := fun u hu =>
    changeMode_cubitsKeep _ (fun _ _ _ _ hs hw => raiseInHold_cubitsKeep _ _ _ _ _ hs hw) _ _ _ _ hu
  unfold raise raiseAt
  refine ite_cubitsKeep (raiseInHold_cubitsKeep _ _ _ _ _ hsrc h) ?_
  split <;> rename_i heq <;> rw [heq] at hcore
  · exact hcore
  · exact ite_cubitsKeep hcore (raise512_cubitsKeep _ _ _ (hhold _ (bump_cubitsKeep _ (.inl (by decide))
      (put_cubitsKeep _ _ (.inl (by decide)) hcore))))

end Sys2Proof.Machine
end

section
/-!
What is shown of the cubits (R476, R477, R493), the records that a test appends, and the ends of LOGIC, MARCH and READMIT (R489, R492).
-/
namespace Sys2Proof.Machine

/-! ### Records of the history store and the cubits -/

theorem tunEvent_cubitsKeep {s t : State} (cause top : Nat) (h : cubitsKeep s t) : cubitsKeep s (tunEvent cause top t) :=
  raise_cubitsKeep _ _ (by decide) h

theorem tunOnce_cubitsKeep {s t : State} (cause top : Nat) (h : cubitsKeep s t) : cubitsKeep s (tunOnce cause top t) :=
  ite_cubitsKeep h (tunEvent_cubitsKeep _ _ (parts_cubitsKeep h))

theorem tunWorn_cubitsKeep {s t : State} (h : cubitsKeep s t) : cubitsKeep s (tunWorn t) := by
  have h1 : cubitsKeep s (if worn 50 t then tunOnce 4 0 t else t) := ite_cubitsKeep (tunOnce_cubitsKeep _ _ h) h
  exact ite_cubitsKeep (tunOnce_cubitsKeep _ _ h1) h1

theorem tunShow_cubitsKeep {s t : State} (h : cubitsKeep s t) : cubitsKeep s (tunShow t) :=
  put_cubitsKeep _ _ (.inl (by decide)) (put_cubitsKeep _ _ (.inl (by decide)) (put_cubitsKeep _ _ (.inl (by decide))
    (put_cubitsKeep _ _ (.inl (by decide)) h)))

theorem tunWrite_cubitsKeep {s t : State} (kind : Nat) (body : List Byte) (h : cubitsKeep s t) : cubitsKeep s (tunWrite kind body t) := by
  unfold tunWrite tunAppend
  dsimp only
  split
  · exact tunWorn_cubitsKeep (tunShow_cubitsKeep (put_cubitsKeep _ _ (.inl (by decide)) (put_cubitsKeep (Reg.REC_LAST kind) _
      (.inr (.inl (by simp only [Reg.REC_LAST, Wd.TUN_LAST]; omega))) (put_cubitsKeep Reg.REC_NEXT _ (.inl (by decide)) (parts_cubitsKeep h)))))
  · exact tunEvent_cubitsKeep _ _ (tunWorn_cubitsKeep (tunShow_cubitsKeep (put_cubitsKeep Reg.TUN_FULL _ (.inl (by decide)) (parts_cubitsKeep h))))

theorem writeRepairMap_cubitsKeep {s t : State} (h : cubitsKeep s t) : cubitsKeep s (writeRepairMap t) := by
  unfold writeRepairMap
  exact tunWrite_cubitsKeep _ _ h

theorem showUsable_cubitsKeep {s t : State} (h : cubitsKeep s t) : cubitsKeep s (showUsable t) :=
  put_cubitsKeep Reg.ST_USABLE _ (.inl (by decide)) h

/-- The state that is shown of a cubit lies in the words that a raise keeps. -/
theorem cubitsKeep.cubit {s t : State} (h : cubitsKeep s t) (j : Nat) (hj : j < 32) : t.get (Reg.CUBIT_ST j) = s.get (Reg.CUBIT_ST j) :=
  h _ (by simp only [Reg.CUBIT_ST, Wd.ST_CUBIT]; omega) (by simp only [Reg.CUBIT_ST, Wd.ST_CUBIT]; omega) (by simp [Reg.CUBIT_ST])

/-! ### The state that is shown of a cubit -/

theorem showCubit_own (j st : Nat) (s : State) (h : st < 4) : (showCubit j st s).get (Reg.CUBIT_ST j) = st := by
  unfold showCubit
  dsimp only
  rw [State.get_put_apart _ _ _ _ (.inr ⟨by simp [Reg.ROWS_TOTAL], by simp [Reg.ROWS_TOTAL, Reg.CUBIT_ST]⟩),
    State.get_put_apart _ _ _ _ (.inr ⟨by simp [Reg.ROWS_MAX_BANK], by simp [Reg.ROWS_MAX_BANK, Reg.CUBIT_ST]⟩),
    State.get_put_apart _ _ _ _ (.inr ⟨by simp [Reg.ROWS_MAX], by simp [Reg.ROWS_MAX, Reg.CUBIT_ST]⟩),
    State.get_put _ _ _ (by simp [Reg.CUBIT_ST])]
  exact Nat.mod_eq_of_lt h

theorem showCubit_other (i j st : Nat) (s : State) (h : i ≠ j) : (showCubit i st s).get (Reg.CUBIT_ST j) = s.get (Reg.CUBIT_ST j) := by
  have hne : Wd.ST_CUBIT i ≠ Wd.ST_CUBIT j := by simp only [Wd.ST_CUBIT]; omega
  unfold showCubit
  dsimp only
  rw [State.get_put_word _ _ _ _ hne, State.get_put_word _ _ _ _ hne, State.get_put_word _ _ _ _ hne, State.get_put_word _ _ _ _ hne]

theorem mem_inMask (mask j : Nat) : j ∈ inMask mask ↔ j < 32 ∧ bit mask j = true := by
  unfold inMask
  rw [List.mem_filter, List.mem_range]

theorem inMask_nodup (mask : Nat) : (inMask mask).Nodup := List.nodup_range.filter _

/-! ### LOGIC -/

/-- LOGIC shows a cubit by whether it failed; one that is UNUSABLE stays so. -/
def showLogic (fails : List CubitTest) (j : Nat) (t : State) : State :=
  if fails.any (fun f => f.cubit == j) then showCubit j 2 t
  else if t.get (Reg.CUBIT_ST j) = 2 then t else showCubit j 0 t

/-- What LOGIC shows of a cubit. -/
def logicShown (fails : List CubitTest) (j : Nat) (s : State) : Nat :=
  if fails.any (fun f => f.cubit == j) = true then 2 else if s.get (Reg.CUBIT_ST j) = 2 then 2 else 0

theorem showLogic_own (fails : List CubitTest) (j : Nat) (t : State) : (showLogic fails j t).get (Reg.CUBIT_ST j) = logicShown fails j t := by
  unfold showLogic logicShown
  split
  · exact showCubit_own j 2 t (by decide)
  · split
    · assumption
    · exact showCubit_own j 0 t (by decide)

theorem showLogic_other (fails : List CubitTest) (i j : Nat) (t : State) (h : i ≠ j) :
    (showLogic fails i t).get (Reg.CUBIT_ST j) = t.get (Reg.CUBIT_ST j) := by
  unfold showLogic
  split
  · exact showCubit_other i j 2 t h
  · split
    · rfl
    · exact showCubit_other i j 0 t h

theorem logicTested_cubit (fails : List CubitTest) (mask j : Nat) (s : State) (hj : j < 32) (hm : bit mask j = true) :
    (s.each (inMask mask) (showLogic fails)).get (Reg.CUBIT_ST j) = logicShown fails j s := by
  refine (each_get_own _ Reg.CUBIT_ST (logicShown fails) (showLogic_own fails) (fun i j t => showLogic_other fails i j t)
    (fun i j t h => ?_) _ (inMask_nodup mask) s j).trans (if_pos ((mem_inMask mask j).mpr ⟨hj, hm⟩))
  unfold logicShown
  rw [showLogic_other fails i j t h]

/-! ### The judgement of MARCH and of the self-test (R475 to R477) -/

theorem placeRows_regs (j : Nat) (rows : List (Nat × Nat × Nat)) (s t : State) (h : placeRows j rows s = some t) : t.regs = s.regs := by
  induction rows generalizing s with
  | nil => rw [← Option.some.inj h]
  | cons r rows ih =>
    obtain ⟨b, row, bit_⟩ := r
    unfold placeRows at h
    split at h
    · exact absurd h (by simp)
    · have hregs := ih _ h
      exact hregs

theorem judgeCubit_other (f : CubitTest) (j : Nat) (s : State) (h : f.cubit % 32 ≠ j) :
    (judgeCubit f s).1.get (Reg.CUBIT_ST j) = s.get (Reg.CUBIT_ST j) := by
  unfold judgeCubit
  dsimp only
  split
  · exact showCubit_other _ j 2 s h
  · split
    · exact showCubit_other _ j 2 s h
    · rename_i s1 hplace
      exact (showCubit_other _ j _ s1 h).trans (get_eq_of_regs (placeRows_regs _ _ _ _ hplace) _)

/-- A cubit whose test failed with no row to repair is UNUSABLE. -/
theorem judgeCubit_norows (j : Nat) (retest : Bool) (s : State) (hj : j < 32) :
    (judgeCubit ⟨j, [], retest⟩ s).1 = showCubit j 2 s ∧ (judgeCubit ⟨j, [], retest⟩ s).2.1 = 2 := by
  have hmod : j % 32 = j := Nat.mod_eq_of_lt hj
  unfold judgeCubit
  exact ⟨by simp [hmod], by simp⟩

/-- A step of the judgement: the cubit that failed, and the counts and entries of the record. -/
theorem judged_cubit (j : Nat) (fs : List CubitTest) (hfs : ∀ f ∈ fs, f.cubit % 32 ≠ j)
    (step : State × Nat × Nat × Nat × List (List Byte) → CubitTest → State × Nat × Nat × Nat × List (List Byte))
    (hstep : ∀ a f, (step a f).1 = (judgeCubit f a.1).1) (a : State × Nat × Nat × Nat × List (List Byte)) :
    (fs.foldl step a).1.get (Reg.CUBIT_ST j) = a.1.get (Reg.CUBIT_ST j) := by
  induction fs generalizing a with
  | nil => rfl
  | cons f fs ih =>
    rw [List.foldl_cons, ih (fun g hg => hfs g (List.mem_cons_of_mem f hg)), hstep]
    exact judgeCubit_other f j a.1 (hfs f List.mem_cons_self)

/-- A cubit that was tested and is not among the failed ones has passed. -/
theorem judgeCubits_passed (t : Stamp) (tested : List Nat) (fails : List CubitTest) (s : State) (j : Nat) (hj : j < 32) (hnodup : tested.Nodup)
    (hmem : j ∈ tested) (hpass : ∀ f ∈ fails, f.cubit % 32 ≠ j) : (judgeCubits t tested fails s).get (Reg.CUBIT_ST j) = 0 := by
  unfold judgeCubits
  extract_lets fs good s1
  have hfs : ∀ f ∈ fs, f.cubit % 32 ≠ j := fun f hf => hpass f (List.mem_of_mem_filter hf)
  have hgood : j ∈ good := by
    refine List.mem_filter.mpr ⟨hmem, ?_⟩
    rw [Bool.not_eq_true', List.any_eq_false]
    exact fun f hf => by simpa using hfs f hf
  have h1 : s1.get (Reg.CUBIT_ST j) = 0 :=
    (each_get_own (fun i u => showCubit i 0 u) Reg.CUBIT_ST (fun _ _ => 0) (fun i u => showCubit_own i 0 u (by decide))
      (fun i j u h => showCubit_other i j 0 u h) (fun _ _ _ _ => rfl) good (hnodup.filter _) s j).trans (if_pos hgood)
  split
  rename_i s2 rep bad again es heq
  have h2 : s2.get (Reg.CUBIT_ST j) = 0 := by
    have hfst := congrArg (fun a => a.1.get (Reg.CUBIT_ST j)) heq
    exact hfst.symm.trans ((judged_cubit j fs hfs _ (fun _ _ => rfl) (s1, 0, 0, 0, [])).trans h1)
  extract_lets ms kept body s3
  have h3 : cubitsKeep s2 s3 := put_cubitsKeep _ _ (.inl (by decide)) (put_cubitsKeep _ _ (.inl (by decide)) (put_cubitsKeep _ _ (.inl (by decide))
    (put_cubitsKeep _ _ (.inl (by decide)) (cubitsKeep_refl s2))))
  have h4 : cubitsKeep s2 (writeRepairMap (tunWrite 0x05 body ((showUsable s3).put Reg.ST_ABORTED 0))) :=
    writeRepairMap_cubitsKeep (tunWrite_cubitsKeep _ _ (put_cubitsKeep _ _ (.inl (by decide)) (showUsable_cubitsKeep h3)))
  exact (h4.cubit j hj).trans h2

/-! ### TEST_DONE -/

/-- A test has ended: none is in progress. -/
def testOver (s : State) : State := { s with start := { s.start with testing := none } }

theorem testEnd_eq (cause cubit : Nat) (s : State) : testEnd cause cubit s = raise 490 (cause + 16 * cubit) (testOver s) := rfl

theorem testDone_idle (fails : List CubitTest) (s : State) (h : s.start.testing = none) : exec (.testDone fails) s = .next s := by
  show execTestDone fails s = _
  unfold execTestDone
  rw [h]
  split <;> rfl

theorem testDone_logic (fails : List CubitTest) (mask : Nat) (s : State) (hready : s.ready = true) (h : s.start.testing = some (1, mask)) :
    exec (.testDone fails) s = .next (testEnd 6 ((inMask mask).head?.getD 0) (showUsable (s.each (inMask mask) (showLogic fails)))) := by
  show execTestDone fails s = _
  unfold execTestDone
  rw [hready, if_neg (by decide), h]
  rfl

theorem testDone_march (fails : List CubitTest) (mask : Nat) (s : State) (hready : s.ready = true) (h : s.start.testing = some (2, mask)) :
    exec (.testDone fails) s = .next (testEnd 6 ((inMask mask).head?.getD 0) (judgeCubits s.now
      ((inMask mask).filter (fun j => s.get (Reg.CUBIT_ST j) != 2)) (fails.filter (fun f => !f.rows.isEmpty)) s)) := by
  show execTestDone fails s = _
  unfold execTestDone
  rw [hready, if_neg (by decide), h]
  rfl

theorem testDone_readmitted (fails : List CubitTest) (j : Nat) (s : State) (hready : s.ready = true) (h : s.start.testing = some (3, j))
    (hpass : ∀ f ∈ fails, f.cubit ≠ j) :
    exec (.testDone fails) s = .next (testEnd 5 j (writeRepairMap (showUsable (showCubit j 0 s)))) := by
  have hfind : fails.find? (fun f => f.cubit == j) = none := List.find?_eq_none.mpr fun f hf => by simpa using hpass f hf
  show execTestDone fails s = _
  unfold execTestDone
  rw [hready, if_neg (by decide), h]
  simp only [hfind]
  rfl

theorem testDone_rejected (rest : List CubitTest) (retest : Bool) (j : Nat) (s : State) (hj : j < 32) (hready : s.ready = true)
    (h : s.start.testing = some (3, j)) :
    exec (.testDone (⟨j, [], retest⟩ :: rest)) s = .next (testEnd 6 j (showUsable (showCubit j 2 s))) := by
  have hfind : (⟨j, [], retest⟩ :: rest : List CubitTest).find? (fun f => f.cubit == j) = some ⟨j, [], retest⟩ :=
    List.find?_cons_of_pos (by simp)
  obtain ⟨hstate, houtcome⟩ := judgeCubit_norows j retest s hj
  show execTestDone _ s = _
  unfold execTestDone
  rw [hready, if_neg (by decide), h]
  simp only [hfind, houtcome, hstate]
  rfl

end Sys2Proof.Machine
end

section
/-!
The commands of TEST (R489): their arguments, the cases of each function, what a refusal, the begin and the end of one leave; O42.
-/
namespace Sys2Proof.Machine

/-! ### The arguments of a function -/

theorem leNat_leBytes (k n : Nat) : leNat (leBytes k n) = n % 256 ^ k := by
  induction k generalizing n with
  | zero => rw [Nat.pow_zero, Nat.mod_one]; rfl
  | succ k ih =>
    have hb : (byte n).toNat = n % 256 := BitVec.toNat_ofNat n 8
    rw [leBytes, leNat, ih, hb, Nat.pow_succ', Nat.mod_mul]

theorem par_leBytes (k n : Nat) (h : n < 256 ^ k) : par (leBytes k n) 0 k = n := by
  unfold par
  rw [List.drop_zero, List.take_of_length_le (leBytes_length k n).le, leNat_leBytes, Nat.mod_eq_of_lt h]

theorem par_byte (k : Nat) (l : List Byte) (h : k < 256) : par (byte k :: l) 0 1 = k := by
  have hb : (byte k).toNat = k % 256 := BitVec.toNat_ofNat k 8
  show (byte k).toNat + 256 * leNat (l.take 0) = k
  rw [List.take_zero, leNat, hb, Nat.mod_eq_of_lt h, Nat.mul_zero, Nat.add_zero]

theorem par_after_byte (b : Byte) (k n : Nat) (h : n < 256 ^ k) : par (b :: leBytes k n) 1 k = n := par_leBytes k n h

/-! ### The cases of each function -/

/-- The life-cycle states that admit TEST. -/
def testOpen (s : State) : Prop := s.get Reg.LC_STATE = 0 ∨ s.get Reg.LC_STATE = 3

/-- A plan uses one of the cubits of the mask. -/
def plannedIn (s : State) (mask : Nat) : Bool := (inMask mask).any (fun j => s.get (Reg.CSTATE j) == 0)

/-- A test in progress; `p` is what it may have written of the tiers. -/
def testBegun (fn arg : Nat) (p : KV TierPrim) (s : State) : State :=
  { s with start := { s.start with testing := some (fn, arg) }, prim := p }

/-- A function that runs on its own: BUSY while one is in progress. -/
def beginTest (fn arg : Nat) (p : KV TierPrim) (s : State) : Ans :=
  if s.start.testing.isSome = true then refuse 0x02 s else answer [] (testBegun fn arg p s)

/-- The masks of failed converters that a commit will clear. -/
def clearConv (k mask : Nat) (s : State) : State :=
  { s with host := { s.host with convClear := kvSet (fun _ => 0) s.host.convClear k (kvGet (fun _ => 0) s.host.convClear k ||| mask) } }

/-- The scan is open, and the plan is due. -/
def scanOpen (s : State) : State := { s with start := { s.start with scan := true }, fab := { s.fab with planDue := true } }

/-- No job runs on. -/
def jobsStopped (s : State) : State := (List.range 16).foldl (fun u j => u.setJob j { u.job j with inst := none }) s

theorem testCmd_closed (fn : Nat) (args : List Byte) (s : State) (h0 : s.get Reg.LC_STATE ≠ 0) (h : s.get Reg.LC_STATE ≠ 3 ∨ fn = 7) :
    testCmd fn args s = refuse 0x14 s := by
  unfold testCmd
  refine if_pos ?_
  obtain h3 | rfl := h
  · simp [h0, h3]
  · simp [h0]

theorem testAdmits (fn : Nat) (s : State) (h : testOpen s) (hfn : fn ≠ 7) :
    ¬ (!(decide (s.get Reg.LC_STATE = 0) || (decide (s.get Reg.LC_STATE = 3) && fn != 7))) = true := by
  obtain h | h := h <;> simp [h, hfn]

theorem testCmd_logic (mask : Nat) (s : State) (h : testOpen s) (hmask : mask < 2 ^ 32) :
    testCmd 1 (leBytes 4 mask) s =
      if mask = 0 then refuse 0x11 s else if s.modeNow ≠ 4 ∨ plannedIn s mask = true then refuse 0x12 s else beginTest 1 mask s.prim s := by
  unfold testCmd
  rw [if_neg (testAdmits 1 s h (by decide)), if_neg (by simp [testArgs, leBytes_length]), par_leBytes 4 mask hmask]
  simp only [Bool.or_eq_true, bne_iff_ne]
  rfl

theorem testCmd_march (mask : Nat) (s : State) (h : testOpen s) (hmask : mask < 2 ^ 32) :
    testCmd 2 (leBytes 4 mask) s =
      if mask = 0 then refuse 0x11 s else if s.modeNow ≠ 4 ∨ plannedIn s mask = true then refuse 0x12 s else beginTest 2 mask s.prim s := by
  unfold testCmd
  rw [if_neg (testAdmits 2 s h (by decide)), if_neg (by simp [testArgs, leBytes_length]), par_leBytes 4 mask hmask]
  simp only [Bool.or_eq_true, bne_iff_ne]
  rfl

theorem testCmd_readmit (j : Nat) (s : State) (h : testOpen s) (hj : j < 256) :
    testCmd 3 [byte j] s =
      if 31 < j then refuse 0x11 s
      else if s.modeNow ≠ 4 ∨ s.get (Reg.CSTATE j) = 0 ∨ s.get (Reg.CUBIT_ST j) ≠ 2 then refuse 0x12 s
      else beginTest 3 j s.prim s := by
  unfold testCmd
  rw [if_neg (testAdmits 3 s h (by decide)), if_neg (by simp [testArgs]), par_byte j [] hj]
  simp only [Bool.or_eq_true, bne_iff_ne, List.any_cons, List.any_nil, Bool.or_false, beq_iff_eq, or_assoc]
  rfl

theorem testCmd_convClear (k mask : Nat) (s : State) (h : testOpen s) (hk : k < 256) (hmask : mask < 2 ^ 24) :
    testCmd 4 (byte k :: leBytes 3 mask) s =
      if 5 < k ∨ 2 ^ 20 ≤ mask then refuse 0x11 s else if s.modeNow ≠ 4 then refuse 0x12 s else answer [] (testEnd 6 0 (clearConv k mask s)) := by
  unfold testCmd
  rw [if_neg (testAdmits 4 s h (by decide)), if_neg (by simp [testArgs, leBytes_length]), par_byte k _ hk, par_after_byte _ 3 mask hmask]
  simp only [Bool.or_eq_true, bne_iff_ne, decide_eq_true_eq]
  rfl

theorem testCmd_recal (k : Nat) (s : State) (h : testOpen s) (hk : k < 256) :
    testCmd 5 [byte k] s =
      if 5 < k then refuse 0x11 s else if s.modeNow ≠ 4 ∨ s.linkUp k = false then refuse 0x12 s
      else beginTest 5 k (s.setPr k { s.pr k with recal := true }).prim s := by
  unfold testCmd
  rw [if_neg (testAdmits 5 s h (by decide)), if_neg (by simp [testArgs]), par_byte k [] hk]
  simp only [Bool.or_eq_true, bne_iff_ne, Bool.not_eq_true']
  rfl

theorem testCmd_restart (s : State) (h : testOpen s) :
    testCmd 6 [] s = if s.modeNow ≠ 4 then refuse 0x12 s else answer [] (testBegun 6 0 s.prim s) := by
  unfold testCmd
  rw [if_neg (testAdmits 6 s h (by decide)), if_neg (by simp [testArgs])]
  simp only [bne_iff_ne]
  rfl

theorem testCmd_scan (a : Nat) (s : State) (h : s.get Reg.LC_STATE = 0) (ha : a < 256) :
    testCmd 7 [byte a] s =
      if 1 < a then refuse 0x11 s else if s.modeNow ≠ 4 then refuse 0x12 s
      else if a = 0 then answer [] (testEnd 6 0 s) else answer [] (testEnd 6 0 (scanOpen (jobsStopped s))) := by
  unfold testCmd
  rw [if_neg (by simp [h]), if_neg (by simp [testArgs]), par_byte a [] ha]
  simp only [bne_iff_ne]
  rfl

/-! ### Refusals, begins and ends -/

/-- The row refuses with a status, and nothing but the record of its command changes. -/
def refusesTest (m : Meta) (s : State) (i : Instr) (st : Nat) : Prop :=
  ∃ t, exec i s = .next t ∧ recorded m st [] t ∧ coreSame s t ∧ wordsSame (replyWord m) s t

/-- The row begins a function: it is in progress, and no event and no part of the fabric changes. -/
def startsTest (m : Meta) (s : State) (i : Instr) (fn arg : Nat) : Prop :=
  ∃ t, exec i s = .next t ∧ recorded m 0x00 [] t ∧ wordsSame (replyWord m) s t ∧
    t.start = { s.start with testing := some (fn, arg) } ∧ t.evt = s.evt ∧ t.fab = s.fab

/-- The row carries a function out at once, to the state `u`, and reports its end. -/
def endsTest (m : Meta) (s : State) (i : Instr) (c : Cmd) (u : State) : Prop :=
  ∃ v, exec i s = .next (sendReply m 0x00 [] (record c m 0x00 [] (raise 490 v u))) ∧ v % 16 = 6

/-- The row begins a function, or answers BUSY while one is in progress. -/
def runsAlone (m : Meta) (s : State) (i : Instr) (fn arg : Nat) : Prop :=
  (s.start.testing.isSome = true → exec i s = .next (sendReply m 0x02 [] s)) ∧ (s.start.testing = none → startsTest m s i fn arg)

section
variable {c : Cmd} {m : Meta} {s : State} {i : Instr}

theorem refusesTest_of_run {st : Nat} (h : accepts m s) (hexec : exec i s = .next (receive false c m s)) (hrun : runCmd c m s = refuse st s)
    (hst : st ≠ 2) : refusesTest m s i st := by
  obtain ⟨t, ht, hrec, hcore, hwords, -⟩ := answersOnly_of_refusal c m s i st h hexec hrun hst
  exact ⟨t, ht, hrec, hcore, hwords⟩

/-- The refusals of a function, in their order: the argument before the state. -/
theorem test_refusals {p q : Prop} [Decidable p] [Decidable q] {rest : Ans} (h : accepts m s)
    (hexec : exec i s = .next (receive false c m s)) (hrun : runCmd c m s = if p then refuse 0x11 s else if q then refuse 0x12 s else rest) :
    (p → refusesTest m s i 0x11) ∧ (¬ p → q → refusesTest m s i 0x12) ∧ (¬ p → ¬ q → runCmd c m s = rest) := by
  refine ⟨fun hp => ?_, fun hp hq => ?_, fun hp hq => ?_⟩
  · exact refusesTest_of_run h hexec (hrun.trans (if_pos hp)) (by decide)
  · exact refusesTest_of_run h hexec (hrun.trans ((if_neg hp).trans (if_pos hq))) (by decide)
  · exact hrun.trans ((if_neg hp).trans (if_neg hq))

/-- What stands after a function has begun and its reply has been sent. -/
theorem begun_of_run {fn arg : Nat} {p : KV TierPrim} (h : accepts m s) (hrun : runCmd c m s = answer [] (testBegun fn arg p s)) :
    recorded m 0x00 [] (receive false c m s) ∧ wordsSame (replyWord m) s (receive false c m s) ∧
      coreSame (testBegun fn arg p s) (receive false c m s) := by
  obtain ⟨ha, hcore, -, hwords⟩ := exec_answered c m s h (by rw [hrun]; exact Nat.zero_ne_add_one 1) (by rw [hrun]; rfl) (by rw [hrun]; rfl)
    (by rw [hrun]; rfl) (by rw [hrun]; rfl) (by rw [hrun]; rfl)
  rw [hrun] at ha hcore hwords
  exact ⟨recorded_of_answered ha, hwords, hcore⟩

theorem startsTest_of_run {fn arg : Nat} {p : KV TierPrim} (h : accepts m s) (hexec : exec i s = .next (receive false c m s))
    (hrun : runCmd c m s = answer [] (testBegun fn arg p s)) : startsTest m s i fn arg := by
  obtain ⟨hrec, hwords, hcore⟩ := begun_of_run h hrun
  exact ⟨_, hexec, hrec, hwords, by rw [hcore]; rfl, by rw [hcore]; rfl, by rw [hcore]; rfl⟩

theorem beginTest_free {fn arg : Nat} {p : KV TierPrim} (h : s.start.testing = none) : beginTest fn arg p s = answer [] (testBegun fn arg p s) :=
  if_neg (by simp [h])

theorem runsAlone_of_run {fn arg : Nat} {p : KV TierPrim} (h : accepts m s) (hexec : exec i s = .next (receive false c m s))
    (hrun : runCmd c m s = beginTest fn arg p s) : runsAlone m s i fn arg := by
  refine ⟨fun hbusy => ?_, fun hfree => ?_⟩
  · exact exec_busy c m s i h hexec (hrun.trans (if_pos hbusy))
  · exact startsTest_of_run h hexec (hrun.trans (beginTest_free hfree))

theorem endsTest_of_run {u : State} (h : accepts m s) (hexec : exec i s = .next (receive false c m s))
    (hrun : runCmd c m s = answer [] (testEnd 6 0 u)) : endsTest m s i c (testOver u) := by
  refine ⟨6, hexec.trans ?_, rfl⟩
  rw [exec_accepts c m s h, hrun]
  rfl

end

/-! ### The rows of TEST -/

theorem mask_clauses {i : Instr} {c : Cmd} {m : Meta} {s : State} {fn mask : Nat} (h : accepts m s)
    (hexec : exec i s = .next (receive false c m s))
    (hrun : runCmd c m s = if mask = 0 then refuse 0x11 s else if s.modeNow ≠ 4 ∨ plannedIn s mask = true then refuse 0x12 s
      else beginTest fn mask s.prim s) :
    (mask = 0 → refusesTest m s i 0x11) ∧ (mask ≠ 0 → (s.modeNow ≠ 4 ∨ plannedIn s mask = true) → refusesTest m s i 0x12) ∧
      (mask ≠ 0 → s.modeNow = 4 → plannedIn s mask = false → runsAlone m s i fn mask) := by
  obtain ⟨hparam, hstate, hrest⟩ := test_refusals h hexec hrun
  exact ⟨hparam, hstate, fun hmask hmode hfree => runsAlone_of_run h hexec (hrest hmask (by simp [hmode, hfree]))⟩

theorem logicOrMarch_clauses (m : Meta) (s : State) (h : accepts m s) (hopen : testOpen s) (march : Bool) (mask : Nat) (hmask : mask < 2 ^ 32) :
    (mask = 0 → refusesTest m s (if march then .testMarch m mask else .testLogic m mask) 0x11) ∧
      (mask ≠ 0 → (s.modeNow ≠ 4 ∨ plannedIn s mask = true) → refusesTest m s (if march then .testMarch m mask else .testLogic m mask) 0x12) ∧
      (mask ≠ 0 → s.modeNow = 4 → plannedIn s mask = false →
        runsAlone m s (if march then .testMarch m mask else .testLogic m mask) (if march then 2 else 1) mask) := by
  cases march with
  | true => exact mask_clauses (c := .test 2 (leBytes 4 mask)) h rfl (testCmd_march mask s hopen hmask)
  | false => exact mask_clauses (c := .test 1 (leBytes 4 mask)) h rfl (testCmd_logic mask s hopen hmask)

theorem readmit_clauses (m : Meta) (s : State) (h : accepts m s) (hopen : testOpen s) (j : Nat) (hj : j < 256) :
    (31 < j → refusesTest m s (.testReadmit m j) 0x11) ∧
      (j ≤ 31 → (s.modeNow ≠ 4 ∨ s.get (Reg.CSTATE j) = 0 ∨ s.get (Reg.CUBIT_ST j) ≠ 2) → refusesTest m s (.testReadmit m j) 0x12) ∧
      (j ≤ 31 → s.modeNow = 4 → s.get (Reg.CSTATE j) ≠ 0 → s.get (Reg.CUBIT_ST j) = 2 → runsAlone m s (.testReadmit m j) 3 j) := by
  have hexec : exec (.testReadmit m j) s = .next (receive false (.test 3 [byte j]) m s) := rfl
  obtain ⟨hparam, hstate, hrest⟩ := test_refusals h hexec (testCmd_readmit j s hopen hj)
  refine ⟨hparam, fun hj => hstate hj.not_gt, fun hj hmode hplan hunusable => ?_⟩
  exact runsAlone_of_run h hexec (hrest hj.not_gt (by simp [hmode, hplan, hunusable]))

theorem convClear_clauses (m : Meta) (s : State) (h : accepts m s) (hopen : testOpen s) (k mask : Nat) (hk : k < 256) (hmask : mask < 2 ^ 24) :
    (5 < k ∨ 2 ^ 20 ≤ mask → refusesTest m s (.testConvClear m k mask) 0x11) ∧
      (k ≤ 5 → mask < 2 ^ 20 → s.modeNow ≠ 4 → refusesTest m s (.testConvClear m k mask) 0x12) ∧
      (k ≤ 5 → mask < 2 ^ 20 → s.modeNow = 4 → ∃ u, endsTest m s (.testConvClear m k mask) (.test 4 (byte k :: leBytes 3 mask)) u ∧
        kvGet (fun _ => 0) u.host.convClear k = kvGet (fun _ => 0) s.host.convClear k ||| mask) := by
  have hexec : exec (.testConvClear m k mask) s = .next (receive false (.test 4 (byte k :: leBytes 3 mask)) m s) := rfl
  obtain ⟨hparam, hstate, hrest⟩ := test_refusals h hexec (testCmd_convClear k mask s hopen hk hmask)
  refine ⟨hparam, fun hk hmask => hstate (by omega), fun hk hmask hmode => ⟨testOver (clearConv k mask s), ?_, kvGet_kvSet_same _ _ _ _⟩⟩
  exact endsTest_of_run h hexec (hrest (by omega) (by simp [hmode]))

theorem recal_clauses (m : Meta) (s : State) (h : accepts m s) (hopen : testOpen s) (k : Nat) (hk : k < 256) :
    (5 < k → refusesTest m s (.testRecal m k) 0x11) ∧
      (k ≤ 5 → (s.modeNow ≠ 4 ∨ s.linkUp k = false) → refusesTest m s (.testRecal m k) 0x12) ∧
      (k ≤ 5 → s.modeNow = 4 → s.linkUp k = true → runsAlone m s (.testRecal m k) 5 k ∧
        (s.start.testing = none → ∀ t, exec (.testRecal m k) s = .next t → (t.pr k).recal = true)) := by
  have hexec : exec (.testRecal m k) s = .next (receive false (.test 5 [byte k]) m s) := rfl
  obtain ⟨hparam, hstate, hrest⟩ := test_refusals h hexec (testCmd_recal k s hopen hk)
  refine ⟨hparam, fun hk => hstate hk.not_gt, fun hk hmode hlink => ?_⟩
  have hrun := hrest hk.not_gt (by simp [hmode, hlink])
  refine ⟨runsAlone_of_run h hexec hrun, fun hfree t ht => ?_⟩
  obtain ⟨-, -, hcore⟩ := begun_of_run h (hrun.trans (beginTest_free hfree))
  have heq : receive false (.test 5 [byte k]) m s = t := Host.Outcome.next.inj (hexec.symm.trans ht)
  rw [heq] at hcore
  have hpr : t.pr k = (s.setPr k { s.pr k with recal := true }).pr k := by rw [hcore]; rfl
  rw [hpr, State.pr_setPr_same]

theorem restart_clauses (m : Meta) (s : State) (h : accepts m s) (hopen : testOpen s) :
    (s.modeNow ≠ 4 → refusesTest m s (.testRestart m) 0x12) ∧ (s.modeNow = 4 → startsTest m s (.testRestart m) 6 0) := by
  have hexec : exec (.testRestart m) s = .next (receive false (.test 6 []) m s) := rfl
  have hrun : runCmd (.test 6 []) m s = _ := testCmd_restart s hopen
  refine ⟨fun hmode => ?_, fun hmode => ?_⟩
  · exact refusesTest_of_run h hexec (hrun.trans (if_pos hmode)) (by decide)
  · exact startsTest_of_run h hexec (hrun.trans (if_neg (not_not.mpr hmode)))

/-- A job is stopped where it stands in the list, or where it ran no plan before. -/
theorem clearJobs_inst (l : List Nat) (s : State) (j : Nat) (h : j ∈ l ∨ (s.job j).inst = none) :
    ((l.foldl (fun u j => u.setJob j { u.job j with inst := none }) s).job j).inst = none := by
  induction l generalizing s with
  | nil => exact h.resolve_left List.not_mem_nil
  | cons i l ih =>
    rw [List.foldl_cons]
    refine ih _ ?_
    rw [State.job_setJob]
    by_cases hij : i = j
    · exact .inr (by rw [if_pos hij])
    · rw [if_neg hij]
      exact h.imp_left fun hmem => (List.mem_cons.mp hmem).resolve_left (Ne.symm hij)

theorem jobsStopped_inst (s : State) (j : Nat) (hj : j < 16) : ((jobsStopped s).job j).inst = none :=
  clearJobs_inst (List.range 16) s j (.inl (List.mem_range.mpr hj))

theorem scanOver_scan (s : State) : (testOver (scanOpen s)).start.scan = true := rfl

theorem scanOver_job (s : State) (j : Nat) : (testOver (scanOpen s)).job j = s.job j := rfl

theorem scan_clauses (m : Meta) (s : State) (h : accepts m s) (hlc : s.get Reg.LC_STATE = 0) (a : Nat) (ha : a < 256) :
    (1 < a → refusesTest m s (.testScan m a) 0x11) ∧ (a ≤ 1 → s.modeNow ≠ 4 → refusesTest m s (.testScan m a) 0x12) ∧
      (a = 0 → s.modeNow = 4 → ∃ u, endsTest m s (.testScan m 0) (.test 7 [0]) u ∧ u.start.scan = s.start.scan) ∧
      (a = 1 → s.modeNow = 4 → ∃ u, endsTest m s (.testScan m 1) (.test 7 [1]) u ∧ u.start.scan = true ∧ ∀ j, j < 16 → (u.job j).inst = none) := by
  have hexec : exec (.testScan m a) s = .next (receive false (.test 7 [byte a]) m s) := rfl
  obtain ⟨hparam, hstate, hrest⟩ := test_refusals h hexec (testCmd_scan a s hlc ha)
  refine ⟨hparam, fun ha => hstate ha.not_gt, fun ha hmode => ?_, fun ha hmode => ?_⟩
  · subst ha
    exact ⟨testOver s, endsTest_of_run h hexec (hrest (by decide) (not_not.mpr hmode)), rfl⟩
  · subst ha
    refine ⟨testOver (scanOpen (jobsStopped s)), endsTest_of_run h hexec (hrest (by decide) (not_not.mpr hmode)), scanOver_scan _, fun j hj => ?_⟩
    rw [scanOver_job, jobsStopped_inst s j hj]

theorem closed_clauses (m : Meta) (s : State) (h : accepts m s) (h0 : s.get Reg.LC_STATE ≠ 0) (a b : Nat) :
    refusesTest m s (.testScan m a) 0x14 ∧ (s.get Reg.LC_STATE ≠ 3 → ∀ i : Instr,
      i ∈ [Instr.testLogic m a, .testMarch m a, .testReadmit m a, .testConvClear m a b, .testRecal m a, .testRestart m] → refusesTest m s i 0x14) := by
  have hclosed (fn : Nat) (args : List Byte) (i : Instr) (hfn : s.get Reg.LC_STATE ≠ 3 ∨ fn = 7)
      (hexec : exec i s = .next (receive false (.test fn args) m s)) : refusesTest m s i 0x14 :=
    refusesTest_of_run h hexec (testCmd_closed fn args s h0 hfn) (by decide)
  refine ⟨hclosed 7 [byte a] _ (.inr rfl) rfl, fun h3 i hi => ?_⟩
  simp only [List.mem_cons, List.not_mem_nil, or_false] at hi
  obtain rfl | rfl | rfl | rfl | rfl | rfl := hi
  · exact hclosed 1 (leBytes 4 a) _ (.inl h3) rfl
  · exact hclosed 2 (leBytes 4 a) _ (.inl h3) rfl
  · exact hclosed 3 [byte a] _ (.inl h3) rfl
  · exact hclosed 4 (byte a :: leBytes 3 b) _ (.inl h3) rfl
  · exact hclosed 5 [byte a] _ (.inl h3) rfl
  · exact hclosed 6 [] _ (.inl h3) rfl

/-! ### The ends of LOGIC, MARCH and READMIT -/

/-- The end of a test: its event, in a state where no test is in progress. -/
def reportsEnd (s : State) (i : Instr) (cause : Nat) (shown : State → Prop) : Prop :=
  ∃ u v, exec i s = .next (raise 490 v u) ∧ v % 16 = cause ∧ u.start.testing = none ∧ shown u

theorem reportsEnd_of_exec {s u : State} {i : Instr} {cause cubit : Nat} {shown : State → Prop} (hexec : exec i s = .next (testEnd cause cubit u))
    (hcause : cause < 16) (hshown : shown (testOver u)) : reportsEnd s i cause shown :=
  ⟨testOver u, cause + 16 * cubit, hexec, by omega, rfl, hshown⟩

theorem testOver_get (s : State) (f : Field) : (testOver s).get f = s.get f := rfl

theorem logic_reports (fails : List CubitTest) (mask : Nat) (s : State) (hready : s.ready = true) (h : s.start.testing = some (1, mask)) :
    reportsEnd s (.testDone fails) 6 fun u => ∀ j, j < 32 → bit mask j = true → u.get (Reg.CUBIT_ST j) =
      if (fails.any (fun f => f.cubit == j)) = true then 2 else if s.get (Reg.CUBIT_ST j) = 2 then 2 else 0 := by
  refine reportsEnd_of_exec (testDone_logic fails mask s hready h) (by decide) fun j hj hm => ?_
  rw [testOver_get]
  exact ((showUsable_cubitsKeep (cubitsKeep_refl _)).cubit j hj).trans (logicTested_cubit fails mask j s hj hm)

theorem march_reports (fails : List CubitTest) (mask : Nat) (s : State) (hready : s.ready = true) (h : s.start.testing = some (2, mask)) :
    reportsEnd s (.testDone fails) 6 fun u => ∀ j, j < 32 → bit mask j = true → s.get (Reg.CUBIT_ST j) ≠ 2 →
      (∀ f ∈ fails, f.cubit % 32 = j → f.rows = []) → u.get (Reg.CUBIT_ST j) = 0 := by
  refine reportsEnd_of_exec (testDone_march fails mask s hready h) (by decide) fun j hj hm hst hpass => ?_
  rw [testOver_get]
  refine judgeCubits_passed s.now _ _ s j hj ((inMask_nodup mask).filter _) ?_ fun f hf hcubit => ?_
  · exact List.mem_filter.mpr ⟨(mem_inMask mask j).mpr ⟨hj, hm⟩, bne_iff_ne.mpr hst⟩
  · obtain ⟨hmem, hrows⟩ := List.mem_filter.mp hf
    rw [hpass f hmem hcubit] at hrows
    exact absurd hrows (by decide)

theorem readmit_passes (fails : List CubitTest) (j : Nat) (s : State) (hj : j < 32) (hready : s.ready = true)
    (h : s.start.testing = some (3, j)) (hpass : ∀ f ∈ fails, f.cubit ≠ j) :
    reportsEnd s (.testDone fails) 5 fun u => u.get (Reg.CUBIT_ST j) = 0 := by
  refine reportsEnd_of_exec (testDone_readmitted fails j s hready h hpass) (by decide) ?_
  rw [testOver_get]
  exact ((writeRepairMap_cubitsKeep (showUsable_cubitsKeep (cubitsKeep_refl _))).cubit j hj).trans (showCubit_own j 0 s (by decide))

theorem readmit_fails (rest : List CubitTest) (retest : Bool) (j : Nat) (s : State) (hj : j < 32) (hready : s.ready = true)
    (h : s.start.testing = some (3, j)) :
    reportsEnd s (.testDone (⟨j, [], retest⟩ :: rest)) 6 fun u => u.get (Reg.CUBIT_ST j) = 2 := by
  refine reportsEnd_of_exec (testDone_rejected rest retest j s hj hready h) (by decide) ?_
  rw [testOver_get]
  exact ((showUsable_cubitsKeep (cubitsKeep_refl _)).cubit j hj).trans (showCubit_own j 2 s (by decide))

/-- Settles O42: the cases of each function in the order of its checks, and TEST_DONE by the function in progress. -/
theorem testsRunInService : Obligations.TestsRunInService := by
  unfold Obligations.TestsRunInService
  intro m s h
  have hready : s.ready = true := h.1
  refine ⟨logicOrMarch_clauses m s h, readmit_clauses m s h, convClear_clauses m s h, recal_clauses m s h, restart_clauses m s h,
    scan_clauses m s h, closed_clauses m s h, fun fails => ⟨fun mask ht => ?_, fun mask ht => ?_, fun j hj ht => ⟨fun hpass => ?_, ?_⟩, ?_⟩⟩
  · exact logic_reports fails mask s hready ht
  · exact march_reports fails mask s hready ht
  · exact readmit_passes fails j s hj hready ht hpass
  · rintro rest retest rfl
    exact readmit_fails rest retest j s hj hready ht
  · exact testDone_idle fails s

end Sys2Proof.Machine
end

section
/-!
The faults of the shunt (R154), the frames of a SOURCE (R170, R171), what a SINK takes of them (R169, R172) and the loss of the broadcast (R173); O48.
-/
namespace Sys2Proof.Machine

/-! ### The conditions of the shunt fault -/

/-- The count of good spans of a condition that is met begins anew. -/
def shuntCond (kind : Nat) (c : Cur) : Cur := if kind = 1 then { c with cond1 := true, good1 := 0 } else { c with cond2 := true, good2 := 0 }

/-- What the status word shows of the shunt fault. -/
def showShunt (fault kind : Nat) (s : State) : State := (s.put Reg.SHUNT_FAULT fault).put Reg.FAULT_KIND kind

theorem showShunt_kind (fault kind : Nat) (s : State) (h : kind < 4) : (showShunt fault kind s).get Reg.FAULT_KIND = kind :=
  State.get_put_of_lt _ _ _ (by decide) h

theorem showShunt_fault (fault : Bool) (kind : Nat) (s : State) : (showShunt (b01 fault) kind s).flag Reg.SHUNT_FAULT = fault :=
  (flag_of_get _ _ _ (State.get_put_of_apartB _ _ _ _ (by decide))).trans (State.flag_putFlag_same s _ fault (by decide) rfl)

theorem showShunt_fields (fault kind : Nat) (s : State) : fieldsSame [Reg.SHUNT_FAULT, Reg.FAULT_KIND] s (showShunt fault kind s) :=
  fieldsSame_trans (put_fieldsSame s Reg.SHUNT_FAULT fault (by simp)) (put_fieldsSame _ Reg.FAULT_KIND kind (by simp))

/-- A condition of kind `kind` is noted, and begins the fault where none is shown. -/
def faultNoted (i : Instr) (kind : Nat) (c : Cur) (s : State) : Prop :=
  (s.flag Reg.SHUNT_FAULT = false → ∃ u, exec i s = .next (packTier 3 (1 + 2 * kind) (s.tl 0).span s.clk.grain u) ∧
    u = { s with regs := u.regs, cur := c } ∧ u.flag Reg.SHUNT_FAULT = true ∧ u.get Reg.FAULT_KIND = kind ∧
    fieldsSame [Reg.SHUNT_FAULT, Reg.FAULT_KIND] s u) ∧
  (s.flag Reg.SHUNT_FAULT = true → exec i s = .next { s with cur := c })

theorem faultNoted_of_shuntFault (i : Instr) (kind : Nat) (s : State) (hk : kind < 4) (h : exec i s = .next (shuntFault kind s)) :
    faultNoted i kind (shuntCond kind s.cur) s := by
  unfold faultNoted
  rw [h]
  refine ⟨fun hf => ⟨showShunt 1 kind (s.setCur (shuntCond kind)), congrArg Host.Outcome.next (if_neg (Bool.eq_false_iff.mp hf)), rfl,
    showShunt_fault true kind _, showShunt_kind 1 kind _ hk, showShunt_fields 1 kind _⟩, fun hf => congrArg Host.Outcome.next (if_pos hf)⟩

/-- The readings of the shunt modulator show it beyond its range within the last 4,096 modulator clocks. -/
def shuntBeyond (s : State) : Bool :=
  waveAny (beyond 20) (rawWin (bring 0 (s.tierAt 0) [] s) 0 20 (s.tierAt 0 - 4096 / 2 ^ (s.pr 0).mLog) (s.tierAt 0))

theorem shuntStuck_measuring (s : State) (hsup : (s.tl 0).supplied = true) (hcal : (s.tl 0).calibrating = false) :
    exec .shuntStuck s = if shuntBeyond s then done s else done (shuntFault 1 s) := by
  refine if_neg (α := Out) ?_
  rw [hsup, hcal]
  decide

theorem shuntStuck_clauses (s : State) (hsup : (s.tl 0).supplied = true) (hcal : (s.tl 0).calibrating = false) :
    (shuntBeyond s = false → faultNoted .shuntStuck 1 { s.cur with cond1 := true, good1 := 0 } s) ∧
    (shuntBeyond s = true → exec .shuntStuck s = .next s) := by
  have hexec := shuntStuck_measuring s hsup hcal
  exact ⟨fun h => faultNoted_of_shuntFault _ 1 s (by decide) (hexec.trans (if_neg (Bool.eq_false_iff.mp h))), fun h => hexec.trans (if_pos h)⟩

theorem shuntCmFault_noted (s : State) (hsup : (s.tl 0).supplied = true) :
    faultNoted .shuntCmFault 2 { s.cur with cond2 := true, good2 := 0 } s :=
  faultNoted_of_shuntFault _ 2 s (by decide) (if_pos (c := (s.tl 0).supplied = true) hsup)

/-! ### SHUNT_FAULT_CLEAR -/

/-- A condition that was met goes on until 64 good spans have passed. -/
def goesOn (cond : Bool) (good : Nat) : Bool := cond && decide (good < 64)

/-- The kind that the status word shows of the conditions that go on. -/
def kindShown (c1 c2 : Bool) : Nat := if c1 then 1 else if c2 then 2 else 0

theorem kindShown_lt (c1 c2 : Bool) : kindShown c1 c2 < 4 := by revert c1 c2; decide

/-- The conditions that have ended are forgotten. -/
def condsKept (s : State) : State :=
  s.setCur fun c => { c with cond1 := goesOn s.cur.cond1 s.cur.good1, cond2 := goesOn s.cur.cond2 s.cur.good2 }

theorem shuntFaultClear_idle (s : State) (h : s.flag Reg.SHUNT_FAULT = false) : exec .shuntFaultClear s = .next s := by
  refine if_pos (α := Out) ?_
  rw [h]
  decide

theorem shuntFaultClear_eq (s : State) (h : s.flag Reg.SHUNT_FAULT = true) :
    exec .shuntFaultClear s =
      if goesOn s.cur.cond1 s.cur.good1 then done ((condsKept s).put Reg.FAULT_KIND 1)
      else if goesOn s.cur.cond2 s.cur.good2 then done ((condsKept s).put Reg.FAULT_KIND 2)
      else done (packTier 3 (2 * s.get Reg.FAULT_KIND) (s.tl 0).span s.clk.grain (showShunt 0 0 (condsKept s))) := by
  refine if_neg (α := Out) ?_
  rw [h]
  decide

/-- The fault goes on with the kind of a condition that does. -/
theorem condsKept_goOn (s : State) (kind : Nat) (hk : kind < 4) (h : s.flag Reg.SHUNT_FAULT = true) :
    let u := (condsKept s).put Reg.FAULT_KIND kind
    fieldsSame [Reg.SHUNT_FAULT, Reg.FAULT_KIND] s u ∧ u.get Reg.FAULT_KIND = kind ∧ u.flag Reg.SHUNT_FAULT = true :=
  ⟨put_fieldsSame (condsKept s) Reg.FAULT_KIND kind (by simp), State.get_put_of_lt _ _ _ (by decide) hk,
    (flag_of_get _ _ _ (State.get_put_of_apartB _ _ _ _ (by decide))).trans h⟩

theorem shuntFaultClear_clauses (s : State) (h : s.flag Reg.SHUNT_FAULT = true) (c1 c2 : Bool)
    (h1 : goesOn s.cur.cond1 s.cur.good1 = c1) (h2 : goesOn s.cur.cond2 s.cur.good2 = c2) :
    ∃ u, u = { s with regs := u.regs, cur := { s.cur with cond1 := c1, cond2 := c2 } } ∧ fieldsSame [Reg.SHUNT_FAULT, Reg.FAULT_KIND] s u ∧
      u.get Reg.FAULT_KIND = kindShown c1 c2 ∧ u.flag Reg.SHUNT_FAULT = (c1 || c2) ∧
      ((c1 || c2) = true → exec .shuntFaultClear s = .next u) ∧
      ((c1 || c2) = false → exec .shuntFaultClear s = .next (packTier 3 (2 * s.get Reg.FAULT_KIND) (s.tl 0).span s.clk.grain u)) := by
  have hcur : condsKept s = { s with cur := { s.cur with cond1 := c1, cond2 := c2 } } := by rw [← h1, ← h2]; rfl
  rw [shuntFaultClear_eq s h, h1, h2]
  cases hany : c1 || c2 with
  | true =>
    obtain ⟨hfields, hkind, hflag⟩ := condsKept_goOn s (kindShown c1 c2) (kindShown_lt c1 c2) h
    refine ⟨_, by rw [hcur]; rfl, hfields, hkind, hflag, fun _ => ?_, fun hno => absurd hno (by decide)⟩
    cases c1
    · obtain rfl : c2 = true := hany
      rfl
    · rfl
  | false =>
    obtain ⟨rfl, rfl⟩ := Bool.or_eq_false_iff.mp hany
    exact ⟨showShunt 0 0 (condsKept s), by rw [hcur]; rfl, showShunt_fields 0 0 _, showShunt_kind 0 0 _ (by decide),
      showShunt_fault false 0 _, fun hno => absurd hno (by decide), fun _ => rfl⟩

/-! ### The frames of a SOURCE (R170, R171) -/

/-- The first 11 words in line, up to the first of another span. -/
theorem takeWhile_run (run rest : List (Nat × Nat × Nat)) (p : Nat) (hlen : run.length ≤ 11) (hp : ∀ w ∈ run, w.1 = p)
    (hend : run.length = 11 ∨ rest.head?.all (fun w => w.1 != p) = true) :
    ((run ++ rest).take 11).takeWhile (fun w => w.1 == p) = run := by
  rw [List.take_append, List.take_of_length_le hlen, List.takeWhile_append_of_pos fun w hw => beq_iff_eq.mpr (hp w hw)]
  have hnone : (rest.take (11 - run.length)).takeWhile (fun w => w.1 == p) = [] := by
    rcases hend with h | h
    · rw [h]
      rfl
    · cases rest with
      | nil => rw [List.take_nil]; rfl
      | cons x xs =>
        have hx : x.1 ≠ p := bne_iff_ne.mp h
        cases 11 - run.length with
        | zero => rfl
        | succ n => exact List.takeWhile_cons_of_neg fun hxp => hx (beq_iff_eq.mp hxp)
  rw [hnone, List.append_nil]

/-- The words of a run fill a frame, or no more of their span can come (R171). -/
def runWhole (s : State) (p : Nat) (run : List (Nat × Nat × Nat)) : Prop :=
  run.length = 11 ∨ (∃ w ∈ run, nOfCode (s.get (Reg.EFF_SUBWIN 0)) - 1 ≤ w.2.1) ∨ (∃ w ∈ s.cur.cbWords, w.1 ≠ p) ∨ ∃ x ∈ s.cur.cbSums, p ≤ x.1

theorem cbRun_cases (s : State) (run rest : List (Nat × Nat × Nat)) (p i : Nat) (hwords : s.cur.cbWords = run ++ rest) (hlen : run.length ≤ 11)
    (hhead : (run.head?.map (fun w => (w.1, w.2.1))) = some (p, i)) (hp : ∀ w ∈ run, w.1 = p)
    (hend : run.length = 11 ∨ rest.head?.all (fun w => w.1 != p) = true) :
    (runWhole s p run → cbRun s = run) ∧ (¬ runWhole s p run → cbRun s = []) := by
  have hrun := takeWhile_run run rest p hlen hp hend
  have hwhole : (decide (run.length = 11) || (run.any (fun w => decide (nOfCode (s.get (Reg.EFF_SUBWIN 0)) - 1 ≤ w.2.1)) ||
      s.cur.cbWords.any (fun w => w.1 != p) || s.cur.cbSums.any (fun x => decide (p ≤ x.1)))) = true ↔ runWhole s p run := by
    simp only [runWhole, Bool.or_eq_true, decide_eq_true_eq, List.any_eq_true, bne_iff_ne, or_assoc]
  cases run with
  | nil => exact absurd hhead (by simp)
  | cons w ws =>
    obtain rfl : w.1 = p := hp w (by simp)
    unfold cbRun
    simp only [hwords, List.cons_append] at hrun hwhole ⊢
    simp only [hrun]
    exact ⟨fun h => if_pos (hwhole.mpr h), fun h => if_neg fun h' => h (hwhole.mp h')⟩

/-- While words of the next summary's span wait, or no summary does, a frame takes the words of a run. -/
theorem currentBroadcastSend_words (s : State) (hready : s.ready = true) (hrole : s.get Reg.CB_ROLE = 1)
    (hsum : s.cur.cbSums.head?.all (fun x => s.cur.cbWords.any (fun w => w.1 == x.1)) = true) :
    (∀ p i w r, cbRun s = (p, i, w) :: r → exec .currentBroadcastSend s = .next (castFrame 5 0
      (cbHead s p i r.length ++ ((p, i, w) :: r).flatMap (fun w => leBytes 4 w.2.2))
      (s.setCur (fun c => { c with cbWords := c.cbWords.drop (r.length + 1) })))) ∧
    (cbRun s = [] → exec .currentBroadcastSend s = .next s) := by
  have hall : ∀ x ∈ s.cur.cbSums.head?, s.cur.cbWords.all (fun w => w.1 != x.1) = false := fun x hx => by
    have hany := (Option.all_eq_true _ _).mp hsum x hx
    simpa using hany
  show (∀ p i w r, _ → execCurrentBroadcastSend s = _) ∧ (_ → execCurrentBroadcastSend s = _)
  unfold execCurrentBroadcastSend
  rw [hready, hrole, if_neg (by decide)]
  cases hs : s.cur.cbSums with
  | nil => exact ⟨fun p i w r h => by simp only [h]; rfl, fun h => by simp only [h]; rfl⟩
  | cons x xs =>
    obtain ⟨n, d⟩ := x
    have hx : s.cur.cbWords.all (fun w => w.1 != n) = false := hall (n, d) (by rw [hs]; rfl)
    exact ⟨fun p i w r h => by simp only [hx, h, Bool.false_eq_true, if_false]; rfl,
      fun h => by simp only [hx, h, Bool.false_eq_true, if_false]; rfl⟩

theorem currentBroadcastSend_run (s : State) (hready : s.ready = true) (hrole : s.get Reg.CB_ROLE = 1) (run rest : List (Nat × Nat × Nat)) (p i : Nat)
    (hwords : s.cur.cbWords = run ++ rest) (hlen : run.length ≤ 11) (hhead : (run.head?.map (fun w => (w.1, w.2.1))) = some (p, i))
    (hp : ∀ w ∈ run, w.1 = p) (hend : run.length = 11 ∨ rest.head?.all (fun w => w.1 != p) = true)
    (hsum : s.cur.cbSums.head?.all (fun x => s.cur.cbWords.any (fun w => w.1 == x.1)) = true) :
    (runWhole s p run → exec .currentBroadcastSend s = .next (castFrame 5 0 (cbHead s p i (run.length - 1) ++ run.flatMap (fun w => leBytes 4 w.2.2))
      { s with cur := { s.cur with cbWords := rest } })) ∧
    (¬ runWhole s p run → exec .currentBroadcastSend s = .next s) := by
  obtain ⟨hwhole, hpart⟩ := cbRun_cases s run rest p i hwords hlen hhead hp hend
  obtain ⟨hsends, hstays⟩ := currentBroadcastSend_words s hready hrole hsum
  refine ⟨fun h => ?_, fun h => hstays (hpart h)⟩
  have hrun := hwhole h
  cases run with
  | nil => exact absurd hhead (by simp)
  | cons w ws =>
    obtain ⟨rfl, rfl⟩ : w.1 = p ∧ w.2.1 = i := by simpa using hhead
    have hrest : s.cur.cbWords.drop (ws.length + 1) = rest := by rw [hwords]; exact List.drop_left
    rw [hsends w.1 w.2.1 w.2.2 ws hrun, ← hrest]
    rfl

theorem currentBroadcastSend_summary (s : State) (hready : s.ready = true) (hrole : s.get Reg.CB_ROLE = 1) (p : Nat) (d : List Byte)
    (rest : List (Nat × List Byte)) (hsums : s.cur.cbSums = (p, d) :: rest) (hwords : ∀ w ∈ s.cur.cbWords, w.1 ≠ p) :
    exec .currentBroadcastSend s = .next (castFrame 5 0 (cbHead s p 0 128 ++ d) { s with cur := { s.cur with cbSums := rest } }) := by
  have hall : s.cur.cbWords.all (fun w => w.1 != p) = true := List.all_eq_true.mpr fun w hw => bne_iff_ne.mpr (hwords w hw)
  show execCurrentBroadcastSend s = _
  unfold execCurrentBroadcastSend
  rw [hready, hrole, if_neg (by decide)]
  simp only [hsums, hall, if_true]
  rfl

theorem currentBroadcastSend_idle (s : State) (hready : s.ready = true) (hrole : s.get Reg.CB_ROLE = 1) (hwords : s.cur.cbWords = [])
    (hsums : s.cur.cbSums = []) : exec .currentBroadcastSend s = .next s :=
  (currentBroadcastSend_words s hready hrole (by rw [hsums]; rfl)).2 (by unfold cbRun; rw [hwords])

/-! ### The judgement of the settings (R172, R173) -/

theorem cbFailing_lt (s : State) (cfg : Nat) : cbFailing s cfg < 2 ^ 6 := by
  unfold cbFailing
  refine List.foldlRecOn (motive := (· < 2 ^ 6)) _ _ (by decide) fun m hm k hk => ?_
  split
  · exact hm
  · exact setBit_lt _ _ _ _ hm (List.mem_range.mp hk)

theorem packBase_keeps (cause detail : Nat) (s : State) : raiseKeeps s (packBase cause detail s) := raise_raiseKeeps _ _ _

theorem packBase_cur (cause detail : Nat) (s : State) : (packBase cause detail s).cur = s.cur := by rw [(packBase_keeps cause detail s).1]

/-- A frame of the SOURCE `o` with the settings `cfg` is noted. -/
def frameNoted (o cfg : Nat) (s : State) : State := s.setCur fun c => { c with cbFrom := some o, cbCfg := some cfg }

theorem cbJudge_noted (o cfg : Nat) (s : State) (hrole : s.get Reg.CB_ROLE = 2) :
    cbJudge (frameNoted o cfg s) = if cbFailing s cfg = s.get Reg.CB_MISMATCH then frameNoted o cfg s
      else packBase 9 (cbFailing s cfg) ((frameNoted o cfg s).put Reg.CB_MISMATCH (cbFailing s cfg)) := by
  unfold cbJudge
  rw [show (frameNoted o cfg s).get Reg.CB_ROLE = 2 from hrole]
  rfl

/-! ### What a SINK takes of a frame (R172) -/

/-- The span that a frame names (R172). -/
def frameSpan (d : List Byte) (s : State) : Nat := completeSpan s (par d 0 4)

/-- The settings of the SOURCE, as a frame carries them (R170). -/
def frameCfg (d : List Byte) : Nat := par d 6 2 % 1024

/-- The words of a frame pair in time: sender and SINK are time-qualified, and the frame comes before grain 2,048 of the next span (R172). -/
def frameKept (p : Nat) (d : List Byte) (s : State) : Bool :=
  timeQualified s && bit (frameCfg d) 6 && (decide (s.clk.span < p + 1) || decide (s.clk.span = p + 1) && decide (s.clk.grain < 2048))

/-- The settings that a frame carries are judged. -/
def judged (o : Nat) (d : List Byte) (s : State) : State := cbJudge (frameNoted o (frameCfg d) s)

/-- The status words show the span `p` as the last one received, and whether it pairs. -/
def summaryShown (p : Nat) (s : State) : State := (s.put Reg.CB_LAST_SPAN (p % 2 ^ 32)).putFlag Reg.CB_PAIRING (timeQualified s)

/-- The summary of the span `p` is taken. -/
def summaryTaken (p : Nat) (d : List Byte) (s : State) : State :=
  (seeRev p (par d 8 4) ((summaryShown p s).setCur fun c =>
    { c with paired := if frameKept p d s then c.paired ++ [(p, summaryIdx, par d 8 4, s.get Reg.CB_MISMATCH)] else c.paired })).setCur fun c =>
      { c with cbLostFor := 0, cbLost := false, cbGot := true }

/-- The words of a sub-window frame, as they are paired. -/
def framePairs (p mask : Nat) (d : List Byte) : List (Nat × Nat × Nat × Nat) :=
  (cbWordsOf (par d 5 1 % 16 + 1) (par d 4 1) (d.drop 8)).map (fun w => (p, w.1, w.2, mask))

theorem seeRev_fab (span word : Nat) (s : State) : ∃ fab, seeRev span word s = { s with fab := fab } := by
  unfold seeRev
  split
  · exact ⟨_, rfl⟩
  · exact ⟨s.fab, rfl⟩

theorem summaryShown_rest (p : Nat) (s : State) : restSame s (summaryShown p s) := restSame_trans (put_restSame s _ _) (put_restSame _ _ _)

/-- A settle interval that a summary starts changes the fabric beside what the summary itself does. -/
theorem setCur_seeRev_setCur (span word : Nat) (f g : Cur → Cur) (w : State) :
    ∃ fab, (seeRev span word (w.setCur f)).setCur g = { w with cur := g (f w.cur), fab := fab } := by
  obtain ⟨fab, hfab⟩ := seeRev_fab span word (w.setCur f)
  exact ⟨fab, by rw [hfab]; rfl⟩

theorem summaryTaken_eq (p : Nat) (d : List Byte) (s : State) : ∃ l fab, summaryTaken p d s =
    { summaryShown p s with cur := { s.cur with paired := l, cbLostFor := 0, cbLost := false, cbGot := true }, fab := fab } := by
  have hcur : (summaryShown p s).cur = s.cur := by rw [summaryShown_rest p s]
  obtain ⟨fab, h⟩ := setCur_seeRev_setCur p (par d 8 4)
    (fun c => { c with paired := if frameKept p d s then c.paired ++ [(p, summaryIdx, par d 8 4, s.get Reg.CB_MISMATCH)] else c.paired })
    (fun c => { c with cbLostFor := 0, cbLost := false, cbGot := true }) (summaryShown p s)
  exact ⟨_, fab, by rw [← hcur]; exact h⟩

theorem summaryTaken_regs (p : Nat) (d : List Byte) (s : State) : (summaryTaken p d s).regs = (summaryShown p s).regs := by
  obtain ⟨l, fab, h⟩ := summaryTaken_eq p d s
  rw [h]

theorem summaryTaken_rest (p : Nat) (d : List Byte) (s : State) : summaryTaken p d s =
    { s with cur := (summaryTaken p d s).cur, fab := (summaryTaken p d s).fab, regs := (summaryTaken p d s).regs } := by
  obtain ⟨l, fab, h⟩ := summaryTaken_eq p d s
  rw [h, summaryShown_rest p s]

theorem summaryTaken_cur (p : Nat) (d : List Byte) (s : State) : ∃ l, (summaryTaken p d s).cur =
    { s.cur with paired := l, cbLostFor := 0, cbLost := false, cbGot := true } := by
  obtain ⟨l, fab, h⟩ := summaryTaken_eq p d s
  exact ⟨l, by rw [h]⟩

theorem summaryTaken_lastSpan (p : Nat) (d : List Byte) (s : State) : (summaryTaken p d s).get Reg.CB_LAST_SPAN = p % 2 ^ 32 := by
  rw [get_eq_of_regs (summaryTaken_regs p d s)]
  exact (State.get_put_of_apartB _ _ _ _ (by decide)).trans (State.get_put_of_lt _ _ _ (by decide) (Nat.mod_lt _ (by decide)))

theorem summaryTaken_pairing (p : Nat) (d : List Byte) (s : State) : (summaryTaken p d s).flag Reg.CB_PAIRING = timeQualified s :=
  (flag_of_get _ _ _ (get_eq_of_regs (summaryTaken_regs p d s) _)).trans (State.flag_putFlag_same _ _ _ (by decide) rfl)

theorem summaryTaken_fields (p : Nat) (d : List Byte) (s : State) :
    fieldsSame [Reg.CB_LAST_SPAN, Reg.CB_PAIRING] s (summaryTaken p d s) :=
  fieldsSame_trans (fieldsSame_trans (put_fieldsSame s Reg.CB_LAST_SPAN (p % 2 ^ 32) (by simp)) (put_fieldsSame _ Reg.CB_PAIRING _ (by simp)))
    (fieldsSame_of_regs (summaryTaken_regs p d s))

/-- A summary is taken, and reported where the broadcast was lost. -/
theorem cbReceive_go_summary (o : Nat) (d : List Byte) (s : State) (h : bit (par d 5 1) 7 = true) :
    cbReceive.go d s o =
      if (judged o d s).cur.cbLost then
        packBase 8 (min (judged o d s).cur.cbLostFor (2 ^ 24 - 1)) (summaryTaken (frameSpan d s) d (judged o d s))
      else summaryTaken (frameSpan d s) d (judged o d s) := if_pos h

/-- The words of a sub-window frame pair in time, unless all tiers fail the settings test. -/
theorem cbReceive_go_words (o : Nat) (d : List Byte) (s : State) (h : bit (par d 5 1) 7 = false) :
    cbReceive.go d s o =
      if (frameKept (frameSpan d s) d (judged o d s) && (judged o d s).get Reg.CB_MISMATCH != 63) = true then
        (judged o d s).setCur fun c => { c with paired := c.paired ++ framePairs (frameSpan d s) ((judged o d s).get Reg.CB_MISMATCH) d }
      else judged o d s := if_neg (α := State) (by rw [h]; decide)

theorem cbReceive_go_words_rest (o : Nat) (d : List Byte) (s : State) (h : bit (par d 5 1) 7 = false) :
    cbReceive.go d s o = { judged o d s with cur := (cbReceive.go d s o).cur } ∧
      (cbReceive.go d s o).cur.cbFrom = (judged o d s).cur.cbFrom := by
  rw [cbReceive_go_words o d s h]
  split <;> exact ⟨rfl, rfl⟩

theorem bit_mod_two_pow (n i w : Nat) (h : i < w) : bit (n % 2 ^ w) i = bit n i := by
  rw [bit_eq_testBit, bit_eq_testBit, Nat.testBit_mod_two_pow, decide_eq_true h, Bool.true_and]

theorem frameKept_iff (p : Nat) (d : List Byte) (s : State) : frameKept p d s = true ↔
    timeQualified s = true ∧ bit (par d 6 2) 6 = true ∧ (s.clk.span ≤ p ∨ (s.clk.span = p + 1 ∧ s.clk.grain < 2048)) := by
  have hbit : bit (frameCfg d) 6 = bit (par d 6 2) 6 := bit_mod_two_pow (par d 6 2) 6 10 (by decide)
  simp only [frameKept, hbit, Bool.and_eq_true, Bool.or_eq_true, decide_eq_true_eq, Nat.lt_succ_iff, and_assoc]

/-! ### CURRENT_BROADCAST_RECEIVED -/

theorem currentBroadcastReceived_dropped (s : State) (origin : Nat) (d : List Byte) (h : s.get Reg.CB_ROLE ≠ 2 ∨ d.length < 8) :
    exec (.currentBroadcastReceived origin d) s = .next s := by
  have hdrop : cbReceive origin d s = s := if_pos (by simpa using h)
  show execCurrentBroadcastReceived origin d s = _
  unfold execCurrentBroadcastReceived
  rw [hdrop]
  split <;> rfl

section
variable (s : State) (hready : s.ready = true) (hrole : s.get Reg.CB_ROLE = 2) (origin : Nat) (d : List Byte) (hlen : 8 ≤ d.length)
include hready hrole hlen

theorem currentBroadcastReceived_followed (hfrom : s.cur.cbFrom = none ∨ s.cur.cbFrom = some origin) :
    exec (.currentBroadcastReceived origin d) s = .next (cbReceive.go d s origin) := by
  refine (if_pos (α := Out) (c := s.ready = true) hready).trans (congrArg Host.Outcome.next ?_)
  unfold cbReceive
  rw [if_neg (by simp [hrole, hlen])]
  rcases hfrom with h | h <;> simp [h]

/-- A frame of another SOURCE is reported once (R169). -/
theorem currentBroadcastReceived_other (o : Nat) (hfrom : s.cur.cbFrom = some o) (hne : o ≠ origin) :
    (s.cur.cbTwo = false → exec (.currentBroadcastReceived origin d) s =
      .next (packBase 9 (s.get Reg.CB_MISMATCH + 64) { s with cur := { s.cur with cbTwo := true } })) ∧
    (s.cur.cbTwo = true → exec (.currentBroadcastReceived origin d) s = .next s) := by
  have hexec : exec (.currentBroadcastReceived origin d) s = .next (if s.cur.cbTwo then s else
      packBase 9 (s.get Reg.CB_MISMATCH + 64) (s.setCur fun c => { c with cbTwo := true })) := by
    refine (if_pos (α := Out) (c := s.ready = true) hready).trans (congrArg Host.Outcome.next ?_)
    unfold cbReceive
    rw [if_neg (by simp [hrole, hlen])]
    simp only [hfrom, bne_iff_ne.mpr hne, if_true]
  rw [hexec]
  exact ⟨fun htwo => congrArg Host.Outcome.next (if_neg (Bool.eq_false_iff.mp htwo)), fun htwo => congrArg Host.Outcome.next (if_pos htwo)⟩

/-- A summary under settings that are judged as before. -/
theorem received_summary_same (hfrom : s.cur.cbFrom = none ∨ s.cur.cbFrom = some origin) (hmask : cbFailing s (frameCfg d) = s.get Reg.CB_MISMATCH)
    (hbit : bit (par d 5 1) 7 = true) :
    ∃ u, u.get Reg.CB_LAST_SPAN = frameSpan d s % 2 ^ 32 ∧ u.flag Reg.CB_PAIRING = timeQualified s ∧
      u.cur.cbFrom = some origin ∧ u.cur.cbLostFor = 0 ∧ u.cur.cbLost = false ∧ u = { s with cur := u.cur, fab := u.fab, regs := u.regs } ∧
      fieldsSame [Reg.CB_LAST_SPAN, Reg.CB_PAIRING] s u ∧
      (s.cur.cbLost = false → exec (.currentBroadcastReceived origin d) s = .next u) ∧
      (s.cur.cbLost = true → exec (.currentBroadcastReceived origin d) s = .next (packBase 8 (min s.cur.cbLostFor (2 ^ 24 - 1)) u)) := by
  have hj : judged origin d s = frameNoted origin (frameCfg d) s := (cbJudge_noted origin _ s hrole).trans (if_pos hmask)
  rw [currentBroadcastReceived_followed s hready hrole origin d hlen hfrom, cbReceive_go_summary origin d s hbit, hj]
  obtain ⟨l, hcur⟩ := summaryTaken_cur (frameSpan d s) d (frameNoted origin (frameCfg d) s)
  exact ⟨summaryTaken (frameSpan d s) d (frameNoted origin (frameCfg d) s), summaryTaken_lastSpan _ d _, summaryTaken_pairing _ d _,
    by rw [hcur]; rfl, by rw [hcur], by rw [hcur], summaryTaken_rest _ d _, summaryTaken_fields _ d _,
    fun h => congrArg Host.Outcome.next (if_neg (Bool.eq_false_iff.mp h)), fun h => congrArg Host.Outcome.next (if_pos h)⟩

/-- A sub-window frame under settings that are judged as before. -/
theorem received_words_same (hfrom : s.cur.cbFrom = none ∨ s.cur.cbFrom = some origin) (hmask : cbFailing s (frameCfg d) = s.get Reg.CB_MISMATCH)
    (hbit : bit (par d 5 1) 7 = false) :
    ∃ t, exec (.currentBroadcastReceived origin d) s = .next t ∧ t = { s with cur := t.cur } ∧ t.cur.cbFrom = some origin ∧
      (frameKept (frameSpan d s) d s = true → cbFailing s (frameCfg d) ≠ 63 →
        t.cur.paired = s.cur.paired ++ framePairs (frameSpan d s) (cbFailing s (frameCfg d)) d) ∧
      (¬ frameKept (frameSpan d s) d s = true ∨ cbFailing s (frameCfg d) = 63 → t.cur.paired = s.cur.paired) := by
  have hj : judged origin d s = frameNoted origin (frameCfg d) s := (cbJudge_noted origin _ s hrole).trans (if_pos hmask)
  obtain ⟨hrest, hsource⟩ := cbReceive_go_words_rest origin d s hbit
  have hgo := cbReceive_go_words origin d s hbit
  rw [hj] at hrest hsource hgo
  rw [show (frameNoted origin (frameCfg d) s).get Reg.CB_MISMATCH = cbFailing s (frameCfg d) from hmask.symm,
    show frameKept (frameSpan d s) d (frameNoted origin (frameCfg d) s) = frameKept (frameSpan d s) d s from rfl] at hgo
  refine ⟨_, currentBroadcastReceived_followed s hready hrole origin d hlen hfrom, hrest, hsource, fun hk h63 => ?_, fun h => ?_⟩
  · rw [hgo, if_pos (by rw [hk, Bool.true_and]; exact bne_iff_ne.mpr h63)]
    rfl
  · rw [hgo, if_neg fun hand => ?_]
    · rfl
    · obtain ⟨hk, h63⟩ := Bool.and_eq_true_iff.mp hand
      exact h.elim (· hk) (bne_iff_ne.mp h63)

/-- A frame with settings under which the set of the failing tiers changes (R173). -/
theorem received_changed (hfrom : s.cur.cbFrom = none ∨ s.cur.cbFrom = some origin) (hmask : cbFailing s (frameCfg d) ≠ s.get Reg.CB_MISMATCH) :
    ∃ u v t, v = packBase 9 (cbFailing s (frameCfg d)) u ∧
      u = { s with cur := u.cur, regs := u.regs } ∧ u.get Reg.CB_MISMATCH = cbFailing s (frameCfg d) ∧ fieldsSame [Reg.CB_MISMATCH] s u ∧
      t.cur.cbFrom = some origin ∧
      (bit (par d 5 1) 7 = false → exec (.currentBroadcastReceived origin d) s = .next t ∧ t = { v with cur := t.cur }) ∧
      (bit (par d 5 1) 7 = true → t = { v with cur := t.cur, fab := t.fab, regs := t.regs } ∧
        t.get Reg.CB_LAST_SPAN = frameSpan d s % 2 ^ 32 ∧
        (s.cur.cbLost = false → exec (.currentBroadcastReceived origin d) s = .next t) ∧
        (s.cur.cbLost = true → exec (.currentBroadcastReceived origin d) s = .next (packBase 8 (min s.cur.cbLostFor (2 ^ 24 - 1)) t))) := by
  have hexec := currentBroadcastReceived_followed s hready hrole origin d hlen hfrom
  have hj : judged origin d s = packBase 9 (cbFailing s (frameCfg d))
      ((frameNoted origin (frameCfg d) s).put Reg.CB_MISMATCH (cbFailing s (frameCfg d))) := (cbJudge_noted origin _ s hrole).trans (if_neg hmask)
  have hcur : (judged origin d s).cur = (frameNoted origin (frameCfg d) s).cur := by rw [hj, packBase_cur]; rfl
  have hshown := State.get_put_of_lt (frameNoted origin (frameCfg d) s) Reg.CB_MISMATCH _ (by decide) (cbFailing_lt s (frameCfg d))
  have hfields := put_fieldsSame (l := [Reg.CB_MISMATCH]) (frameNoted origin (frameCfg d) s) Reg.CB_MISMATCH (cbFailing s (frameCfg d)) (by simp)
  cases hbit : bit (par d 5 1) 7 with
  | false =>
    obtain ⟨hrest, hsource⟩ := cbReceive_go_words_rest origin d s hbit
    refine ⟨_, judged origin d s, cbReceive.go d s origin, hj, rfl, hshown, hfields, ?_, fun _ => ⟨hexec, hrest⟩, fun h => absurd h (by decide)⟩
    rw [hsource, hcur]
    rfl
  | true =>
    obtain ⟨l, htaken⟩ := summaryTaken_cur (frameSpan d s) d (judged origin d s)
    rw [cbReceive_go_summary origin d s hbit, hcur] at hexec
    refine ⟨_, judged origin d s, summaryTaken (frameSpan d s) d (judged origin d s), hj, rfl, hshown, hfields, ?_, fun h => absurd h (by decide),
      fun _ => ⟨summaryTaken_rest _ d _, summaryTaken_lastSpan _ d _, fun h => hexec.trans (congrArg Host.Outcome.next (if_neg (Bool.eq_false_iff.mp h))),
        fun h => hexec.trans (congrArg Host.Outcome.next (if_pos h))⟩⟩
    rw [htaken, hcur]
    rfl

end

/-! ### BCAST_LOST (R173) -/

/-- The modes in which a summary is awaited: DRIVE, CHARGE and HOLD. -/
def sumsAwaited (s : State) : Prop := s.modeNow = 2 ∨ s.modeNow = 3 ∨ s.modeNow = 5

theorem setCur_put_rest (s : State) (f : Field) (v : Nat) (g : Cur → Cur) :
    (s.put f v).setCur g = { s with cur := ((s.put f v).setCur g).cur, regs := ((s.put f v).setCur g).regs } := rfl

theorem bcastLost_lost (s : State) (hready : s.ready = true) (hrole : s.get Reg.CB_ROLE = 2) (hmode : sumsAwaited s) (hlost : s.cur.cbLost = false)
    (hfor : s.get Reg.CB_LOST ≤ s.cur.cbLostFor) : ∃ u, exec .bcastLost s = .next (packBase 7 (min s.cur.cbLostFor (2 ^ 24 - 1)) u) ∧
      u.cur.cbLost = true ∧ u.flag Reg.CB_PAIRING = false ∧ u = { s with cur := u.cur, regs := u.regs } ∧ fieldsSame [Reg.CB_PAIRING] s u := by
  refine ⟨(s.putFlag Reg.CB_PAIRING false).setCur fun c => { c with cbLost := true }, ?_, rfl, ?_, setCur_put_rest _ _ _ _, ?_⟩
  · exact if_pos (α := Out) (by simpa [hready, hrole, hlost, hfor, sumsAwaited] using hmode)
  · rw [State.setCur_flag, State.flag_putFlag_same s _ _ (by decide) rfl]
  · exact fieldsSame_trans (put_fieldsSame s _ _ (by simp)) (fieldsSame_of_regs (State.setCur_regs _ _))

theorem bcastLost_waits (s : State)
    (h : s.cur.cbLost = true ∨ s.cur.cbLostFor < s.get Reg.CB_LOST ∨ (s.modeNow ≠ 2 ∧ s.modeNow ≠ 3 ∧ s.modeNow ≠ 5) ∨ s.get Reg.CB_ROLE ≠ 2) :
    exec .bcastLost s = .next s := by
  refine if_neg (α := Out) fun hdue => ?_
  simp only [Bool.and_eq_true, Bool.not_eq_true', decide_eq_true_eq, List.contains_eq_mem, List.mem_cons, List.not_mem_nil, or_false] at hdue
  obtain ⟨⟨⟨⟨-, hrole⟩, hmode⟩, hlost⟩, hfor⟩ := hdue
  rcases h with h | h | ⟨h2, h3, h5⟩ | h
  · rw [hlost] at h
    exact absurd h (by decide)
  · exact absurd hfor (Nat.not_le.mpr h)
  · exact hmode.elim h2 (·.elim h3 h5)
  · exact h hrole

/-- Settles O48: the conditions of the shunt fault, the frames of a SOURCE, and the frames that a SINK takes by their origin and their settings. -/
theorem currentFaultsAndBroadcast : Obligations.CurrentFaultsAndBroadcast := by
  unfold Obligations.CurrentFaultsAndBroadcast
  intro s
  refine ⟨fun hsup => ⟨fun hcal => (shuntStuck_clauses s hsup hcal).1, fun hcal => (shuntStuck_clauses s hsup hcal).2, shuntCmFault_noted s hsup⟩,
    fun hf => shuntFaultClear_clauses s hf _ _ rfl rfl, shuntFaultClear_idle s,
    fun hready hrole => ⟨fun run rest p i => currentBroadcastSend_run s hready hrole run rest p i,
      currentBroadcastSend_summary s hready hrole, currentBroadcastSend_idle s hready hrole⟩,
    currentBroadcastReceived_dropped s, fun hready hrole origin d hlen => ⟨fun hfrom hmask => ⟨?_, ?_⟩,
      currentBroadcastReceived_other s hready hrole origin d hlen, received_changed s hready hrole origin d hlen⟩,
    bcastLost_lost s, bcastLost_waits s⟩
  · exact received_summary_same s hready hrole origin d hlen hfrom hmask
  · intro hbit
    have h := received_words_same s hready hrole origin d hlen hfrom hmask hbit
    rwa [frameKept_iff] at h

end Sys2Proof.Machine
end

section
namespace Sys2Proof.Machine

/-! ### A plan that takes effect and escalates (R198, R206, R410) -/

/-- A READY module right after a start, whose plan is due, with the fabric lag event at fatal severity, escalation enabled, and the fatal
window of a cell over-voltage open. -/
def lagEscalates : State :=
  let s := (State.reset.put (Reg.SEV 487) 3).put Reg.ESC_EN 1
  { s with pwr := { s.pwr with phase := .ready }, evt := { s.evt with windows := [(0, some ⟨0, 3, 0, 0⟩)] } }

/-- The plan takes effect in its degraded form, which raises the fabric lag event; the entry to HOLD that follows makes a new plan due. -/
theorem planTakeEffect_due_again :
    (match exec .planTakeEffect lagEscalates with
      | .next t => t.fab.planDue
      | _ => false) = true := by decide +kernel

/-- Refutes O53: the statement has no plan due once one has taken effect, but the fabric lag event by which a degraded plan is reported can
escalate, and the mode change to HOLD is itself a cause of a plan (R198). -/
theorem not_fabricRunsItsJobs : ¬ Obligations.FabricRunsItsJobs := by
  intro h
  obtain ⟨-, -, -, -, hplan, -⟩ := h lagEscalates (by decide +kernel)
  obtain ⟨t, ht, -, -, hdue, -⟩ := hplan (by decide +kernel) (by decide +kernel) (by decide +kernel)
  have hmodel := planTakeEffect_due_again
  rw [ht] at hmodel
  exact absurd (hdue.symm.trans hmodel) (by decide)

end Sys2Proof.Machine
end

section
/-!
What a raise keeps (R397, R410, R422), once for every property of a state: one that the writes of events to their own words and parts keep, and
that the end of a sweep keeps, is kept by the whole raise, whatever it escalates to.
-/
namespace Sys2Proof.Machine

/-! ### Properties that the steps of an event keep -/

/-- The words that an event may write: those outside the host ports, the chain ports and the log. -/
def eventWord (a : Nat) : Prop := a < 0x50000 ∨ (0x70000 ≤ a ∧ a < 0xA0080)

/-- The two states differ in nothing but the parts beside configuration space that an event reaches other than by the end of a sweep. -/
def eventParts (s t : State) : Prop :=
  t = { s with evt := t.evt, host := { s.host with lcSeq := t.host.lcSeq }, chain := t.chain, pwr := t.pwr, ret := t.ret, tw := t.tw,
               prim := t.prim, fab := t.fab }

/-- A property that every write of an event and every end of a sweep keeps. -/
structure EventClosed (p : State → Prop) : Prop where
  put : ∀ (s : State) (f : Field) (v : Nat), eventWord f.a → p s → p (s.put f v)
  parts : ∀ s t : State, eventParts s t → p s → p t
  sweep : ∀ (s : State) (status cause : Nat), p s → p (endSweep status cause s)

/-- An operation that raises events keeps the property. -/
def keepsRaising (p : State → Prop) (r : Nat → Nat → State → State) : Prop := ∀ src v t, src < 544 → p t → p (r src v t)

theorem evtState_eventWord {src : Nat} (h : src < 544) : eventWord (Wd.EVT_STATE src) := by
  simp only [eventWord, Wd.EVT_STATE]
  omega

theorem classCount_eventWord {src : Nat} (h : src < 544) : eventWord (Wd.CLASS_CNT (evtClass src)) := by
  have := evtClass_lt src h
  simp only [eventWord, Wd.CLASS_CNT]
  omega

theorem ite_of_both {p : State → Prop} {c : Prop} [Decidable c] {s t : State} (hs : p s) (ht : p t) : p (if c then s else t) :=
  iteInduction (motive := p) (fun _ => hs) (fun _ => ht)

section
variable {p : State → Prop} (hp : EventClosed p) {s : State}
include hp

/-! ### The steps of a raise -/

theorem EventClosed.noteWake (src : Nat) (h : p s) : p (noteWake src s) := ite_of_both h (hp.parts s _ rfl h)

theorem EventClosed.assertWake (src : Nat) (h : p s) : p (assertWake src s) :=
  ite_of_both (hp.parts _ _ rfl (hp.noteWake src h)) h

theorem EventClosed.queueRecord (r : EvtRec) (h : p s) : p (queueRecord r s) := ite_of_both (hp.parts s _ rfl h) (hp.parts s _ rfl h)

theorem EventClosed.handleRaise (src sev : Nat) (was : Bool) (hsrc : src < 544) (h : p s) : p (handleRaise src sev was s).1 := by
  unfold Machine.handleRaise
  extract_lets c opens esc s1 _ s2 s3 s4 s1'
  have h1 : p s1 := hp.parts s _ rfl h
  have h2 : p s2 := ite_of_both (hp.parts s1 _ rfl h1) h1
  have h3 : p s3 := State.when_keeps p _ _ _ h2 (hp.parts s2 _ rfl)
  have h4 : p s4 := State.when_keeps p _ _ _ h3 (hp.assertWake src)
  split
  · exact h4
  · have h1' : p s1' := hp.put s _ _ (classCount_eventWord hsrc) h
    exact State.when_keeps p s1' _ (fun t => t.put (Reg.CLASS_SAT c) 1) h1' fun hu => hp.put s1' _ _ (classCount_eventWord hsrc) hu

theorem EventClosed.raiseCore (src value : Nat) (t : Stamp) (late summary : Bool) (hsrc : src < 544) (h : p s) :
    p (raiseCore src value t late summary s).1 := by
  unfold Machine.raiseCore
  extract_lets u1 s1 s2 fin s3 sev was
  have h1 : p s1 := ite_of_both h (State.when_keeps p _ _ _ (hp.put s _ _ (evtState_eventWord hsrc) h) fun hu =>
    hp.put _ _ _ (evtState_eventWord hsrc) hu)
  have h2 : p s2 := hp.put s1 _ _ (by simp only [eventWord, Reg.EVT_LAST_LAST_SPAN, Wd.EVT_LAST]; omega) h1
  have h3 : p s3 := State.when_keeps p _ _ _ h2 fun hu => hp.put _ _ _ (evtState_eventWord hsrc) hu
  have hl : p (s3.put (Reg.LATCHED src) 1) := hp.put s3 _ _ (evtState_eventWord hsrc) h3
  split
  · exact h3
  · split
    rename_i s4 inWin esc heq
    have h4 : p s4 := by
      split at heq
      · obtain ⟨rfl, -⟩ := Prod.mk.inj heq
        exact State.when_keeps p _ _ _ h3 fun hu => hp.put _ _ _ (evtState_eventWord hsrc) hu
      · split at heq
        · have e : (Machine.handleRaise src sev was (s3.put (Reg.LATCHED src) 1)).1 = s4 := congrArg Prod.fst heq
          rw [← e]
          exact hp.handleRaise _ _ _ hsrc hl
        · obtain ⟨rfl, -⟩ := Prod.mk.inj heq
          exact hl
    exact State.when_keeps p _ _ _ h4 (hp.queueRecord _)

theorem EventClosed.raise512 (first : Nat × Nat) (src : Nat) (inHold : Bool) (h : p s) : p (raise512 first src inHold s) := by
  rw [raise512_eq]
  exact hp.raiseCore _ _ _ _ _ (by decide) h

theorem EventClosed.raiseInHold (src value : Nat) (t : Stamp) (late summary : Bool) (hsrc : src < 544) (h : p s) :
    p (raiseInHold src value t late summary s) := by
  have hcore := hp.raiseCore src value t late summary hsrc h
  unfold Machine.raiseInHold
  split <;> rename_i heq <;> rw [heq] at hcore
  · exact hcore
  · exact ite_of_both hcore (hp.raise512 _ _ _ (hp.put _ Reg.ESC_COUNT _ (.inr (by decide)) hcore))

/-! ### The entry to HOLD -/

theorem EventClosed.vcStep (h : p s) : p (vcStep s) := by
  have hset : ∀ mv, p (vcWrite mv 0 s) := fun mv => by
    unfold vcWrite
    extract_lets s1 _ s2
    have h1 : p s1 := hp.put _ Reg.VC_CONFIRMED _ (.inr (by decide)) (hp.put s Reg.VC_SET _ (.inr (by decide)) h)
    have h2 : p s2 := hp.parts s1 _ rfl h1
    exact ite_of_both h2 (hp.parts s2 _ rfl h2)
  exact ite_of_both (hset _) h

theorem EventClosed.capFabric (h : p s) : p (capFabric s) :=
  ite_of_both h (hp.parts _ _ rfl (hp.put s Reg.FAB_CAPPED _ (.inr (by decide)) h))

theorem EventClosed.applyEffN (k : Nat) (hk : k < 6) (h : p s) : p (applyEffN k s) := by
  have hstat : eventWord (Wd.PRI_STATUS k) := .inl (by simp only [Wd.PRI_STATUS]; omega)
  unfold Machine.applyEffN
  extract_lets c _ s0
  have h0 : p s0 := hp.parts s _ rfl h
  exact ite_of_both h0 (hp.parts (s0.put (Reg.EFF_SUBWIN k) c) _ rfl (hp.put s0 _ _ hstat h0))

theorem EventClosed.endLease (r : Nat → Nat → State → State) (hr : keepsRaising p r) (c cause : Nat) (hc : c < 3) (h : p s) :
    p (endLease r c cause s) := by
  have hlive : p (s.put (Reg.LIVE c) 0) :=
    hp.put s _ _ (.inr (by simp only [Reg.LIVE, Wd.LEASE_ST]; omega)) h
  exact ite_of_both (hr _ _ _ (by decide) (ite_of_both (hp.sweep _ _ _ hlive) hlive)) h

theorem EventClosed.abandonLc (r : Nat → Nat → State → State) (hr : keepsRaising p r) (src hseq : Nat) (h : p s) :
    p (abandonLc r src hseq s) := by
  unfold Machine.abandonLc
  split
  · exact h
  · exact hr _ _ _ (by decide) (hp.put _ Reg.LC_STEPS_LEFT _ (.inr (by decide))
      (hp.put _ Reg.LC_TARGET _ (.inr (by decide)) (hp.parts s _ rfl h)))

theorem EventClosed.changeMode (r : Nat → Nat → State → State) (hr : keepsRaising p r) (new cause src hseq : Nat) (h : p s) :
    p (changeMode r new cause src hseq s) := by
  have hmode : ∀ (t : State) (f : Field) (v : Nat), f.a = Wd.MODE_STATUS → p t → p (t.put f v) := fun t f v hf =>
    hp.put t f v (by rw [hf]; exact .inr (by decide))
  unfold Machine.changeMode
  extract_lets old fab s1 s2 _ s3 s4 s5 s6 _ s7 s8 s9
  have h1 : p s1 := hmode _ _ _ rfl (hmode _ _ _ rfl (hmode _ _ _ rfl h))
  have h2 : p s2 := ite_of_both (hmode _ _ _ rfl h1) h1
  have h3 : p s3 := ite_of_both h2 (hp.parts s2 _ rfl h2)
  have h4 : p s4 := ite_of_both (hp.sweep _ _ _ h3) h3
  have h5 : p s5 := ite_of_both (State.each_keeps_mem p _ _ (fun c hc t ht => hp.endLease r hr c 4 (by simp at hc; omega) ht) s4 h4) h4
  have h6 : p s6 := State.each_keeps_mem p _ _ (fun k hk t ht => hp.applyEffN k (List.mem_range.mp hk) ht) s5 h5
  have h7 : p s7 := hp.parts s6 _ rfl h6
  have h8 : p s8 := hp.capFabric (hp.vcStep (hp.parts s7 _ rfl h7))
  exact hr _ _ _ (by decide) (hp.abandonLc r hr src hseq h8)

/-- A raise keeps what the steps of an event keep. -/
theorem EventClosed.raise (src value : Nat) (hsrc : src < 544) (h : p s) : p (raise src value s) := by
  have hcore := hp.raiseCore src value s.now false false hsrc h
  have hhold : ∀ t, p t → p (enterHold t) := fun t ht =>
    hp.changeMode _ (fun _ _ _ hs hu => hp.raiseInHold _ _ _ _ _ hs hu) _ _ _ _ ht
  unfold Machine.raise raiseAt
  refine ite_of_both (hp.raiseInHold _ _ _ _ _ hsrc h) ?_
  split <;> rename_i heq <;> rw [heq] at hcore
  · exact hcore
  · exact ite_of_both hcore (hp.raise512 _ _ _ (hhold _ (hp.put _ Reg.ESC_COUNT _ (.inr (by decide))
      (hp.put _ Reg.ESCALATED _ (.inr (by decide)) hcore))))

end

end Sys2Proof.Machine
end

section
/-!
A record of the history store (R480, R482) beside the command that appends it: the wear event that it may bring leaves the transfer, the next
record number and, but for a drop that it counts, the sequence counters.
-/
namespace Sys2Proof.Machine

/-! ### The command in progress under an event -/

/-- The caches of the sources and the open transfer are those of `s`, `n` is the next record number, and the sequence counters are those of
`s`; one report of a sweep that ends may have been counted in them. -/
def turnKept (s : State) (n : Nat) (t : State) : Prop :=
  t.host.seqs = s.host.seqs ∧ t.host.xfer = s.host.xfer ∧ t.get Reg.REC_NEXT = n ∧
    ((∀ (src : Nat) (b : Bool), src < 4 → t.get (seqField src b) = s.get (seqField src b)) ∨ (t.exc.sweep = none ∧ counted s t))

theorem turnKept_refl (s : State) : turnKept s (s.get Reg.REC_NEXT) s := ⟨rfl, rfl, rfl, .inl fun _ _ _ => rfl⟩

theorem turnKept.counted {s t : State} {n : Nat} (h : turnKept s n t) : counted s t := by
  obtain ⟨-, -, -, hseq | ⟨-, hcount⟩⟩ := h
  · exact fun src b hsrc => .inl (hseq src b hsrc)
  · exact hcount

theorem turnKept.xfer {s t : State} {n : Nat} (h : turnKept s n t) : t.host.xfer = s.host.xfer := h.2.1

theorem turnKept.recNext {s t : State} {n : Nat} (h : turnKept s n t) : t.get Reg.REC_NEXT = n := h.2.2.1

/-- The command that was the next of its source is not behind. -/
theorem turnKept.notBehind {m : Meta} {s t : State} {n : Nat} (h : turnKept s n t) (hacc : accepts m s) : notBehind m t :=
  notBehind_of_counted m s t hacc h.1 h.counted

/-- The property looks at nothing but the host's caches and transfer, the sweep, and the words of the counters and of the record number. -/
theorem turnKept.congr {s t u : State} {n k : Nat} (h : turnKept s n t) (hseqs : u.host.seqs = t.host.seqs) (hxfer : u.host.xfer = t.host.xfer)
    (hsweep : u.exc.sweep = t.exc.sweep) (hget : ∀ (src : Nat) (b : Bool), src < 4 → u.get (seqField src b) = t.get (seqField src b))
    (hn : u.get Reg.REC_NEXT = k) : turnKept s k u := by
  obtain ⟨h1, h2, -, h4⟩ := h
  refine ⟨hseqs.trans h1, hxfer.trans h2, hn, h4.imp (fun hs src b hsrc => (hget src b hsrc).trans (hs src b hsrc)) fun hs => ?_⟩
  exact ⟨hsweep.trans hs.1, fun src b hsrc => by rw [hget src b hsrc]; exact hs.2 src b hsrc⟩

/-- An update of anything else. -/
theorem turnKept.parts {s t u : State} {n : Nat} (h : turnKept s n t) (hseqs : u.host.seqs = t.host.seqs) (hxfer : u.host.xfer = t.host.xfer)
    (hsweep : u.exc.sweep = t.exc.sweep) (hregs : u.regs = t.regs) : turnKept s n u :=
  h.congr hseqs hxfer hsweep (fun _ _ _ => get_eq_of_regs hregs _) ((get_eq_of_regs hregs _).trans h.recNext)

/-- A write to a word other than those of the counters, of the ports and of the record number. -/
theorem turnKept.write {s t u : State} {n : Nat} (a : Nat) (ha : a < 0x50000 ∨ (0x70000 ≤ a ∧ a ≠ Wd.TUN_NEXT)) (h : turnKept s n t)
    (hhost : u.host = t.host) (hexc : u.exc = t.exc) (hget : ∀ f : Field, a ≠ f.a → u.get f = t.get f) : turnKept s n u := by
  refine h.congr (by rw [hhost]) (by rw [hhost]) (by rw [hexc]) (fun src b hsrc => hget _ ?_) ((hget _ ?_).trans h.recNext)
  · rw [seqField_a]
    simp only [Wd.SEQ_HSEQ]
    omega
  · simp only [Reg.REC_NEXT, Wd.TUN_NEXT] at ha ⊢
    omega

theorem turnKept.put {s t : State} {n : Nat} (f : Field) (v : Nat) (hf : f.a < 0x50000 ∨ (0x70000 ≤ f.a ∧ f.a ≠ Wd.TUN_NEXT))
    (h : turnKept s n t) : turnKept s n (t.put f v) :=
  h.write f.a hf rfl rfl fun g hg => State.get_put_word t f g v hg

theorem turnKept.putW {s t : State} {n : Nat} (a v : Nat) (ha : a < 0x50000 ∨ (0x70000 ≤ a ∧ a ≠ Wd.TUN_NEXT)) (h : turnKept s n t) :
    turnKept s n (t.putW a v) :=
  h.write a ha rfl rfl fun g hg => get_of_word _ _ _ ((State.word_putW t a g.a v).trans (if_neg hg))

theorem turnKept.putRecNext {s t : State} {n : Nat} (v : Nat) (h : turnKept s n t) : turnKept s (v % 2 ^ 32) (t.put Reg.REC_NEXT v) := by
  have hn : (t.put Reg.REC_NEXT v).get Reg.REC_NEXT = v % 2 ^ 32 := State.get_put t Reg.REC_NEXT v (Nat.le_refl 32)
  refine h.congr (by rw [State.put_host]) (by rw [State.put_host]) (by rw [State.put_exc]) (fun src b hsrc => State.get_put_word _ _ _ _ ?_) hn
  rw [seqField_a]
  simp only [Reg.REC_NEXT, Wd.TUN_NEXT, Wd.SEQ_HSEQ]
  omega

/-! ### A sweep that ends -/

theorem endSweep_none (status cause : Nat) (s : State) (h : s.exc.sweep = none) : endSweep status cause s = s := by
  unfold endSweep
  rw [h]

theorem rampWave_host (ch at_ : Nat) (s : State) : (rampWave ch at_ s).host = s.host := rfl

theorem unexcite_host (ch : Nat) (s : State) : (unexcite ch s).host = s.host := by
  unfold unexcite
  split
  · rw [rampWave_host, State.put_host]
  · rfl

theorem endSweep_xfer (status cause : Nat) (s : State) : (endSweep status cause s).host.xfer = s.host.xfer := by
  unfold endSweep
  split
  · rfl
  · extract_lets now cut partial_ s1 s2 s3 _ s4
    have h1 : s1.host = s.host := by rw [State.put_host, State.put_host]
    have h2 : s2.host = s.host := State.each_keeps (fun t => t.host = s.host) _ _ (fun k t ht => by rw [State.put_host, unexcite_host, ht]) s1 h1
    have h4 : s3.host = s.host := by rw [State.put_host, h2]
    have hxfer : ∀ {t u : State}, reportKeeps t u → u.host.xfer = t.host.xfer := fun h => by rw [h]
    exact (hxfer (complete_reportKeeps _ _ _ _ _ _ s4)).trans (congrArg HostPort.xfer h4)

/-- No drop count shares the word of the next record number. -/
theorem sendTo_recNext (d : Dest) (f : Frame) (s : State) : (sendTo d f s).get Reg.REC_NEXT = s.get Reg.REC_NEXT := by
  cases d with
  | spi =>
    simp only [sendTo, hqAdd]
    split_ifs
    · rfl
    · exact State.get_put_word s _ _ _ (by decide)
    · rfl
    · rfl
  | tw =>
    simp only [sendTo, twqAdd]
    split_ifs
    · rfl
    · exact State.get_put_word s _ _ _ (by decide)
    · rfl
    · rfl
  | port p =>
    rw [show sendTo (.port p) f s = txAdd p (routeTo s p f) s from rfl]
    rcases txAdd_cases p (routeTo s p f) s with h | h
    · rw [h]
      rfl
    · rw [h]
      exact State.get_put_word s _ _ _ (by simp only [Reg.TXQ_DROP, Wd.PC_DROP, Reg.REC_NEXT, Wd.TUN_NEXT]; omega)

theorem complete_recNext (t : Stamp) (op status : Nat) (m : Meta) (cause detail : Nat) (s : State) :
    (complete t op status m cause detail s).get Reg.REC_NEXT = s.get Reg.REC_NEXT := by
  obtain ⟨x, buf, f, h⟩ := complete_frame t op status m cause detail s
  rw [h, sendTo_recNext, get_of_regs (issued_regs x buf s)]
  exact State.get_put_word s _ _ _ (by decide)

/-- A sweep that ends reports it once, and is over. -/
theorem endSweep_turnKept {s t : State} {n : Nat} (status cause : Nat) (h : turnKept s n t) : turnKept s n (endSweep status cause t) := by
  cases hsweep : t.exc.sweep with
  | none => rwa [endSweep_none status cause t hsweep]
  | some x =>
    obtain ⟨hseqs, hxfer, hn, hseq⟩ := h
    have hsame : ∀ (src : Nat) (b : Bool), src < 4 → t.get (seqField src b) = s.get (seqField src b) :=
      hseq.resolve_right fun hover => by simp [hsweep] at hover
    obtain ⟨u, at_, detail, hend, hnone, -, -, hkeep⟩ := endSweep_reports status cause t x.1 x.2 hsweep
    have hreport := complete_reportKeeps at_ 0x32 status x.1 cause detail u
    have hword : ∀ f : Field, 0x50000 ≤ f.a → u.get f = t.get f := fun f hf => get_of_word _ _ _ (hkeep.2 _ hf)
    have hxfer' := endSweep_xfer status cause t
    rw [hend] at hxfer' ⊢
    refine ⟨hreport.seqs.trans (hkeep.1.trans hseqs), hxfer'.trans hxfer, ?_, .inr ⟨by rw [hreport.exc, hnone], fun src b hsrc => ?_⟩⟩
    · rw [complete_recNext, hword _ (by decide), hn]
    · rw [← hsame src b hsrc, ← hword _ (by rw [seqField_a]; simp only [Wd.SEQ_HSEQ]; omega)]
      exact (complete_counted at_ 0x32 status x.1 cause detail u).1 src b hsrc

theorem turnKept_closed (s : State) (n : Nat) : EventClosed (turnKept s n) where
  put t f v hf h := h.put f v <| by
    rcases hf with hf | ⟨hlow, hhigh⟩
    · exact .inl hf
    · exact .inr ⟨hlow, by simp only [Wd.TUN_NEXT]; omega⟩
  parts t u hparts h := by
    unfold eventParts at hparts
    exact h.parts (by rw [hparts]) (by rw [hparts]) (by rw [hparts]) (by rw [hparts])
  sweep _ status cause h := endSweep_turnKept status cause h

/-! ### A record of the history store -/

theorem tunEvent_turnKept {s t : State} {n : Nat} (cause top : Nat) (h : turnKept s n t) : turnKept s n (tunEvent cause top t) :=
  (turnKept_closed s n).raise _ _ (by decide) h

theorem tunOnce_turnKept {s t : State} {n : Nat} (cause top : Nat) (h : turnKept s n t) : turnKept s n (tunOnce cause top t) :=
  ite_of_both h (tunEvent_turnKept _ _ (h.parts rfl rfl rfl rfl))

theorem tunWorn_turnKept {s t : State} {n : Nat} (h : turnKept s n t) : turnKept s n (tunWorn t) := by
  have h1 : turnKept s n (if worn 50 t then tunOnce 4 0 t else t) := ite_of_both (tunOnce_turnKept _ _ h) h
  exact ite_of_both (tunOnce_turnKept _ _ h1) h1

theorem tunShow_turnKept {s t : State} {n : Nat} (h : turnKept s n t) : turnKept s n (tunShow t) :=
  (((h.put Reg.REC_FIRST _ (.inr (by decide))).put Reg.FREE_KB _ (.inr (by decide))).put Reg.ERASE_MEAN _ (.inr (by decide))).put
    Reg.ERASE_MAX _ (.inr (by decide))

theorem tunEvent_tun (cause top : Nat) (s : State) : (tunEvent cause top s).start.tun = s.start.tun := by
  unfold tunEvent
  rw [(raise_raiseKeeps _ _ s).1]

theorem tunOnce_tun (cause top : Nat) (s : State) : (tunOnce cause top s).start.tun = s.start.tun := by
  unfold tunOnce
  split
  · rfl
  · exact tunEvent_tun _ _ _

theorem tunWorn_tun (s : State) : (tunWorn s).start.tun = s.start.tun := by
  unfold tunWorn
  extract_lets s1
  have h1 : s1.start.tun = s.start.tun := ite_of_both (p := fun t => t.start.tun = s.start.tun) (tunOnce_tun _ _ _) rfl
  split
  · exact (tunOnce_tun _ _ _).trans h1
  · exact h1

/-- A record that finds space is the last of the log, under the next number. -/
theorem tunAppend_room {kind len : Nat} {body : List Byte} {ckpt : KV (Option Ckpt)} {s : State} (h : tunRoom len s.start = true) :
    ∃ t place, tunAppend kind body len ckpt s = (t, true) ∧ turnKept s ((s.get Reg.REC_NEXT + 1) % 2 ^ 32) t ∧
      t.start.tun = (reclaim len s.start).tun ++ [⟨s.get Reg.REC_NEXT, kind, s.clk.span, body, len, ckpt, place⟩] := by
  unfold tunAppend
  extract_lets l n r log s1
  rw [if_pos h]
  refine ⟨_, _, rfl, tunWorn_turnKept (tunShow_turnKept ?_), tunWorn_tun _⟩
  have h1 : turnKept s n s1 := (turnKept_refl s).parts rfl rfl rfl rfl
  exact ((h1.putRecNext (n + 1)).put (Reg.REC_LAST kind) n (.inr (by simp only [Reg.REC_LAST, Wd.TUN_LAST, Wd.TUN_NEXT]; omega))).put
    Reg.TUN_FULL 0 (.inr (by decide))

/-- A record that finds no space is reported, and takes no number. -/
theorem tunAppend_full {kind len : Nat} {body : List Byte} {ckpt : KV (Option Ckpt)} {s : State} (h : tunRoom len s.start = false) :
    ∃ t, tunAppend kind body len ckpt s = (t, false) ∧ turnKept s (s.get Reg.REC_NEXT) t := by
  unfold tunAppend
  extract_lets l n r log s1
  rw [if_neg (by rw [h]; decide)]
  refine ⟨_, rfl, tunEvent_turnKept _ _ (tunWorn_turnKept (tunShow_turnKept (turnKept.put Reg.TUN_FULL 1 (.inr (by decide)) ?_)))⟩
  exact (turnKept_refl s).parts rfl rfl rfl rfl

end Sys2Proof.Machine
end

section
/-!
END of a transfer (R190, R234, R381, R470, R471, R484): its tests, what its target refuses, and what an accepted transfer leaves in the slot,
the history store or the firmware bank, and under the record and the reply of the command; O40.
-/
namespace Sys2Proof.Machine

/-! ### A recorded answer after an event -/

/-- The words of a reply lie between those of the tiers and those of the events. -/
theorem not_replyWord (m : Meta) (hm : metaOk m = true) (a : Nat) (ha : a < 0x50000 ∨ 0x70000 ≤ a) : ¬ replyWord m a := by
  simp only [metaOk, Bool.and_eq_true, decide_eq_true_eq] at hm
  unfold replyWord
  rw [seqField_a]
  simp only [Wd.SEQ_HSEQ, Reg.TXQ_DROP, Wd.PC_DROP]
  omega

theorem setSeqSt_xfer (s : State) (i : Nat) (q : SeqState) : (s.setSeqSt i q).host.xfer = s.host.xfer := rfl

/-- A command whose HSEQ is not behind is recorded and answered, and its reply leaves the rest of what its meaning left. -/
theorem reply_of_notBehind (c : Cmd) (m : Meta) (data : List Byte) (u : State) (hm : metaOk m = true) (h : notBehind m u) :
    let t := sendReply m 0x00 data (record c m 0x00 data u)
    recorded m 0x00 data t ∧ t.host.xfer = u.host.xfer ∧ coreSame u t ∧ ∀ f : Field, f.a < 0x50000 ∨ 0x70000 ≤ f.a → t.get f = u.get f := by
  intro t
  have hmeta := hm
  simp only [metaOk, Bool.and_eq_true, decide_eq_true_eq] at hmeta
  have hrec := record_notBehind c m 0x00 data u h
  set r := (u.put (seqField m.src m.bcast) m.hseq).setSeqSt (seqIdx m.src m.bcast) ⟨true, cacheWith m 0x00 data u⟩ with hr
  have ht : t = sendReply m 0x00 data r := by rw [← hrec]
  obtain ⟨hcore, -, hseqs, hwords⟩ := sendReply_core m 0x00 data r
  have hget : ∀ f : Field, ¬ replyWord m f.a → t.get f = u.get f := fun f hf => by
    rw [ht, get_of_word r _ f (hwords _ fun e => hf (.inr e)), hr, State.setSeqSt_get]
    exact State.get_put_word u _ _ _ fun e => hf (.inl e.symm)
  have hcounter : t.get (seqField m.src m.bcast) = m.hseq := by
    rw [ht, get_of_word r _ _ (hwords _ ?_), hr, State.setSeqSt_get, State.get_put _ _ _ (seqField_fits _ _), seqField_w]
    · exact Nat.mod_eq_of_lt hmeta.1.2
    · rw [seqField_a]
      simp only [Wd.SEQ_HSEQ, Reg.TXQ_DROP, Wd.PC_DROP]
      omega
  have hcache : t.seqSt (seqIdx m.src m.bcast) = ⟨true, cacheWith m 0x00 data u⟩ := by
    rw [ht, hseqs, hr, State.seqSt_setSeqSt_same]
  refine ⟨⟨hcounter, by rw [hcache], ?_⟩, ?_, ?_, fun f hf => hget f (not_replyWord m hm _ hf)⟩
  · rw [hcache]
    exact cacheWith_last _ _ _ _
  · have hhost := sendReply_host m 0x00 data r
    rw [ht]
    rw [congrArg HostPort.xfer hhost, hr, setSeqSt_xfer, State.put_host]
  · rw [ht]
    exact coreSame_trans (coreSame_trans (coreSame_put u _ _) (coreSame_host _ _)) hcore

/-! ### The tests of END -/

section
variable {m : Meta} {s : State} {x : Transfer} {i : Instr}

/-- END is answered with a status, and its transfer stays open as it was. -/
def refusesEnd (m : Meta) (s : State) (x : Transfer) (i : Instr) (st : Nat) : Prop :=
  ∃ t, exec i s = .next t ∧ recorded m st [] t ∧ coreSame s t ∧ t.host.xfer = some x ∧ wordsSame (replyWord m) s t

/-- The data of the reply to an accepted END: the length and the CRC-32C of the transfer. -/
def endData (x : Transfer) : List Byte := leBytes 4 x.data.length ++ leBytes 4 (crc32c x.data)

/-- What END of a transfer that has passed its own tests answers: its target refuses it, finds no space for it, or takes it. -/
def endTarget (x : Transfer) (s : State) : Ans :=
  match x.kind with
  | .jobLoad =>
    match imageRefusal x.target x.data s with
    | some st => refuse st s
    | none =>
      let (t, ok) := acceptImage x.target x.data (s.setXfer none)
      if ok then answer (endData x) t else refuse 0x02 (t.setXfer (some x))
  | .nvAppend =>
    match appendRefusal x.target x.data s with
    | some st => refuse st s
    | none =>
      let (t, ok) := acceptRecord x.target x.data (s.setXfer none)
      if ok then answer (endData x) t else refuse 0x02 (t.setXfer (some x))
  | .fwStage =>
    if !fwSound x.data then refuse 0x20 s
    else if !fwFits x.data s then refuse 0x11 s
    else answer (endData x) (acceptFw x.data (s.setXfer none))

/-- END of the open transfer: CRC-32C, then length, then its target (R381). -/
theorem txEnd_open (hx : s.host.xfer = some x) : txEnd x.kind x.owner s =
    if crc32c x.data = x.crc then if x.data.length = x.length then endTarget x s else refuse 0x11 s else refuse 0x20 s := by
  have hbusy : xferBusy x.owner s = false := by simp [xferBusy, hx]
  have hopen : openXfer x.kind x.owner s = some x := by simp [openXfer, hx]
  unfold txEnd
  rw [if_neg (by rw [hbusy]; decide)]
  split
  · next hnone => exact absurd (hopen.symm.trans hnone) (by simp)
  · next y hsome =>
    obtain rfl : x = y := Option.some.inj (hopen.symm.trans hsome)
    extract_lets reply s1
    by_cases hcrc : crc32c x.data = x.crc
    · rw [if_pos hcrc, if_neg (by simp [hcrc])]
      by_cases hlen : x.data.length = x.length
      · rw [if_pos hlen, if_neg (by simp [hlen])]
        unfold endTarget
        cases x.kind <;> rfl
      · rw [if_neg hlen, if_pos (by simp [hlen])]
        rfl
    · rw [if_neg hcrc, if_pos (by simp [hcrc])]
      rfl

theorem refusesEnd_of_run {c : Cmd} {st : Nat} (h : accepts m s) (hx : s.host.xfer = some x) (hexec : exec i s = .next (receive false c m s))
    (hrun : runCmd c m s = refuse st s) (hst : st ≠ 2) : refusesEnd m s x i st := by
  obtain ⟨t, ht, hrec, hcore, hwords, -⟩ := answersOnly_of_refusal c m s i st h hexec hrun hst
  have hhost := exec_host c m s h
  rw [hrun] at hhost
  obtain rfl : receive false c m s = t := Host.Outcome.next.inj (hexec.symm.trans ht)
  exact ⟨_, ht, hrec, hcore, (congrArg HostPort.xfer hhost).trans hx, hwords⟩

/-- An accepted END is recorded and answered with length and CRC-32C from the state that its target leaves. -/
theorem exec_of_answer {c : Cmd} {data : List Byte} {u : State} (h : accepts m s) (hexec : exec i s = .next (receive false c m s))
    (hrun : runCmd c m s = answer data u) : exec i s = .next (sendReply m 0x00 data (record c m 0x00 data u)) := by
  rw [hexec, exec_accepts c m s h, hrun]
  rfl

end

/-! ### Job images (R190) -/

theorem tunShow_start (s : State) : (tunShow s).start = s.start := by
  unfold tunShow
  rw [State.put_start, State.put_start, State.put_start, State.put_start]

theorem tunShow_evt (s : State) : (tunShow s).evt = s.evt := by
  unfold tunShow
  rw [State.put_evt, State.put_evt, State.put_evt, State.put_evt]

theorem dropImages_turnKept {s t : State} {n : Nat} (slot upto : Nat) (h : turnKept s n t) : turnKept s n (dropImages slot upto t) :=
  tunShow_turnKept (h.parts rfl rfl rfl rfl)

theorem dropImages_tun (slot upto : Nat) (s : State) :
    (dropImages slot upto s).start.tun = s.start.tun.filter (fun r => !(r.kind == 0x09 && recGroup r == slot && r.number < upto)) := by
  unfold dropImages
  rw [tunShow_start]

theorem dropImages_evt (slot upto : Nat) (s : State) : (dropImages slot upto s).evt = s.evt := by
  unfold dropImages
  rw [tunShow_evt]

theorem loadImage_turnKept {s t : State} {n : Nat} (slot : Nat) (b : List Byte) (persist : Bool) (hslot : slot ≤ 15) (h : turnKept s n t) :
    turnKept s n (loadImage slot b persist t) := by
  have hjob : turnKept s n (t.setJob slot { Job.reset with image := b }) := h.parts rfl rfl rfl rfl
  exact (hjob.putW (Wd.JOB_STATUS slot) _ (.inl (by simp only [Wd.JOB_STATUS]; omega))).putW (Wd.JOB_INFO slot) _
    (.inl (by simp only [Wd.JOB_INFO]; omega))

theorem loadImage_start (slot : Nat) (b : List Byte) (persist : Bool) (s : State) : (loadImage slot b persist s).start = s.start := by
  unfold loadImage
  rw [State.putW_start, State.putW_start, State.setJob_start]

theorem loadImage_evt (slot : Nat) (b : List Byte) (persist : Bool) (s : State) : (loadImage slot b persist s).evt = s.evt := by
  unfold loadImage
  rw [State.putW_evt, State.putW_evt, State.setJob_evt]

theorem loadImage_image (slot : Nat) (b : List Byte) (persist : Bool) (s : State) : ((loadImage slot b persist s).job slot).image = b := by
  have hfab : (loadImage slot b persist s).fab = (s.setJob slot { Job.reset with image := b }).fab := by
    unfold loadImage
    rw [State.putW_fab, State.putW_fab]
  unfold State.job
  rw [hfab, ← State.job, State.job_setJob_same]

theorem get_eq_bitsOf (s : State) (f : Field) : s.get f = bitsOf (s.word f.a) f.lo f.w := rfl

/-- A slot with an image that no plan has taken up is LOADED. -/
theorem loadImage_loaded (slot : Nat) (b : List Byte) (persist : Bool) (s : State) : (loadImage slot b persist s).get (Reg.JSTATE slot) = 1 := by
  have hword : (loadImage slot b persist s).word (Wd.JOB_STATUS slot) = (1 + 16 * b01 persist) % 2 ^ 32 := by
    unfold loadImage
    rw [State.word_putW, if_neg (by simp only [Wd.JOB_STATUS, Wd.JOB_INFO]; omega), State.word_putW, if_pos rfl]
  rw [get_eq_bitsOf, show (Reg.JSTATE slot).a = Wd.JOB_STATUS slot from rfl, hword]
  simp only [Reg.JSTATE, bitsOf]
  cases persist <;> decide

/-- An image enters its slot once what is to be kept of it has found space. The definition is put in place unapplied, so that checking the step
evaluates no log. -/
theorem acceptImage_of_append (slot : Nat) (b : List Byte) (s t : State)
    (happend : (if bit (par b 30 2) 0 = true then tunAppend 0x09 ([byte slot, 0, 0, 0] ++ b) ([byte slot, 0, 0, 0] ++ b).length [] s else (s, true)) =
      (t, true)) :
    acceptImage slot b s = (loadImage slot b (bit (par b 30 2) 0) (dropImages slot (s.get Reg.REC_NEXT) t), true) := by
  generalize haccept : acceptImage = accept
  delta acceptImage at haccept
  subst haccept
  beta_reduce
  extract_lets n persist body
  rw [show (if persist = true then tunAppend 0x09 body body.length [] s else (s, true)) = (t, true) from happend]
  exact if_pos rfl

/-- An accepted image is in its slot, which is LOADED, and where it asks for it in the history store. -/
theorem acceptImage_room (slot : Nat) (b : List Byte) (s : State) (hslot : slot ≤ 15)
    (hroom : bit (par b 30 2) 0 = true → tunRoom (4 + b.length) s.start = true) :
    ∃ t n, acceptImage slot b s = (t, true) ∧ turnKept s n t ∧ (t.job slot).image = b ∧ t.get (Reg.JSTATE slot) = 1 ∧
      (bit (par b 30 2) 0 = false → t.evt = s.evt) ∧
      (bit (par b 30 2) 0 = true → ∃ r ∈ t.start.tun, r.kind = 0x09 ∧ r.number = s.get Reg.REC_NEXT ∧ r.body = [byte slot, 0, 0, 0] ++ b) := by
  cases hpersist : bit (par b 30 2) 0 with
  | false =>
    refine ⟨_, _, acceptImage_of_append slot b s s (if_neg (by rw [hpersist]; decide)),
      loadImage_turnKept slot b _ hslot (dropImages_turnKept slot _ (turnKept_refl s)),
      loadImage_image _ _ _ _, loadImage_loaded _ _ _ _, fun _ => ?_, fun h => absurd h (by decide)⟩
    rw [loadImage_evt, dropImages_evt]
  | true =>
    have hlen : ([byte slot, 0, 0, 0] ++ b).length = 4 + b.length := List.length_append
    obtain ⟨t, place, happend, hturn, htun⟩ := tunAppend_room (kind := 0x09) (body := [byte slot, 0, 0, 0] ++ b) (ckpt := [])
      ((congrArg (tunRoom · s.start) hlen).trans (hroom hpersist))
    refine ⟨_, _, acceptImage_of_append slot b s t ((if_pos hpersist).trans happend), loadImage_turnKept slot b _ hslot (dropImages_turnKept slot _ hturn),
      loadImage_image _ _ _ _, loadImage_loaded _ _ _ _, fun h => absurd h (by decide), fun _ => ?_⟩
    rw [loadImage_start, dropImages_tun, htun]
    exact ⟨_, List.mem_filter.mpr ⟨List.mem_append_right _ List.mem_cons_self, by simp⟩, rfl, rfl, rfl⟩

/-! ### Records of a host (R234, R484) -/

/-- A model pack replaces the one in its slot. -/
def withPack (b : List Byte) (s : State) : State :=
  { s with fab := { s.fab with packs := kvSet (fun _ => ([] : List Byte)) s.fab.packs (par b 18 1) b,
                               newPack := par b 18 1 :: s.fab.newPack.filter (fun x => x != par b 18 1) } }

/-- A record enters the history store, and a model pack its slot too; put in place unapplied, as for an image. -/
theorem acceptRecord_of_append (kind : Nat) (b : List Byte) (s t : State) (ok : Bool) (happend : tunAppend kind b b.length [] s = (t, ok)) :
    acceptRecord kind b s = if (ok && kind = 0x10) = true then (withPack b t, true) else (t, ok) := by
  generalize haccept : acceptRecord = accept
  delta acceptRecord at haccept
  subst haccept
  beta_reduce
  rw [happend]
  rfl

/-- An accepted record is the last of the history store under the next number, and a model pack is in its slot. -/
theorem acceptRecord_room (kind : Nat) (b : List Byte) (s : State) (hroom : tunRoom b.length s.start = true) :
    ∃ t, acceptRecord kind b s = (t, true) ∧ turnKept s ((s.get Reg.REC_NEXT + 1) % 2 ^ 32) t ∧
      (∃ place, t.start.tun.getLast? = some ⟨s.get Reg.REC_NEXT, kind, s.clk.span, b, b.length, [], place⟩) ∧
      (kind = 0x10 → kvGet (fun _ => ([] : List Byte)) t.fab.packs (par b 18 1) = b) := by
  obtain ⟨t, place, happend, hturn, htun⟩ := tunAppend_room (kind := kind) (body := b) (ckpt := []) hroom
  have hlast : t.start.tun.getLast? = some ⟨s.get Reg.REC_NEXT, kind, s.clk.span, b, b.length, [], place⟩ := by
    rw [htun, List.getLast?_concat]
  have haccept := acceptRecord_of_append kind b s t true happend
  by_cases hkind : kind = 0x10
  · exact ⟨withPack b t, haccept.trans (if_pos (by simp [hkind])), hturn.parts rfl rfl rfl rfl, ⟨place, hlast⟩, fun _ => kvGet_kvSet_same _ _ _ _⟩
  · exact ⟨t, haccept.trans (if_neg (by simp [hkind])), hturn, ⟨place, hlast⟩, fun h => absurd h hkind⟩

theorem acceptRecord_full (kind : Nat) (b : List Byte) (s : State) (hroom : tunRoom b.length s.start = false) :
    ∃ t, acceptRecord kind b s = (t, false) ∧ turnKept s (s.get Reg.REC_NEXT) t := by
  obtain ⟨t, happend, hturn⟩ := tunAppend_full (kind := kind) (body := b) (ckpt := []) hroom
  exact ⟨t, (acceptRecord_of_append kind b s t false happend).trans (if_neg (by simp)), hturn⟩

/-! ### Firmware images (R471) -/

/-- The state with a firmware bank of that content. -/
def withBank (k : Nat) (bank : FwBank) (s : State) : State :=
  { s with start := { s.start with banks := kvSet (fun _ => ⟨[], 0, 0⟩) s.start.banks k bank } }

theorem withBank_get (k : Nat) (bank : FwBank) (s : State) (f : Field) : (withBank k bank s).get f = s.get f := rfl

theorem withBank_host (k : Nat) (bank : FwBank) (s : State) : (withBank k bank s).host = s.host := rfl

/-- An accepted firmware image in the inactive bank, before its event. -/
def fwStored (b : List Byte) (s : State) : State :=
  withBank (inactiveBank s) ⟨b, 2097152, par b 16 1⟩ ((s.put (bankValid (inactiveBank s)) 1).put (Reg.FW_VER (inactiveBank s)) (par b 8 4))

theorem bankValid_field (k : Nat) : (bankValid k).a = Wd.LC_STATUS ∧ (bankValid k).w = 1 ∧ (bankValid k).lo + (bankValid k).w ≤ 32 := by
  unfold bankValid
  split <;> decide

theorem fwStored_valid (b : List Byte) (s : State) : (fwStored b s).flag (bankValid (inactiveBank s)) = true := by
  obtain ⟨ha, hw, hlo⟩ := bankValid_field (inactiveBank s)
  have hget : (fwStored b s).get (bankValid (inactiveBank s)) = 1 := by
    unfold fwStored
    rw [withBank_get, State.get_put_word _ _ _ _ (by rw [ha]; simp only [Reg.FW_VER, Wd.FW_VERSION, Wd.LC_STATUS]; omega),
      State.get_put _ _ _ hlo, hw, Nat.pow_one]
  exact beq_iff_eq.mpr hget

theorem fwStored_version (b : List Byte) (s : State) : (fwStored b s).get (Reg.FW_VER (inactiveBank s)) = par b 8 4 := by
  have hver : par b 8 4 < 2 ^ 32 := par_lt b 8 4
  unfold fwStored
  rw [withBank_get, State.get_put_of_lt _ (Reg.FW_VER (inactiveBank s)) _ (Nat.le_refl 32) hver]

theorem fwStored_host (b : List Byte) (s : State) : (fwStored b s).host = s.host := by
  unfold fwStored
  rw [withBank_host, State.put_host, State.put_host]

/-- The event of an accepted firmware image. -/
theorem acceptFw_raises (b : List Byte) (s : State) : ∃ v, acceptFw b s = raise 515 v (fwStored b s) ∧ v % 16 = 1 := by
  unfold acceptFw bankEvent fwStored withBank
  exact ⟨_, rfl, by omega⟩

section
variable {m : Meta} {s : State} {x : Transfer} {i : Instr}

/-! ### What END answers for each target -/

theorem endTarget_image_refused {st : Nat} (hk : x.kind = .jobLoad) (h : imageRefusal x.target x.data s = some st) :
    endTarget x s = refuse st s := by
  unfold endTarget
  rw [hk, h]

theorem endTarget_image {t : State} (hk : x.kind = .jobLoad) (h : imageRefusal x.target x.data s = none)
    (haccept : acceptImage x.target x.data (s.setXfer none) = (t, true)) : endTarget x s = answer (endData x) t := by
  unfold endTarget
  rw [hk, h, haccept]
  exact if_pos rfl

theorem endTarget_record_refused {st : Nat} (hk : x.kind = .nvAppend) (h : appendRefusal x.target x.data s = some st) :
    endTarget x s = refuse st s := by
  unfold endTarget
  rw [hk, h]

theorem endTarget_record {t : State} {ok : Bool} (hk : x.kind = .nvAppend) (h : appendRefusal x.target x.data s = none)
    (haccept : acceptRecord x.target x.data (s.setXfer none) = (t, ok)) :
    endTarget x s = if ok = true then answer (endData x) t else refuse 0x02 (t.setXfer (some x)) := by
  unfold endTarget
  rw [hk, h, haccept]

theorem endTarget_firmware (hk : x.kind = .fwStage) :
    endTarget x s = if !fwSound x.data then refuse 0x20 s else if !fwFits x.data s then refuse 0x11 s
      else answer (endData x) (acceptFw x.data (s.setXfer none)) := by
  unfold endTarget
  rw [hk]

theorem appendRefusal_ne_busy {kind st : Nat} {b : List Byte} (h : appendRefusal kind b s = some st) : st ≠ 2 := by
  unfold appendRefusal at h
  split_ifs at h <;> cases h <;> decide

/-! ### The rows of END -/

/-- The row is END of the open transfer of its source, which the module can execute now. -/
structure EndRow (m : Meta) (s : State) (x : Transfer) (i : Instr) : Prop where
  accepted : accepts m s
  isOpen : s.host.xfer = some x
  owner : x.owner = m.src
  row : exec i s = .next (receive false (.txEnd x.kind) m s)

theorem EndRow.run (r : EndRow m s x i) : runCmd (.txEnd x.kind) m s =
    if crc32c x.data = x.crc then if x.data.length = x.length then endTarget x s else refuse 0x11 s else refuse 0x20 s := by
  rw [← txEnd_open r.isOpen, r.owner]
  rfl

theorem EndRow.refuses (r : EndRow m s x i) {st : Nat} (hrun : runCmd (.txEnd x.kind) m s = refuse st s) (hst : st ≠ 2) : refusesEnd m s x i st :=
  refusesEnd_of_run r.accepted r.isOpen r.row hrun hst

theorem EndRow.badCrc (r : EndRow m s x i) (hcrc : crc32c x.data ≠ x.crc) : refusesEnd m s x i 0x20 :=
  r.refuses (r.run.trans (if_neg hcrc)) (by decide)

theorem EndRow.badLength (r : EndRow m s x i) (hcrc : crc32c x.data = x.crc) (hlen : x.data.length ≠ x.length) : refusesEnd m s x i 0x11 :=
  r.refuses (r.run.trans ((if_pos hcrc).trans (if_neg hlen))) (by decide)

/-- The transfer passes its own tests. -/
def wholeTransfer (x : Transfer) : Prop := crc32c x.data = x.crc ∧ x.data.length = x.length

theorem EndRow.target (r : EndRow m s x i) (hwhole : wholeTransfer x) : runCmd (.txEnd x.kind) m s = endTarget x s :=
  r.run.trans ((if_pos hwhole.1).trans (if_pos hwhole.2))

/-- An accepted transfer: recorded and answered from the state that its target leaves, of which the rest stays. -/
theorem EndRow.answers (r : EndRow m s x i) (hwhole : wholeTransfer x) {u : State} {n : Nat} (htarget : endTarget x s = answer (endData x) u)
    (hturn : turnKept (s.setXfer none) n u) :
    ∃ t, exec i s = .next t ∧ recorded m 0x00 (endData x) t ∧ t.host.xfer = none ∧ coreSame u t ∧
      ∀ f : Field, f.a < 0x50000 ∨ 0x70000 ≤ f.a → t.get f = u.get f := by
  have hbehind : notBehind m u := hturn.notBehind (s := s.setXfer none) r.accepted
  obtain ⟨hrec, hxfer, hcore, hget⟩ := reply_of_notBehind (.txEnd x.kind) m (endData x) u r.accepted.2.1 hbehind
  exact ⟨_, exec_of_answer r.accepted r.row ((r.target hwhole).trans htarget), hrec, hxfer.trans hturn.xfer, hcore, hget⟩

theorem EndRow.image (r : EndRow m s x i) (hwhole : wholeTransfer x) (hk : x.kind = .jobLoad) (hslot : x.target ≤ 15) :
    (∀ st : Nat, imageRefusal x.target x.data s = some st →
      (st ≠ 0x02 → refusesEnd m s x i st) ∧ (st = 0x02 → exec i s = .next (sendReply m 0x02 [] s))) ∧
    (imageRefusal x.target x.data s = none → (bit (par x.data 30 2) 0 = true → tunRoom (4 + x.data.length) s.start = true) →
      ∃ t, exec i s = .next t ∧ recorded m 0x00 (endData x) t ∧ t.host.xfer = none ∧ (t.job x.target).image = x.data ∧
        t.get (Reg.JSTATE x.target) = 1 ∧ (bit (par x.data 30 2) 0 = false → t.evt = s.evt) ∧
        (bit (par x.data 30 2) 0 = true → ∃ q ∈ t.start.tun, q.kind = 0x09 ∧ q.number = s.get Reg.REC_NEXT ∧
          q.body = [byte x.target, 0, 0, 0] ++ x.data)) := by
  refine ⟨fun st href => ?_, fun hnone hroom => ?_⟩
  · have hrun := (r.target hwhole).trans (endTarget_image_refused hk href)
    refine ⟨r.refuses hrun, fun hst => ?_⟩
    subst hst
    exact exec_busy _ m s i r.accepted r.row hrun
  · obtain ⟨u, n, haccept, hturn, himage, hloaded, hevt, htun⟩ := acceptImage_room x.target x.data (s.setXfer none) hslot hroom
    obtain ⟨t, hexec, hrec, hxfer, hcore, hget⟩ := r.answers hwhole (endTarget_image hk hnone haccept) hturn
    have hfab : t.fab = u.fab := by rw [hcore]
    have hlog : t.start = u.start := by rw [hcore]
    have hevents : t.evt = u.evt := by rw [hcore]
    refine ⟨t, hexec, hrec, hxfer, ?_, ?_, fun h => hevents.trans (hevt h), fun h => by rw [hlog]; exact htun h⟩
    · unfold State.job at himage ⊢
      rw [hfab, himage]
    · rw [hget _ (.inl (by simp only [Reg.JSTATE, Wd.JOB_STATUS]; omega)), hloaded]

theorem EndRow.hostRecord (r : EndRow m s x i) (hwhole : wholeTransfer x) (hk : x.kind = .nvAppend) :
    (∀ st : Nat, appendRefusal x.target x.data s = some st → refusesEnd m s x i st) ∧
    (appendRefusal x.target x.data s = none → tunRoom x.data.length s.start = true →
      ∃ t, exec i s = .next t ∧ recorded m 0x00 (endData x) t ∧ t.host.xfer = none ∧
        t.get Reg.REC_NEXT = (s.get Reg.REC_NEXT + 1) % 2 ^ 32 ∧
        (∃ place, t.start.tun.getLast? = some ⟨s.get Reg.REC_NEXT, x.target, s.clk.span, x.data, x.data.length, [], place⟩) ∧
        (x.target = 0x10 → kvGet (fun _ => ([] : List Byte)) t.fab.packs (par x.data 18 1) = x.data)) ∧
    (appendRefusal x.target x.data s = none → tunRoom x.data.length s.start = false → ∃ u,
      exec i s = .next (sendReply m 0x02 [] u) ∧ u.host.xfer = some x ∧ u.get Reg.REC_NEXT = s.get Reg.REC_NEXT) := by
  refine ⟨fun st href => ?_, fun hnone hroom => ?_, fun hnone hroom => ?_⟩
  · exact r.refuses ((r.target hwhole).trans (endTarget_record_refused hk href)) (appendRefusal_ne_busy href)
  · obtain ⟨u, haccept, hturn, ⟨place, hlast⟩, hpack⟩ := acceptRecord_room x.target x.data (s.setXfer none) hroom
    obtain ⟨t, hexec, hrec, hxfer, hcore, hget⟩ := r.answers hwhole ((endTarget_record hk hnone haccept).trans (if_pos rfl)) hturn
    have hfab : t.fab = u.fab := by rw [hcore]
    have hlog : t.start = u.start := by rw [hcore]
    refine ⟨t, hexec, hrec, hxfer, ?_, ⟨place, by rw [hlog]; exact hlast⟩, fun h => by rw [hfab]; exact hpack h⟩
    rw [hget _ (.inr (by decide)), hturn.recNext]
    rfl
  · obtain ⟨u, haccept, hturn⟩ := acceptRecord_full x.target x.data (s.setXfer none) hroom
    have hrun := ((r.target hwhole).trans (endTarget_record hk hnone haccept)).trans (if_neg (by decide))
    refine ⟨u.setXfer (some x), ?_, rfl, hturn.recNext⟩
    rw [r.row, exec_accepts _ m s r.accepted, hrun]
    rfl

theorem EndRow.firmware (r : EndRow m s x i) (hwhole : wholeTransfer x) (hk : x.kind = .fwStage) :
    (fwSound x.data = false → refusesEnd m s x i 0x20) ∧
    (fwSound x.data = true → fwFits x.data s = false → refusesEnd m s x i 0x11) ∧
    (fwSound x.data = true → fwFits x.data s = true →
      ∃ u v, exec i s = .next (sendReply m 0x00 (endData x) (record (.txEnd .fwStage) m 0x00 (endData x) (raise 515 v u))) ∧ v % 16 = 1 ∧
        u.flag (bankValid (inactiveBank s)) = true ∧ u.get (Reg.FW_VER (inactiveBank s)) = par x.data 8 4 ∧ u.host.xfer = none) := by
  have hrun := (r.target hwhole).trans (endTarget_firmware hk)
  refine ⟨fun hsound => ?_, fun hsound hfits => ?_, fun hsound hfits => ?_⟩
  · exact r.refuses (hrun.trans (if_pos (by simp [hsound]))) (by decide)
  · exact r.refuses (hrun.trans ((if_neg (by simp [hsound])).trans (if_pos (by simp [hfits])))) (by decide)
  · obtain ⟨v, hraise, hv⟩ := acceptFw_raises x.data (s.setXfer none)
    have hans := hrun.trans ((if_neg (by simp [hsound])).trans (if_neg (by simp [hfits])))
    rw [hraise] at hans
    have hexec := exec_of_answer r.accepted r.row hans
    rw [hk] at hexec
    refine ⟨fwStored x.data (s.setXfer none), v, hexec, hv, fwStored_valid x.data (s.setXfer none), fwStored_version x.data (s.setXfer none), ?_⟩
    rw [fwStored_host]
    rfl

end

/-- Settles O40: the tests of END before its target, and each target by what its acceptance leaves, through the wear event and the bank event
that it may raise. -/
theorem transfersEndInTheirTarget : Obligations.TransfersEndInTheirTarget := by
  intro m s x h hx howner endI fails d
  have hrow : EndRow m s x endI := ⟨h, hx, howner, by
    simp only [endI]
    cases x.kind <;> rfl⟩
  refine ⟨hrow.badCrc, hrow.badLength, fun hcrc hlen => ⟨fun hk _ hslot => hrow.image ⟨hcrc, hlen⟩ hk hslot,
    fun hk _ => hrow.hostRecord ⟨hcrc, hlen⟩ hk, hrow.firmware ⟨hcrc, hlen⟩⟩⟩

end Sys2Proof.Machine
end
